-- ==== Sys2Proof/Word.lean ====
section
/-! DEFINITION. The bit-vector types of the part: octets and queue or scratchpad words; the envelope of a host request. -/

namespace Sys2Proof

/-- An octet of a frame, message, image or object value (R14). -/
abbrev Byte := BitVec 8

/-- A 64-bit word of scratchpad or of a packet queue (R142, R163). -/
abbrev Word := BitVec 64

/-- A run of octets, first sent first. -/
abbrev Octets := List Byte

/-- The UDX envelope of a sealed host message: session, its MsgSeq, the RequestTag and the 16-byte tag (R588, R589,
R595). -/
structure Req where
  session : Nat
  msgSeq : Nat
  tag : Nat
  mac : Octets
  deriving DecidableEq, Repr

end Sys2Proof
end

