-- ==== Sys2Proof/Syntax.lean ====
section
/-! DEFINITION. The commands of the part: one constructor per row of spec/opcode_table.json, with the operands its rule names
(log 7, log 11). Numbers are the fields of the event or message; `r` is the envelope of a host request. -/

namespace Sys2Proof

/-- A command. -/
inductive Instr where
  /-- HEAT_BOUNDARY (R38) -/
  | heatBoundary (t : Nat)
  /-- RING_SLOT_TRANSFER (R29) -/
  | ringSlotTransfer (src dst : Nat) (inbound : Bool)
  /-- RING_TRANSFER_RECEIVED (R141) -/
  | ringTransferReceived (src dst : Nat) (crcOk : Bool)
  /-- RING_CREDIT_TIMEOUT (R642) -/
  | ringCreditTimeout (link direction : Nat)
  /-- RING_RETRAIN_DONE (R32) -/
  | ringRetrainDone (link : Nat) (good : Bool)
  /-- RING_RETRAIN_RETRY (R642) -/
  | ringRetrainRetry (link : Nat)
  /-- CLOCK_MONITOR_MEASURE (R35) -/
  | clockMonitorMeasure (tile domain mean : Nat)
  /-- REFCLK_LOSS (R35) -/
  | refclkLoss
  /-- CLOCK_MONITOR_CLEAR (R36) -/
  | clockMonitorClear (tile domain : Nat)
  /-- INBOUND_SLOT (R70) -/
  | inboundSlot (tile pipe k : Nat)
  /-- OUTBOUND_SLOT (R87) -/
  | outboundSlot (tile pipe k : Nat)
  /-- READOUT_SLOT (R88) -/
  | readoutSlot (tile pipe k : Nat)
  /-- QUERY_SLOT (R87) -/
  | querySlot (tile pipe k : Nat)
  /-- SNAPSHOT_SLOT (R414) -/
  | snapshotSlot (tile pipe k : Nat)
  /-- PACER_SLOT (R89) -/
  | pacerSlot (tile pipe : Nat) (good : Bool) (item : Nat)
  /-- CIPHER_KAT_SLOT (R90) -/
  | cipherKatSlot (tile pipe : Nat) (good : Bool)
  /-- MARCH_STEP (R91) -/
  | marchStep (tile : Nat) (good : Bool)
  /-- QUARANTINE_ON_ECC (R86) -/
  | quarantineOnEcc (tile : Nat)
  /-- HOT_RECORD_REBUILD (R86) -/
  | hotRecordRebuild (meter : Nat)
  /-- RETURNED_REQUEST_REQUEUE (R757) -/
  | returnedRequestRequeue (meter : Nat)
  /-- PIPELINE_FAULT (R92) -/
  | pipelineFault (tile pipe : Nat)
  /-- PIPELINE_RESTORE (R94) -/
  | pipelineRestore (tile pipe : Nat)
  /-- PIPELINE_RELEASE (R94) -/
  | pipelineRelease (r : Req)
  /-- DIAGNOSIS_REQUEST (R95) -/
  | diagnosisRequest (r : Req)
  /-- DIAGNOSIS_DONE (R95) -/
  | diagnosisDone (tiles : Nat) (ring pacer cipher march : Bool)
  /-- FUNCTION_DISABLED (R99) -/
  | functionDisabled (f : Nat)
  /-- EVENT_RATE_INTERVAL (R80) -/
  | eventRateInterval (code tile sub : Nat)
  /-- COMMIT_BUILD (R124) -/
  | commitBuild (r : Req)
  /-- COMMIT_CHECK (R128) -/
  | commitCheck (r : Req)
  /-- INTERNAL_BUILD (R105) -/
  | internalBuild (trigger tile : Nat)
  /-- BUILD_DONE (R124) -/
  | buildDone
  /-- LOADER_CHECK_REPORT (R125) -/
  | loaderCheckReport (tile : Nat) (pass : Bool) (claim : Nat)
  /-- SHEET_SWAP (R126) -/
  | sheetSwap
  /-- OLD_SHEET_RELEASE (R127) -/
  | oldSheetRelease
  /-- COMPILE_TIMEOUT (R120) -/
  | compileTimeout
  /-- BUILD_RETRY (R107) -/
  | buildRetry
  /-- QUEUE_OPEN (R150) -/
  | queueOpen (tile q producer words : Nat)
  /-- QUEUE_OPEN_GRANT (R151) -/
  | queueOpenGrant (tile q : Nat)
  /-- QUEUE_WRITE (R152) -/
  | queueWrite (tile q ticket word tag : Nat)
  /-- QUEUE_PACKET_TIMEOUT (R156) -/
  | queuePacketTimeout (tile q : Nat)
  /-- FORWARD_PACKET (R138) -/
  | forwardPacket (tile q : Nat)
  /-- FORWARDER_RETRY (R154) -/
  | forwarderRetry (tile q : Nat)
  /-- BANK_WAKE_DONE (R175) -/
  | bankWakeDone (tile bank : Nat)
  /-- SECURE_WIPE_DONE (R179) -/
  | secureWipeDone (tile : Nat)
  /-- MERGE_ENTRY_TIMEOUT (R185) -/
  | mergeEntryTimeout (tile address : Nat)
  /-- FLIP_MASK_ARM (R191) -/
  | flipMaskArm (r : Req) (cls value : Nat)
  /-- FLIP_MASK_DISARM (R191) -/
  | flipMaskDisarm (r : Req) (cls : Nat)
  /-- ECC_TEST_WRITE (R192) -/
  | eccTestWrite (r : Req)
  /-- ECC_TEST_READ (R192) -/
  | eccTestRead (r : Req)
  /-- SCRATCH_SCRUB (R193) -/
  | scratchScrub (tile : Nat)
  /-- DRAM_SCRUB (R193) -/
  | dramScrub (tile : Nat)
  /-- PLACEMENT_PASS (R206) -/
  | placementPass
  /-- FENCE_OPEN (R213) -/
  | fenceOpen (meter : Nat)
  /-- FENCE_INBOUND_MARK (R213) -/
  | fenceInboundMark (meter : Nat)
  /-- FENCE_FREEZE (R213) -/
  | fenceFreeze (meter : Nat)
  /-- FENCE_COPY_DONE (R215) -/
  | fenceCopyDone (meter : Nat)
  /-- FENCE_COMMIT (R213) -/
  | fenceCommit (meter : Nat)
  /-- FENCE_ABANDON (R219) -/
  | fenceAbandon (meter : Nat)
  /-- PATH_MOVE_COMMIT (R216) -/
  | pathMoveCommit (meter : Nat)
  /-- UNROUTED_RESOLVE (R203) -/
  | unroutedResolve (tile : Nat)
  /-- UNROUTED_TIMEOUT (R203) -/
  | unroutedTimeout (tile : Nat)
  /-- LINE_FRAME_RECEIVED (R234) -/
  | lineFrameReceived (tile lane channel : Nat) (fc blocks : Octets) (rx erased : Nat)
  /-- JOIN_REQUEST (R248) -/
  | joinRequest (tile lane channel meter kind : Nat)
  /-- TONE_MAP_RESPONSE (R251) -/
  | toneMapResponse (tile lane tag : Nat) (image : Octets)
  /-- SOUND_REQUEST (R248) -/
  | soundRequest (tile lane tag channel symbols : Nat)
  /-- LINE_RECEIPT_RECEIVED (R259) -/
  | lineReceiptReceived (tile lane : Nat) (fc : Octets)
  /-- RESPONSE_WINDOW_EXPIRY (R259) -/
  | responseWindowExpiry (tile lane : Nat)
  /-- LINE_SEND (R259) -/
  | lineSend (tile lane : Nat)
  /-- WINDOW_CYCLE_OPEN (R256) -/
  | windowCycleOpen (tile lane : Nat)
  /-- CLAIM_TONE_HEARD (R258) -/
  | claimToneHeard (tile lane window : Nat)
  /-- CONTENTION_SLOT (R259) -/
  | contentionSlot (tile lane n : Nat) (busy : Bool)
  /-- LINE_TRANSMIT_END (R231) -/
  | lineTransmitEnd (tile lane : Nat)
  /-- BLOCK_HOLD_EXPIRY (R261) -/
  | blockHoldExpiry (tile lane tag : Nat)
  /-- LINE_TAG_EXPIRY (R246) -/
  | lineTagExpiry (tile lane tag : Nat)
  /-- BEACON_PLAN (R263) -/
  | beaconPlan (tile lane : Nat)
  /-- NOTCH_SET_APPLY (R243) -/
  | notchSetApply
  /-- TONE_MAP_EXPIRY (R253) -/
  | toneMapExpiry (tile lane tag channel : Nat)
  /-- ZC_EDGE (R266) -/
  | zcEdge (tile input t : Nat)
  /-- REFERENCE_CROSSING (R267) -/
  | referenceCrossing (tile : Nat)
  /-- LINE_PILOT_TEST (R276) -/
  | linePilotTest (tile lane channel : Nat) (correlation : Int) (limit : Bool) (ma : Nat) (biasOpen : Bool)
  /-- LINE_BIAS_FAULT (R277) -/
  | lineBiasFault (tile lane channel mv : Nat)
  /-- LINE_PORT_RETEST (R278) -/
  | linePortRetest (tile lane channel : Nat) (passed : Bool)
  /-- LINE_CALIBRATION_REQUEST (R280) -/
  | lineCalibrationRequest (r : Req) (channel : Nat)
  /-- CALIBRATION_STEP (R281) -/
  | calibrationStep (tile lane magnitude : Nat) (phase : Int)
  /-- CALIBRATION_TIMEOUT (R282) -/
  | calibrationTimeout (tile lane : Nat)
  /-- SUPERFRAME_START (R288) -/
  | superframeStart (tile lane : Nat)
  /-- SPAN_REPLY (R293) -/
  | spanReply (tile lane k : Nat)
  /-- BROADCAST_SPAN (R296) -/
  | broadcastSpan (tile lane k : Nat)
  /-- RADIO_FRAME_RECEIVED (R313) -/
  | radioFrameReceived (tile lane : Nat) (psdu : Octets) (sfd : Nat)
  /-- RADIO_JOIN (R310) -/
  | radioJoin (tile lane meter : Nat)
  /-- DOWNLINK_STORE (R295) -/
  | downlinkStore (tile lane : Nat)
  /-- DOWNLINK_EXPIRY (R295) -/
  | downlinkExpiry (tile lane : Nat)
  /-- LINK_KEY_ROLL (R306) -/
  | linkKeyRoll (r : Req)
  /-- LINK_KEY_SWITCH (R306) -/
  | linkKeySwitch (tile lane : Nat)
  /-- LINK_KEY_OLD_DESTROY (R306) -/
  | linkKeyOldDestroy (tile lane : Nat)
  /-- TRANSCEIVER_FAULT (R315) -/
  | transceiverFault (tile lane op : Nat)
  /-- RADIO_TX_DONE (R313) -/
  | radioTxDone (tile lane : Nat) (good : Bool)
  /-- ASSOCIATION_EXPIRY (R311) -/
  | associationExpiry (tile lane meter : Nat)
  /-- ENROL (R341) -/
  | enrol (r : Req) (meter incarnation epoch ruleSet interval limit : Nat) (forerunner : Bool)
  /-- NEW_INCARNATION (R341) -/
  | newIncarnation (r : Req) (meter incarnation epoch : Nat)
  /-- NEW_KEY_EPOCH (R341) -/
  | newKeyEpoch (r : Req) (meter epoch : Nat)
  /-- RETIRE (R341) -/
  | retire (r : Req) (meter : Nat)
  /-- RETIREMENT_COMPLETE (R341) -/
  | retirementComplete (meter : Nat)
  /-- KEY_EPOCH_APPLY (R342) -/
  | keyEpochApply (meter : Nat)
  /-- FREEZE_START (R343) -/
  | freezeStart (meter : Nat)
  /-- FREEZE_WRITE (R343) -/
  | freezeWrite (meter : Nat)
  /-- FREEZE_END (R343) -/
  | freezeEnd (meter : Nat)
  /-- DISCONNECT (R398) -/
  | disconnect (r : Req) (meter executeAt : Nat)
  /-- RECONNECT (R397) -/
  | reconnect (r : Req) (meter executeAt armOnly : Nat)
  /-- SET_TIME (R392) -/
  | setTime (r : Req) (meter seconds ns mode : Nat)
  /-- SNAPSHOT (R349) -/
  | snapshot (id cycle : Nat) (tags : List Nat)
  /-- READ_NOW (R330) -/
  | readNow (r : Req) (meter set : Nat)
  /-- KEY_EPOCH (R342) -/
  | keyEpoch (r : Req) (meter epoch : Nat)
  /-- FEEDER_TAG (R409) -/
  | feederTag (r : Req) (meter tag : Nat)
  /-- TARIFF_ACTIVATE (R384) -/
  | tariffActivate (r : Req) (meter version effective : Nat)
  /-- FIRMWARE_ACTIVATE (R695) -/
  | firmwareActivate (r : Req) (meter image effective : Nat)
  /-- LANE_JOIN (R458) -/
  | laneJoin (r : Req) (meter : Nat) (link : Octets) (epoch span phase logP sfn : Nat)
  /-- SET_REPORTING (R330) -/
  | setReporting (r : Req) (meter interval : Nat)
  /-- CREDIT_STATE (R400) -/
  | creditState (r : Req) (meter credit state : Nat)
  /-- COMMAND_RESEAL (R347) -/
  | commandReseal (id : Nat)
  /-- COMMAND_EXPIRED (R347) -/
  | commandExpired (id : Nat)
  /-- METER_SILENT (R348) -/
  | meterSilent (meter : Nat)
  /-- TUNNEL_UPLINK (R354) -/
  | tunnelUplink (port : Nat) (datagram : Octets)
  /-- TUNNEL_KEEPALIVE (R357) -/
  | tunnelKeepalive (port : Nat) (datagram : Octets)
  /-- TUNNEL_DOWNLINK (R358) -/
  | tunnelDownlink (port : Nat) (datagram : Octets)
  /-- RELAY_SILENT (R357) -/
  | relaySilent (relay : Nat)
  /-- TUNNEL_STAGE_MOVE (R115) -/
  | tunnelStageMove (port : Nat)
  /-- RELAY_UPLINK_SEND (R358) -/
  | relayUplinkSend
  /-- RELAY_KEEPALIVE_SEND (R358) -/
  | relayKeepaliveSend
  /-- BILLING_FOLD (R375) -/
  | billingFold (tile : Nat)
  /-- SLOT_MAP_REWRITE (R366) -/
  | slotMapRewrite (structure_ : Nat)
  /-- TARIFF_SWITCH (R385) -/
  | tariffSwitch (structure_ t : Nat)
  /-- CALENDAR_ACTIVATE (R384) -/
  | calendarActivate (r : Req) (structure_ effective : Nat)
  /-- CALENDAR_APPLY (R384) -/
  | calendarApply (structure_ : Nat)
  /-- DEMAND_INTERVAL_END (R386) -/
  | demandIntervalEnd (structure_ t : Nat)
  /-- COLD_STORE_DRAIN (R386) -/
  | coldStoreDrain (tile pipe : Nat)
  /-- PERIOD_CLOSE (R387) -/
  | periodClose (structure_ t : Nat)
  /-- PERIOD_CLOSE_REQUEST (R387) -/
  | periodCloseRequest (r : Req) (structure_ instant : Nat)
  /-- CREDIT_THRESHOLD (R372) -/
  | creditThreshold (tile pipe : Nat)
  /-- METER_EVENT (R328) -/
  | meterEvent (tile pipe : Nat)
  /-- PREPAY_ENABLE (R396) -/
  | prepayEnable (r : Req) (meter opening : Nat)
  /-- PREPAY_DISABLE (R396) -/
  | prepayDisable (r : Req) (meter : Nat)
  /-- TOP_UP (R399) -/
  | topUp (r : Req) (meter amount id : Nat)
  /-- FRIENDLY_WINDOW_END (R398) -/
  | friendlyWindowEnd (meter : Nat)
  /-- RECONNECT_RETRY (R397) -/
  | reconnectRetry (meter : Nat)
  /-- METER_READOUT (R403) -/
  | meterReadout (r : Req) (meter kind cls arg count : Nat)
  /-- BULK_READOUT (R403) -/
  | bulkReadout (r : Req) (structure_ kind cls : Nat)
  /-- READOUT_SIGNED (R401) -/
  | readoutSigned (tile : Nat)
  /-- SNAPSHOT_OPEN (R416) -/
  | snapshotOpen
  /-- SNAPSHOT_REQUEST (R416) -/
  | snapshotRequest (r : Req) (tag : Nat)
  /-- SNAPSHOT_CLOSE (R417) -/
  | snapshotClose (feeder : Nat)
  /-- INDICATOR_CLEAR (R422) -/
  | indicatorClear (r : Req) (meter : Nat)
  /-- MEMBERSHIP_CHANGE (R409) -/
  | membershipChange (r : Req) (meter sub value : Nat)
  /-- FEEDER_RUNNING_POWER (R415) -/
  | feederRunningPower (feeder : Nat)
  /-- KEY_DESTROY (R464) -/
  | keyDestroy (r : Req) (slot : Nat)
  /-- KEY_EXPORT (R459) -/
  | keyExport (r : Req) (kind wrap target incarnation epoch : Nat)
  /-- KEY_IMPORT (R460) -/
  | keyImport (r : Req) (target wrap : Nat) (header blob : Octets)
  /-- KEY_GENERATION_RAISE (R457) -/
  | keyGenerationRaise (r : Req) (sub value : Nat)
  /-- SET_OWNER_LOCK (R685) -/
  | setOwnerLock (r : Req) (params tag : Octets)
  /-- CLEAR_OWNER_LOCK (R685) -/
  | clearOwnerLock (r : Req) (params tag : Octets)
  /-- ENTER_SERVICE (R629) -/
  | enterService (r : Req) (params tag : Octets)
  /-- LEAVE_SERVICE (R629) -/
  | leaveService (r : Req) (params tag : Octets)
  /-- REARM_TIME_STEP (R516) -/
  | rearmTimeStep (r : Req) (params tag : Octets)
  /-- ENTER_VOID (R629) -/
  | enterVoid (r : Req) (params tag : Octets)
  /-- CRYPTO_KAT (R467) -/
  | cryptoKat (tile unit_ : Nat) (good : Bool) (vector : Nat)
  /-- CRYPTO_RETEST (R468) -/
  | cryptoRetest (tile unit_ : Nat) (good : Bool)
  /-- FORMAT_REQUEST (R479) -/
  | formatRequest (r : Req) (tile : Nat)
  /-- RING_LOG_WRITE (R482) -/
  | ringLogWrite (tile : Nat)
  /-- SEGMENT_SEAL (R483) -/
  | segmentSeal (tile : Nat)
  /-- SEGMENT_LATE (R483) -/
  | segmentLate (tile : Nat)
  /-- SLC_SEGMENT_FOLD (R485) -/
  | slcSegmentFold (tile : Nat)
  /-- HISTORY_EXPIRY (R486) -/
  | historyExpiry (tile : Nat)
  /-- GARBAGE_COLLECTION (R491) -/
  | garbageCollection (tile : Nat) (tlc : Bool)
  /-- CHECKPOINT_PAGE (R493) -/
  | checkpointPage (tile : Nat)
  /-- STORAGE_RESTORE (R494) -/
  | storageRestore (tile : Nat) (lost : List Nat) (ms : Nat)
  /-- HISTORY_PURGE (R499) -/
  | historyPurge (r : Req) (before : Nat)
  /-- BLOCK_RETIRE (R477) -/
  | blockRetire (tile block pool reason : Nat)
  /-- PTP_SYNC (R509) -/
  | ptpSync (port : Nat) (message : Octets)
  /-- PTP_FOLLOW_UP (R520) -/
  | ptpFollowUp (port : Nat) (message : Octets)
  /-- PTP_DELAY_RESP (R520) -/
  | ptpDelayResp (port : Nat) (message : Octets)
  /-- PTP_PDELAY_REQ (R522) -/
  | ptpPdelayReq (port : Nat) (message : Octets) (turnaround : Nat)
  /-- PTP_PDELAY_RESP (R520) -/
  | ptpPdelayResp (port : Nat) (message : Octets)
  /-- PTP_ANNOUNCE (R519) -/
  | ptpAnnounce (port : Nat) (message : Octets)
  /-- PTP_SYNC_TRANSMIT (R522) -/
  | ptpSyncTransmit (port : Nat)
  /-- PTP_UNSUPPORTED_MESSAGE (R520) -/
  | ptpUnsupportedMessage (port : Nat) (message : Octets)
  /-- HOST_TIME_SET (R509) -/
  | hostTimeSet (r : Req) (seconds ns : Nat)
  /-- TIME_STEP (R514) -/
  | timeStep
  /-- SOURCE_TIMEOUT (R510) -/
  | sourceTimeout
  /-- STEP_ARM_EXPIRY (R516) -/
  | stepArmExpiry
  /-- SLAVE_ALIGNMENT (R507) -/
  | slaveAlignment (tile : Nat) (error : Int)
  /-- RATE_UPDATE (R515) -/
  | rateUpdate
  /-- TIME_SOURCE_CHANGE (R509) -/
  | timeSourceChange
  /-- TIME_OUTPUT_ARM (R524) -/
  | timeOutputArm (r : Req) (output : Nat)
  /-- TIME_OUTPUT_PULSE (R525) -/
  | timeOutputPulse (output : Nat)
  /-- TIME_IN_CAPTURE (R527) -/
  | timeInCapture
  /-- HELLO (R541) -/
  | hello (seq ack unit_ tiles : Nat) (preferred : Bool) (state : Nat) (measurement : Octets) (check : Nat)
  /-- HEARTBEAT (R537) -/
  | heartbeat (seq ack state flags heat : Nat)
  /-- DIGEST (R555) -/
  | digest (seq ack bin xor_ count : Nat)
  /-- RESIGN (R563) -/
  | resign (seq ack reason checks at_ : Nat)
  /-- TAKE (R563) -/
  | take (seq ack at_ : Nat)
  /-- HANDOVER_PLAN (R568) -/
  | handoverPlan (seq ack instant kind : Nat)
  /-- MGMT (R548) -/
  | mgmt (seq ack at_ kind : Nat) (args : List Nat) (data : Octets)
  /-- TUNNEL (R545) -/
  | tunnel (seq ack port : Nat) (datagram : Octets)
  /-- TIME (R550) -/
  | timeMessage (seq ack t1 t2 t3 t4 stepAt : Nat) (step : Int)
  /-- SYNC_DATA (R543) -/
  | syncData (seq ack kind key : Nat) (data : Octets)
  /-- LOG_REQUEST (R555) -/
  | logRequest (seq ack bin : Nat)
  /-- LOG_DATA (R555) -/
  | logData (seq ack bin : Nat) (entries : List Nat)
  /-- REPAIR_REQUEST (R556) -/
  | repairRequest (seq ack : Nat) (meters : List Nat)
  /-- REPAIR_DATA (R556) -/
  | repairData (seq ack meter : Nat) (record : Octets)
  /-- FENCE_FLAG (R557) -/
  | fenceFlag (seq ack meter : Nat) (opens : Bool)
  /-- MIRROR_REPEAT (R536) -/
  | mirrorRepeat
  /-- BATON_CODE_DECODED (R533) -/
  | batonCodeDecoded (holding : Bool)
  /-- BATON_DEAD (R533) -/
  | batonDead
  /-- MIRROR_HEARTBEAT_TIMEOUT (R564) -/
  | mirrorHeartbeatTimeout
  /-- PAIR_START_WAIT (R541) -/
  | pairStartWait
  /-- RESIGNATION (R560) -/
  | resignation
  /-- BATON_TAKE (R563) -/
  | batonTake
  /-- SYNC_FINAL_PAUSE (R543) -/
  | syncFinalPause
  /-- SYNC_RELEASE (R543) -/
  | syncRelease
  /-- SYNC_RESTART (R543) -/
  | syncRestart
  /-- DIGEST_BIN_CLOSE (R554) -/
  | digestBinClose (bin : Nat)
  /-- REVERT (R567) -/
  | revert
  /-- PLANNED_HANDOVER (R568) -/
  | plannedHandover (r : Req)
  /-- RELEASE_HELD (R569) -/
  | releaseHeld (r : Req)
  /-- RESYNCHRONISE (R544) -/
  | resynchronise (r : Req)
  /-- MGMT_ACK_TIMEOUT (R548) -/
  | mgmtAckTimeout
  /-- IDENTIFY (R590) -/
  | identify (transport : Nat)
  /-- OPEN (R591) -/
  | openSession (transport : Nat) (peer : Octets) (role : Nat) (nonce : Octets) (expected : Nat)
  /-- READ (R595) -/
  | readObject (r : Req) (index sub meter : Nat) (inForce : Bool)
  /-- READ_SEGMENT (R599) -/
  | readSegment (r : Req) (index sub meter offset : Nat) (inForce : Bool)
  /-- WRITE_SEGMENT (R600) -/
  | writeSegment (r : Req) (index sub meter offset : Nat) (final : Bool) (data : Octets)
  /-- READ_WHOLE (R579) -/
  | readWhole (r : Req) (index meter : Nat) (inForce : Bool)
  /-- NOP (R595) -/
  | nop (r : Req)
  /-- OBJECT_WRITE (R579) -/
  | objectWrite (r : Req) (index sub meter : Nat) (data : Octets)
  /-- CLOSE (R593) -/
  | closeSession (r : Req)
  /-- SESSION_IDLE_TIMEOUT (R593) -/
  | sessionIdleTimeout (session : Nat)
  /-- HALF_OPEN_TIMEOUT (R592) -/
  | halfOpenTimeout (session : Nat)
  /-- UDX_REQUEST_TIMEOUT (R605) -/
  | udxRequestTimeout (session tag : Nat)
  /-- CAPTURE_DISCARD (R599) -/
  | captureDiscard (session : Nat)
  /-- MAILBOX_DOORBELL (R586) -/
  | mailboxDoorbell (channel : Nat) (enable : Bool) (baseIn baseOut entries vector producer consumer : Nat) (dma : Bool)
  /-- MAILBOX_RESET (R586) -/
  | mailboxReset
  /-- PCIE_LINK_DOWN (R586) -/
  | pcieLinkDown
  /-- OUT_RING_REPLY_DISCARD (R586) -/
  | outRingReplyDiscard (channel : Nat)
  /-- CONFIGURATION_RESET (R577) -/
  | configurationReset (r : Req)
  /-- ARP_REQUEST (R538) -/
  | arpRequest (port : Nat) (address : Octets)
  /-- NEIGHBOUR_DISCOVERY (R538) -/
  | neighbourDiscovery (port : Nat) (address : Octets)
  /-- ICMP_ECHO (R582) -/
  | icmpEcho (port : Nat) (v6 : Bool) (address payload : Octets)
  /-- SYS_RESET_RELEASE (R611) -/
  | sysResetRelease (straps : Nat)
  /-- SYS_RESET_ASSERT (R611) -/
  | sysResetAssert
  /-- FUSE_LOAD_DONE (R616) -/
  | fuseLoadDone (tile : Nat) (good : Bool)
  /-- SCRATCHPAD_CLEAR_DONE (R613) -/
  | scratchpadClearDone (tile : Nat)
  /-- DRAM_INIT_STEP_DONE (R188) -/
  | dramInitStepDone (tile : Nat) (good : Bool)
  /-- SECURE_BOOT_DONE (R618) -/
  | secureBootDone (first second : Nat) (imageDigest : Octets) (version : Nat)
  /-- TILE_ENUMERATION_DONE (R621) -/
  | tileEnumerationDone (tile word found : Nat)
  /-- SHEET_LOAD_DONE (R622) -/
  | sheetLoadDone (good : Bool)
  /-- LANE_POWER_UP_DONE (R622) -/
  | lanePowerUpDone (tile : Nat)
  /-- READY (R614) -/
  | ready
  /-- BRING_UP_STEP_TIMEOUT (R625) -/
  | bringUpStepTimeout
  /-- RESTART_REQUEST (R612) -/
  | restartRequest (r : Req)
  /-- ENTER_KEYED (R630) -/
  | enterKeyed (r : Req) (blob header : Octets)
  /-- ENTER_FIELD (R629) -/
  | enterField (r : Req)
  /-- TAMPER_EVENT (R636) -/
  | tamperEvent (input : Nat)
  /-- TAMPER_CLEARED (R636) -/
  | tamperCleared
  /-- DRAM_REQUEST_TIMEOUT (R643) -/
  | dramRequestTimeout (tile address : Nat) (write : Bool)
  /-- DRAM_RETRAIN_DONE (R643) -/
  | dramRetrainDone (tile : Nat)
  /-- NAND_OPERATION_TIMEOUT (R644) -/
  | nandOperationTimeout (tile channel block page pool op : Nat)
  /-- NAND_DIE_REMOVED (R645) -/
  | nandDieRemoved (tile channel die : Nat) (stuck : Bool)
  /-- WATCHDOG_TIMEOUT (R646) -/
  | watchdogTimeout (tile core : Nat)
  /-- CORE_HOLD_END (R647) -/
  | coreHoldEnd (tile core : Nat)
  /-- TILE_HEARTBEAT (R648) -/
  | tileHeartbeat (src dst : Nat)
  /-- TILE_HEARTBEAT_TIMEOUT (R649) -/
  | tileHeartbeatTimeout (tile : Nat)
  /-- TILE_RECOVERY_DELAY_EXPIRY (R650) -/
  | tileRecoveryDelayExpiry (tile : Nat)
  /-- TILE_RECOVERY_DONE (R650) -/
  | tileRecoveryDone (tile : Nat) (good : Bool)
  /-- PRIMARY_TILE_UNHEARD (R652) -/
  | primaryTileUnheard (tile : Nat)
  /-- EVENT_RECORD (R658) -/
  | eventRecord
  /-- EVENT_PAGE_WRITE (R654) -/
  | eventPageWrite
  /-- EVENT_LOG_CLEAR (R659) -/
  | eventLogClear (r : Req) (expected : Nat)
  /-- EVENT_LOG_ERASE_DONE (R659) -/
  | eventLogEraseDone
  /-- COUNTER_LATCH (R664) -/
  | counterLatch (late : List Nat)
  /-- COUNTER_SNAPSHOT_NOW (R667) -/
  | counterSnapshotNow (r : Req)
  /-- PARTITION_COUNTER_FAULT (R669) -/
  | partitionCounterFault (tile core : Nat)
  /-- STAGING_OPEN (R675) -/
  | stagingOpen (r : Req) (length target : Nat)
  /-- IMAGE_BLOCK (R675) -/
  | imageBlock (r : Req) (offset : Nat) (window : Octets)
  /-- STAGING_VERIFY (R677) -/
  | stagingVerify (r : Req)
  /-- VERIFICATION_DONE (R677) -/
  | verificationDone (voided : Bool)
  /-- STAGING_ABORT (R676) -/
  | stagingAbort (r : Req)
  /-- ACTIVATE (R679) -/
  | activate (r : Req) (imageId : Nat)
  /-- ACTIVATION_RESUME (R679) -/
  | activationResume (good : Bool)
  /-- PROBATION_END (R683) -/
  | probationEnd
  /-- PAIR_UPDATE_LIMIT (R689) -/
  | pairUpdateLimit
  /-- CAMPAIGN_START (R691) -/
  | campaignStart (r : Req) (imageId : Nat)
  /-- CAMPAIGN_ROUND (R692) -/
  | campaignRound (imageId : Nat)
  /-- CAMPAIGN_ACTIVATE (R695) -/
  | campaignActivate (r : Req) (imageId effective : Nat)
  /-- CAMPAIGN_CANCEL (R695) -/
  | campaignCancel (r : Req) (imageId : Nat)
  /-- CAMPAIGN_LIMIT (R695) -/
  | campaignLimit (imageId : Nat)
  /-- READBACK_COMPARE (R712) -/
  | readbackCompare (baton : Bool) (pads : Nat)
  /-- POLARITY_TRY (R713) -/
  | polarityTry (lane : Nat)
  /-- PHY_STATUS_POLL (R708) -/
  | phyStatusPoll (port : Nat) (up : Bool)
  /-- IDCODE (R717) -/
  | idcode
  /-- SAMPLE_PRELOAD (R716) -/
  | samplePreload (preload : Octets)
  /-- EXTEST (R716) -/
  | extest
  /-- CLAMP (R716) -/
  | clampPins
  /-- HIGHZ (R716) -/
  | highz
  /-- HALTCODE (R716) -/
  | haltcode
  /-- BYPASS (R716) -/
  | bypass (opcode : Nat)
  /-- POWER_FAIL_WARNING (R379) -/
  | powerFailWarning
  /-- POWER_FAIL_CLEAR (R731) -/
  | powerFailClear
  /-- HOLDUP_CHANGE (R730) -/
  | holdupChange (charged : Bool)
  /-- SUPPLY_OUT_OF_RANGE (R727) -/
  | supplyOutOfRange (rail tile mv : Nat)
  /-- SUPPLY_RESTORED (R727) -/
  | supplyRestored (rail tile mv : Nat)
  /-- PILOT_LIGHT_ENTER (R736) -/
  | pilotLightEnter (r : Req)
  /-- PILOT_LIGHT_ENTRY_DONE (R736) -/
  | pilotLightEntryDone
  /-- PILOT_LIGHT_WAKE (R738) -/
  | pilotLightWake (r : Req)
  /-- WAKE_AT (R738) -/
  | wakeAt
  /-- WAKE_ON_LINE_FRAMES (R738) -/
  | wakeOnLineFrames
  /-- WAKE_ON_PERST (R738) -/
  | wakeOnPerst
  /-- WAKE_DONE (R739) -/
  | wakeDone
  /-- JUNCTION_SENSOR_READ (R742) -/
  | junctionSensorRead (tile : Nat) (a b c d : Int)
  /-- THERMAL_RECOVERY (R744) -/
  | thermalRecovery
  /-- POWER_ESTIMATE (R732) -/
  | powerEstimate
  /-- LINE_LANE_STARTING_TIMEOUT (R283) -/
  | lineLaneStartingTimeout (tile lane : Nat)
  /-- PTP_DELAY_REQ_TRANSMIT (R520) -/
  | ptpDelayReqTransmit (port : Nat)
  /-- PTP_ANNOUNCE_RECEIPT_TIMEOUT (R520) -/
  | ptpAnnounceReceiptTimeout
  /-- PCIE_CONFIGURATION_REQUEST (R623) -/
  | pcieConfigurationRequest
  /-- SERDES_LOSS_OF_SIGNAL (R713) -/
  | serdesLossOfSignal (lane : Nat)
  /-- SERDES_BLOCK_LOCK (R713) -/
  | serdesBlockLock (lane : Nat)
  deriving DecidableEq, Repr

end Sys2Proof
end

