-- ==== Sys2Proof/Decode.lean ====
section
/-! DEFINITION. The host's question of a decoder. No row of spec/opcode_table.json gives bits: the commands are the part's
own events, its messages and its dictionary's writes, which carry no instruction word (log 7). -/

namespace Sys2Proof

/-- The command that a word spells by the table's bits: no row gives bits, so no word spells one. -/
def decodeTableWord (_nbits _w : Nat) : Option Instr := none

end Sys2Proof
end

