-- ==== Sys2Proof/Machine/Bits.lean ====
section
/-! DEFINITION. Bit fields and byte order: R13 numbers bits, R14 orders the bytes of every field. -/

namespace Sys2Proof.Machine

/-- Field [hi:lo] of a number read as a word (R13). -/
def field (v hi lo : Nat) : Nat := (v >>> lo) % 2 ^ (hi + 1 - lo)

/-- `v` with field [hi:lo] replaced by the low bits of `x` (R13, R15). -/
def putField (v hi lo x : Nat) : Nat :=
  v - (field v hi lo) * 2 ^ lo + (x % 2 ^ (hi + 1 - lo)) * 2 ^ lo

/-- Bit `n` of a number (R13). -/
def bitAt (v n : Nat) : Bool := (v >>> n) % 2 == 1

/-- 1 for true and 0 for false. -/
def bit01 (b : Bool) : Nat := if b then 1 else 0

/-- `v` with bit `n` set or cleared. -/
def putBit (v n : Nat) (b : Bool) : Nat := putField v n n (bit01 b)

/-- The low `n` bytes of `v`, most significant byte first (R14). -/
def be : Nat → Nat → Octets
  | 0, _ => []
  | n + 1, v => be n (v / 256) ++ [BitVec.ofNat 8 v]

/-- The low `n` bytes of `v`, least significant byte first: the order of the PCIe mailbox (R14, R585). -/
def le (n v : Nat) : Octets := (be n v).reverse

/-- The number whose bytes, most significant first, are `b` (R14). -/
def ofBe (b : Octets) : Nat := b.foldl (fun a x => a * 256 + x.toNat) 0

/-- `n` bytes of `b` from offset `off`; bytes past the end read as 0. -/
def slice (b : Octets) (off n : Nat) : Octets :=
  let r := (b.drop off).take n
  r ++ List.replicate (n - r.length) 0

/-- The big-endian field of `n` bytes at offset `off`. -/
def fieldAt (b : Octets) (off n : Nat) : Nat := ofBe (slice b off n)

/-- `b` padded with zero bytes at its end to `n` bytes. -/
def padTo (n : Nat) (b : Octets) : Octets := b ++ List.replicate (n - b.length) 0

/-- Bytewise exclusive or, as long as the shorter argument. -/
def xorOctets (a b : Octets) : Octets := List.zipWith (· ^^^ ·) a b

/-- The signed value of the low `w` bits of `v` (two's complement). -/
def toSigned (w v : Nat) : Int :=
  let u := v % 2 ^ w
  if u < 2 ^ (w - 1) then (u : Int) else (u : Int) - 2 ^ w

/-- The low `w` bits of an integer, as a number. -/
def ofSigned (w : Nat) (i : Int) : Nat := (i % (2 ^ w : Int)).toNat

/-- `a − b` modulo 2^w. -/
def wrapSub (w a b : Nat) : Nat := ofSigned w ((a : Int) - b)

/-- The 64-bit words of a byte string, eight bytes a word from [63:56] downward (R142). -/
def wordsOf (fuel : Nat) (b : Octets) : List Word :=
  match fuel with
  | 0 => []
  | n + 1 => if b.isEmpty then [] else BitVec.ofNat 64 (fieldAt b 0 8) :: wordsOf n (b.drop 8)

/-- The words of a frame, at most 64 of them. -/
def packWords (b : Octets) : List Word := wordsOf ((b.length + 7) / 8) b

/-- The bytes of a run of words (R142). -/
def unpackWords (ws : List Word) : Octets := ws.flatMap fun w => be 8 w.toNat

/-- Saturation of a counter at its width (18 R663 and the counters of R752). -/
def satAdd (w v n : Nat) : Nat := min (2 ^ w - 1) (v + n)

/-- The list with element `i` replaced by `f` of it; unchanged when there is none. -/
def modifyAt {α : Type} (l : List α) (i : Nat) (f : α → α) : List α :=
  match l, i with
  | [], _ => []
  | x :: xs, 0 => f x :: xs
  | x :: xs, n + 1 => x :: modifyAt xs n f

/-- A list kept in rising order of `key` gains or replaces an entry. -/
def insertKey {α : Type} (key : α → Nat) (e : α) : List α → List α
  | [] => [e]
  | x :: xs =>
    if key x < key e then x :: insertKey key e xs
    else if key x = key e then e :: xs
    else e :: x :: xs

/-- Ceiling division. -/
def divUp (a b : Nat) : Nat := (a + b - 1) / b

end Sys2Proof.Machine
end

