-- ==== Sys2Proof/Machine/Crypto.lean ====
section
/-! DEFINITION. The ciphers, hashes and signatures of R428 to R458: AES-128 and AES-256 (forward cipher), CMAC, GCM,
CCM*, the KDF, key wrap, SHA-256, SHA-384, ECDSA and the CRCs. The spec names the standards (R22, R433 to R441, R756);
their arithmetic is taken from those standards (log 10). -/

namespace Sys2Proof.Machine

/-! ### AES (FIPS 197) -/

/-- The S-box, entry 0 in the top byte. -/
def aesSboxTable : Nat := 0x637C777BF26B6FC53001672BFED7AB76CA82C97DFA5947F0ADD4A2AF9CA472C0B7FD9326363FF7CC34A5E5F171D8311504C723C31896059A071280E2EB27B27509832C1A1B6E5AA0523BD6B329E32F8453D100ED20FCB15B6ACBBE394A4C58CFD0EFAAFB434D338545F9027F503C9FA851A3408F929D38F5BCB6DA2110FFF3D2CD0C13EC5F974417C4A77E3D645D197360814FDC222A908846EEB814DE5E0BDBE0323A0A4906245CC2D3AC629195E479E7C8376D8DD54EA96C56F4EA657AAE08BA78252E1CA6B4C6E8DD741F4BBD8B8A703EB5664803F60E613557B986C11D9EE1F8981169D98E949B1E87E9CE5528DF8CA1890DBFE6426841992D0FB054BB16

/-- SubBytes of one byte. -/
def aesSbox (b : Byte) : Byte := BitVec.ofNat 8 (aesSboxTable >>> (8 * (255 - b.toNat)))

/-- Multiplication by x in the AES field. -/
def aesXtime (b : Byte) : Byte :=
  let t := b <<< 1
  if b.msb then t ^^^ 0x1B#8 else t

/-- The round constants of the key expansion, from index 1. -/
def aesRcon : Nat → Byte
  | 0 => 0x01#8
  | n + 1 => aesXtime (aesRcon n)

/-- The next word of the expanded key: `i` is its index, `nk` the key length in words; `ws` holds the words made so
far, newest first. -/
def aesNextWord (nk i : Nat) (ws : List Octets) : Octets :=
  let prev := ws.getD 0 []
  let back := ws.getD (nk - 1) []
  let t :=
    if i % nk = 0 then
      let r := (prev.drop 1 ++ prev.take 1).map aesSbox
      xorOctets r [aesRcon (i / nk - 1), 0#8, 0#8, 0#8]
    else if nk > 6 ∧ i % nk = 4 then prev.map aesSbox
    else prev
  xorOctets back t

/-- Key expansion for `n` further words from index `i`. -/
def aesExpand (nk : Nat) : Nat → Nat → List Octets → List Octets
  | 0, _, ws => ws
  | n + 1, i, ws => aesExpand nk n (i + 1) (aesNextWord nk i ws :: ws)

/-- The four-byte words of a key, in order. -/
def aesKeyWords (k : Octets) : Nat → List Octets
  | 0 => []
  | n + 1 => aesKeyWords k n ++ [slice k (4 * n) 4]

/-- The round keys of a 16-byte or 32-byte key, 16 bytes each, in order. -/
def aesRoundKeys (k : Octets) : List Octets :=
  let nk := k.length / 4
  let rounds := nk + 6
  let ws := (aesExpand nk (4 * (rounds + 1) - nk) nk (aesKeyWords k nk).reverse).reverse
  (List.range (rounds + 1)).map fun r => (ws.drop (4 * r)).take 4 |>.flatten

/-- ShiftRows: byte (row r, column c) comes from column c + r; the state is held column by column. -/
def aesShiftRows (s : Octets) : Octets :=
  [0, 5, 10, 15, 4, 9, 14, 3, 8, 13, 2, 7, 12, 1, 6, 11].map fun i => s.getD i 0#8

/-- MixColumns of one column. -/
def aesMixColumn (a b c d : Byte) : Octets :=
  let t := a ^^^ b ^^^ c ^^^ d
  [a ^^^ t ^^^ aesXtime (a ^^^ b), b ^^^ t ^^^ aesXtime (b ^^^ c),
   c ^^^ t ^^^ aesXtime (c ^^^ d), d ^^^ t ^^^ aesXtime (d ^^^ a)]

/-- MixColumns of the state. -/
def aesMixColumns : Octets → Octets
  | a :: b :: c :: d :: rest => aesMixColumn a b c d ++ aesMixColumns rest
  | _ => []

/-- The rounds after the first AddRoundKey; the last one has no MixColumns. -/
def aesRounds (s : Octets) : List Octets → Octets
  | [] => s
  | [k] => xorOctets (aesShiftRows (s.map aesSbox)) k
  | k :: ks => aesRounds (xorOctets (aesMixColumns (aesShiftRows (s.map aesSbox))) k) ks

/-- E_K of one block: AES-128 for a 16-byte key and AES-256 for a 32-byte one. -/
def aesBlock (k b : Octets) : Octets :=
  match aesRoundKeys k with
  | [] => b
  | k0 :: ks => aesRounds (xorOctets b k0) ks

/-- The zero block. -/
def zeroBlock : Octets := List.replicate 16 0#8

/-- The blocks of 16 bytes of a string; the last may be short. -/
def blocksFuel : Nat → Octets → List Octets
  | 0, _ => []
  | n + 1, b => if b.isEmpty then [] else b.take 16 :: blocksFuel n (b.drop 16)

/-- The blocks of 16 bytes of a string. -/
def blocks16 (b : Octets) : List Octets := blocksFuel (b.length / 16 + 1) b

/-! ### CMAC (SP 800-38B, R434) -/

/-- Doubling in the CMAC field. -/
def cmacDouble (b : Octets) : Octets :=
  let v := ofBe b
  let d := (v * 2) % 2 ^ 128
  be 16 (if v / 2 ^ 127 = 1 then d ^^^ 0x87 else d)

/-- The block that the block former makes of the data of an issue (R432): pads 0 FULL, 1 ZERO, 3 LENGTH of `aad` and `text`
bytes, 4 CMAC_LAST under subkeys K1 and K2; none where the table allows none or gates the issue. Pad 2 truncates output, and pad 5
forms the first block of a CCM* (R435). -/
def formBlock (pad : Nat) (m k1 k2 : Octets) (aad text : Nat) : Option Octets :=
  if pad = 0 then (if m.length = 16 then some m else none)
  else if pad = 1 then (if m.isEmpty then none else some (padTo 16 m))
  else if pad = 3 then some (be 8 (8 * aad) ++ be 8 (8 * text))
  else if pad = 4 then some (if m.length = 16 then xorOctets m k1 else xorOctets (padTo 16 (m ++ [0x80#8])) k2)
  else none

/-- A mode descriptor's fields that the slot pattern fixes (R430, R431). Ops: 0 gated, 1 BLOCK, 2 CTR, 3 CHAIN, 4 CHAIN_FINAL, 5 GHASH.
Uses: 0 seal, 1 open, 2 derive, 3 MAC generate. -/
structure Mode where
  op : Nat
  working : Bool := false
  entry : Nat := 0
  aes256 : Bool := false
  pad : Nat := 0
  use : Nat := 0
  deriving DecidableEq, Repr

/-- The 64-bit descriptor, with the lengths that the slot fills in (R430). -/
def Mode.word (m : Mode) (bytes aad text : Nat) : Word :=
  BitVec.ofNat 64 (m.op % 16 * 2 ^ 60 + (if m.working then 2 ^ 59 else 0) + m.entry % 16 * 2 ^ 55 + (if m.aes256 then 2 ^ 54 else 0) +
    m.pad % 8 * 2 ^ 51 + bytes % 32 * 2 ^ 46 + m.use % 4 * 2 ^ 44 + aad % 256 * 2 ^ 24 + text % 256 * 2 ^ 16)

/-- An issue of a mode: the engine's output for the data of a block, with the chaining value or, for CTR, the counter block before it;
none where the issue is gated (R430, R432). -/
def Mode.issue (m : Mode) (key k1 k2 chain data : Octets) : Option Octets :=
  if m.op = 1 then (formBlock m.pad data k1 k2 0 0).map (aesBlock key)
  else if m.op = 2 then (if data.isEmpty then none else some (xorOctets data (aesBlock key chain)))
  else if m.op = 3 ∨ m.op = 4 then (formBlock m.pad data k1 k2 0 0).map fun b => aesBlock key (xorOctets chain b)
  else none

/-- A slot of a use attribute permits an operation: encrypt-only seals, generates MACs and signs, decrypt-only opens, wrap-only wraps,
derive-only derives (R446). The operations are the uses of R430, and 4 for a wrap. -/
def usePermitted (slot op : Nat) : Bool :=
  if op = 0 ∨ op = 3 then slot == 0 else if op = 1 then slot == 1 else if op = 4 then slot == 2 else slot == 3

/-- The last block of a CMAC under subkeys K1 and K2 (pad 4 of R432). -/
def cmacLast (k1 k2 m : Octets) : Octets := (formBlock 4 m k1 k2 0 0).getD zeroBlock

/-- CMAC chaining over the blocks, the last one padded. -/
def cmacChain (k k1 k2 : Octets) : Octets → List Octets → Octets
  | c, [] => aesBlock k (xorOctets c (cmacLast k1 k2 []))
  | c, [m] => aesBlock k (xorOctets c (cmacLast k1 k2 m))
  | c, m :: ms => cmacChain k k1 k2 (aesBlock k (xorOctets c m)) ms

/-- AES-CMAC of a message, 16 bytes (R434). -/
def cmac (k m : Octets) : Octets :=
  let k1 := cmacDouble (aesBlock k zeroBlock)
  cmacChain k k1 (cmacDouble k1) zeroBlock (blocks16 m)

/-! ### GCM (SP 800-38D, R433) -/

/-- One GF(2^128) multiply-and-reduce of R57: bits of `x` from the first bit down, `n` of them left. -/
def ghashMulLoop : Nat → Nat → Nat → Nat → Nat
  | 0, _, _, z => z
  | n + 1, x, v, z =>
    let z' := if bitAt x n then z ^^^ v else z
    let v' := if v % 2 = 1 then (v / 2) ^^^ (0xE1 <<< 120) else v / 2
    ghashMulLoop n x v' z'

/-- The product of two blocks in the GCM field. -/
def ghashMul (x h : Octets) : Octets := be 16 (ghashMulLoop 128 (ofBe x) (ofBe h) 0)

/-- GHASH over a string in zero-padded blocks, from the value `y` (pad 1 of R432). -/
def ghashOver (h y b : Octets) : Octets :=
  (blocks16 b).foldl (fun a x => match formBlock 1 x [] [] 0 0 with
    | some m => ghashMul (xorOctets a m) h
    | none => a) y

/-- Keystream exclusive or from counter block `i` on (R433). -/
def gcmCtr (k iv : Octets) : Nat → List Octets → Octets
  | _, [] => []
  | i, m :: ms => xorOctets m (aesBlock k (iv ++ be 4 (i + 1))) ++ gcmCtr k iv (i + 1) ms

/-- GCM text under a 12-byte IV; the same operation seals and opens. -/
def gcmText (k iv m : Octets) : Octets := gcmCtr k iv 1 (blocks16 m)

/-- The 16-byte tag value of authenticated data and ciphertext (R433). -/
def gcmTag (k iv aad c : Octets) : Octets :=
  let h := aesBlock k zeroBlock
  let y := ghashOver h (ghashOver h zeroBlock aad) c
  let g := ghashMul (xorOctets y ((formBlock 3 [] [] [] aad.length c.length).getD zeroBlock)) h
  xorOctets g (aesBlock k (iv ++ be 4 1))

/-! ### CCM* (SP 800-38C, R435) -/

/-- CBC-MAC over zero-padded blocks from the value `c`. -/
def cbcMac (k c : Octets) (bs : List Octets) : Octets :=
  bs.foldl (fun a b => aesBlock k (xorOctets a (padTo 16 b))) c

/-- CCM* MIC of `m` octets over authenticated data `aad` and body `body` (R435). -/
def ccmMic (k nonce aad body : Octets) (m : Nat) : Octets :=
  let flags := BitVec.ofNat 8 (0x40 + 8 * ((m - 2) / 2) + 1)
  let b0 := flags :: nonce ++ be 2 body.length
  let c := cbcMac k zeroBlock ([b0] ++ blocks16 (be 2 aad.length ++ aad) ++ blocks16 body)
  xorOctets (c.take m) (aesBlock k ([0x01#8] ++ nonce ++ be 2 0))

/-- CCM* keystream exclusive or from block `i` on. -/
def ccmCtr (k nonce : Octets) : Nat → List Octets → Octets
  | _, [] => []
  | i, b :: bs => xorOctets b (aesBlock k ([0x01#8] ++ nonce ++ be 2 i)) ++ ccmCtr k nonce (i + 1) bs

/-- CCM* text: the same operation seals and opens. -/
def ccmText (k nonce b : Octets) : Octets := ccmCtr k nonce 1 (blocks16 b)

/-! ### The KDF and key wrap (R453, R454, R458) -/

/-- Iterations i to i + n - 1 of the counter-mode KDF (R453). -/
def kdfLoop (k label context : Octets) (bits : Nat) : Nat → Nat → Octets
  | 0, _ => []
  | n + 1, i => cmac k (be 1 i ++ label ++ [0#8] ++ context ++ be 2 bits) ++ kdfLoop k label context bits n (i + 1)

/-- `bits` bits derived from a parent key, label and context (R453). -/
def kdf (k label context : Octets) (bits : Nat) : Octets :=
  (kdfLoop k label context bits ((bits + 127) / 128) 1).take (bits / 8)

/-- The per-meter context of R454. -/
def meterContext (meter incarnation epoch : Nat) : Octets :=
  be 4 meter ++ be 2 incarnation ++ be 2 epoch ++ List.replicate 16 0#8

/-- ASCII bytes of a label, given as its 32-bit code (R455). -/
def labelOf (code : Nat) : Octets := be 4 code

/-- The per-meter key under a lane-class root (R454, R455). -/
def meterKey (root : Octets) (meter incarnation epoch : Nat) : Octets :=
  kdf root (labelOf 0x4D54524B) (meterContext meter incarnation epoch) 128

/-- T of the wrap of R458. -/
def wrapTag (kek hdr k : Octets) : Octets := (cmac kek (hdr ++ k)).take 8

/-- The keystream of the wrap of R458. -/
def wrapStream (kek t : Octets) : Octets :=
  aesBlock kek (t ++ be 4 0 ++ be 4 1) ++ aesBlock kek (t ++ be 4 0 ++ be 4 2)

/-- A key wrapped under a key-encryption key: T then C (R458). -/
def wrapKey (kek hdr k : Octets) : Octets :=
  let t := wrapTag kek hdr k
  t ++ xorOctets k (wrapStream kek t)

/-- The key of a wrapped blob, or none when T does not match (R458). -/
def unwrapKey (kek hdr blob : Octets) : Option Octets :=
  let t := blob.take 8
  let k := xorOctets (blob.drop 8) (wrapStream kek t)
  if wrapTag kek hdr k = t then some k else none

/-! ### SHA-256 and SHA-384 (FIPS 180-4) -/

/-- The round constants of SHA-256, first in the top word. -/
def sha256K : Nat := 0x428A2F9871374491B5C0FBCFE9B5DBA53956C25B59F111F1923F82A4AB1C5ED5D807AA9812835B01243185BE550C7DC372BE5D7480DEB1FE9BDC06A7C19BF174E49B69C1EFBE47860FC19DC6240CA1CC2DE92C6F4A7484AA5CB0A9DC76F988DA983E5152A831C66DB00327C8BF597FC7C6E00BF3D5A7914706CA63511429296727B70A852E1B21384D2C6DFC53380D13650A7354766A0ABB81C2C92E92722C85A2BFE8A1A81A664BC24B8B70C76C51A3D192E819D6990624F40E3585106AA07019A4C1161E376C082748774C34B0BCB5391C0CB34ED8AA4A5B9CCA4F682E6FF3748F82EE78A5636F84C878148CC7020890BEFFFAA4506CEBBEF9A3F7C67178F2

/-- The initial hash value of SHA-256. -/
def sha256Init : Nat := 0x6A09E667BB67AE853C6EF372A54FF53A510E527F9B05688C1F83D9AB5BE0CD19

/-- Rotation right of a word of width `w`. -/
def rotr {w : Nat} (x : BitVec w) (n : Nat) : BitVec w := x.rotateRight n

/-- The message schedule grows by `n` words; the list holds the newest first. `d` gives the shift amounts of sigma 0 and
sigma 1. -/
def shaSchedule {w : Nat} (d : Nat × Nat × Nat × Nat × Nat × Nat) : Nat → List (BitVec w) → List (BitVec w)
  | 0, ws => ws
  | n + 1, ws =>
    let x15 := ws.getD 14 0
    let x2 := ws.getD 1 0
    let s0 := rotr x15 d.1 ^^^ rotr x15 d.2.1 ^^^ (x15 >>> d.2.2.1)
    let s1 := rotr x2 d.2.2.2.1 ^^^ rotr x2 d.2.2.2.2.1 ^^^ (x2 >>> d.2.2.2.2.2)
    shaSchedule d n ((ws.getD 15 0 + s0 + ws.getD 6 0 + s1) :: ws)

/-- One round of the compression; `e` gives the rotations of Sigma 0 and Sigma 1. -/
def shaRound {w : Nat} (e : Nat × Nat × Nat × Nat × Nat × Nat) (h : List (BitVec w)) (kw : BitVec w × BitVec w) :
    List (BitVec w) :=
  match h with
  | [a, b, c, d, ee, f, g, hh] =>
    let s1 := rotr ee e.2.2.2.1 ^^^ rotr ee e.2.2.2.2.1 ^^^ rotr ee e.2.2.2.2.2
    let ch := (ee &&& f) ^^^ (~~~ee &&& g)
    let t1 := hh + s1 + ch + kw.1 + kw.2
    let s0 := rotr a e.1 ^^^ rotr a e.2.1 ^^^ rotr a e.2.2.1
    let maj := (a &&& b) ^^^ (a &&& c) ^^^ (b &&& c)
    [t1 + s0 + maj, a, b, c, d + t1, ee, f, g]
  | _ => h

/-- The words of width 8 * `n` of a byte string. -/
def shaWords (w n : Nat) (b : Octets) (count : Nat) : List (BitVec w) :=
  (List.range count).map fun i => BitVec.ofNat w (fieldAt b (n * i) n)

/-- The padded message in blocks of `bl` bytes with a length field of `ll` bytes. -/
def shaPad (bl ll : Nat) (m : Octets) : Octets :=
  let z := (bl - (m.length + 1 + ll) % bl) % bl
  m ++ [0x80#8] ++ List.replicate z 0#8 ++ be ll (8 * m.length)

/-- Blocks of `n` bytes. -/
def chunks (n : Nat) : Nat → Octets → List Octets
  | 0, _ => []
  | f + 1, b => if b.isEmpty then [] else b.take n :: chunks n f (b.drop n)

/-- SHA-256 of a message, 32 bytes. -/
def sha256 (m : Octets) : Octets :=
  let p := shaPad 64 8 m
  let ks : List (BitVec 32) := (List.range 64).map fun i => BitVec.ofNat 32 (sha256K >>> (32 * (63 - i)))
  let h0 : List (BitVec 32) := (List.range 8).map fun i => BitVec.ofNat 32 (sha256Init >>> (32 * (7 - i)))
  let h := (chunks 64 (p.length / 64) p).foldl (fun h b =>
    let ws := (shaSchedule (7, 18, 3, 17, 19, 10) 48 (shaWords 32 4 b 16).reverse).reverse
    List.zipWith (· + ·) h ((List.zip ks ws).foldl (shaRound (2, 13, 22, 6, 11, 25)) h)) h0
  h.flatMap fun x => be 4 x.toNat

/-- The round constants of SHA-384. -/
def sha384K : Nat := 0x428A2F98D728AE227137449123EF65CDB5C0FBCFEC4D3B2FE9B5DBA58189DBBC3956C25BF348B53859F111F1B605D019923F82A4AF194F9BAB1C5ED5DA6D8118D807AA98A303024212835B0145706FBE243185BE4EE4B28C550C7DC3D5FFB4E272BE5D74F27B896F80DEB1FE3B1696B19BDC06A725C71235C19BF174CF692694E49B69C19EF14AD2EFBE4786384F25E30FC19DC68B8CD5B5240CA1CC77AC9C652DE92C6F592B02754A7484AA6EA6E4835CB0A9DCBD41FBD476F988DA831153B5983E5152EE66DFABA831C66D2DB43210B00327C898FB213FBF597FC7BEEF0EE4C6E00BF33DA88FC2D5A79147930AA72506CA6351E003826F142929670A0E6E7027B70A8546D22FFC2E1B21385C26C9264D2C6DFC5AC42AED53380D139D95B3DF650A73548BAF63DE766A0ABB3C77B2A881C2C92E47EDAEE692722C851482353BA2BFE8A14CF10364A81A664BBC423001C24B8B70D0F89791C76C51A30654BE30D192E819D6EF5218D69906245565A910F40E35855771202A106AA07032BBD1B819A4C116B8D2D0C81E376C085141AB532748774CDF8EEB9934B0BCB5E19B48A8391C0CB3C5C95A634ED8AA4AE3418ACB5B9CCA4F7763E373682E6FF3D6B2B8A3748F82EE5DEFB2FC78A5636F43172F6084C87814A1F0AB728CC702081A6439EC90BEFFFA23631E28A4506CEBDE82BDE9BEF9A3F7B2C67915C67178F2E372532BCA273ECEEA26619CD186B8C721C0C207EADA7DD6CDE0EB1EF57D4F7FEE6ED17806F067AA72176FBA0A637DC5A2C898A6113F9804BEF90DAE1B710B35131C471B28DB77F523047D8432CAAB7B40C724933C9EBE0A15C9BEBC431D67C49C100D4C4CC5D4BECB3E42B6597F299CFC657E2A5FCB6FAB3AD6FAEC6C44198C4A475817

/-- The initial hash value of SHA-384. -/
def sha384Init : Nat := 0xCBBB9D5DC1059ED8629A292A367CD5079159015A3070DD17152FECD8F70E593967332667FFC00B318EB44A8768581511DB0C2E0D64F98FA747B5481DBEFA4FA4

/-- SHA-384 of a message, 48 bytes. -/
def sha384 (m : Octets) : Octets :=
  let p := shaPad 128 16 m
  let ks : List (BitVec 64) := (List.range 80).map fun i => BitVec.ofNat 64 (sha384K >>> (64 * (79 - i)))
  let h0 : List (BitVec 64) := (List.range 8).map fun i => BitVec.ofNat 64 (sha384Init >>> (64 * (7 - i)))
  let h := (chunks 128 (p.length / 128) p).foldl (fun h b =>
    let ws := (shaSchedule (1, 8, 7, 19, 61, 6) 64 (shaWords 64 8 b 16).reverse).reverse
    List.zipWith (· + ·) h ((List.zip ks ws).foldl (shaRound (28, 34, 39, 14, 18, 41)) h)) h0
  (h.flatMap fun x => be 8 x.toNat).take 48

/-- HMAC-SHA-256, used by deterministic ECDSA. -/
def hmac256 (k m : Octets) : Octets :=
  let k0 := padTo 64 (if k.length > 64 then sha256 k else k)
  sha256 (k0.map (· ^^^ 0x5C#8) ++ sha256 (k0.map (· ^^^ 0x36#8) ++ m))

/-! ### ECDSA (FIPS 186-5, R440, R441) -/

/-- A short Weierstrass curve with a = -3: prime, b, base point, order and bytes of a coordinate. -/
structure Curve where
  p : Nat
  b : Nat
  gx : Nat
  gy : Nat
  n : Nat
  bytes : Nat
  deriving DecidableEq, Repr

/-- P-256. -/
def curveP256 : Curve :=
  { p := 0xFFFFFFFF00000001000000000000000000000000FFFFFFFFFFFFFFFFFFFFFFFF
    b := 0x5AC635D8AA3A93E7B3EBBD55769886BC651D06B0CC53B0F63BCE3C3E27D2604B
    gx := 0x6B17D1F2E12C4247F8BCE6E563A440F277037D812DEB33A0F4A13945D898C296
    gy := 0x4FE342E2FE1A7F9B8EE7EB4A7C0F9E162BCE33576B315ECECBB6406837BF51F5
    n := 0xFFFFFFFF00000000FFFFFFFFFFFFFFFFBCE6FAADA7179E84F3B9CAC2FC632551
    bytes := 32 }

/-- P-384. -/
def curveP384 : Curve :=
  { p := 0xFFFFFFFFFFFFFFFFFFFFFFFFFFFFFFFFFFFFFFFFFFFFFFFFFFFFFFFFFFFFFFFEFFFFFFFF0000000000000000FFFFFFFF
    b := 0xB3312FA7E23EE7E4988E056BE3F82D19181D9C6EFE8141120314088F5013875AC656398D8A2ED19D2A85C8EDD3EC2AEF
    gx := 0xAA87CA22BE8B05378EB1C71EF320AD746E1D3B628BA79B9859F741E082542A385502F25DBF55296C3A545E3872760AB7
    gy := 0x3617DE4A96262C6F5D9E98BF9292DC29F8F41DBD289A147CE9DA3113B5F0B8C00A60B1CE1D7E819D7A431D7C90EA0E5F
    n := 0xFFFFFFFFFFFFFFFFFFFFFFFFFFFFFFFFFFFFFFFFFFFFFFFFC7634D81F4372DDF581A0DB248B0A77AECEC196ACCC52973
    bytes := 48 }

/-- The extended Euclid loop for a modular inverse. -/
def invLoop : Nat → Int → Int → Int → Int → Int
  | 0, _, _, t, _ => t
  | f + 1, r, r', t, t' => if r' = 0 then t else invLoop f r' (r % r') t' (t - (r / r') * t')

/-- The inverse of `a` modulo `m` (0 for 0). -/
def modInv (a m : Nat) : Nat := ((invLoop 800 m (a % m : Nat) 0 1) % (m : Int)).toNat

/-- A point: none is the point at infinity. -/
abbrev EcPoint := Option (Nat × Nat)

/-- Point addition on a curve with a = -3. -/
def ecAdd (c : Curve) (x y : EcPoint) : EcPoint :=
  match x, y with
  | none, q => q
  | q, none => q
  | some (x1, y1), some (x2, y2) =>
    if x1 = x2 ∧ (y1 + y2) % c.p = 0 then none
    else
      let l :=
        if x1 = x2 then ((3 * x1 * x1 + (c.p - 3)) * modInv (2 * y1) c.p) % c.p
        else ((y2 + (c.p - y1)) * modInv (x2 + (c.p - x1)) c.p) % c.p
      let x3 := (l * l + 2 * c.p - x1 - x2) % c.p
      some (x3, (l * (x1 + c.p - x3) + (c.p - y1)) % c.p)

/-- A point in Jacobian coordinates: x = X / Z², y = Y / Z³; Z = 0 is the point at infinity. -/
structure JacPoint where
  x : Nat
  y : Nat
  z : Nat

/-- Doubling on a curve with a = -3. -/
def jacDouble (p : Nat) (q : JacPoint) : JacPoint :=
  let d := q.z * q.z % p
  let g := q.y * q.y % p
  let b := q.x * g % p
  let a := 3 * ((q.x + p - d) * (q.x + d)) % p
  let x := (a * a + 8 * (p - b)) % p
  { x := x, y := (a * (4 * b + (p - x)) + 8 * (p - g * g % p)) % p, z := 2 * q.y * q.z % p }

/-- Addition of Jacobian points. -/
def jacAdd (p : Nat) (q r : JacPoint) : JacPoint :=
  if q.z = 0 then r
  else if r.z = 0 then q
  else
    let q2 := q.z * q.z % p
    let r2 := r.z * r.z % p
    let u := q.x * r2 % p
    let h := (r.x * q2 + (p - u)) % p
    let s := q.y * r2 % p * r.z % p
    let d := (r.y * q2 % p * q.z + (p - s)) % p
    if h = 0 then (if d = 0 then jacDouble p q else { x := 1, y := 1, z := 0 })
    else
      let h2 := h * h % p
      let h3 := h2 * h % p
      let v := u * h2 % p
      let x := (d * d + (p - h3) + 2 * (p - v)) % p
      { x := x, y := (d * (v + (p - x)) + s * (p - h3)) % p, z := h * q.z % p * r.z % p }

/-- Scalar multiplication, `n` bits of the scalar left. -/
def jacMulLoop (p k : Nat) (q : JacPoint) : Nat → JacPoint → JacPoint
  | 0, acc => acc
  | n + 1, acc =>
    let d := jacDouble p acc
    jacMulLoop p k q n (if bitAt k n then jacAdd p d q else d)

/-- The affine point. -/
def JacPoint.affine (p : Nat) (q : JacPoint) : EcPoint :=
  if q.z = 0 then none
  else
    let i := modInv q.z p
    let i2 := i * i % p
    some (q.x * i2 % p, q.y * (i2 * i % p) % p)

/-- The point `k` times `pt`. -/
def ecMul (c : Curve) (k : Nat) (pt : EcPoint) : EcPoint :=
  match pt with
  | none => none
  | some (x, y) => (jacMulLoop c.p k { x := x, y := y, z := 1 } (8 * c.bytes) { x := 1, y := 1, z := 0 }).affine c.p

/-- The base point. -/
def ecBase (c : Curve) : EcPoint := some (c.gx, c.gy)

/-- X then Y of the public key of a private scalar (R441). -/
def ecPublic (c : Curve) (d : Nat) : Octets :=
  match ecMul c d (ecBase c) with
  | none => List.replicate (2 * c.bytes) 0#8
  | some (x, y) => be c.bytes x ++ be c.bytes y

/-- Candidate nonces of deterministic ECDSA, at most `f` of them. -/
def detNonce (n : Nat) : Nat → Octets → Octets → Nat
  | 0, _, _ => 1
  | f + 1, k, v =>
    let v1 := hmac256 k v
    let t := ofBe v1
    if 1 ≤ t ∧ t < n then t
    else
      let k2 := hmac256 k (v1 ++ [0#8])
      detNonce n f k2 (hmac256 k2 v1)

/-- The deterministic P-256 signature r ‖ s of a SHA-256 digest (R441). -/
def ecdsaSign (d : Nat) (digest : Octets) : Octets :=
  let c := curveP256
  let z := ofBe (digest.take 32)
  let x := be 32 d ++ be 32 (z % c.n)
  let v0 : Octets := List.replicate 32 1#8
  let k1 := hmac256 (List.replicate 32 0#8) (v0 ++ [0#8] ++ x)
  let v1 := hmac256 k1 v0
  let k2 := hmac256 k1 (v1 ++ [1#8] ++ x)
  let k := detNonce c.n 8 k2 (hmac256 k2 v1)
  let r := match ecMul c k (ecBase c) with
    | none => 0
    | some (px, _) => px % c.n
  let s := (modInv k c.n * (z + r * d)) % c.n
  be 32 r ++ be 32 s

/-- Verification of r ‖ s over a digest under a public key X ‖ Y (R440, R441). -/
def ecdsaVerify (c : Curve) (pub digest sig : Octets) : Bool :=
  let w := c.bytes
  let r := ofBe (sig.take w)
  let s := ofBe (sig.drop w)
  let x := ofBe (pub.take w)
  let y := ofBe (pub.drop w)
  let onCurve := x < c.p && y < c.p && (y * y) % c.p == (x * x * x + (c.p - 3) * x + c.b) % c.p
  if pub.length ≠ 2 * w ∨ sig.length ≠ 2 * w ∨ r = 0 ∨ s = 0 ∨ c.n ≤ r ∨ c.n ≤ s ∨ onCurve = false then false
  else
    let z := ofBe (digest.take w)
    let i := modInv s c.n
    match ecAdd c (ecMul c (z * i % c.n) (ecBase c)) (ecMul c (r * i % c.n) (some (x, y))) with
    | none => false
    | some (vx, _) => vx % c.n == r

/-- The P-256 scalar of a 320-bit KDF output (R453). -/
def scalarOf (c : Octets) : Nat := ofBe c % (curveP256.n - 1) + 1

/-! ### CRCs -/

/-- One reflected CRC step over a byte. -/
def crcReflByte (poly : Nat) : Nat → Nat → Nat
  | 0, c => c
  | n + 1, c => crcReflByte poly n (if c % 2 = 1 then (c / 2) ^^^ poly else c / 2)

/-- A reflected CRC: `poly` is the reflected polynomial. -/
def crcRefl (poly init xorOut : Nat) (b : Octets) : Nat :=
  (b.foldl (fun c x => crcReflByte poly 8 (c ^^^ x.toNat)) init) ^^^ xorOut

/-- One step of an unreflected CRC of width `w` over a byte. -/
def crcMsbByte (w poly : Nat) : Nat → Nat → Nat
  | 0, c => c
  | n + 1, c =>
    crcMsbByte w poly n (if bitAt c (w - 1) then ((c * 2) % 2 ^ w) ^^^ poly else (c * 2) % 2 ^ w)

/-- An unreflected CRC of width `w`. -/
def crcMsb (w poly init xorOut : Nat) (b : Octets) : Nat :=
  (b.foldl (fun c x => crcMsbByte w poly 8 (c ^^^ (x.toNat <<< (w - 8)))) init) ^^^ xorOut

/-- The CRC-32 of R756. -/
def crc32 (b : Octets) : Nat := crcRefl 0xEDB88320 0xFFFFFFFF 0xFFFFFFFF b

/-! ### Known answers (R90, R467) -/

/-- The vectors of the cipher known-answer test: key, block and answer of AES-128 and of AES-256, and subkey, block and answer of a
GHASH multiply (R90; PRESUMED: the spec names no vectors, these are those of FIPS 197 and of the GCM specification, log 71). -/
def katAes : List (Octets × Octets × Octets) :=
  [(be 16 0x000102030405060708090A0B0C0D0E0F, be 16 0x00112233445566778899AABBCCDDEEFF, be 16 0x69C4E0D86A7B0430D8CDB78070B4C55A),
    (be 32 0x000102030405060708090A0B0C0D0E0F101112131415161718191A1B1C1D1E1F, be 16 0x00112233445566778899AABBCCDDEEFF,
      be 16 0x8EA2B7CA516745BFEAFC49904B496089)]
def katGhash : List (Octets × Octets × Octets) :=
  [(be 16 0x66E94BD4EF8A2C3B884CFA59CA342B2E, be 16 0x0388DACE60B6A392F328C2B971B2FE78,
    be 16 0x5E2EC746917062882C85B0685353DEB7)]

end Sys2Proof.Machine
end

