-- ==== Sys2Proof/Machine/Parts/Base.lean ====
section
/-! DEFINITION. Plain data shared by the chapters: object values, outputs, offered events and producers. -/

namespace Sys2Proof.Machine

/-- A value of an object or sub-index (R573): a number of an integer type or BOOL, or octets. -/
inductive Val where
  | num (i : Int)
  | oct (b : Octets)
  deriving DecidableEq, Repr

/-- Where octets leave the part. -/
inductive OutPort where
  /-- a UDX message, by transport: 0 and 1 Ethernet ports, 2 the PCIe mailbox (R582, R586) -/
  | udx (transport : Nat)
  /-- what a line lane sends on its channels, bit c for channel c: 0 to 4 a frame of that kind, 16 a claim tone, 17 a pilot tone,
  18 a calibration multitone (07 R231, R245, R258, R276, R281) -/
  | line (tile lane channels kind : Nat)
  /-- a frame a radio lane hands to its transceiver (08 R312) -/
  | radio (tile lane : Nat)
  /-- a tunnel datagram, by tunnel port and the address it goes to (09 R352, R358) -/
  | tunnel (port : Nat) (address : Octets)
  /-- a mirror-link message, by message type (15 R536) -/
  | mirror (kind : Nat)
  /-- a PTP message, by Ethernet port (14 R520) -/
  | ptp (port : Nat)
  /-- an ARP, neighbour discovery or ICMP answer, by Ethernet port (16 R582) -/
  | net (port : Nat)
  /-- a heartbeat, ring control word or NAND command has no octets of its own: a named pulse -/
  | pulse (what tile : Nat)
  deriving DecidableEq, Repr

/-- One output, in the order sent. -/
structure Output where
  port : OutPort
  bytes : Octets := []
  deriving DecidableEq, Repr

/-- An event offered to the recorder and not yet recorded (18 R657). -/
structure Offer where
  code : Nat
  tile : Nat
  /-- the items its event table names, in order; the widths are not stated (log 8) -/
  data : List Nat := []
  /-- rate-limited summary, Flags [6] (R655) -/
  summary : Bool := false
  /-- taken from a buffer, Flags [7] (R655) -/
  buffered : Bool := false
  /-- low 32 bits of timebase seconds at the event -/
  seconds : Nat := 0
  /-- operating seconds at the event -/
  operating : Nat := 0
  deriving DecidableEq, Repr

/-- One rate limiter of R80 and R162. -/
structure Limiter where
  /-- HeatCount at which its interval began -/
  since : Nat := 0
  suppressed : Nat := 0
  /-- items of the last suppressed occurrence -/
  last : List Nat := []
  tile : Nat := 0
  deriving DecidableEq, Repr

/-- The agents that open packets in queues (R135, R154). -/
inductive Producer where
  | pipeline | ringRouter | forwarder | replay | lineLane | radioLane | tunnelPort | management | dma
  deriving DecidableEq, Repr

end Sys2Proof.Machine
end

