-- ==== Sys2Proof/Machine/ObjectTable.lean ====
section
/-! DEFINITION. The object table: index, sub-indices, type, access class, roles, default and range of every object the
chapters define (R573 to R575, R749, R754 and the object table of each chapter), and the severity of every event. -/

namespace Sys2Proof.Machine

/-- The types of R573, with their bytes on the wire. -/
inductive ObjTy where
  | bool
  | u (bytes : Nat)
  | i (bytes : Nat)
  | oct (n : Nat)
  | vstr (n : Nat)
  | domain
  deriving DecidableEq, Repr

/-- The access classes of R574. -/
inductive Access where
  | ro | wo | rw | rwc
  deriving DecidableEq, Repr

/-- One row: a block of sub-indices with one type. Roles are 0 reader, 1 operator, 2 owner. -/
structure ObjRow where
  index : Nat
  lo : Nat
  hi : Nat
  ty : ObjTy
  access : Access
  readRole : Nat
  writeRole : Nat
  /-- the default the table states; none: zero, empty, or a value of Config -/
  dflt : Option Int
  range : Option (Int × Int)
  /-- the service role is named beside the owner -/
  service : Bool
  array : Bool
  /-- a parameter or result of an action record, held per session (R578) -/
  action : Bool
  deriving DecidableEq, Repr

/-- A row of the object table. -/
def objRow (index lo hi : Nat) (ty : ObjTy) (access : Access) (readRole writeRole : Nat) (dflt : Option Int)
    (range : Option (Int × Int)) (service array action : Bool) : ObjRow :=
  { index, lo, hi, ty, access, readRole, writeRole, dflt, range, service, array, action }

/-- Rows of UnitId to OwnerSeedHeader. -/
def objRows0 : List ObjRow := [
  objRow 0x1000 1 1 (.u 8) .ro 0 0 none none false false false,
  objRow 0x1000 2 2 (.vstr 16) .ro 0 0 none none false false false,
  objRow 0x1000 3 3 (.u 1) .ro 0 0 none none false false false,
  objRow 0x1000 4 4 (.u 1) .ro 0 0 none none false false false,
  objRow 0x1000 5 5 (.vstr 4) .ro 0 0 none none false false false,
  objRow 0x1000 6 6 (.u 4) .ro 0 0 none none false false false,
  objRow 0x1000 7 7 (.u 4) .ro 0 0 none none false false false,
  objRow 0x1010 1 2 (.u 1) .rw 0 2 (some 3) (some (0, 3)) false true false,
  objRow 0x1011 1 2 (.oct 6) .ro 0 0 none none false false false,
  objRow 0x1012 1 2 (.oct 16) .rw 0 2 none none false false false,
  objRow 0x1013 1 2 (.u 1) .rw 0 2 (some 64) (some (8, 128)) false false false,
  objRow 0x1014 1 2 (.oct 4) .rw 0 2 none none false false false,
  objRow 0x1015 1 2 (.u 1) .rw 0 2 (some 24) (some (8, 30)) false false false,
  objRow 0x1016 1 2 (.oct 16) .rw 0 2 none none false false false,
  objRow 0x1017 1 2 (.u 1) .rw 0 2 (some 0) (some (0, 31)) false true false,
  objRow 0x1020 1 1 (.u 2) .rwc 0 2 (some 48620) (some (1024, 65535)) false false false,
  objRow 0x1021 1 1 (.u 2) .rw 0 2 (some 50) (some (10, 1000)) false false false,
  objRow 0x1022 1 1 (.u 1) .rw 0 2 (some 32) (some (1, 48)) false false false,
  objRow 0x1022 2 2 (.u 4) .rw 0 2 (some 300) (some (10, 86400)) false false false,
  objRow 0x1023 1 1 (.u 1) .ro 0 0 (some 0) none false false false,
  objRow 0x1023 2 2 (.u 2) .rw 0 2 (some 10) (some (2, 1000)) false false false,
  objRow 0x1023 3 3 (.u 2) .rw 0 2 (some 20) none false false false,
  objRow 0x1023 4 4 (.u 2) .rw 0 2 (some 35) none false false false,
  objRow 0x1024 1 10 (.u 8) .ro 0 0 (some 0) none false true false,
  objRow 0x1025 1 1 (.domain) .ro 2 0 none none false false false,
  objRow 0x1026 1 1 (.u 4) .ro 0 0 (some 0) none false false false,
  objRow 0x1030 1 1 (.u 1) .wo 0 2 none (some (1, 1)) false false false,
  objRow 0x1040 1 1 (.u 1) .ro 0 0 (some 0) none false false false,
  objRow 0x1040 2 2 (.u 1) .ro 0 0 (some 0) none false false false,
  objRow 0x1040 3 3 (.u 1) .ro 0 0 (some 0) none false false false,
  objRow 0x1040 4 4 (.oct 28) .ro 0 0 none none false false false,
  objRow 0x1040 5 5 (.u 4) .ro 0 0 (some 0) none false false false,
  objRow 0x1040 6 6 (.u 4) .ro 0 0 (some 0) none false false false,
  objRow 0x1040 7 7 (.u 1) .ro 0 0 (some 0) none false false false,
  objRow 0x1040 8 8 (.u 1) .ro 0 0 (some 0) none false false false,
  objRow 0x1041 1 1 (.u 1) .ro 0 0 none none false false false,
  objRow 0x1041 2 2 (.u 1) .ro 0 0 (some 32) none false false false,
  objRow 0x1041 3 3 (.u 1) .rw 0 2 (some 0) (some (1, 2)) false false false,
  objRow 0x1041 4 4 (.oct 40) .wo 0 2 none none false false false,
  objRow 0x1041 5 5 (.oct 16) .wo 0 2 none none false false false]

/-- Rows of LifeCycleSubmit to TunnelRingBudget. -/
def objRows1 : List ObjRow := [
  objRow 0x1041 6 6 (.u 1) .wo 0 2 none (some (1, 1)) false false false,
  objRow 0x1042 1 1 (.oct 48) .ro 0 0 none none false false false,
  objRow 0x1042 2 2 (.u 4) .ro 0 0 none none false false false,
  objRow 0x1042 3 3 (.u 4) .ro 0 0 none none false false false,
  objRow 0x1042 4 4 (.u 4) .ro 0 0 none none false false false,
  objRow 0x1043 1 8 (.u 4) .ro 0 0 (some 0) none false true false,
  objRow 0x1044 1 1 (.u 1) .wo 0 2 none (some (1, 1)) false false false,
  objRow 0x1050 1 1 (.u 1) .rwc 0 2 (some 0) none false false false,
  objRow 0x1050 2 2 (.u 1) .rwc 0 2 (some 0) none false false false,
  objRow 0x1050 3 3 (.u 1) .rwc 0 2 (some 0) (some (0, 1)) false false false,
  objRow 0x1050 4 4 (.u 2) .rw 0 2 (some 100) (some (1, 10000)) false false false,
  objRow 0x1050 5 5 (.u 1) .ro 0 0 (some 0) none false false false,
  objRow 0x1050 6 6 (.u 4) .ro 0 0 (some 0) none false false false,
  objRow 0x1060 1 3 (.u 1) .rw 0 2 (some 0) (some (0, 3)) false true false,
  objRow 0x1061 1 1 (.u 1) .ro 0 0 (some 0) none false false false,
  objRow 0x1062 1 1 (.u 2) .ro 0 0 (some 0) none false false false,
  objRow 0x2001 1 1 (.u 8) .ro 0 0 (some 0) none false false false,
  objRow 0x2040 1 8 (.u 4) .ro 0 0 (some 0) none false true false,
  objRow 0x2041 1 8 (.u 4) .ro 0 0 (some 0) none false true false,
  objRow 0x2010 1 64 (.u 1) .ro 0 0 (some 0) none false true false,
  objRow 0x2012 1 1 (.u 4) .ro 0 0 (some 0) none false false false,
  objRow 0x2012 2 2 (.u 4) .ro 0 0 (some 0) none false false false,
  objRow 0x2012 3 3 (.u 4) .ro 0 0 (some 0) none false false false,
  objRow 0x2013 1 1 (.u 1) .wo 0 2 none (some (1, 1)) false false false,
  objRow 0x2014 1 1 (.u 4) .rw 0 2 (some 100000) (some (1000, 10000000)) false false false,
  objRow 0x2018 1 1 (.u 1) .wo 0 2 none (some (1, 1)) true false false,
  objRow 0x2018 2 2 (.u 4) .ro 0 0 (some 0) none false false false,
  objRow 0x2020 1 10 (.u 8) .ro 0 0 (some 0) none false true false,
  objRow 0x2100 1 1 (.u 1) .wo 0 1 none (some (1, 2)) false false false,
  objRow 0x2100 2 2 (.u 1) .ro 0 0 (some 0) none false false false,
  objRow 0x2100 3 3 (.u 2) .ro 0 0 (some 0) none false false false,
  objRow 0x2100 4 4 (.u 4) .ro 0 0 (some 0) none false false false,
  objRow 0x2100 5 5 (.u 4) .ro 0 0 (some 0) none false false false,
  objRow 0x2100 6 6 (.u 2) .ro 0 0 (some 0) none false false false,
  objRow 0x2100 7 7 (.u 8) .ro 0 0 (some 0) none false false false,
  objRow 0x2100 8 8 (.u 4) .ro 0 0 none none false false false,
  objRow 0x2100 9 9 (.u 4) .ro 0 0 (some 0) none false false false,
  objRow 0x2101 1 1 (.oct 32) .ro 0 0 none none false false false,
  objRow 0x2101 2 2 (.oct 32) .ro 0 0 none none false false false,
  objRow 0x2101 3 3 (.oct 32) .ro 0 0 none none false false false,
  objRow 0x2101 4 4 (.domain) .ro 1 0 none none false false false,
  objRow 0x2102 1 1 (.u 4) .rw 0 2 (some 5000) (some (1000, 30000)) false false false,
  objRow 0x2104 1 1 (.u 1) .rw 0 1 (some 24) (some (8, 64)) false false false]

/-- Rows of RingLinkClaim to ZcInputDelay. -/
def objRows2 : List ObjRow := [
  objRow 0x2105 1 16 (.u 2) .ro 0 0 (some 0) none false true false,
  objRow 0x2200 1 1 (.u 4) .rw 0 2 (some 100) (some (20, 10000)) false false false,
  objRow 0x2201 1 8 (.domain) .ro 0 0 none none false false false,
  objRow 0x2202 1 8 (.u 8) .ro 0 0 (some 0) none false true false,
  objRow 0x2203 1 8 (.u 8) .ro 0 0 (some 0) none false true false,
  objRow 0x2204 1 8 (.u 8) .ro 0 0 (some 0) none false true false,
  objRow 0x2205 1 8 (.u 8) .ro 0 0 (some 0) none false true false,
  objRow 0x2206 1 8 (.u 4) .ro 0 0 none none false true false,
  objRow 0x2300 1 1 (.u 4) .rw 0 2 (some 1000) (some (100, 60000)) false false false,
  objRow 0x2300 2 2 (.u 4) .rw 0 2 (some 3600) (some (60, 604800)) false false false,
  objRow 0x2300 3 3 (.u 4) .rw 0 2 (some 1000) (some (1, 100000)) false false false,
  objRow 0x2300 4 4 (.u 2) .rw 0 2 (some 64) (some (1, 256)) false false false,
  objRow 0x2300 5 5 (.u 2) .rw 0 2 (some 100) (some (10, 1000)) false false false,
  objRow 0x2300 6 6 (.u 2) .rw 0 2 (some 100) (some (0, 500)) false false false,
  objRow 0x2300 7 7 (.u 2) .rw 0 2 (some 4) (some (1, 1000)) false false false,
  objRow 0x2301 1 8 (.domain) .ro 0 0 none none false false false,
  objRow 0x2302 1 8 (.u 4) .ro 0 0 (some 0) none false true false,
  objRow 0x2303 1 96 (.u 2) .ro 0 0 (some 0) none false true false,
  objRow 0x2304 1 64 (.u 4) .ro 0 0 (some 0) none false true false,
  objRow 0x2305 1 8 (.u 2) .ro 0 0 (some 0) none false true false,
  objRow 0x2306 1 8 (.u 8) .ro 0 0 (some 0) none false true false,
  objRow 0x2400 1 1 (.domain) .rw 0 2 none none false false false,
  objRow 0x2401 1 1 (.u 4) .rw 0 2 (some 500) (some (100, 50000)) false false false,
  objRow 0x2401 2 2 (.u 4) .rw 0 2 (some 900) (some (60, 86400)) false false false,
  objRow 0x2402 1 1 (.u 4) .rw 0 2 (some 60) (some (10, 3600)) false false false,
  objRow 0x2403 1 9 (.u 8) .ro 0 0 (some 0) none false true false,
  objRow 0x3000 1 32 (.u 1) .rw 0 1 (some 0) (some (0, 1)) false true false,
  objRow 0x3001 1 32 (.u 1) .rw 0 2 (some 0) (some (0, 1)) false true false,
  objRow 0x3002 1 32 (.u 1) .ro 0 0 (some 0) none false true false,
  objRow 0x3003 1 1 (.u 1) .rw 0 2 (some 1) none false false false,
  objRow 0x3003 2 2 (.domain) .rw 0 2 none none false false false,
  objRow 0x3004 1 96 (.u 1) .rw 0 1 (some 12) (some (0, 63)) false true false,
  objRow 0x3005 1 1 (.i 1) .rw 0 2 (some (-60)) (some (-80, -40)) false false false,
  objRow 0x3006 1 1 (.u 1) .rw 0 2 (some 7) (some (1, 15)) false false false,
  objRow 0x3006 2 2 (.u 2) .rw 0 2 (some 30) (some (5, 600)) false false false,
  objRow 0x3006 3 3 (.u 1) .rw 0 2 (some 12) (some (0, 40)) false false false,
  objRow 0x3006 4 4 (.u 1) .rw 0 2 (some 6) (some (3, 20)) false false false,
  objRow 0x3007 1 1 (.u 2) .rw 0 2 (some 1000) (some (0, 5000)) false false false,
  objRow 0x3007 2 2 (.u 1) .rw 0 2 (some 8) (some (3, 64)) false false false,
  objRow 0x3010 1 24 (.i 4) .rw 0 2 (some 0) (some (-100000, 100000)) false true false]

/-- Rows of ZcWindow to DownlinkHoldLimit. -/
def objRows3 : List ObjRow := [
  objRow 0x3011 1 1 (.u 2) .rw 0 2 (some 200) (some (50, 1000)) false false false,
  objRow 0x3011 2 2 (.u 1) .rw 0 2 (some 50) (some (5, 250)) false false false,
  objRow 0x3012 1 24 (.u 4) .ro 0 0 (some 0) none false true false,
  objRow 0x3013 1 1 (.u 4) .ro 0 0 (some 0) none false false false,
  objRow 0x3013 2 2 (.u 4) .ro 0 0 (some 0) none false false false,
  objRow 0x3013 3 3 (.u 1) .ro 0 0 (some 0) none false false false,
  objRow 0x3013 4 11 (.u 1) .ro 0 0 (some 2) none false true false,
  objRow 0x3014 1 1 (.u 1) .rw 0 2 (some 20) (some (5, 40)) false false false,
  objRow 0x3014 2 2 (.u 1) .rw 0 2 (some 5) (some (1, 32)) false false false,
  objRow 0x3020 1 96 (.u 1) .ro 0 0 (some 0) none false true false,
  objRow 0x3021 1 1 (.u 2) .rw 0 2 (some 1000) (some (100, 60000)) false false false,
  objRow 0x3022 1 1 (.u 1) .wo 0 1 none (some (1, 96)) false false false,
  objRow 0x3022 2 2 (.u 1) .ro 0 0 (some 0) none false false false,
  objRow 0x3023 1 96 (.oct 64) .ro 0 0 none none false false false,
  objRow 0x3030 1 32 (.domain) .ro 0 0 none none false false false,
  objRow 0x3031 1 32 (.u 2) .ro 0 0 (some 0) none false true false,
  objRow 0x3800 1 64 (.u 1) .rw 0 1 (some 0) (some (0, 1)) false true false,
  objRow 0x3801 1 64 (.u 1) .ro 0 0 (some 0) none false true false,
  objRow 0x3802 1 64 (.u 1) .rw 0 2 (some 2) none false true false,
  objRow 0x3803 1 1 (.u 1) .rw 0 2 (some 8) (some (4, 64)) false false false,
  objRow 0x3803 2 2 (.u 2) .rw 0 2 (some 600) (some (100, 5000)) false false false,
  objRow 0x3803 3 3 (.u 1) .rw 0 2 (some 6) (some (5, 7)) false false false,
  objRow 0x3803 4 4 (.bool) .rw 0 2 (some 1) none false false false,
  objRow 0x3804 1 1 (.u 2) .rw 0 2 (some 250) (some (100, 2000)) false false false,
  objRow 0x3804 2 2 (.u 2) .rw 0 2 (some 500) (some (300, 5000)) false false false,
  objRow 0x3804 3 3 (.u 1) .rw 0 2 (some 25) (some (5, 90)) false false false,
  objRow 0x3804 4 4 (.u 1) .rw 0 2 (some 4) (some (0, 16)) false false false,
  objRow 0x3805 1 64 (.u 4) .rw 0 2 (some 0) (some (0, 1023999999)) false true false,
  objRow 0x3806 1 1 (.u 1) .rw 0 2 (some 1) (some (1, 64)) false false false,
  objRow 0x3806 2 2 (.domain) .rw 0 2 none none false false false,
  objRow 0x3806 3 3 (.u 1) .rw 0 2 (some 0) none false false false,
  objRow 0x3806 4 4 (.u 1) .rw 0 2 (some 1) none false false false,
  objRow 0x3807 1 1 (.u 2) .rw 0 2 (some 400) (some (1, 60000)) false false false,
  objRow 0x3807 2 2 (.u 2) .rw 0 2 (some 20) (some (1, 3600)) false false false,
  objRow 0x3807 3 3 (.u 2) .rw 0 2 (some 100) (some (0, 1000)) false false false,
  objRow 0x3808 1 1 (.u 2) .rw 0 2 (some 200) (some (50, 2000)) false false false,
  objRow 0x3808 2 2 (.u 2) .rw 0 2 (some 100) (some (0, 1000)) false false false,
  objRow 0x3808 3 3 (.i 4) .rw 0 2 (some 0) (some (-100000, 100000)) false false false,
  objRow 0x3808 5 5 (.domain) .rw 0 2 none none false false false,
  objRow 0x3809 1 1 (.u 4) .rw 0 2 (some 600) (some (10, 86400)) false false false]

/-- Rows of RadioLaneCounters to LossEnable. -/
def objRows4 : List ObjRow := [
  objRow 0x380A 1 64 (.domain) .ro 0 0 none none false false false,
  objRow 0x380B 1 64 (.u 4) .ro 0 0 (some 0) none false true false,
  objRow 0x380C 1 1 (.u 2) .ro 0 0 (some 0) none false false false,
  objRow 0x380C 2 2 (.u 1) .wo 0 2 none (some (1, 1)) false false false,
  objRow 0x380D 1 64 (.u 4) .ro 0 0 (some 0) none false true false,
  objRow 0x3C00 1 3 (.u 1) .rw 0 1 (some 0) (some (0, 1)) false true false,
  objRow 0x3C01 1 1 (.u 2) .rw 0 2 (some 48621) none false false false,
  objRow 0x3C02 1 1 (.u 4) .rw 0 2 (some 1000) (some (100, 60000)) false false false,
  objRow 0x3C03 1 1 (.domain) .rw 0 2 none none false false false,
  objRow 0x3C04 1 1 (.u 1) .rw 0 2 (some 0) (some (0, 1)) false false false,
  objRow 0x3C04 2 2 (.oct 16) .rw 0 2 none none false false false,
  objRow 0x3C05 1 6 (.u 8) .ro 0 0 (some 0) none false true false,
  objRow 0x3C06 1 1 (.domain) .ro 0 0 none none false false false,
  objRow 0x4000 1 1 (.u 4) .rw 0 2 (some 1000) (some (100, 60000)) false false false,
  objRow 0x4000 2 2 (.u 4) .ro 0 0 (some 0) none false false false,
  objRow 0x4001 1 1 (.u 2) .rw 0 2 (some 30) (some (5, 3600)) false false false,
  objRow 0x4001 2 2 (.u 2) .rw 0 2 (some 10) (some (1, 600)) false false false,
  objRow 0x4002 1 1 (.u 2) .rw 0 2 (some 300) (some (30, 3600)) false false false,
  objRow 0x4003 1 10 (.u 8) .ro 0 0 (some 0) none false true false,
  objRow 0x4010 1 255 (.oct 32) .rw 0 2 none none false false false,
  objRow 0x4120 1 1 (.u 1) .rw 0 1 (some 0) (some (0, 254)) false false false,
  objRow 0x4120 2 2 (.domain) .rw 0 1 none none false false false,
  objRow 0x4120 3 3 (.u 2) .ro 0 0 (some 0) none false false false,
  objRow 0x4120 4 4 (.u 2) .ro 0 0 (some 0) none false false false,
  objRow 0x4120 5 5 (.u 4) .rw 0 1 (some 0) none false false false,
  objRow 0x4120 6 6 (.u 1) .wo 0 1 none (some (1, 1)) false false false,
  objRow 0x4120 7 7 (.u 4) .ro 0 0 (some 0) none false false false,
  objRow 0x4121 1 255 (.u 1) .ro 0 0 (some 0) none false true false,
  objRow 0x4130 1 1 (.u 1) .rw 0 1 none none false false true,
  objRow 0x4130 2 2 (.u 4) .rw 0 1 none none false false true,
  objRow 0x4130 3 3 (.u 1) .wo 0 1 none (some (1, 1)) false false true,
  objRow 0x4131 1 255 (.u 4) .ro 0 0 (some 0) none false true false,
  objRow 0x4140 1 8 (.u 1) .rw 0 2 (some 1) (some (0, 2)) false true false,
  objRow 0x4141 1 8 (.u 8) .ro 0 0 (some 0) none false true false,
  objRow 0x4142 1 1 (.u 1) .rw 0 1 none none false false true,
  objRow 0x4142 2 2 (.u 1) .rw 0 1 none none false false true,
  objRow 0x4142 3 3 (.u 1) .rw 0 1 none none false false true,
  objRow 0x4142 4 4 (.u 1) .wo 0 1 none (some (1, 1)) false false true,
  objRow 0x4143 1 1 (.domain) .ro 0 0 none none false false false,
  objRow 0x4800 1 1 (.bool) .rw 0 2 (some 0) none false false false]

/-- Rows of SnapshotInterval to KeyExport. -/
def objRows5 : List ObjRow := [
  objRow 0x4801 1 1 (.u 4) .rw 0 2 (some 900) (some (60, 86400)) false false false,
  objRow 0x4801 2 2 (.u 1) .rw 0 2 (some 3) (some (1, 32)) false false false,
  objRow 0x4801 3 3 (.u 2) .rw 0 2 (some 100) (some (10, 5000)) false false false,
  objRow 0x4801 4 4 (.u 2) .rw 0 2 (some 20) (some (1, 500)) false false false,
  objRow 0x4801 5 5 (.u 2) .rw 0 2 (some 100) (some (1, 500)) false false false,
  objRow 0x4801 6 6 (.u 1) .rw 0 2 (some 8) (some (2, 255)) false false false,
  objRow 0x4801 7 7 (.u 4) .rw 0 2 (some 1000) none false false false,
  objRow 0x4801 8 8 (.u 4) .rw 0 2 (some 86400) (some (900, 604800)) false false false,
  objRow 0x4802 1 1 (.u 2) .rw 0 1 none none false false true,
  objRow 0x4802 2 2 (.u 1) .wo 0 1 none (some (1, 1)) false false true,
  objRow 0x4810 1 1 (.domain) .rw 0 2 none none false false false,
  objRow 0x4820 1 1 (.domain) .ro 0 0 none none false false false,
  objRow 0x4822 1 1 (.domain) .ro 0 0 none none false false false,
  objRow 0x4840 1 1 (.u 4) .ro 0 0 (some 0) none false false false,
  objRow 0x4841 1 1 (.domain) .ro 0 0 none none false false false,
  objRow 0x4850 1 7 (.u 8) .ro 0 0 (some 0) none false true false,
  objRow 0x5001 1 8 (.domain) .ro 0 0 none none false false false,
  objRow 0x5002 1 8 (.u 2) .ro 0 0 none none false true false,
  objRow 0x5003 1 1 (.u 2) .rw 0 2 none (some (0, 1023)) true false true,
  objRow 0x5003 2 2 (.u 1) .wo 0 2 none (some (1, 1)) true false true,
  objRow 0x5010 1 26 (.u 2) .rw 0 2 (some 0) none false true false,
  objRow 0x5011 1 32 (.u 1) .rw 0 2 none (some (0, 14)) false true false,
  objRow 0x5011 33 96 (.u 1) .rw 0 2 (some 1) (some (0, 14)) false true false,
  objRow 0x5012 1 15 (.u 2) .rw 0 2 (some 1) none false true false,
  objRow 0x5020 1 1 (.oct 64) .ro 0 0 none none false false false,
  objRow 0x5020 2 2 (.oct 64) .ro 0 0 none none false false false,
  objRow 0x5020 3 3 (.oct 64) .ro 0 0 none none false false false,
  objRow 0x5020 4 4 (.u 2) .ro 0 0 none none false false false,
  objRow 0x5021 1 1 (.domain) .ro 0 0 none none false false false,
  objRow 0x5022 1 1 (.domain) .ro 0 0 none none false false false,
  objRow 0x5030 1 1 (.u 2) .rw 0 2 none none false false true,
  objRow 0x5030 2 2 (.u 2) .rw 0 2 none none false false true,
  objRow 0x5030 3 3 (.oct 16) .rw 0 2 none none false false true,
  objRow 0x5030 4 4 (.oct 40) .rw 0 2 none none false false true,
  objRow 0x5030 5 5 (.u 1) .wo 0 2 none (some (1, 1)) false false true,
  objRow 0x5031 1 1 (.u 1) .rw 0 2 none none false false true,
  objRow 0x5031 2 2 (.u 2) .rw 0 2 none none false false true,
  objRow 0x5031 3 3 (.u 4) .rw 0 2 none none false false true,
  objRow 0x5031 4 4 (.u 2) .rw 0 2 none none false false true,
  objRow 0x5031 5 5 (.u 2) .rw 0 2 none none false false true,
  objRow 0x5031 6 6 (.u 1) .wo 0 2 none (some (1, 1)) false false true]

/-- Rows of KeyExport to CircularWindowTable. -/
def objRows6 : List ObjRow := [
  objRow 0x5031 7 7 (.oct 40) .ro 0 2 none none false false true,
  objRow 0x5040 1 1 (.u 8) .ro 0 2 none none false false true,
  objRow 0x5040 2 2 (.u 2) .rw 0 2 none none false false true,
  objRow 0x5040 3 3 (.oct 14) .rw 0 2 none none false false true,
  objRow 0x5040 4 4 (.oct 16) .rw 0 2 none none false false true,
  objRow 0x5040 5 5 (.u 1) .wo 0 2 none (some (1, 1)) false false true,
  objRow 0x5040 6 6 (.u 1) .ro 0 2 none none false false true,
  objRow 0x5050 1 8 (.u 2) .ro 0 0 (some 0) none false true false,
  objRow 0x5051 1 1 (.u 4) .ro 0 0 (some 0) none false false false,
  objRow 0x5052 1 9 (.u 8) .ro 0 0 (some 0) none false true false,
  objRow 0x6000 1 8 (.domain) .ro 0 0 none none false false false,
  objRow 0x6001 1 1 (.oct 4) .rw 0 2 none none false false false,
  objRow 0x6002 1 1 (.u 2) .rw 0 2 (some 120) (some (50, 250)) false false false,
  objRow 0x6002 2 2 (.u 2) .rw 0 2 (some 80) (some (40, 150)) false false false,
  objRow 0x6003 1 1 (.u 2) .rw 0 2 (some 1000) (some (0, 1000)) false false false,
  objRow 0x6003 2 2 (.u 2) .rw 0 2 (some 200) (some (0, 1000)) false false false,
  objRow 0x6003 3 3 (.u 2) .rw 0 2 (some 300) (some (0, 1000)) false false false,
  objRow 0x6003 4 4 (.u 2) .rw 0 2 (some 30) (some (10, 200)) false false false,
  objRow 0x6003 5 5 (.u 2) .rw 0 2 (some 50) none false false false,
  objRow 0x6004 1 1 (.u 4) .rw 0 2 (some 86400) (some (3600, 2592000)) false false false,
  objRow 0x6004 2 2 (.u 2) .rw 0 2 (some 35) (some (1, 400)) false false false,
  objRow 0x6004 3 3 (.u 2) .rw 0 2 (some 400) none false false false,
  objRow 0x6004 4 4 (.u 1) .rw 0 2 (some 13) (some (2, 24)) false false false,
  objRow 0x6004 5 5 (.u 4) .rw 0 2 (some 1200) (some (300, 7200)) false false false,
  objRow 0x6005 1 8 (.u 1) .ro 0 0 (some 2) none false true false,
  objRow 0x6006 1 8 (.u 1) .ro 0 0 (some 0) none false true false,
  objRow 0x6007 1 8 (.domain) .ro 0 0 none none false false false,
  objRow 0x6008 1 8 (.u 2) .ro 0 0 (some 0) none false true false,
  objRow 0x6009 1 1 (.u 4) .rw 0 2 none none false false true,
  objRow 0x6009 2 2 (.u 1) .wo 0 2 none (some (1, 1)) false false true,
  objRow 0x600A 1 1 (.u 1) .wo 0 2 none none false false false,
  objRow 0x600B 1 8 (.u 1) .ro 0 0 (some 0) none false true false,
  objRow 0x600C 1 10 (.u 8) .ro 0 0 (some 0) none false true false,
  objRow 0x6010 1 8 (.domain) .ro 0 0 none none false false false,
  objRow 0x6011 1 8 (.u 4) .ro 0 0 none none false true false,
  objRow 0x6801 1 8 (.domain) .ro 0 0 none none false false false,
  objRow 0x6802 1 8 (.domain) .ro 0 0 none none false false false,
  objRow 0x6803 1 8 (.u 8) .ro 0 0 (some 0) none false true false,
  objRow 0x6804 1 8 (.u 4) .rw 0 2 (some 4294967295) none false true false,
  objRow 0x6805 1 8 (.domain) .ro 0 0 none none false false false]

/-- Rows of ScratchCorrectedCount to TimeSource. -/
def objRows7 : List ObjRow := [
  objRow 0x6810 1 8 (.u 8) .ro 0 0 (some 0) none false true false,
  objRow 0x6811 1 8 (.u 8) .ro 0 0 (some 0) none false true false,
  objRow 0x6812 1 8 (.u 8) .ro 0 0 (some 0) none false true false,
  objRow 0x6813 1 8 (.u 8) .ro 0 0 (some 0) none false true false,
  objRow 0x6814 1 8 (.oct 16) .ro 0 0 none none false false false,
  objRow 0x6815 1 8 (.u 8) .ro 0 0 (some 0) none false true false,
  objRow 0x6816 1 8 (.u 1) .ro 0 0 (some 0) none false true false,
  objRow 0x6820 1 1 (.u 1) .rw 0 2 none none true false false,
  objRow 0x6820 2 2 (.u 1) .rw 0 2 none none true false false,
  objRow 0x6820 3 3 (.u 4) .rw 0 2 none none true false false,
  objRow 0x6820 4 4 (.oct 9) .rw 0 2 none none true false false,
  objRow 0x6820 5 5 (.u 1) .rw 0 2 none none true false false,
  objRow 0x6821 1 1 (.u 1) .rw 0 2 none none true false false,
  objRow 0x6821 2 2 (.u 8) .rw 0 2 none none true false false,
  objRow 0x6821 3 3 (.oct 36) .rw 0 2 none none true false false,
  objRow 0x6821 4 4 (.u 1) .rw 0 2 none none true false false,
  objRow 0x6822 1 1 (.u 1) .rw 0 2 none none true false false,
  objRow 0x6822 2 2 (.u 1) .rw 0 2 none (some (0, 1)) true false false,
  objRow 0x6822 3 3 (.u 1) .rw 0 2 none (some (0, 63)) true false false,
  objRow 0x6822 4 4 (.oct 32) .rw 0 2 none none true false false,
  objRow 0x6822 5 5 (.u 1) .rw 0 2 none (some (1, 2)) true false false,
  objRow 0x6822 6 6 (.u 1) .ro 0 2 none none true false false,
  objRow 0x6830 1 1 (.u 2) .rw 0 2 (some 64) (some (16, 256)) false false false,
  objRow 0x6830 2 2 (.u 4) .rw 0 2 (some 8192) (some (1024, 65536)) false false false,
  objRow 0x6831 1 8 (.u 4) .ro 0 0 (some 0) none false true false,
  objRow 0x6832 1 8 (.u 4) .ro 0 0 (some 0) none false true false,
  objRow 0x6833 1 8 (.u 4) .ro 0 0 (some 0) none false true false,
  objRow 0x6834 1 8 (.u 4) .ro 0 0 (some 0) none false true false,
  objRow 0x7000 1 1 (.u 4) .ro 0 0 none none false false false,
  objRow 0x7000 2 2 (.u 8) .ro 0 0 none none false false false,
  objRow 0x7001 1 1 (.u 8) .ro 0 0 none none false false false,
  objRow 0x7001 2 2 (.u 4) .ro 0 0 none none false false false,
  objRow 0x7001 3 3 (.u 4) .ro 0 0 none none false false false,
  objRow 0x7001 4 4 (.u 8) .ro 0 0 none none false false false,
  objRow 0x7002 1 1 (.u 1) .ro 0 0 (some 0) none false false false,
  objRow 0x7002 2 2 (.u 1) .ro 0 0 (some 1) none false false false,
  objRow 0x7002 3 3 (.i 8) .ro 0 0 (some 0) none false false false,
  objRow 0x7002 4 4 (.i 4) .ro 0 0 (some 0) none false false false,
  objRow 0x7002 5 5 (.u 4) .ro 0 0 (some 0) none false false false,
  objRow 0x7003 1 1 (.u 1) .rw 0 2 (some 1) (some (0, 4)) false false false]

/-- Rows of StepThreshold to TimeOutput1. -/
def objRows8 : List ObjRow := [
  objRow 0x7004 1 1 (.u 4) .rw 0 2 (some 1000) (some (1, 1000000)) false false false,
  objRow 0x7004 2 2 (.u 1) .rw 0 2 (some 4) (some (2, 16)) false false false,
  objRow 0x7004 3 3 (.u 4) .rw 0 2 (some 600) (some (10, 86400)) false false false,
  objRow 0x7005 1 1 (.u 4) .rw 0 2 (some 1000) (some (50, 1000000)) false false false,
  objRow 0x7005 2 2 (.u 4) .rw 0 2 (some 1000) (some (1, 3600000)) false false false,
  objRow 0x7005 3 3 (.u 2) .rw 0 2 (some 100) (some (10, 1000)) false false false,
  objRow 0x7005 4 4 (.u 2) .rw 0 2 (some 3) (some (1, 60)) false false false,
  objRow 0x7012 1 1 (.i 2) .rw 0 2 (some 37) none false false false,
  objRow 0x7012 2 2 (.i 4) .ro 0 0 (some 37000) none false false false,
  objRow 0x7012 3 3 (.i 1) .ro 0 0 (some 0) none false false false,
  objRow 0x7020 1 1 (.u 8) .rw 0 2 none none false false true,
  objRow 0x7020 2 2 (.u 4) .rw 0 2 none none false false true,
  objRow 0x7020 3 3 (.u 1) .wo 0 2 none (some (1, 1)) false false true,
  objRow 0x7021 1 1 (.u 1) .rw 0 2 (some 0) (some (0, 127)) false false false,
  objRow 0x7021 2 2 (.u 1) .rw 0 2 (some 0) (some (0, 1)) false false false,
  objRow 0x7021 3 3 (.bool) .rw 0 2 (some 1) none false false false,
  objRow 0x7021 4 4 (.u 1) .rw 0 2 (some 128) none false false false,
  objRow 0x7021 5 5 (.u 1) .rw 0 2 (some 128) none false false false,
  objRow 0x7021 6 6 (.u 1) .rw 0 2 (some 0) (some (0, 2)) false false false,
  objRow 0x7022 1 2 (.i 4) .rw 0 2 (some 0) none false true false,
  objRow 0x7023 1 2 (.i 4) .rw 0 2 (some 0) none false true false,
  objRow 0x7024 1 1 (.u 1) .ro 0 0 (some 1) none false false false,
  objRow 0x7025 1 1 (.oct 10) .ro 0 0 none none false false false,
  objRow 0x7026 1 8 (.u 8) .ro 0 0 (some 0) none false true false,
  objRow 0x7030 1 1 (.u 1) .rw 0 1 none (some (0, 4)) false false false,
  objRow 0x7030 2 2 (.u 8) .rw 0 1 none none false false false,
  objRow 0x7030 3 3 (.u 8) .rw 0 1 none none false false false,
  objRow 0x7030 4 4 (.u 4) .rw 0 1 none none false false false,
  objRow 0x7030 5 5 (.bool) .rw 0 1 none none false false false,
  objRow 0x7030 6 6 (.u 1) .wo 0 1 none (some (1, 1)) false false false,
  objRow 0x7030 7 7 (.u 1) .ro 0 1 none none false false false,
  objRow 0x7030 8 8 (.u 4) .rw 0 1 none none false false false,
  objRow 0x7030 9 9 (.i 4) .rw 0 1 none none false false false,
  objRow 0x7031 1 1 (.u 1) .rw 0 1 none (some (0, 4)) false false false,
  objRow 0x7031 2 2 (.u 8) .rw 0 1 none none false false false,
  objRow 0x7031 3 3 (.u 8) .rw 0 1 none none false false false,
  objRow 0x7031 4 4 (.u 4) .rw 0 1 none none false false false,
  objRow 0x7031 5 5 (.bool) .rw 0 1 none none false false false,
  objRow 0x7031 6 6 (.u 1) .wo 0 1 none (some (1, 1)) false false false,
  objRow 0x7031 7 7 (.u 1) .ro 0 1 none none false false false]

/-- Rows of TimeOutput1 to RepairLimit. -/
def objRows9 : List ObjRow := [
  objRow 0x7031 8 8 (.u 4) .rw 0 1 none none false false false,
  objRow 0x7031 9 9 (.i 4) .rw 0 1 none none false false false,
  objRow 0x7032 1 1 (.u 1) .rw 0 1 none (some (0, 4)) false false false,
  objRow 0x7032 2 2 (.u 8) .rw 0 1 none none false false false,
  objRow 0x7032 3 3 (.u 8) .rw 0 1 none none false false false,
  objRow 0x7032 4 4 (.u 4) .rw 0 1 none none false false false,
  objRow 0x7032 5 5 (.bool) .rw 0 1 none none false false false,
  objRow 0x7032 6 6 (.u 1) .wo 0 1 none (some (1, 1)) false false false,
  objRow 0x7032 7 7 (.u 1) .ro 0 1 none none false false false,
  objRow 0x7032 8 8 (.u 4) .rw 0 1 none none false false false,
  objRow 0x7032 9 9 (.i 4) .rw 0 1 none none false false false,
  objRow 0x7033 1 1 (.u 1) .rw 0 1 none (some (0, 4)) false false false,
  objRow 0x7033 2 2 (.u 8) .rw 0 1 none none false false false,
  objRow 0x7033 3 3 (.u 8) .rw 0 1 none none false false false,
  objRow 0x7033 4 4 (.u 4) .rw 0 1 none none false false false,
  objRow 0x7033 5 5 (.bool) .rw 0 1 none none false false false,
  objRow 0x7033 6 6 (.u 1) .wo 0 1 none (some (1, 1)) false false false,
  objRow 0x7033 7 7 (.u 1) .ro 0 1 none none false false false,
  objRow 0x7033 8 8 (.u 4) .rw 0 1 none none false false false,
  objRow 0x7033 9 9 (.i 4) .rw 0 1 none none false false false,
  objRow 0x7038 1 1 (.domain) .ro 0 0 none none false false false,
  objRow 0x7040 1 1 (.u 4) .ro 0 0 none none false false false,
  objRow 0x7040 2 2 (.u 8) .ro 0 0 none none false false false,
  objRow 0x7040 3 3 (.u 8) .ro 0 0 none none false false false,
  objRow 0x8000 1 1 (.u 1) .rw 0 2 (some 0) (some (0, 1)) false false false,
  objRow 0x8000 2 2 (.bool) .rw 0 2 (some 0) none false false false,
  objRow 0x8000 3 3 (.u 1) .rw 0 2 (some 1) none false false false,
  objRow 0x8000 4 4 (.oct 16) .rw 0 2 none none false false false,
  objRow 0x8000 5 5 (.u 2) .rw 0 2 (some 5) (some (1, 15)) false false false,
  objRow 0x8001 1 1 (.u 1) .ro 0 0 (some 0) none false false false,
  objRow 0x8001 2 2 (.u 1) .ro 0 0 (some 0) none false false false,
  objRow 0x8001 3 3 (.u 8) .ro 0 0 (some 0) none false false false,
  objRow 0x8001 4 4 (.u 1) .ro 0 0 (some 0) none false false false,
  objRow 0x8002 1 1 (.bool) .rw 0 2 (some 1) none false false false,
  objRow 0x8002 2 2 (.u 4) .rw 0 2 (some 600) (some (60, 86400)) false false false,
  objRow 0x8002 3 3 (.u 4) .rw 0 2 (some 3000) (some (500, 60000)) false false false,
  objRow 0x8003 1 1 (.u 1) .rw 0 2 (some 3) (some (1, 10)) false false false,
  objRow 0x8003 2 2 (.u 4) .rw 0 2 (some 86400) (some (3600, 604800)) false false false,
  objRow 0x8004 1 1 (.u 2) .rw 0 2 (some 32) (some (8, 256)) false false false,
  objRow 0x8004 2 2 (.u 4) .rw 0 2 (some 256) (some (16, 65536)) false false false]

/-- Rows of DiagnosisState to ImageBlock. -/
def objRows10 : List ObjRow := [
  objRow 0x8005 1 1 (.u 4) .ro 0 0 (some 0) none false false false,
  objRow 0x8006 1 1 (.u 1) .wo 0 2 none (some (1, 3)) false false false,
  objRow 0x8007 1 8 (.u 8) .ro 0 0 (some 0) none false true false,
  objRow 0x8008 1 1 (.u 4) .ro 0 0 none none false false false,
  objRow 0x8008 2 2 (.u 1) .ro 0 0 none none false false false,
  objRow 0x8008 3 3 (.u 4) .ro 0 0 none none false false false,
  objRow 0x8008 4 4 (.u 4) .ro 0 0 none none false false false,
  objRow 0x8009 1 1 (.u 4) .ro 0 0 (some 0) none false false false,
  objRow 0x9000 1 1 (.domain) .ro 0 0 none none false false false,
  objRow 0x9001 1 1 (.u 4) .ro 0 0 (some 1) none false false false,
  objRow 0x9001 2 2 (.u 4) .ro 0 0 (some 0) none false false false,
  objRow 0x9001 3 3 (.u 8) .ro 0 0 (some 0) none false false false,
  objRow 0x9001 4 4 (.u 4) .ro 0 0 (some 0) none false false false,
  objRow 0x9002 1 1 (.u 4) .rw 0 2 none none false false true,
  objRow 0x9002 2 2 (.u 1) .wo 0 2 none (some (1, 1)) false false true,
  objRow 0x9003 1 3 (.u 4) .ro 0 0 (some 0) none false true false,
  objRow 0x9004 1 1 (.u 1) .rw 0 2 (some 1) (some (1, 3)) false false false,
  objRow 0x9004 2 2 (.u 8) .ro 0 0 (some 0) none false false false,
  objRow 0x9020 1 1 (.u 2) .rw 0 2 (some 20) (some (5, 50)) false false false,
  objRow 0x9020 2 2 (.u 2) .rw 0 2 (some 50) (some (10, 1000)) false false false,
  objRow 0x9020 3 3 (.u 2) .rw 0 2 (some 20) (some (5, 200)) false false false,
  objRow 0x9020 4 4 (.u 2) .rw 0 2 (some 200) (some (50, 5000)) false false false,
  objRow 0x9020 5 5 (.u 2) .rw 0 2 (some 100) (some (50, 1000)) false false false,
  objRow 0x9020 6 6 (.u 1) .rw 0 2 (some 3) (some (2, 100)) false false false,
  objRow 0x9020 7 7 (.u 2) .rw 0 2 (some 10) (some (1, 1000)) false false false,
  objRow 0x9030 1 8 (.u 1) .ro 0 0 (some 0) none false true false,
  objRow 0x9040 1 32 (.u 4) .ro 0 0 (some 0) none false true false,
  objRow 0x9100 1 1 (.domain) .ro 0 0 none none false false false,
  objRow 0x9101 1 1 (.u 1) .wo 0 1 none (some (1, 1)) false false false,
  objRow 0x9102 1 1 (.u 8) .ro 0 0 (some 0) none false false false,
  objRow 0x9110 1 1 (.bool) .rw 0 2 (some 0) none false false false,
  objRow 0xA000 1 1 (.u 1) .ro 0 0 (some 0) none false false false,
  objRow 0xA000 2 2 (.u 1) .ro 0 0 (some 0) none false false false,
  objRow 0xA001 1 1 (.u 4) .rw 0 1 none none false false true,
  objRow 0xA001 2 2 (.u 1) .wo 0 1 none (some (1, 1)) false false true,
  objRow 0xA001 3 3 (.u 1) .wo 0 1 none (some (1, 1)) false false true,
  objRow 0xA001 4 4 (.u 1) .wo 0 1 none (some (1, 1)) false false true,
  objRow 0xA001 5 5 (.u 1) .rw 0 1 none (some (0, 4)) false false true,
  objRow 0xA010 1 1 (.domain) .rw 0 1 none none false false true,
  objRow 0xA010 2 2 (.u 4) .rw 0 1 none none false false true]

/-- Rows of ImageBlock to PilotLightSeconds. -/
def objRows11 : List ObjRow := [
  objRow 0xA010 3 3 (.u 1) .wo 0 1 none (some (1, 1)) false false true,
  objRow 0xA011 1 1 (.domain) .ro 0 0 none none false false false,
  objRow 0xA020 1 1 (.u 4) .ro 0 0 none none false false false,
  objRow 0xA020 2 2 (.u 4) .ro 0 0 none none false false false,
  objRow 0xA020 3 3 (.u 4) .ro 0 0 none none false false false,
  objRow 0xA020 4 4 (.oct 48) .ro 0 0 none none false false false,
  objRow 0xA020 5 5 (.u 1) .ro 0 0 none none false false false,
  objRow 0xA021 1 1 (.u 4) .rw 0 2 none none false false true,
  objRow 0xA021 2 2 (.u 1) .wo 0 2 none (some (1, 1)) false false true,
  objRow 0xA022 1 1 (.u 4) .ro 0 0 none none false false false,
  objRow 0xA022 2 2 (.u 4) .ro 0 0 none none false false false,
  objRow 0xA022 3 3 (.bool) .ro 0 0 none none false false false,
  objRow 0xA022 4 4 (.u 1) .ro 0 0 none none false false false,
  objRow 0xA022 5 5 (.u 4) .ro 0 0 none none false false false,
  objRow 0xA023 1 1 (.u 4) .rw 0 2 (some 600) (some (60, 86400)) false false false,
  objRow 0xA025 1 1 (.bool) .ro 0 0 (some 0) none false false false,
  objRow 0xA026 1 1 (.u 4) .ro 0 0 (some 0) none false false false,
  objRow 0xA027 1 1 (.u 4) .rw 0 2 (some 60) (some (10, 3600)) false false false,
  objRow 0xA030 1 1 (.domain) .ro 0 0 none none false false false,
  objRow 0xA040 1 1 (.u 4) .rw 0 1 none none false false true,
  objRow 0xA040 2 2 (.u 1) .wo 0 1 none (some (1, 1)) false false true,
  objRow 0xA040 3 3 (.u 4) .rw 0 1 none none false false true,
  objRow 0xA040 4 4 (.u 1) .wo 0 1 none (some (1, 1)) false false true,
  objRow 0xA040 5 5 (.u 1) .wo 0 1 none (some (1, 1)) false false true,
  objRow 0xA040 6 6 (.u 1) .ro 0 1 none none false false true,
  objRow 0xA041 1 1 (.u 2) .rw 0 2 (some 16) (some (1, 200)) false false false,
  objRow 0xA041 2 2 (.u 2) .rw 0 2 (some 8) (some (1, 1000)) false false false,
  objRow 0xA041 3 3 (.u 4) .rw 0 2 (some 3600) (some (60, 86400)) false false false,
  objRow 0xA041 4 4 (.u 2) .rw 0 2 (some 30) (some (1, 365)) false false false,
  objRow 0xA042 1 6 (.u 8) .ro 0 0 (some 0) none false true false,
  objRow 0xB000 1 1 (.u 1) .wo 0 2 none (some (1, 1)) false false false,
  objRow 0xB000 2 2 (.u 1) .wo 0 1 none (some (1, 1)) false false false,
  objRow 0xB001 1 1 (.u 1) .ro 0 0 (some 0) none false false false,
  objRow 0xB001 2 2 (.u 1) .rw 0 2 (some 0) (some (0, 1)) false false false,
  objRow 0xB002 1 1 (.u 8) .rw 0 1 (some 0) none false false false,
  objRow 0xB002 2 2 (.u 1) .rw 0 2 (some 0) (some (0, 64)) false false false,
  objRow 0xB002 3 3 (.bool) .rw 0 2 (some 1) none false false false,
  objRow 0xB003 1 1 (.u 1) .ro 0 0 (some 0) none false false false,
  objRow 0xB003 2 2 (.u 4) .ro 0 0 (some 0) none false false false,
  objRow 0xB003 3 3 (.u 4) .ro 0 0 (some 0) none false false false]

/-- Rows of SpreadEnable to MeterRadioSlot. -/
def objRows12 : List ObjRow := [
  objRow 0xB010 1 2 (.bool) .rw 0 2 (some 1) none false true false,
  objRow 0xB020 1 8 (.i 2) .ro 0 0 (some 0) none false true false,
  objRow 0xB021 1 1 (.i 2) .rw 0 2 (some 1000) (some (700, 1250)) false false false,
  objRow 0xB022 1 8 (.u 1) .ro 0 0 (some 0) none false true false,
  objRow 0xB030 1 11 (.u 2) .ro 0 0 (some 0) none false true false,
  objRow 0xB031 1 1 (.u 2) .ro 0 0 (some 0) none false false false,
  objRow 0xB032 1 1 (.u 1) .ro 0 0 (some 0) none false false false,
  objRow 0xB040 1 8 (.u 2) .ro 0 0 (some 0) none false true false,
  objRow 0xB041 1 1 (.u 4) .ro 0 0 (some 0) none false false false,
  objRow 0xC000 1 1 (.u 1) .wo 0 1 none (some (1, 4)) false false true,
  objRow 0xC000 2 2 (.u 2) .rw 0 1 none none false false true,
  objRow 0xC000 3 3 (.u 2) .rw 0 1 none none false false true,
  objRow 0xC000 4 4 (.u 2) .rw 0 1 none none false false true,
  objRow 0xC000 5 5 (.u 4) .rw 0 1 (some 900) none false false true,
  objRow 0xC000 6 6 (.bool) .rw 0 1 none none false false true,
  objRow 0xC000 7 7 (.u 4) .rw 0 1 none none false false true,
  objRow 0xC001 1 1 (.u 4) .ro 0 0 none none false false false,
  objRow 0xC001 2 2 (.u 8) .ro 0 0 none none false false false,
  objRow 0xC001 3 3 (.u 4) .ro 0 0 none none false false false,
  objRow 0xC001 4 4 (.u 4) .ro 0 0 none none false false false,
  objRow 0xC001 5 5 (.u 1) .ro 0 0 none none false false false,
  objRow 0xC001 6 6 (.u 4) .ro 0 0 none none false false false,
  objRow 0xC001 7 7 (.u 4) .ro 0 0 none none false false false,
  objRow 0xC010 1 1 (.u 1) .ro 0 0 none none false false false,
  objRow 0xC010 2 2 (.u 1) .ro 0 0 none none false false false,
  objRow 0xC010 3 3 (.u 2) .ro 0 0 none none false false false,
  objRow 0xC010 4 4 (.u 2) .ro 0 0 none none false false false,
  objRow 0xC010 5 5 (.u 1) .ro 0 0 none none false false false,
  objRow 0xC010 6 6 (.u 1) .ro 0 0 none none false false false,
  objRow 0xC010 7 7 (.u 2) .ro 0 0 none none false false false,
  objRow 0xC010 8 8 (.u 4) .ro 0 0 none none false false false,
  objRow 0xC010 9 9 (.oct 16) .ro 0 0 none none false false false,
  objRow 0xC030 1 1 (.u 1) .ro 0 0 none none false false false,
  objRow 0xC030 2 2 (.bool) .ro 0 0 none none false false false,
  objRow 0xC030 3 3 (.i 2) .ro 0 0 none none false false false,
  objRow 0xC030 4 4 (.u 1) .ro 0 0 none none false false false,
  objRow 0xC030 5 5 (.u 1) .ro 0 0 none none false false false,
  objRow 0xC038 1 1 (.u 1) .ro 0 0 none none false false false,
  objRow 0xC038 2 2 (.u 1) .ro 0 0 none none false false false,
  objRow 0xC038 3 3 (.u 1) .ro 0 0 none none false false false]

/-- Rows of MeterRadioSlot to MeterLoss. -/
def objRows13 : List ObjRow := [
  objRow 0xC038 4 4 (.u 1) .ro 0 0 none none false false false,
  objRow 0xC038 5 5 (.u 4) .ro 0 0 none none false false false,
  objRow 0xC038 6 6 (.u 1) .ro 0 0 none none false false false,
  objRow 0xC040 1 1 (.u 2) .rw 0 1 none none false false true,
  objRow 0xC040 2 2 (.oct 56) .rw 0 1 none none false false true,
  objRow 0xC040 3 3 (.u 1) .wo 0 1 none (some (1, 1)) false false true,
  objRow 0xC040 4 4 (.u 4) .ro 0 1 none none false false true,
  objRow 0xC041 1 1 (.u 4) .rw 0 0 none none false false true,
  objRow 0xC041 2 2 (.u 1) .ro 0 0 none none false false true,
  objRow 0xC041 3 3 (.u 2) .ro 0 0 none none false false true,
  objRow 0xC041 4 4 (.u 2) .ro 0 0 none none false false true,
  objRow 0xC041 5 5 (.u 1) .ro 0 0 none none false false true,
  objRow 0xC050 1 1 (.oct 512) .ro 0 0 none none false false false,
  objRow 0xC050 2 2 (.oct 128) .ro 0 0 none none false false false,
  objRow 0xC050 3 3 (.u 1) .rw 0 1 none none false false false,
  objRow 0xC050 4 4 (.u 1) .rw 0 1 none none false false false,
  objRow 0xC050 5 5 (.u 4) .ro 0 0 none none false false false,
  objRow 0xC050 6 6 (.u 4) .ro 0 0 none none false false false,
  objRow 0xC051 1 1 (.u 1) .rw 0 0 none none false false true,
  objRow 0xC051 2 2 (.u 1) .rw 0 0 none none false false true,
  objRow 0xC051 3 3 (.u 4) .rw 0 0 none none false false true,
  objRow 0xC051 4 4 (.u 1) .rw 0 0 none none false false true,
  objRow 0xC051 5 5 (.u 1) .wo 0 0 none (some (1, 1)) false false true,
  objRow 0xC051 6 6 (.domain) .ro 0 0 none none false false true,
  objRow 0xC060 1 1 (.u 1) .ro 0 1 none none false false false,
  objRow 0xC060 2 2 (.i 8) .ro 0 1 none none false false false,
  objRow 0xC060 3 3 (.bool) .ro 0 1 none none false false false,
  objRow 0xC060 4 4 (.u 8) .rw 0 1 none (some (1, 9223372036854775807)) false false true,
  objRow 0xC060 5 5 (.u 4) .rw 0 1 none none false false true,
  objRow 0xC060 6 6 (.u 1) .wo 0 1 none (some (1, 1)) false false true,
  objRow 0xC060 7 7 (.bool) .rw 0 1 none none false false false,
  objRow 0xC060 8 8 (.u 8) .rw 0 1 none none false false true,
  objRow 0xC070 1 1 (.u 2) .rw 0 1 none none false false false,
  objRow 0xC070 2 2 (.u 1) .rw 0 1 (some 4) (some (0, 4)) false false false,
  objRow 0xC070 3 3 (.u 1) .ro 0 1 none none false false false,
  objRow 0xC070 4 4 (.u 8) .ro 0 1 none none false false false,
  objRow 0xC070 5 5 (.u 1) .ro 0 1 none none false false false,
  objRow 0xC070 6 6 (.bool) .rw 0 1 (some 0) none false false false,
  objRow 0xC070 7 7 (.u 2) .ro 0 1 none none false false false,
  objRow 0xC070 8 8 (.u 1) .wo 0 1 none (some (1, 1)) false false false]

/-- Rows of MeterFirmware to MeterFirmware. -/
def objRows14 : List ObjRow := [
  objRow 0xC080 1 1 (.u 4) .rw 0 1 none none false false false,
  objRow 0xC080 2 2 (.u 1) .ro 0 1 none none false false false,
  objRow 0xC080 3 3 (.u 4) .ro 0 1 none none false false false,
  objRow 0xC080 4 4 (.domain) .ro 0 1 none none false false false]

/-- Every row of the object table, in order of index and sub-index. -/
def objRows : List ObjRow :=
  objRows0 ++ objRows1 ++ objRows2 ++ objRows3 ++ objRows4 ++ objRows5 ++ objRows6 ++ objRows7 ++ objRows8 ++ objRows9 ++ objRows10 ++ objRows11 ++ objRows12 ++ objRows13 ++ objRows14

/-- The row that defines a sub-index, if any (R749). -/
def findRow (index sub : Nat) : Option ObjRow :=
  objRows.find? fun r => r.index == index && r.lo ≤ sub && sub ≤ r.hi

/-- The highest sub-index an index defines: its sub-index 0x00 (R573). -/
def highestSub (index : Nat) : Option Nat :=
  (objRows.filter fun r => r.index == index).foldl
    (fun a r => some (match a with
      | none => r.hi
      | some h => max h r.hi)) none

/-- Events of severity warning; every other defined code is a notice. -/
def warningCodes : List Nat := [
  0xE080, 0xE081, 0xE107, 0xE108, 0xE109, 0xE10B, 0xE181, 0xE182, 0xE200, 0xE201, 0xE287, 0xE301,
  0xE302, 0xE304, 0xE306, 0xE307, 0xE382, 0xE38A, 0xE38C, 0xE38F, 0xE390, 0xE392, 0xE401, 0xE403,
  0xE404, 0xE40B, 0xE484, 0xE485, 0xE486, 0xE487, 0xE489, 0xE48E, 0xE500, 0xE504, 0xE50A, 0xE582,
  0xE584, 0xE585, 0xE588, 0xE604, 0xE607, 0xE60B, 0xE60C, 0xE681, 0xE684, 0xE686, 0xE689, 0xE68D,
  0xE700, 0xE704, 0xE708, 0xE781, 0xE785, 0xE788, 0xE790, 0xE791, 0xE802, 0xE804, 0xE806, 0xE882,
  0xE907, 0xE909, 0xE90A, 0xE90B, 0xE981, 0xE98E, 0xEA85, 0xEA87, 0xEA89]

/-- Events of severity error; every other defined code is a notice. -/
def errorCodes : List Nat := [
  0xE082, 0xE100, 0xE101, 0xE102, 0xE103, 0xE105, 0xE183, 0xE184, 0xE204, 0xE280, 0xE282, 0xE284,
  0xE285, 0xE28A, 0xE383, 0xE385, 0xE407, 0xE48A, 0xE601, 0xE608, 0xE60A, 0xE680, 0xE682, 0xE683,
  0xE687, 0xE707, 0xE782, 0xE783, 0xE784, 0xE78A, 0xE78B, 0xE78D, 0xE78E, 0xE805, 0xE881, 0xE883,
  0xE884, 0xE886, 0xE887, 0xE900, 0xE901, 0xE903, 0xE904, 0xE905, 0xE906, 0xE90C, 0xE985, 0xE989,
  0xEA00, 0xEA83, 0xEA8B]

/-- Severity of an event (R655): 1 notice, 2 warning, 3 error. -/
def eventSeverity (code : Nat) : Nat :=
  if errorCodes.contains code then 3 else if warningCodes.contains code then 2 else 1

end Sys2Proof.Machine
end

