-- ==== Sys2Proof/Config.lean ====
section
/-! DEFINITION. What an ordering part and a unit fix, and the free values: constants without a body stand for values the
spec leaves open, so no proof can lean on one. -/

namespace Sys2Proof.Config

/-- The ordering parts (R1, R3). -/
inductive OrderingPart where
  | ck72e | ck72x | ck74e | ck74x | ck78e
  deriving DecidableEq, Repr

/-- Tile count of an ordering part (R1). -/
def OrderingPart.tiles : OrderingPart → Nat
  | .ck72e | .ck72x => 2
  | .ck74e | .ck74x => 4
  | .ck78e => 8

/-- Temperature grade of an ordering part: 0 E, 1 X (R2, R3). -/
def OrderingPart.grade : OrderingPart → Nat
  | .ck72e | .ck74e | .ck78e => 0
  | .ck72x | .ck74x => 1

/-- PartCode in ASCII (R1, R4). -/
def OrderingPart.code : OrderingPart → Octets
  | .ck72e => [0x43#8, 0x4B#8, 0x37#8, 0x2D#8, 0x32#8, 0x45#8]
  | .ck72x => [0x43#8, 0x4B#8, 0x37#8, 0x2D#8, 0x32#8, 0x58#8]
  | .ck74e => [0x43#8, 0x4B#8, 0x37#8, 0x2D#8, 0x34#8, 0x45#8]
  | .ck74x => [0x43#8, 0x4B#8, 0x37#8, 0x2D#8, 0x34#8, 0x58#8]
  | .ck78e => [0x43#8, 0x4B#8, 0x37#8, 0x2D#8, 0x38#8, 0x45#8]

/-- The most DRAM a tile manages, in GiB (R51). -/
def OrderingPart.dramLimit : OrderingPart → Nat
  | .ck78e => 8
  | _ => 4

/-- What a unit is: its ordering part and the memory fitted per tile, which no command changes (R1, R51). -/
structure Fit where
  /-- the part at State.reset: DESIGN CHOICE (log 1); statements hold for every part -/
  part : OrderingPart := .ck74e
  dramGiB : Nat := 4
  /-- DRAM speed bin in MT/s (R188, R613) -/
  dramRate : Nat := 6400
  /-- NAND channels that fail NV-DDR3 training, channel c of tile t at 2 × t + c (R473; log 31) -/
  sdrChannels : List Nat := []
  deriving DecidableEq, Repr

/-- The DRAM a tile manages, in GiB: what is fitted, up to the part's limit (R1, R51). -/
def Fit.dramManaged (f : Fit) : Nat := min f.dramGiB f.part.dramLimit

/-- The NAND fitted per tile: chip enables, dies, blocks a die, TLC pages a block, spare bytes a page, rate in MT/s, and
of NV-DDR3 and of SDR timing mode 5 (R471, R473). DESIGN CHOICE (log 31): the device of the worked example of R497. -/
def nandEnables : Nat := 2
def nandDies : Nat := 8
def nandBlocksPerDie : Nat := 1360
def nandPagesPerBlock : Nat := 1536
def nandSpareBytes : Nat := 2176
def nandRate : Nat := 800
def nandSdrRate : Nat := 50

/-- CRC-16 of a code word's data on NAND: its polynomial is not stated (R474; log 79). -/
opaque nandCrc : Octets → BitVec 16

/-- The UDP checksum of a PTP message, over addresses that are not the block's, and the two bytes after an event message over IPv6
that keep it (R522; log 10). -/
opaque udpChecksum : Octets → BitVec 16
opaque udpTrailer : Octets → BitVec 16

/-- Silicon step (R4, R609). -/
def siliconStep : Octets := [0x42#8, 0x30#8]

/-- UnitId, per unit (R609; log 5). -/
opaque unitId : BitVec 64

/-- FirmwareVersion and CompilerVersion, per firmware; PcieIdentity, RomVersion and the fused rollback counter (R609,
R133, R638; log 5). -/
opaque firmwareVersion : BitVec 32
opaque compilerVersion : BitVec 32
opaque pcieIdentity : BitVec 32
opaque romVersion : BitVec 32
opaque fusedRollback : BitVec 32

/-- The compiler version of a firmware version: the image carries its compiler (R673, R681; log 5). -/
opaque compilerOf : Nat → BitVec 32

/-- Byte i of the MAC address of an Ethernet port (R609; log 5). -/
opaque macByte : Nat → Nat → Byte

/-- The MAC address of an Ethernet port. -/
def mac (port : Nat) : Octets := (List.range 6).map (macByte port)

/-- Byte i of the device secret DS (R449; log 5). -/
opaque deviceSecretByte : Nat → Byte

/-- The device secret, 256 bits (R449). -/
def deviceSecret : Octets := (List.range 32).map deviceSecretByte

/-- The fused life-cycle code at power-on and the owner seed in fuses, if programmed, byte by byte (R450, R628; log 5). A
unit leaves Exnath in MAKE with no owner seed. -/
def fusedLifeCycle : Nat := 0

/-- Byte i of Exnath's P-384 public key, whose SHA-384 is fused (R617; log 5). -/
opaque exnathKeyByte : Nat → Byte

/-- Exnath's public key, X then Y. -/
def exnathKey : Octets := (List.range 96).map exnathKeyByte

/-- The length of the identity certificate and its byte i (R462; log 5). -/
opaque certificateLength : Nat
opaque certificateByte : Nat → Byte
/-- The identity certificate. -/
def certificate : Octets := (List.range certificateLength).map certificateByte

/-- Byte i of a sheet's PatternTable, and the pattern, first RegionMap entry and root entry of a slot by pipeline and slot
number: the spec leaves them to the compiler version (R109, R122; log 14). -/
opaque patternByte : Nat → Byte
opaque slotPattern : Nat → Nat → Fin 32
opaque slotRegion : Nat → Nat → Fin 64
opaque slotRoot : Nat → Nat → Fin 15

/-- The management-window residue of a bank of a tile, modulo 8 (R83), and which of the 14 residues outside the window a sheet
keeps free in it for the DMA floor (R110, R122; log 14). -/
opaque windowResidue : Nat → Nat → Fin 8
opaque floorResidue : Nat → Nat → Fin 14

/-- Fabric accesses of a heat to a bank of a tile in a residue class modulo 16 that neither its window nor its DMA floor takes: at
most one in each of the class's 375 pace cycles (R84, R110, R122; log 14). -/
opaque bankAccesses : Nat → Nat → Nat → Fin 376

/-- The 64 bytes of a TileHeader for a tile, its pipeline map and the base of its table region: the inner layout is not stated
(R122; log 14). -/
opaque tileHeader : Nat → Nat → Nat → BitVec 512

/-- The bytes of a RegionMap entry for a base, stride and first bank, of a RootMap entry without a root, of a BankPlan entry
that keeps its bank on, with its clear-on-wake bit, and of a ring entry for a kind, source and destination tile, source and
destination queue: inner layouts not stated (R122; log 14). -/
opaque regionEntry : Nat → Nat → Nat → BitVec 128
opaque emptyRoot : BitVec 32
opaque bankPlanEntry : Bool → BitVec 32
opaque ringEntry : Nat → Nat → Nat → Nat → Nat → BitVec 64

/-- The clear-on-wake bit of bank b of tile t at t × 32 + b in the plan for an input image's digest (R122, R177; log 14). -/
opaque bankPlanClear : Octets → Nat → Bool

/-- EntryCheck over bits [127:16] of a slot entry: the polynomial of this CRC-16 is not stated (R122; log 14). -/
opaque entryCheck : BitVec 112 → BitVec 16

/-- The claims section that states given counts, at most 16,384 bytes: its layout is not stated (R122; log 14). -/
opaque claimsLength : List Nat → Fin 16385
opaque claimsByte : List Nat → Nat → Byte

/-- The SNR that a receiver of the part measures on a data carrier, in 0.25 dB, and the delay spread it measures, in ns, at a free
count: measurements of the line (R252; log 77). -/
opaque carrierSnr : Nat → Nat → Nat
opaque delaySpread : Nat → Nat

/-- The scrambler seed that the part supplies in an MR-OFDM PHR: not stated (R307; log 26). -/
opaque ofdmScrambler : BitVec 2

/-- Word i of every pipeline's pacer record, and byte i of the payload of the fixed pacer frame: not stated (R89; log 71). -/
opaque pacerWord : Nat → BitVec 64
opaque pacerByte : Nat → Byte

/-- The row of a cuckoo table that a meter number hashes to: the two hashes are not stated (R70, R167; log 14). -/
opaque indexHash : Nat → Nat → BitVec 15

/-- Byte i of the 8 data bytes of an event record: the event tables name the items and not their widths (R655; log 8). The
same for 0x6814 LastEccFault, under its index (R196). -/
opaque eventDataByte : Nat → List Nat → Nat → Byte

/-- Spare columns mapped at fuse load, and their map, per tile (R164, R621; log 5). -/
opaque columnsRepaired : Nat → BitVec 12
opaque columnRepairByte : Nat → Nat → Fin 3

/-- The n-th free byte, free word and free number: values the spec calls undefined or leaves to a random source. The
counter freeCount of the state names the draw (log 6). -/
opaque freeByte : Nat → Byte
opaque freeWord : Nat → BitVec 64
opaque freeNat : Nat → Nat

/-- `len` free bytes from draw `n` on. -/
def freeOctets (n len : Nat) : Octets := (List.range len).map fun i => freeByte (n + i)

/-- The ns from the preamble start to the SFD instant of a PHY mode and preamble length: not stated (R308; log 25). -/
opaque sfdInstant : Nat → Nat → Nat

/-- The rate correction the servo sets, in parts per trillion, from the rate before, an offset in ns, its bandwidth in mHz and
the number of the update: the gains are not stated (R515; log 34). -/
opaque servoRate : Int → Int → Nat → Nat → Int

/-- The estimate, in ms, of the time left until every tile has restored its history (R603; log 15). -/
opaque restoreEstimate : Nat → Nat

/-- The estimated service time, in ns, of a request with an operation and an index: the rules use it and do not state it
(R605, R607; log 15). -/
opaque serviceTime : Nat → Nat → Nat

end Sys2Proof.Config
end

