-- ==== Sys2Proof/Machine/Table.lean ====
section
/-! DEFINITION. Sparse tables: a list of (key, value) pairs in rising order of key, one entry a key. -/

namespace Sys2Proof.Machine

/-- A sparse table keyed by number. -/
abbrev Tab (α : Type) := List (Nat × α)

/-- The entry at a key, or none. -/
def Tab.find? {α : Type} (t : Tab α) (k : Nat) : Option α :=
  match t with
  | [] => none
  | (k', v) :: r => if k' = k then some v else Tab.find? r k

/-- The entry at a key, or a default. -/
def Tab.getD {α : Type} (t : Tab α) (k : Nat) (d : α) : α := (Tab.find? t k).getD d

/-- The table with an entry written at a key, in order. -/
def Tab.set {α : Type} (t : Tab α) (k : Nat) (v : α) : Tab α :=
  match t with
  | [] => [(k, v)]
  | (k', v') :: r =>
    if k' < k then (k', v') :: Tab.set r k v
    else if k' = k then (k, v) :: r
    else (k, v) :: (k', v') :: r

/-- The table without the entry at a key. -/
def Tab.erase {α : Type} (t : Tab α) (k : Nat) : Tab α := t.filter fun e => e.1 != k

/-- The table with the entry at a key, or a default, changed by `f`. -/
def Tab.modify {α : Type} (t : Tab α) (k : Nat) (d : α) (f : α → α) : Tab α := Tab.set t k (f (Tab.getD t k d))

/-- True where a key has an entry. -/
def Tab.has {α : Type} (t : Tab α) (k : Nat) : Bool := (Tab.find? t k).isSome

end Sys2Proof.Machine
end

