-- ==== Sys2Proof/Machine/Parts/Clock.lean ====
section
/-! DEFINITION. The state of the timebase, bring-up and life cycle, timeouts, event recorder and counters (14 R503 to
R530, 17 R611 to R638, 18 R640 to R669). -/

namespace Sys2Proof.Machine

/-- A PTP exchange waiting for its second half (R520): the kind (0 Sync, 1 Delay_Req, 2 Pdelay_Req), its sequence number,
and the timestamps held. -/
structure PtpPending where
  kind : Nat
  seq : Nat
  t1 : Int := 0
  t2 : Int := 0
  t3 : Int := 0
  deriving DecidableEq, Repr

/-- A time output (R524 to R526). -/
structure TimeOut where
  /-- the record in force: mode, start, period, width, active-low, cycle, offset -/
  mode : Nat := 0
  start : Nat := 0
  period : Nat := 0
  width : Nat := 0
  low : Bool := false
  cycle : Nat := 0
  offset : Int := 0
  /-- 0 idle, 1 armed, 2 done, 3 MISSED -/
  status : Nat := 0
  /-- pulses produced of a series; of a single pulse, 1 once its edge has passed; the level now (active) with its end -/
  produced : Nat := 0
  activeUntil : Nat := 0
  deriving DecidableEq, Repr

/-- The timebase (14). -/
structure ClockState where
  /-- TB64 with 32 fractional bits (R503) -/
  tb : Nat := 0
  /-- rate correction in parts per trillion (R515) and of a leap ramp -/
  rate : Int := 0
  rampRate : Int := 0
  /-- 0 UNSET to 4 FREE_RUN (R510) -/
  state : Nat := 0
  /-- 0 disarmed, 1 armed, 2 pending -/
  armed : Nat := 1
  /-- instant the owner's arm window ends (R516) -/
  armUntil : Option Nat := none
  offset : Int := 0
  meanPath : Nat := 0
  /-- source in force and a new one with the timebase second it takes effect at (R509) -/
  source : Nat := 1
  newSource : Option (Nat × Nat) := none
  /-- the step decided and the TB64 instant it is applied at (R514) -/
  step : Option (Int × Nat) := none
  /-- recent offset samples, newest first, and the instant of the last -/
  samples : List Int := []
  sampleAt : Nat := 0
  /-- samples of the armed step that agree with one another, newest first (R513) -/
  run : List Int := []
  /-- 0xE704 recorded, and since when the offset has stayed in the lock threshold -/
  alarmed : Bool := false
  calmSince : Nat := 0
  /-- UTC offset in force and its target, ns; a leap announced, +1 or −1; the end of the ramp in TB64 ns (R519) -/
  utc : Int := 37000000000
  utcTarget : Int := 37000000000
  leap : Int := 0
  rampEnd : Nat := 0
  ramping : Bool := false
  /-- a sample arrived since the servo last ran -/
  fresh : Bool := false
  /-- ingress descriptors of the frames in queues at the last step, and that step in ns (R517) -/
  preStep : List Nat := []
  preStepBy : Int := 0
  /-- last millisecond at which the servo ran -/
  servoMs : Nat := 0
  /-- error in ns that each tile's slave showed at its last alignment (R508) -/
  slaves : Tab Int := []
  /-- millisecond of each tile's last alignment, plus 1 (R507) -/
  alignedMs : Tab Nat := []
  /-- PTP port state, parent (clockIdentity, portNumber), announce fields -/
  portState : Nat := 1
  parent : Octets := []
  announceAt : Nat := 0
  announceInterval : Nat := 0
  parentPriority : List Nat := []
  pending : List PtpPending := []
  /-- t1 with its corrections and t2 of the last Sync completed -/
  lastSync : Int × Int := (0, 0)
  /-- sequence numbers of the messages sent, and when the last request, Sync and Announce left -/
  ptpSeq : Nat := 0
  requestAt : Nat := 0
  syncAt : Nat := 0
  announcedAt : Nat := 0
  outs : Tab TimeOut := []
  /-- last 16 captures, newest first (R527) -/
  captures : List Nat := []
  deriving DecidableEq, Repr

/-- Bring-up, life cycle and tamper (17). -/
structure BootState where
  /-- 0 waiting for SYS_RESET_N, 1 to 7 in that step, 8 steps done, 9 ready, 10 halted, 11 ROM recovery, 12 held after
  tamper -/
  phase : Nat := 0
  startedAt : Nat := 0
  stepAt : Nat := 0
  /-- tiles that have ended the step in progress -/
  stepDone : List Nat := []
  stepTimes : List Nat := []
  cause : Nat := 0
  /-- a start of bring-up waits for this cause (R612) -/
  restart : Option Nat := none
  /-- life-cycle code in fuses, service fuse bits blown, rollback counter fuse -/
  lifeCycle : Nat := 0
  serviceBits : Nat := 0
  fuseState : Nat := Config.fusedLifeCycle
  /-- an owner seed unwrapped for the fuses -/
  newSeed : Octets := []
  /-- an accepted life-cycle change: target, step of R633 -/
  change : Option (Nat × Nat) := none
  /-- last life-cycle TRANSITION in the journal -/
  journalState : Option Nat := none
  measurement : Octets := []
  securityVersion : Nat := 0
  rollback : Nat := Config.fusedRollback.toNat
  bootImage : Nat := 0
  powerCycles : Nat := 0
  enumeration : Tab Nat := []
  failedPipes : List Nat := []
  /-- tamper inputs active now, with the instant of their event (4 the detector), and the instant of the last event -/
  tamperActive : Tab Nat := []
  tamperAt : Nat := 0
  /-- instant the unit became ready -/
  readyAt : Nat := 0
  /-- instant SYS_RESET_N rose -/
  releasedAt : Nat := 0
  /-- every tile has finished the restore of R494 (R603) -/
  restored : Bool := false
  restoringTiles : List Nat := []
  haltStep : Nat := 0
  haltCode : Nat := 0
  lastResult : Nat := 0
  timeToReady : Nat := 0
  deriving DecidableEq, Repr

/-- An event record of the log (R655). -/
structure EventRecord where
  seq : Nat
  operating : Nat
  cycle : Nat
  tile : Nat
  code : Nat
  severity : Nat
  flags : Nat
  data : List Nat := []
  seconds : Nat
  commit : Nat
  deriving DecidableEq, Repr

/-- A management core (R646, R647). -/
structure Core where
  lastPass : Nat := 0
  restarts : List Nat := []
  heldUntil : Option Nat := none
  deriving DecidableEq, Repr

/-- A tile's health (R649 to R652). -/
structure Health where
  /-- 0 live, 1 LOST, 2 recovering, 3 failed -/
  state : Nat := 0
  heardAt : Nat := 0
  lostAt : Nat := 0
  lastCount : Nat := 0
  attempts : List Nat := []
  /-- the tile does not hear tile 0: since when; its buffered events -/
  unheardAt : Option Nat := none
  buffer : List Offer := []
  /-- instant it last heard tile 0 -/
  primaryAt : Nat := 0
  deriving DecidableEq, Repr

/-- Timeouts, the event recorder and the performance counters (18). -/
structure RecorderState where
  offered : List Offer := []
  /-- records of the current generation, newest first -/
  log : List EventRecord := []
  generation : Nat := 1
  dropped : Nat := 0
  nextSeq : Nat := 0
  counts : List Nat := [0, 0, 0]
  filtered : Nat := 0
  nearlyFull : Bool := false
  full : Bool := false
  /-- records of the log that are in record-zone pages, and the instant of the open page's first record (R654) -/
  paged : Nat := 0
  pageAt : Nat := 0
  /-- an erase runs: old generation, records, dropped count, and the Sequence of its event; events held meanwhile with their
  Sequences (R659) -/
  erasing : Option (Nat × Nat × Nat × Nat) := none
  heldEvents : List (Nat × Offer) := []
  /-- block counters: ((tile × 64) + block) × 32 + index; value, saturated -/
  counters : Tab (Nat × Bool) := []
  totals : Tab (Nat × Bool) := []
  pageSeq : Nat := 0
  latchTime : Nat := 0
  latchHeat : Nat := 0
  pageFlags : Nat := 0
  latchMs : Nat := 0
  snapshotAsked : Bool := false
  /-- tiles whose reader has not finished the last latch, latches skipped -/
  behind : Tab Nat := []
  cores : Tab Core := []
  health : Tab Health := []
  /-- DRAM writes that ran out: (tile, address, instant, issued again), and channels retraining with the instant (R643) -/
  dramWrites : List (Nat × Nat × Nat × Bool) := []
  dramRetrain : Tab Nat := []
  deriving DecidableEq, Repr

end Sys2Proof.Machine
end

