-- ==== Sys2Proof/Machine/Parts/Fabric.lean ====
section
/-! DEFINITION. The state of the heat, the ring, the clock monitors, the pipelines, the heat compiler and the memories
(01 R27 to R41, 02 R55 to R101, 03 R103 to R133, 05 R163 to R196). -/

namespace Sys2Proof.Machine

/-- A ring transfer sent in its slot and not yet taken at its destination (R29, R31, R141). Its packet stays in the staging
queue, read and not released, until then. -/
structure Transfer where
  src : Nat
  dst : Nat
  /-- destination queue on tile dst -/
  queue : Nat
  /-- staging queue on tile src, and the position of the packet's first word in it -/
  staging : Nat := 0
  start : BitVec 32 := 0
  /-- link pairs it runs over -/
  route : List Nat := []
  words : List (Word × Byte) := []
  /-- CRC failures so far (R31) -/
  failures : Nat := 0
  deriving DecidableEq, Repr

/-- One ring link pair (R32, R752). -/
structure RingLink where
  /-- 0 not present, 1 down, 2 retraining, 3 up -/
  state : Nat := 0
  retrains : Nat := 0
  dropped : Nat := 0
  /-- instant the retrain in progress, or the last failed one, began -/
  retrainAt : Nat := 0
  deriving DecidableEq, Repr

/-- One clock monitor (R35, R36, R753). -/
structure ClockMonitor where
  fault : Bool := false
  /-- since when the faulted domain has been in range, if it is -/
  inRangeSince : Option Nat := none
  deriving DecidableEq, Repr

/-- The heat, the ring and the clock monitors. -/
structure HeatState where
  /-- HeatCount (R37) -/
  count : Nat := 0
  /-- elapsed instant of the last heat boundary -/
  boundaryAt : Nat := 0
  /-- SpreadEnable in force since bring-up: pace, management clock; absent is spread (R734) -/
  spread : List Bool := []
  /-- the timebase millisecond of the last billing fold start (R41) -/
  foldMs : Nat := 0
  /-- TB64 ns of the last fold start -/
  foldAt : Nat := 0
  /-- folds started at the last boundary and not yet run, by tile -/
  foldDue : List Nat := []
  /-- transfers under way, oldest first -/
  transfers : List Transfer := []
  /-- destination group of each packet in ring staging queue 0x78 + d of tile t, from FreePos on in order, at t × 8 + d: the ring
  header carries it (R113, R138) -/
  stagedGroups : Tab (List Nat) := []
  /-- frame slots used in this heat, at (src × 8 + dst) × 2 + 1 for inbound frames, + 0 for outbound (R116) -/
  ringSent : Tab Nat := []
  /-- lanes and channels that have completed an inbound frame in this heat: port code × 4 + channel (R114) -/
  laneDone : List Nat := []
  /-- link pair n (R54) -/
  links : Tab RingLink := []
  /-- monitor of domain d of tile t at t × 16 + d; d numbers the fields of R753 from Pace = 0 -/
  monitors : Tab ClockMonitor := []
  /-- tiles whose word of R753 has shown a fault since bring-up -/
  faultSeen : List Nat := []
  refclkLost : Bool := false
  /-- since when a lost REFCLK25 has been in range again, if it is (R35, R36) -/
  refclkSince : Option Nat := none
  /-- reasons for which issue slots are off, with the heat count from which each holds: 0 power fail (inbound slots), 1
  diagnosis, 2 activation, 3 pilot light, 4 life-cycle change, 5 tamper, 6 thermal shutdown, 7 restart -/
  halts : Tab Nat := []
  deriving DecidableEq, Repr

/-- What a pacer reading produced (R89): outcome code, acknowledgement authenticator, the 8 written words of the pacer record, the
interval record. -/
structure PacerReading where
  outcome : Nat := 0
  authenticator : Octets := []
  words : List Word := []
  record : List Word := []
  deriving DecidableEq, Repr

/-- A pacer record as the management cores lay it down: word 4 names no rule set, no feeder and no prepayment; the other words are free
(R89, log 71). -/
def pacerRecord : List Word := (List.range 16).map fun w => if w = 4 then 0 else Config.pacerWord w

/-- One pipeline (R55, R66, R92, R94). -/
structure Pipeline where
  /-- 0 IN_SERVICE, 1 FAULTED, 2 HELD -/
  state : Nat := 0
  /-- a pacer or cipher failure makes it FAULTED at the next boundary, and the heat of that failure -/
  failed : Bool := false
  failedHeat : Nat := 0
  /-- its pacer record, outside every issue group, and its last pacer reading (R89; log 71) -/
  record : List Word := pacerRecord
  pacer : PacerReading := {}
  /-- consecutive heats in which its pacer reading and cipher test passed (R94) -/
  passes : Nat := 0
  /-- heat count + 1 of the last heat whose pacer reading passed, whose cipher test passed, and that was counted -/
  pacerHeat : Nat := 0
  katHeat : Nat := 0
  countedHeat : Nat := 0
  /-- instants of its faults in the last 24 h -/
  faultTimes : List Nat := []
  /-- PipelineRelease was written while it was HELD -/
  released : Bool := false
  /-- its recent admissions: issue-slot number since bring-up and hot-record number (R66) -/
  recent : List (Nat × Nat) := []
  deriving DecidableEq, Repr

/-- A full-package diagnosis under way (R95). -/
structure Diagnosis where
  startedAt : Nat
  deriving DecidableEq, Repr

/-- The reading fabric. -/
structure FabricState where
  /-- pipeline p of tile t at t × 8 + p -/
  pipes : Tab Pipeline := []
  /-- next word of the march, per tile (R91), and the instant its lap began -/
  marchAt : Tab Nat := []
  marchStart : Tab Nat := []
  marchLaps : Tab Nat := []
  /-- heat count + 1 of the last march step of a tile (R90) -/
  marchHeat : Tab Nat := []
  diagnosis : Option Diagnosis := none
  /-- the root file in force and the bank of the sheet before it: key of entry e (R58, R127) -/
  roots : Tab Octets := []
  oldRoots : Tab Octets := []
  /-- the idle root bank that a passed loader check has written (R124) -/
  idleRoots : Tab Octets := []
  /-- CMAC chaining values of readouts, by request (R88) -/
  chains : Tab Octets := []
  /-- uncorrectable words that no descriptor in an event queue names, to be found from LastEccFault: (tile, word address, instant)
  (R86) -/
  eccSeen : List (Nat × Nat × Nat) := []
  /-- payloads of the event frames whose descriptors wait in the event queues, by serial number (log 18) -/
  eventBodies : Tab Octets := []
  eventSerial : Nat := 0
  /-- rate limiters (R80, R162), by limiter key -/
  limiters : Tab Limiter := []
  /-- heat count of the swap that disabled a function not yet DISABLED, by function identifier: the port code of a lane or
  tunnel port, 256 and the class of a readout class (R99; log 29) -/
  disabling : Tab Nat := []
  /-- acknowledgements for a disabled lane that were discarded, by port code (R98); no object shows it (log 86) -/
  discarded : Tab Nat := []
  /-- failed flag entries of booked frames, pipeline p of tile t at t × 8 + p (R345); no object shows them (log 62) -/
  ruleFlags : Tab Nat := []
  /-- key registers cleared by a tamper event (R465) -/
  keysCleared : Bool := false
  deriving DecidableEq, Repr

/-- An entry of a sheet's ring section (R122): kind 0 frame, 1 spare, 2 management, 3 digest; source and destination tile and
queue. -/
structure RingEntry where
  kind : Nat
  src : Nat := 0
  dst : Nat := 0
  source : Nat := 0
  dest : Nat := 0
  deriving DecidableEq, Repr

/-- A build of the heat compiler (R103 to R107, R124). -/
structure Build where
  /-- 0 host commit, 1 check only, 2 internal -/
  kind : Nat
  /-- BuildTrigger of the sheet header (R121) -/
  trigger : Nat
  /-- tile of an internal trigger (0xE185) -/
  tile : Nat := 0
  startedAt : Nat := 0
  sequence : Nat := 0
  /-- an internal trigger abandoned this host build and builds its inputs too (R105) -/
  combined : Bool := false
  /-- 1 BUILDING, 2 LOADING, 3 ARMED -/
  phase : Nat := 1
  inputDigest : Octets := []
  digest : Octets := []
  signature : Octets := []
  /-- the digest input: header and sections -/
  image : Octets := []
  reports : List Nat := []
  swapHeat : Nat := 0
  /-- the compiler inputs it builds from: pending values and DOMAIN images at its start (R109) -/
  inputs : Tab Val := []
  inputDomains : Tab Octets := []
  /-- pipelines of kind off in it -/
  off : List Nat := []
  rootMap : Tab Nat := []
  homeMaps : Octets := []
  /-- the ring entries of each link direction, and the counts of the claims section (R122) -/
  ring : List (List RingEntry) := []
  claims : List Nat := []
  /-- on a standby, the input image of the active's commit (R130) -/
  mirrored : Octets := []
  /-- in a pair, the InputDigest that the standby has reported a build from (R130) -/
  peerDigest : Octets := []
  deriving DecidableEq, Repr

/-- What is known of the sheet in force (R121, R127). -/
structure Sheet where
  generation : Nat := 0
  trigger : Nat := 0
  sequence : Nat := 0
  inputDigest : Octets := []
  digest : Octets := []
  signature : Octets := []
  /-- key-store slot of each root-file entry -/
  rootMap : Tab Nat := []
  /-- pipelines of kind off (R104), as t × 8 + p -/
  off : List Nat := []
  /-- lane home maps of its inputs: 96 bytes in the order of 0x5011 (R209, R758) -/
  homeMaps : Octets := []
  image : Octets := []
  /-- compiler version it was built with (R131) -/
  version : Nat := 0
  deriving DecidableEq, Repr

/-- The heat compiler. -/
structure CompilerState where
  run : Option Build := none
  /-- a host build waiting for an internal build to end (R105) -/
  waiting : Option Build := none
  /-- internal builds to retry, oldest first: trigger, tile, and the instant of the failure (R107) -/
  retry : List (Nat × Nat × Nat) := []
  sheet : Option Sheet := none
  staged : Option Sheet := none
  /-- the sheet stored in the boot area, with whether its signature verified when written (R127, R131) -/
  stored : Option Sheet := none
  /-- the swap heat of the sheet in force: its slots 0 to 8 are not-valid (R126) -/
  swapHeat : Nat := 0
  swapped : Bool := false
  /-- the old table half and root bank wait for release (R127) -/
  oldHeld : Bool := false
  deriving DecidableEq, Repr

/-- One scratchpad bank (R174, R175). -/
structure Bank where
  /-- 0 on, 1 retention, 2 off, 3 waking -/
  power : Nat := 0
  /-- heat count of the boundary at which its wake started, and whether it is cleared -/
  wakeHeat : Nat := 0
  clear : Bool := false
  /-- it woke from off without a clear, and the words written since (R177) -/
  lost : Bool := false
  fresh : List Nat := []
  deriving DecidableEq, Repr

/-- A merge-buffer entry (R184, R185). -/
structure MergeEntry where
  /-- code-word address, a multiple of 32 -/
  address : Nat
  /-- bytes written, bit n for byte n -/
  mask : Nat
  at_ : Nat
  /-- the image of the code word, 32 bytes; those the mask names are written -/
  bytes : Octets := []
  deriving DecidableEq, Repr

/-- A circular window record (R172). -/
structure Window where
  enabled : Bool := false
  dram : Bool := false
  wrap : Bool := false
  base : Nat := 0
  length : Nat := 0
  wrapCount : Nat := 0
  deriving DecidableEq, Repr

/-- An armed flip-mask (R191). -/
structure FlipMask where
  tile : Nat := 0
  /-- 0 test area, 1 word, 2 tag -/
  target : Nat := 0
  address : Nat := 0
  bits : Octets := []
  deriving DecidableEq, Repr

/-- The scratchpad and DRAM of every tile, as far as addresses reach them. -/
structure MemState where
  /-- bank b of tile t at t × 32 + b -/
  banks : Tab Bank := []
  /-- the ECC test areas (R192), byte by byte, in canonical form: strictly rising addresses, no zero byte listed -/
  test : List Host.Cell := []
  /-- inverted code bits of stored code words that are not clean, by location: class × 2^48 + tile × 2^40 + address,
  classes 0 scratchpad word, 1 queue tag, 2 DRAM code word, 3 and 4 test-area words of each; bit 511 marks poison -/
  errors : Tab Nat := []
  /-- merge buffer of a tile, oldest entry first -/
  merge : Tab (List MergeEntry) := []
  windows : Tab Window := []
  scratchFlip : Option FlipMask := none
  dramFlip : Option FlipMask := none
  /-- zone S gate: tiles being wiped, with cause and start instant (R178, R179) -/
  wiping : Tab (Nat × Nat) := []
  /-- next address of the scrubbers of a tile and the start of their laps (R193, R195) -/
  scratchNext : Tab Nat := []
  scratchLap : Tab Nat := []
  dramNext : Tab Nat := []
  dramLap : Tab Nat := []
  /-- written code words of a CK7-8 tile beyond those the model stores are not listed: the valid map's set bits (R190) -/
  valid : Tab (List Nat) := []
  deriving DecidableEq, Repr

end Sys2Proof.Machine
end

