-- ==== Sys2Proof/Machine/Parts/Keys.lean ====
section
/-! DEFINITION. The key store, the cryptographic units and the dictionary exchange (12 R443 to R468, 16 R573 to R608). -/

namespace Sys2Proof.Machine

/-- A key-store slot (R444, R445). -/
structure KeySlot where
  /-- 0 encrypt-only, 1 decrypt-only, 2 wrap-only, 3 derive-only -/
  use : Nat := 0
  /-- 1 AES-128, 2 AES-256, 3 P-256 private key -/
  type : Nat := 0
  fabric : Bool := false
  /-- 0 derived, 1 imported, 2 customer partition -/
  origin : Nat := 0
  generation : Nat := 0
  parent : Nat := 0x3FF
  label : Nat := 0
  material : Octets := []
  context : Octets := []
  deriving DecidableEq, Repr

/-- A verify ticket (R438). -/
structure Ticket where
  tile : Nat
  slot : Nat
  iv : Octets := []
  area : Nat := 0
  length : Nat := 0
  deriving DecidableEq, Repr

/-- A cryptographic unit's self-test (R467, R468): unit u of tile t at t × 16 + u, u a bit of CryptoSelfTestState. -/
structure KatState where
  faulted : Bool := false
  passes : Nat := 0
  lastAt : Nat := 0
  deriving DecidableEq, Repr

/-- Keys and cryptographic units. -/
structure KeyState where
  /-- part slots at their number; slot n of tile t from 768 at (t + 1) × 1,024 + n -/
  slots : Tab KeySlot := []
  /-- copies of imported keys of part slots in the configuration store (R633) -/
  copies : Tab KeySlot := []
  /-- the owner seed programmed into fuses (R449) -/
  ownerSeed : Option Octets := none
  /-- tokens submitted since bring-up (R461) -/
  tokens : Nat := 0
  attestSeq : Nat := 0
  /-- last Sequence of broadcast frames, by lane class (log 17) -/
  broadcastSeq : Tab Nat := []
  tickets : List Ticket := []
  kats : Tab KatState := []
  /-- queued public-key work in ns, per tile (R442) -/
  backlog : Tab Nat := []
  deriving DecidableEq, Repr

/-- A UDX reply kept for repeats (R596, R597). -/
structure Reply where
  status : Nat := 0
  hint : Nat := 0
  replyFlags : Nat := 0
  detail : Nat := 0
  generation : Nat := 0
  total : Nat := 0
  data : Octets := []
  deriving DecidableEq, Repr

/-- A request of a session (R597). -/
structure SessionRequest where
  tag : Nat
  /-- the request body, for the comparison of a repeat -/
  body : Octets := []
  final : Bool := true
  reply : Reply := {}
  /-- instant it was admitted, and the instant its reply became final -/
  at_ : Nat := 0
  finalAt : Nat := 0
  command : Bool := false
  answered : Bool := true
  deriving DecidableEq, Repr

/-- A DOMAIN capture (R599). -/
structure Capture where
  index : Nat
  sub : Nat
  meter : Nat
  generation : Nat
  image : Octets := []
  readAt : Nat := 0
  deriving DecidableEq, Repr

/-- Staged segments of a DOMAIN (R600). -/
structure Staging where
  index : Nat
  sub : Nat
  meter : Nat
  /-- (offset, bytes) of the segments staged -/
  parts : List (Nat × Octets) := []
  deriving DecidableEq, Repr

/-- A UDX session (R591 to R600). -/
structure Session where
  id : Nat
  role : Nat
  transport : Nat
  peer : Octets := []
  /-- its keys lie in tile 0's slots keySlot and keySlot + 1: host to part, part to host -/
  keySlot : Nat := 0
  halfOpen : Bool := true
  openedAt : Nat := 0
  openedSeconds : Nat := 0
  lastAt : Nat := 0
  lastSeconds : Nat := 0
  inTop : Nat := 0
  inMask : Nat := 0
  outSeq : Nat := 1
  requests : List SessionRequest := []
  capture : Option Capture := none
  staging : Option Staging := none
  /-- values of action records (R578): index × 256 + sub, with the meter in the high part -/
  values : Tab Val := []
  deriving DecidableEq, Repr

/-- A mailbox channel (R585). -/
structure Channel where
  baseIn : Nat := 0
  baseOut : Nat := 0
  entries : Nat := 0
  vector : Nat := 0
  inProducer : Nat := 0
  inConsumer : Nat := 0
  outProducer : Nat := 0
  outConsumer : Nat := 0
  /-- UDX replies held for a full out ring, with the instant each was held (R586) -/
  heldReplies : List (Octets × Nat) := []
  deriving DecidableEq, Repr

/-- A vector of the MSI-X table in BAR2 (R584): its message and its mask. -/
structure MsixVector where
  address : Nat := 0
  data : Nat := 0
  masked : Bool := true
  deriving DecidableEq, Repr

/-- The dictionary and the exchange. -/
structure DictState where
  /-- values that are not at their defaults: index × 256 + sub; the values in force -/
  objs : Tab Val := []
  /-- pending values of compiler inputs that differ in store from those in force (R576) -/
  pend : Tab Val := []
  /-- DOMAIN images: index × 256 + sub -/
  domains : Tab Octets := []
  pendDomains : Tab Octets := []
  sessions : List Session := []
  lastSession : Nat := 0
  captures : Nat := 0
  /-- meter-scoped reads that wait for a query slot: (query, session, tag) (R87, R581); the last query number -/
  queries : List (Nat × Nat × Nat) := []
  lastQuery : Nat := 0
  /-- estimated service time of requests not yet final, ns (R607) -/
  backlog : Nat := 0
  /-- host commit accepted in this life-cycle state (R574) -/
  committed : Bool := false
  /-- mailbox: 0 NOT_READY, 1 READY, 2 ERROR -/
  mailboxState : Nat := 0
  mailboxError : Nat := 0
  mailboxEnable : Bool := false
  channels : List Channel := []
  /-- the MSI-X table of 4 vectors and its pending bits, bit v for vector v (R584) -/
  msix : List MsixVector := [{}, {}, {}, {}]
  msixPending : Nat := 0
  deriving DecidableEq, Repr

end Sys2Proof.Machine
end

