-- ==== Sys2Proof/Machine/Parts/Line.lean ====
section
/-! DEFINITION. The state of the line lanes and of the mains time base (07 R230 to R287). -/

namespace Sys2Proof.Machine

/-- A zero-crossing input of a tile (R265 to R270). -/
structure ZcInput where
  /-- 0 never in sync, 1 in sync, 2 missing, 3 lost -/
  state : Nat := 0
  /-- last accepted or synthesised crossing, TB64 ns -/
  last : Nat := 0
  /-- recent edges while out of sync, newest first -/
  edges : List Nat := []
  /-- the edge accepted in the cycle in progress -/
  accepted : Option Nat := none
  misses : Nat := 0
  reversed : Bool := false
  /-- last accepted offsets from the reference, newest first, at most 64, ns, each within half a period of 0 -/
  offsets : List Int := []
  deriving DecidableEq, Repr

/-- The mains time base of a tile (R266 to R272). -/
structure Mains where
  /-- 0 LOCKED, 1 HOLDOVER, 2 FREE_RUN -/
  state : Nat := 2
  /-- period estimate, ns; before any interval has been measured the spec states none: 20 ms (DESIGN CHOICE, log 89) -/
  period : Nat := 20000000
  /-- last reference crossing, TB64 ns, its number, and whether it was built from accepted edges -/
  last : Nat := 0
  number : Nat := 0
  built : Bool := false
  /-- last intervals between crossings built from accepted edges, newest first, at most 8 -/
  intervals : List Nat := []
  /-- consecutive cycles without an accepted edge of any input -/
  misses : Nat := 0
  /-- elapsed instant of the entry to FREE_RUN -/
  lostAt : Nat := 0
  rotationACB : Bool := false
  /-- inputs A, B, C -/
  inputs : List ZcInput := [{}, {}, {}]
  deriving DecidableEq, Repr

/-- A tag of a lane (R246). -/
structure LineTag where
  meter : Nat
  kind : Nat := 0
  heardAt : Nat := 0
  deriving DecidableEq, Repr

/-- A tone map toward a meter (R250, R253). -/
structure ToneMap where
  image : Octets := []
  at_ : Nat := 0
  deriving DecidableEq, Repr

/-- A frame the lane has to send, from its transmit queue or its own (R245, R248). -/
structure LineFrame where
  /-- 0 beacon, 1 data, 3 sounding, 4 lane management -/
  kind : Nat
  cls : Nat
  dst : Nat
  /-- channel 0 to 2, 3 all -/
  phase : Nat := 3
  payload : Octets := []
  kindField : Nat := 0
  /-- it heads the lane's transmit queue -/
  queued : Bool := false
  deriving DecidableEq, Repr

/-- A send procedure under way (R259). -/
structure LineSend where
  frame : LineFrame
  cw : Nat
  tries : Nat := 0
  bc : Nat := 0
  seq : Nat := 0
  /-- tone-map index, 0 robust -/
  map : Nat := 0
  retry : Bool := false
  /-- blocks to send, bit n for block n + 1; 0 all -/
  blocks : Nat := 0
  /-- 0 waits for a window cycle, 1 in the windows, 2 deferred to the next cycle, 3 contends, 4 on the line, 5 waits for the
  receipt -/
  step : Nat := 0
  endedAt : Nat := 0
  deriving DecidableEq, Repr

/-- Blocks of a frame that a receiver has heard, by its source and sequence (R260, R261). -/
structure BlockHold where
  src : Nat
  seq : Nat
  /-- the channel of the receiver, 3 for the one that combines all three -/
  channel : Nat := 0
  length : Nat
  /-- (block number, bytes) -/
  parts : List (Nat × Octets) := []
  /-- elapsed instant of the transmission that first delivered any of them; before one has, of the first heard -/
  firstAt : Nat := 0
  /-- receive instant of the first transmission, public ns -/
  rx : Nat := 0
  /-- the failed blocks of its receipts, newest first -/
  reports : List Nat := []
  /-- it has been assembled -/
  done : Bool := false
  deriving DecidableEq, Repr

/-- A calibration under way (R280 to R282). -/
structure Calibration where
  /-- sub-index of the channel -/
  channel : Nat
  step : Nat := 0
  startedAt : Nat
  lastAt : Nat := 0
  result : Octets := []
  deriving DecidableEq, Repr

/-- A coupling channel (R276 to R279): fault bits of 0x3020, passed retests, last retest, port check done. -/
structure LinePort where
  bits : Nat := 0
  passes : Nat := 0
  retestAt : Nat := 0
  checked : Bool := false
  pilotAt : Nat := 0
  deriving DecidableEq, Repr

/-- A line lane. -/
structure LineLane where
  /-- enabled by the sheet in force and not yet DISABLED -/
  on : Bool := false
  starting : Bool := false
  startAt : Nat := 0
  /-- the tile slot of the beacon key (12 R455) -/
  keySlot : Option Nat := none
  /-- the reported state of R283 -/
  state : Nat := 0
  beaconSeq : Nat := 0
  /-- a planned beacon waits, for this cycle number; the cycle of the last one planned, and its elapsed instant -/
  beacon : Option Nat := none
  planned : Option Nat := none
  plannedAt : Nat := 0
  firstBeacon : Bool := false
  skipped : Nat := 0
  sentRun : Nat := 0
  impaired : Bool := false
  /-- lane management and sounding frames to send, oldest first -/
  own : List LineFrame := []
  sending : Option LineSend := none
  /-- a window cycle is open, from this elapsed instant, after one with no burst; a claim tone was heard, and one was sent, in
  this window -/
  window : Bool := false
  openedAt : Nat := 0
  quiet : Bool := false
  heard : Option Nat := none
  claimed : Option Nat := none
  /-- the elapsed instants from which a window cycle may open on channels A, B and C (R256) -/
  opensAt : List Nat := [0, 0, 0]
  transmitting : Bool := false
  /-- elapsed start and end of the last receipt, claim tone, calibration step or frame sent (R231, R233) -/
  sentFrom : Nat := 0
  sentTo : Nat := 0
  beaconOnLine : Bool := false
  tags : Tab LineTag := []
  /-- map of tag on channel at tag × 4 + channel -/
  maps : Tab ToneMap := []
  /-- maps the part has built and given to meters, by tag × 256 + index (R252) -/
  given : Tab Octets := []
  /-- map_fails of R259, by destination tag -/
  mapFails : Tab Nat := []
  seqs : Tab Nat := []
  holds : List BlockHold := []
  calibration : Option Calibration := none
  deriving DecidableEq, Repr

/-- The line lanes. -/
structure LineState where
  /-- lane l of tile t at t × 4 + l -/
  lanes : Tab LineLane := []
  /-- channel c of that lane at (t × 4 + l) × 3 + c -/
  ports : Tab LinePort := []
  mains : Tab Mains := []
  /-- the count of R272 and the tile that keeps it -/
  cycle : Nat := 0
  cycleAt : Nat := 0
  authority : Nat := 0
  /-- notch ranges in force, and a new profile with the instant it was written (R243) -/
  profile : Nat := 1
  table : Octets := []
  newNotch : Option (Nat × Octets × Nat) := none
  /-- frames held by line lane 0.0 in pilot light (R285): packets of queue 0x58 -/
  pilotHeld : List (List (Word × Byte)) := []
  pilotDropped : Nat := 0
  deriving DecidableEq, Repr

end Sys2Proof.Machine
end

