-- ==== Sys2Proof/Machine/Parts/Pair.lean ====
section
/-! DEFINITION. The state of pair operation (15 R532 to R572). -/

namespace Sys2Proof.Machine

/-- A mirror-link message sent and not yet acknowledged (R536). -/
structure MirrorMessage where
  seq : Nat
  kind : Nat
  body : Octets := []
  sentAt : Nat := 0
  deriving DecidableEq, Repr

/-- A host write of the active that waits for its apply instant and for the standby's acknowledgement (R548): the session
as it stood, with the values the write reads. -/
structure Deferred where
  at_ : Nat
  seq : Nat
  session : Session
  tag : Nat
  index : Nat
  sub : Nat
  meter : Nat
  data : Octets := []
  applied : Bool := false
  acked : Bool := false
  /-- status, Detail and data of the reply to send, once applied -/
  reply : Reply := {}
  final : Bool := true
  deriving DecidableEq, Repr

/-- A MGMT record that waits for its apply instant (R548, R549; record types in log 35). -/
structure MgmtRecord where
  at_ : Nat
  kind : Nat
  args : List Nat := []
  data : Octets := []
  deriving DecidableEq, Repr

/-- One bin of the digest comparison (R553 to R555). -/
structure Bin where
  xor_ : Nat := 0
  count : Nat := 0
  closed : Bool := false
  /-- (meter, contribution), oldest first -/
  log : List (Nat × Nat) := []
  /-- Xor and Count of the peer's DIGEST -/
  peer : Option (Nat × Nat) := none
  deriving DecidableEq, Repr

/-- A state copy under way (R543). -/
structure SyncState where
  /-- 0 none, 1 passes run, 2 the final pass is named, 3 frames are held, 4 F′ is named -/
  phase : Nat := 0
  passes : Nat := 0
  startedAt : Nat := 0
  /-- instants F and F′ in TB64 ns, and the heat count at the pause -/
  pauseAt : Nat := 0
  releaseAt : Nat := 0
  pausedHeat : Nat := 0
  /-- records as the active last sent them -/
  sent : Tab Octets := []
  /-- instant an abandoned sync restarts -/
  restartAt : Option Nat := none
  deriving DecidableEq, Repr

structure PairState where
  /-- R539 code -/
  state : Nat := 0
  baton : Bool := false
  /-- a planned handover is under way: P in TB64 ns and the requester, 0 revert, 1 owner, 2 update -/
  plan : Option (Nat × Nat) := none
  /-- checks that failed since the last heat boundary, by their bit (R559); 13 a split baton, 14 a tamper event -/
  failures : List Nat := []
  /-- heat count of each check's last failure, and instants of failures in the last 24 h -/
  failedHeat : Tab Nat := []
  failedTimes : List Nat := []
  /-- a resignation is withheld for a failure already recorded -/
  withheld : Bool := false
  /-- low 32 bits of the peer's UnitId, the whole of it, its flags and state -/
  peer : Nat := 0
  peerId : Nat := 0
  peerState : Nat := 0
  peerFlags : Nat := 0
  peerPreferred : Bool := false
  /-- a HELLO was received, and the unit is not compatible -/
  helloSeen : Bool := false
  mismatch : Bool := false
  preferred : Bool := false
  /-- the standby is in sync and not detached -/
  peerSync : Bool := false
  /-- the standby was detached for a MGMT record it did not acknowledge -/
  peerDetached : Bool := false
  /-- ImageId of the container the standby reported VERIFIED (R687) -/
  peerImage : Nat := 0
  /-- BATON_IN: 0 dead, 1 non-holding, 2 holding; the instant it died -/
  batonIn : Nat := 0
  deadAt : Nat := 0
  /-- mirror link: up; heat count of the last HEARTBEAT; timed out since -/
  linkUp : Bool := false
  heartbeatHeat : Nat := 0
  heartbeatLost : Option Nat := none
  sendSeq : Nat := 0
  recvSeq : Nat := 0
  unacked : List MirrorMessage := []
  startedAt : Nat := 0
  /-- the last HELLO or HEARTBEAT of the peer arrived (R541) -/
  heardAt : Nat := 0
  helloAt : Nat := 0
  timeMs : Nat := 0
  /-- send instant of this unit's last TIME message and receive instant of the peer's, TB64 ns (R550) -/
  timeSent : Nat := 0
  timeHeard : Nat := 0
  /-- a take is allowed from this instant, for a reason of LastHandover -/
  takeAt : Option (Nat × Nat) := none
  /-- TB64 ns and failed checks of the peer's resignation -/
  resignedTb : Nat := 0
  resignedChecks : Nat := 0
  held : Bool := false
  /-- instants of unplanned resignations -/
  resigned : List Nat := []
  /-- every index entry is quarantined for a sync (R543) -/
  quarantine : Bool := false
  /-- the forwarders hold completed frames (R543) -/
  paused : Bool := false
  sync : SyncState := {}
  /-- cause of a sync to be started when the peer is heard again -/
  syncCause : Option Nat := none
  /-- a diagnosis passed since the unit last resigned or came up, at this instant -/
  diagnosedAt : Option Nat := none
  diagnosisDone : Bool := false
  standbyAt : Nat := 0
  /-- the apply instant of the record being applied: its effects send no further records -/
  applying : Option Nat := none
  /-- counts of 0x380D at the last superframes, newest first, and ActiveFieldSilent recorded (R564) -/
  lanterns : List (List Nat) := []
  fieldSilent : Bool := false
  deferred : List Deferred := []
  mgmt : List MgmtRecord := []
  /-- digest bins by number, at most 256 closed -/
  bins : Tab Bin := []
  /-- meters flagged by a unit-local fence: meter, first bin, last bin once closed -/
  flagged : List (Nat × Nat × Option Nat) := []
  /-- meters under repair; instants of repairs in the last 1 s -/
  repairing : List Nat := []
  repaired : List Nat := []
  deriving DecidableEq, Repr

end Sys2Proof.Machine
end

