-- ==== Sys2Proof/Machine/Parts/Radio.lean ====
section
/-! DEFINITION. The state of the radio lanes (08 R288 to R320). -/

namespace Sys2Proof.Machine

/-- A meter's assignment: span, phase, log2 of the period (R297). -/
structure Cells where
  span : Nat
  phase : Nat
  logP : Nat
  deriving DecidableEq, Repr

/-- An entry of a lane's association table (R311). -/
structure Assoc where
  /-- 0 joining, 1 associated, 2 contention only -/
  state : Nat := 0
  /-- last FrameCounter accepted -/
  counter : Nat := 0
  cells : Option Cells := none
  /-- the assignment before, if any, that stands until a SlotAssign takes effect, and the SFN from which the new one holds (R298) -/
  old : Option (Option Cells × Nat) := none
  /-- its SlotAssign frame waits for room in the downlink store (R295) -/
  waits : Bool := false
  heardAt : Nat := 0
  deriving DecidableEq, Repr

/-- A frame of the downlink store (R295): MAC kind, meter, body, the instant it entered, and whether it is an acknowledgement
in time for its reply window. -/
structure Downlink where
  kind : Nat := 1
  meter : Nat
  body : Octets := []
  at_ : Nat := 0
  ack : Bool := false
  deriving DecidableEq, Repr

/-- A radio lane. -/
structure RadioLane where
  on : Bool := false
  starting : Bool := false
  /-- R316 code -/
  state : Nat := 0
  /-- geometry in slots: lantern, span, spans, contention spans (R289); airtimes of the longest data frame and the lantern, ns -/
  lanternSlots : Nat := 0
  spanSlots : Nat := 0
  spans : Nat := 0
  contention : Nat := 0
  dataTime : Nat := 0
  lanternTime : Nat := 0
  /-- superframe in progress and its start, TB64 ns; none before the first and after a step -/
  sfn : Option Nat := none
  startTb : Nat := 0
  /-- superframes begin at or after this TB64 instant (R317) -/
  resumeTb : Nat := 0
  /-- channel-list index fixed by superframe; 255 none (R300) -/
  fixed : Tab Nat := []
  /-- broadcast spans of this superframe, and the first span not yet over -/
  broadcast : Nat := 0
  nextSpan : Nat := 0
  /-- airtime spent: (transceiver channel, end in TB64 ns, ns) (R301) -/
  airtime : List (Nat × Nat × Nat) := []
  macSeq : Nat := 0
  counter : Nat := 0
  /-- 0 nothing, 1 a lantern, 2 another frame is being transmitted -/
  transmitting : Nat := 0
  /-- on a standby: the lantern of this superframe was prepared and its status check is awaited (R318) -/
  prepared : Bool := false
  /-- the channel-list index the transceiver is set to; none after a reset -/
  tuned : Option Nat := none
  channel : Nat := 0
  /-- a lantern of this superframe was sent; superframes without one; consecutive lanterns sent -/
  lanternSent : Bool := false
  missed : Nat := 0
  sentRun : Nat := 0
  impaired : Bool := false
  assocs : Tab Assoc := []
  store : List Downlink := []
  /-- the frame received in a span: span, meter, MAC kind (R293) -/
  uplink : Option (Nat × Nat × Nat) := none
  /-- tile slots of the link key: encrypt and decrypt copies; the new and the old pair of a roll (R306) -/
  keySlot : Option Nat := none
  newKeySlot : Option Nat := none
  oldKeySlot : Option Nat := none
  /-- SFN from which the new key is used -/
  switchSfn : Nat := 0
  deriving DecidableEq, Repr

/-- The radio lanes. -/
structure RadioState where
  /-- lane l of tile t at t × 8 + l -/
  lanes : Tab RadioLane := []
  /-- a link-key roll under way: the new epoch -/
  rolling : Option Nat := none
  deriving DecidableEq, Repr

end Sys2Proof.Machine
end

