-- ==== Sys2Proof/Machine/Parts/Meters.lean ====
section
/-! DEFINITION. The state the part keeps for a meter: hot record, cold and billing records, session, placement,
prepayment, loss, lane and firmware state (06 R198, 09 R334 to R348, 10 R362 to R400, 11 R407 to R422). -/

namespace Sys2Proof.Machine

/-- A request waiting in a meter's pending list (R213, R757): its queue kind (0 outbound, 1 readout, 2 query, 3 snapshot)
and packet. -/
structure HeldRequest where
  kind : Nat
  words : List (Word × Byte) := []
  deriving DecidableEq, Repr

/-- A host write held for a fence (R222): its session and tag, what it does and its values. -/
structure HeldWrite where
  session : Nat
  tag : Nat
  index : Nat
  sub : Nat
  args : List Nat := []
  deriving DecidableEq, Repr

/-- The billing record of R363. -/
structure Billing where
  foldBase : List Nat := []
  extraBase : Nat := 0
  chargeBase : Nat := 0
  periodIndex : Nat := 0
  periodStart : Nat := 0
  lastFold : Nat := 0
  periodFlags : Nat := 0
  /-- (DemandW, IntervalEnd) per tariff -/
  demandMax : List (Nat × Nat) := []
  lastTopUpId : Nat := 0
  /-- a booking earlier than the previous switch was found (R367); the next BOOK entry says so -/
  spanSeen : Bool := false
  /-- times whose demand intervals are clock-split, newest first (R391) -/
  splits : List Nat := []
  deriving DecidableEq, Repr

/-- Placement beside the placement word (R205 to R224, R228). -/
structure MeterPlace where
  /-- 0 settled, 1 in fence, 2 parked, 3 unserved are computed; the last commit in timebase seconds -/
  lastCommit : Nat := 0
  /-- elapsed instant of the last voluntary move -/
  lastVoluntary : Option Nat := none
  parked : Bool := false
  /-- the candidate path that beat the current one in the last pass (R206) -/
  challenger : Option Nat := none
  /-- paths heard: path code, last Sequences authenticated on it (newest first, at most 64), last heard instant -/
  paths : List (Nat × List Nat × Nat) := []
  /-- instants of interval-data readouts (R206 rule 4) -/
  readouts : List Nat := []
  /-- lane class of the frames last heard through a tunnel (log 20) -/
  tunnelClass : Nat := 0
  /-- relay table index the meter was last heard through, and those of its last 64 tunnelled frames, newest first, by port code and
  RxTimeNs (R205, R356) -/
  relay : Nat := 0
  relays : List (Nat × Nat) := []
  /-- host writes held while a fence is open (R222) -/
  heldWrites : List HeldWrite := []
  deriving DecidableEq, Repr

/-- Prepayment beside words 6 and 7 (R396 to R400, R760). -/
structure MeterPrepay where
  /-- RequestId of the DISCONNECT and the RECONNECT that stand, 0 none -/
  disconnectId : Nat := 0
  reconnectId : Nat := 0
  /-- a DISCONNECT held for a friendly window, with the window's end in timebase seconds -/
  heldUntil : Option Nat := none
  /-- no further DISCONNECT is sealed automatically while EXHAUSTED -/
  refusedForGood : Bool := false
  /-- elapsed instant from which a RECONNECT is retried -/
  reconnectAt : Option Nat := none
  /-- commands held while unserved: DISCONNECT, RECONNECT, CREDIT_STATE -/
  heldDisconnect : Bool := false
  heldReconnect : Bool := false
  heldCreditState : Bool := false
  /-- TopUpTotal to be written in word 7 at the next boundary (R399) -/
  topUpNew : Option Nat := none
  deriving DecidableEq, Repr

/-- Loss membership beside word 15 (R407 to R409, R421, R422). -/
structure MeterLoss where
  feederTag : Nat := 0
  declaredPhase : Nat := 4
  exportExpected : Bool := false
  deriving DecidableEq, Repr

/-- A line meter's detected phase (07 R274). -/
structure MeterLine where
  /-- 0 A, 1 B, 2 C, 3 unknown -/
  phase : Nat := 3
  reversed : Bool := false
  lastAngle : Int := 0
  agreeing : Nat := 0
  kind : Nat := 0
  /-- the phase and reversal the agreeing frames show -/
  seen : Option (Nat × Bool) := none
  deriving DecidableEq, Repr

/-- A meter's firmware state in a campaign (19 R691 to R695). -/
structure MeterFirmware where
  target : Nat := 0
  state : Nat := 0
  /-- block numbers held -/
  blocks : List Nat := []
  deriving DecidableEq, Repr

/-- An enrolled meter. -/
structure Meter where
  number : Nat
  home : Nat := 0
  group : Nat := 0
  /-- hot-record number on the home tile (R166) -/
  record : Nat := 0
  /-- the 16 words of the hot record (R334) -/
  hot : List Word := []
  /-- the 64 registers of the cold record (R362) -/
  cold : List Word := []
  billing : Billing := {}
  /-- the index entry's quarantine bit stands for an uncorrectable word (R86) -/
  eccQuarantine : Bool := false
  /-- the index entry is deleted -/
  unindexed : Bool := false
  reportInterval : Nat := 900
  retiring : Bool := false
  /-- the retirement's fold and final period record are done -/
  finalFolded : Bool := false
  /-- elapsed instant of the last BOOKED or DUPLICATE frame (R348) -/
  heardAt : Nat := 0
  silent : Bool := false
  silentAt : Nat := 0
  duplicates : Nat := 0
  lastBooked : Nat := 0
  /-- a drained interval record named it since its last fold (R488) -/
  drained : Bool := false
  /-- timebase seconds at the start of its present incarnation (R489) -/
  incarnationAt : Nat := 0
  nearEnd : Bool := false
  /-- new key epoch, RequestId of KEY_EPOCH, acknowledged (R342) -/
  epochChange : Option (Nat × Nat × Bool) := none
  /-- words waiting for a freeze, and its step: 0 none, 1 requested, 2 quarantined, 3 written (R343) -/
  freezeWords : List (Nat × Word) := []
  freezeStep : Nat := 0
  /-- heat count of the freeze's first boundary -/
  freezeHeat : Nat := 0
  /-- incarnation and key epoch a freeze is to set (R341 action 2) -/
  incarnationChange : Option (Nat × Nat) := none
  /-- elapsed instant of the last SET_TIME the part sent (R392) -/
  lastSetTime : Option Nat := none
  held : List HeldRequest := []
  place : MeterPlace := {}
  prepay : MeterPrepay := {}
  loss : MeterLoss := {}
  line : MeterLine := {}
  firmware : MeterFirmware := {}
  deriving DecidableEq, Repr

end Sys2Proof.Machine
end

