-- ==== Sys2Proof/Machine/Parts/Storage.lean ====
section
/-! DEFINITION. The state of the flash translation and the DRAM layout (13 R471 to R502). -/

namespace Sys2Proof.Machine

/-- An interval record drained into a tile's interval ring (R481): its four words and kind, the timebase hour it was
drained in, and where it is safe. -/
structure RingRecord where
  words : List Word
  /-- 0 a reading or rejected record, 1 a block, 3 a gap record -/
  kind : Nat := 0
  meter : Nat
  time : Nat
  seq : Nat
  hour : Nat
  /-- timebase seconds at the drain -/
  drainedAt : Nat := 0
  /-- in a written ring-log page (R482); in a verified segment (R483) -/
  logged : Bool := false
  saved : Bool := false
  deriving DecidableEq, Repr

/-- A sealed segment (R483 to R486). -/
structure Segment where
  id : Nat
  tile : Nat
  hour : Nat
  /-- true in the TLC pool, false in the SLC buffer -/
  tlc : Bool
  records : List RingRecord := []
  sealedAt : Nat := 0
  /-- page numbers found uncorrectable (R489) -/
  lostPages : List Nat := []
  /-- the first MeterNumber of each page (R483) -/
  index : List Nat := []
  deriving DecidableEq, Repr

/-- A programmed page: the segment or ring-log span it belongs to and its number there, the logical page number, the write sequence
and the CRCs of its four code words (R474). -/
structure NandPage where
  owner : Nat
  index : Nat
  logical : Nat := 0
  seq : Nat := 0
  crc : List Nat := []
  valid : Bool := true
  deriving DecidableEq, Repr

/-- A block of the SLC buffer or the TLC pool that is not free (R491). -/
structure Block where
  tlc : Bool
  /-- its pages in the order they were programmed -/
  pages : List NandPage := []
  programmedAt : Nat := 0
  refresh : Bool := false
  deriving DecidableEq, Repr

/-- A checkpoint copy of a meter's cold and billing records with its page's journal position (R493). -/
structure Checkpoint where
  meter : Nat
  position : Nat := 0
  /-- its page's number, 21 record indices each, and write sequence (R474) -/
  page : Nat := 0
  seq : Nat := 0
  cold : List Word := []
  billing : Billing := {}
  deriving DecidableEq, Repr

/-- The flash of a tile. -/
structure TileStore where
  /-- a valid zone directory is held; good blocks at the format; blocks of the zone, SLC buffer, shared spares, TLC pool -/
  formatted : Bool := false
  good : Nat := 0
  zone : Nat := 0
  slc : Nat := 0
  shared : Nat := 0
  tlc : Nat := 0
  /-- spares left of the zone -/
  zoneSpares : Nat := 0
  /-- blocks in use by number; erases since a format by number × 2, plus 1 in the TLC pool; formats; blocks retired -/
  blocks : Tab Block := []
  erases : Tab Nat := []
  formats : Nat := 0
  retired : List Nat := []
  /-- the interval ring, oldest first; the drain instant of the first record of the ring-log page being filled -/
  ring : List RingRecord := []
  /-- records written to the ring's window, modulo its capacity (R481) -/
  ringAt : Nat := 0
  pageAt : Nat := 0
  /-- records drained in the hour in progress and in the last whole hour, and the hour in progress -/
  hourCount : Nat := 0
  lastHourCount : Nat := 0
  hour : Nat := 0
  /-- an hour whose late sealing is recorded -/
  lateHour : Option Nat := none
  /-- garbage collection runs in the SLC buffer; in the TLC pool -/
  gcSlc : Bool := false
  gcTlc : Bool := false
  /-- next record index of the rolling checkpoint, and when its last page was written (R493) -/
  checkpointNext : Nat := 0
  checkpointAt : Nat := 0
  /-- the exhausted record zone freed no block: folds go on without a journal (R500) -/
  noJournal : Bool := false
  /-- expiries of NAND operations as (die, instant); blocks whose read was issued once more; dies removed (R644, R645) -/
  timeouts : List (Nat × Nat) := []
  rereads : List Nat := []
  diesGone : List Nat := []
  /-- record-zone page writes in all, and by day of the last 30 (R497) -/
  zoneWrites : Nat := 0
  zoneDays : Tab Nat := []
  /-- the write sequence of the next page and the next logical page number (R474) -/
  writeSeq : Nat := 0
  nextLogical : Nat := 0
  deriving DecidableEq, Repr

/-- A slot of a tile's DRAM tier history (R484): its number, the records written to it, and those it holds, newest first, at most
2,048. -/
structure TierSlot where
  slot : Nat := 0
  written : Nat := 0
  records : List RingRecord := []
  deriving DecidableEq, Repr

/-- The storage of the part. -/
structure StorageState where
  tiles : Tab TileStore := []
  segments : List Segment := []
  nextSegment : Nat := 1
  checkpoints : Tab Checkpoint := []
  /-- the copies of the previous lap (R493, R495) -/
  oldCheckpoints : Tab Checkpoint := []
  /-- DRAM tier history slots by tile × 2^32 + meter (R484) -/
  tierSlots : Tab TierSlot := []
  deriving DecidableEq, Repr

end Sys2Proof.Machine
end

