-- ==== Sys2Proof/Machine/Parts/Lanes.lean ====
section
/-! DEFINITION. The state of the line lanes, radio lanes, storage, pair, update, pins and power (07, 08, 13, 15, 19, 20,
21). -/

namespace Sys2Proof.Machine

/-- What a boot slot holds (R673, R674). -/
structure BootSlot where
  imageId : Nat := 0
  version : Nat := 0
  security : Nat := 0
  flags : Nat := 0
  /-- SHA-384 of the whole image -/
  digest : Octets := []
  deriving DecidableEq, Repr

/-- A meter image slot (R674): 0 empty, 3 VERIFIED. -/
structure MeterImage where
  imageId : Nat
  bytes : Octets := []
  deriving DecidableEq, Repr

/-- A campaign (R691 to R695). -/
structure Campaign where
  imageId : Nat
  slot : Nat
  startedAt : Nat
  round : Nat := 1
  /-- what is left of the round: (block, 0 broadcast or a meter) -/
  todo : List (Nat × Nat) := []
  resent : Nat := 0
  /-- instant of the last block, and of the round's end -/
  sentAt : Nat := 0
  endedAt : Option Nat := none
  /-- EffectiveSeconds of an activate -/
  effective : Option Nat := none
  deriving DecidableEq, Repr

/-- An activation under way (R679): its step (0 accepted, 1 the cores restart, 2 taken up), the pause's start, the version
before it. -/
structure Activation where
  step : Nat := 0
  pauseAt : Nat := 0
  oldVersion : Nat := 0
  deriving DecidableEq, Repr

/-- An update of a pair (R688): its step on this unit, the image, its measurement, the instant of step 2, and whether the
standby has left its eligible state since. -/
structure PairUpdate where
  step : Nat := 1
  imageId : Nat
  measurement : Octets := []
  startedAt : Nat := 0
  away : Bool := false
  deriving DecidableEq, Repr

/-- Firmware and meter images (19 R672 to R697). -/
structure UpdateState where
  /-- 0 EMPTY to 5 FAILED, and the code of the last failure -/
  state : Nat := 0
  result : Nat := 0
  target : Nat := 0
  length : Nat := 0
  /-- blocks of 4,096 B in the staging area -/
  area : Tab Octets := []
  /-- the staged part image with the slot it lies in -/
  staged : Option (BootSlot × Nat) := none
  /-- an image has started, so its ImageId is in 0xA020 -/
  stagedId : Nat := 0
  slots : Tab BootSlot := []
  /-- boot directory: first and second slots, confirmed, start count, sequence -/
  first : Nat := 0
  second : Nat := 1
  confirmed : Bool := true
  startCount : Nat := 0
  dirSeq : Nat := 0
  /-- FirmwareVersion of an image that has been activated or started with known contents -/
  running : Option Nat := none
  activation : Option Activation := none
  activating : Bool := false
  resumedAt : Nat := 0
  /-- the build of trigger 6 waits for its result (R681) -/
  rebuild : Bool := false
  pairUpdate : Option PairUpdate := none
  meterImages : Tab MeterImage := []
  campaigns : List Campaign := []
  deriving DecidableEq, Repr

/-- A mirror-link or Ethernet receiver (R713). -/
structure Serdes where
  locked : Bool := false
  inverted : Bool := false
  /-- it held block lock before, since bring-up began -/
  before : Bool := false
  deriving DecidableEq, Repr

/-- The pins and the test access port (20). -/
structure PinState where
  /-- consecutive comparisons that differed, and that agreed, of pins 0 BATON_OUT, 1 LANE_OWN, 2 PEER_ALIVE, 3 to 6
  TIME_OUT0 to 3 -/
  differ : List Nat := [0, 0, 0, 0, 0, 0, 0]
  agree : List Nat := [0, 0, 0, 0, 0, 0, 0]
  comparedAt : Nat := 0
  /-- mirror lanes 0 to 3, then Ethernet 0 and 1 -/
  serdes : Tab Serdes := []
  retrains : Nat := 0
  /-- Ethernet ports whose link is down -/
  linkDown : List Nat := []
  /-- elapsed instants of the last MDIO poll of each port -/
  polledAt : Tab Nat := []
  /-- SERDES_REFSEL straps, sampled at the rising edge of SYS_RESET_N -/
  straps : Nat := 0
  /-- PinSlew settings in force -/
  slew : List Nat := [0, 0, 0]
  /-- JTAG: instruction register, boundary register, 0 normal, 1 EXTEST, 2 CLAMP, 3 HIGHZ -/
  ir : Nat := 1
  boundary : Octets := []
  mode : Nat := 0
  deriving DecidableEq, Repr

/-- Supplies, hold-up, pilot light and temperature (21). -/
structure PowerState where
  /-- the power-fail warning stands, from this elapsed instant -/
  warning : Bool := false
  warnAt : Nat := 0
  /-- journal entries and time in µs of the last flush (R379), for its report -/
  entries : Nat := 0
  flushUs : Nat := 0
  /-- the hold-up supply is charged (R730) -/
  holdup : Bool := false
  /-- rails out of range, at rail × 8 + tile, with the elapsed instant; the last reading of each in mV -/
  rails : Tab Nat := []
  volts : Tab Nat := []
  /-- 0 off, 1 ENTERING, 2 PILOT, 3 WAKING -/
  pilot : Nat := 0
  /-- elapsed instants of the entry, of PILOT and of the wake; its cause; TB64 second at the entry -/
  enteredAt : Nat := 0
  pilotAt : Nat := 0
  wakeAt : Nat := 0
  wakeCause : Nat := 0
  enteredTb : Nat := 0
  /-- a wake condition came during entry, or waits for the warning to end -/
  wakeNext : Option Nat := none
  /-- events held by core 0 in pilot light -/
  held : List Offer := []
  /-- last readings of the sensors, at tile × 4 + sensor, in 0.1 °C; the instant of each tile's last -/
  temps : Tab Int := []
  readAt : Tab Nat := []
  /-- since when a sensor reads above the shutdown limit, at tile × 4 + sensor -/
  hot : Tab Nat := []
  /-- THERM_N low, and a thermal shutdown: tile and instant -/
  therm : Option (Nat × Nat) := none
  shutdown : Option (Nat × Nat) := none
  coolSince : Option Nat := none
  estimatedAt : Nat := 0
  /-- banks in retention for pilot light, at tile × 32 + bank -/
  slept : List Nat := []
  /-- tiles that derate, with the instant of its start, those that derate from the next heat boundary, and since when every sensor of a derated tile reads below
  105 °C (R743) -/
  derated : Tab Nat := []
  derateNext : List Nat := []
  mildSince : Tab Nat := []
  /-- reasons of halts that end at the next heat boundary -/
  resumes : List Nat := []
  deriving DecidableEq, Repr

/-- The supply check stands (R559, R727, R731). -/
def PowerState.supplyBad (p : PowerState) : Bool := p.warning || !p.rails.isEmpty

end Sys2Proof.Machine
end

