-- ==== Sys2Proof/Machine/Parts/Placement.lean ====
section
/-! DEFINITION. The state of placement, sessions with relays, billing structures and the loss engine (06, 09, 10, 11). -/

namespace Sys2Proof.Machine

/-- A route or directory entry (R200, R201). -/
structure Route where
  home : Nat := 0
  group : Nat := 0
  /-- 0 LIVE, 1 HOLD, 2 PARKED -/
  state : Nat := 0
  served : Bool := false
  fenceTag : Nat := 0
  /-- elapsed instant the meter was last heard here: HeardAge is counted from it -/
  heardAt : Nat := 0
  deriving DecidableEq, Repr

/-- An open move (R212 to R219). -/
structure Fence where
  id : Nat
  meter : Nat
  /-- 0 home, 1 group other area, 2 group same area, 3 path only, 4 tier only -/
  kind : Nat
  forced : Bool := false
  /-- heat count of boundary b -/
  openHeat : Nat
  /-- 0 open, 1 inbound marked, 2 frozen, 3 copied -/
  step : Nat := 0
  /-- (queue t × 256 + q, position) that FreePos must reach -/
  marks : List (Nat × Nat) := []
  home : Nat := 0
  group : Nat := 0
  record : Nat := 0
  /-- the new placement word's path: port code, phase, relay; none unserved -/
  path : Option (Nat × Nat × Nat) := none
  tier : Nat := 1
  /-- a return of a parked meter to its own record: nothing is copied (R224) -/
  stays : Bool := false
  freezeHeat : Nat := 0
  /-- in a pair, decided for both units; the peer's copy is done; the commit boundary announced (R226) -/
  shared : Bool := false
  peerCopied : Bool := false
  commitHeat : Option Nat := none
  deriving DecidableEq, Repr

/-- One issue-group allocation (R209, R228). -/
structure Allocation where
  area : Nat := 0
  records : Nat := 0
  deriving DecidableEq, Repr

/-- Placement. -/
structure PlacementState where
  /-- route of meter m on tile t at t × 2^32 + m; the part directory's entries follow from the meters and fences -/
  routes : Tab Route := []
  /-- group g of tile t at t × 8 + g -/
  allocations : Tab Allocation := []
  fences : List Fence := []
  lastFenceId : Nat := 0
  /-- instant of the last pass, and whether one is due at once (R206) -/
  lastPass : Nat := 0
  passDue : Bool := false
  /-- moves decided and not yet opened -/
  planned : List Fence := []
  /-- elapsed second and voluntary commits in it (R207) -/
  rateSecond : Nat := 0
  rateCount : Nat := 0
  /-- lanes impaired, as port codes (R205, R223) -/
  impaired : List Nat := []
  /-- lanes being rehomed: port code, meters moved, left unserved, since (R223) -/
  rehoming : List (Nat × Nat × Nat × Nat) := []
  /-- path-only commits of each tile in the heat that commitHeat names (R210) -/
  pathCommits : Tab Nat := []
  commitHeat : Nat := 0
  deriving DecidableEq, Repr

/-- A relay heard through tunnels (R354, R357, R360). -/
structure Relay where
  /-- 0 unused, 1 LIVE, 2 SILENT -/
  state : Nat := 0
  lastSeq : Nat := 0
  seqTop : Nat := 0
  seqMask : Nat := 1
  heardAt : Nat := 0
  /-- consecutive keep-alive intervals with datagrams while SILENT, and the last such interval -/
  liveRun : Nat := 0
  liveInterval : Nat := 0
  silentAt : Nat := 0
  deriving DecidableEq, Repr

/-- Tunnels, relays and relay mode (09). -/
structure TunnelState where
  /-- by relay table index -/
  relays : Tab Relay := []
  /-- relays that frames in the tunnel ports' queues leave to, oldest first: the frame's first 14 bytes and the relay of the placement
  word or descriptor it was sealed or acknowledged under (R199) -/
  egress : List (Nat × Nat) := []
  /-- receive buffer of a port: packets (descriptor word and frame words), oldest first (R355) -/
  buffers : Tab (List (List (Word × Byte))) := []
  /-- own DatagramSeq per relay index; 0 toward the head -/
  sendSeq : Tab Nat := []
  /-- relay mode: frame records of the uplink datagram being filled and the instant of the first -/
  uplink : List Octets := []
  uplinkAt : Nat := 0
  lastUplinkAt : Nat := 0
  /-- relay mode in force since the last bring-up (R358) -/
  relayMode : Bool := false
  /-- relay mode: lane and phase each meter was last heard on: meter to port code × 4 + phase -/
  heardOn : Tab Nat := []
  /-- relay mode: ZcDelta of the frames waiting in line receive queues, by queue, oldest first (R353) -/
  zcDeltas : Tab (List Nat) := []
  /-- frames moved into staging queues in this heat per home tile (R115) -/
  moved : Tab Nat := []
  movedHeat : Nat := 0
  deriving DecidableEq, Repr

/-- One journal entry (R378): type, flags, meter and the items of its body, in order. -/
structure JournalEntry where
  kind : Nat
  flags : Nat := 0
  meter : Nat := 0
  body : List Nat := []
  deriving DecidableEq, Repr

/-- A journal page (R378). Its byte layout is not stated: the items its header and entries carry (log 19). -/
structure JournalPage where
  /-- its position in the journal, from 0 (R493) -/
  number : Nat := 0
  tile : Nat
  /-- the page's write sequence (13 R474) -/
  seq : Nat := 0
  seconds : Nat
  ns : Nat
  entries : List JournalEntry := []
  deriving DecidableEq, Repr

/-- A closed period record (R388). -/
structure PeriodRecord where
  meter : Nat
  periodIndex : Nat
  periodStart : Nat
  close : Nat
  flags : Nat
  cold : List Word
  demandMax : List (Nat × Nat)
  credit : Nat
  /-- 0 a close, 1 new incarnation, 2 retirement (R390) -/
  reason : Nat := 0
  incarnation : Nat := 0
  deriving DecidableEq, Repr

/-- A tariff structure's running state (R381 to R387). -/
structure Structure where
  /-- calendar held, activated and in force -/
  heldImage : Octets := []
  pendingImage : Octets := []
  pendingAt : Nat := 0
  pending : Bool := false
  image : Octets := []
  inForce : Bool := false
  /-- instant from which that calendar has been in force; the tariff and the rate it replaced, where the tariff changed then -/
  appliedAt : Nat := 0
  replaced : Option (Nat × Nat) := none
  /-- slot-map word (R366) -/
  slotMap : Word := 0
  periodIndex : Nat := 0
  lastClose : Nat := 0
  /-- accepted close requests not yet taken up (R387) -/
  closeRequests : List Nat := []
  /-- last demand interval end and tariff switch handled, timebase seconds -/
  lastDemandEnd : Nat := 0
  lastSwitch : Nat := 0
  /-- spans whose demand intervals are incomplete: (from, to) in timebase seconds -/
  incomplete : List (Nat × Nat) := []
  /-- meters that have not acknowledged TARIFF_ACTIVATE -/
  metersPending : List Nat := []
  deriving DecidableEq, Repr

/-- A readout asked for (R401 to R403). -/
structure Readout where
  id : Nat
  meter : Nat
  kind : Nat
  cls : Nat
  arg : Nat := 0
  count : Nat := 0
  session : Nat := 0
  tag : Nat := 0
  bulk : Bool := false
  mode : Nat := 1
  /-- header and body once gathered, CMAC input so far, finished bytes -/
  text : Octets := []
  done_ : Nat := 0
  chain : Octets := []
  /-- 0 waits for the fold, 1 in slots, 2 at the public-key engine, 3 finished -/
  phase : Nat := 0
  final : Octets := []
  /-- times it was restarted (R757): part-records of an earlier course are discarded -/
  run : Nat := 0
  requestedMs : Nat := 0
  deriving DecidableEq, Repr

/-- Billing (10). -/
structure BillingState where
  /-- journal entries not yet in a page, per tile, oldest first -/
  openEntries : Tab (List JournalEntry) := []
  /-- journal pages in the record zone, oldest first -/
  pages : List JournalPage := []
  nextPage : Nat := 0
  periods : List PeriodRecord := []
  structures : Tab Structure := []
  /-- next hot-record number of the sweep, per tile (R375) -/
  sweep : Tab Nat := []
  /-- kinds of the interval records that wait in cold-store queue p of tile t (0 reading or rejected, 1 block), at
  t × 8 + p: the record's own words do not tell them apart (log 19) -/
  recordKinds : Tab (List Nat) := []
  /-- meters named in the cold-store queue since the last fold's start, per tile -/
  named : Tab (List Nat) := []
  readouts : List Readout := []
  nextReadout : Nat := 1
  stream : Octets := []
  /-- timebase instant of a power-fail warning, for the OUTAGE entry -/
  warnedAt : Nat := 0
  deriving DecidableEq, Repr

/-- A snapshot of a feeder (R416 to R419). -/
structure Snapshot where
  id : Nat
  feeder : Nat
  cycle : Nat
  /-- predicted instant of the crossing, timebase ns -/
  target : Nat
  generation : Nat
  /-- group or head sums returned at the close: ((group, head), (replies, latch sum)) -/
  results : List ((Nat × Nat) × Nat × Nat) := []
  openedAt : Nat := 0
  /-- tag given to the sums -/
  tag : Nat := 0
  /-- the sums are being swapped to tag 0, and the words that the close waits for -/
  closing : Bool := false
  awaited : Nat := 0
  deriving DecidableEq, Repr

/-- One sum of a pipeline's feeder sum table (R410 to R412). -/
structure FeederSum where
  running : Word := 0
  snapshot : Word := 0
  feeder : Nat := 0
  /-- 0 A, 1 B, 2 C, 3 P -/
  group : Nat := 3
  head : Bool := false
  /-- a snapshot slot has written its tag (R414, R415) -/
  swapped : Bool := false
  deriving DecidableEq, Repr

/-- One balance of a feeder: A, B, C or the whole (R419, R423). -/
structure Balance where
  loss : Int := 0
  uncertainty : Nat := 0
  headDelta : Int := 0
  run : Nat := 0
  /-- the sign of the run: true for exceeding -/
  exceeding : Bool := true
  clearRun : Nat := 0
  /-- 0 none, 1 normal, 2 incomplete, 3 LOSS_ALARM, 4 NEGATIVE_ALARM -/
  state : Nat := 0
  raisedAt : Nat := 0
  deriving DecidableEq, Repr

/-- A feeder's running state. -/
structure Feeder where
  generation : Nat := 0
  /-- the last snapshot complete for balance A, B, C or feeder, by its number -/
  bases : Tab Snapshot := []
  /-- balances A, B, C, feeder -/
  balances : List Balance := []
  lastTag : Nat := 0
  /-- last scheduled instant handled, in timebase seconds, and a snapshot that fell due while another was open -/
  lastDue : Nat := 0
  waiting : Bool := false
  /-- running power of A, B, C, P in W and the words it was computed from -/
  power : List Int := []
  words : List Nat := []
  wordsAt : Nat := 0
  deriving DecidableEq, Repr

/-- The loss engine (11). -/
structure LossState where
  /-- sum n of pipeline p of tile t at (t × 8 + p) × 4,096 + n -/
  sums : Tab FeederSum := []
  feeders : Tab Feeder := []
  openSnapshots : List Snapshot := []
  lastId : Nat := 0
  /-- swap requests that wait for room in a snapshot queue: (tile, pipeline, request of two words) -/
  swaps : List (Nat × Nat × Nat) := []
  /-- words the swap slots returned: (snapshot, feeder, group, head, word) -/
  returned : List (Nat × Nat × Nat × Nat × Nat) := []
  deriving DecidableEq, Repr

end Sys2Proof.Machine
end

