-- ==== Sys2Proof/Machine/Parts/Queues.lean ====
section
/-! DEFINITION. The state of the packet queues and of the outstanding-request tables (04 R135 to R160, 09 R346). -/

namespace Sys2Proof.Machine

/-- An open that waits behind an open packet (R151): its producer, its reservation, the instant it was asked for, and the
packet of a producer that writes it in one burst when it is granted; none of a producer that writes word by word. -/
structure Waiter where
  producer : Producer
  words : Nat
  at_ : Nat := 0
  packet : List (Word × Byte) := []
  deriving DecidableEq, Repr

/-- One packet queue (R142, R145, R146, R150). -/
structure Queue where
  writePos : BitVec 32 := 0
  completePos : BitVec 32 := 0
  openPos : BitVec 32 := 0
  readPos : BitVec 32 := 0
  markPos : BitVec 32 := 0
  freePos : BitVec 32 := 0
  waiting : BitVec 16 := 0
  held : BitVec 16 := 0
  generation : BitVec 8 := 0
  /-- the words from FreePos to WritePos with their tags, in order -/
  words : List (Word × Byte) := []
  /-- the producer and word reservation of the open packet -/
  openBy : Option (Producer × Nat) := none
  /-- the instant its open was granted, for the completion timeout (R156) -/
  openedAt : Nat := 0
  /-- opens that wait, in the order they are granted (R151) -/
  waiters : List Waiter := []
  /-- what the last open was answered: 0 granted, 1 waits, 2 refused for space, 3 refused: limit of R137 or not a
  producer -/
  openAnswer : Nat := 0
  /-- opens refused by an agent that is no producer: counted for the queue (R150). The record of R161 has no field for it, so no
  object shows it (DESIGN CHOICE, log 62) -/
  strangers : Nat := 0
  peak : Nat := 0
  /-- 0xE203 recorded and occupancy not yet below 50 % (R155) -/
  highWater : Bool := false
  /-- a release was refused since the status record was last read (R148, R161) -/
  releaseRefused : Bool := false
  deriving DecidableEq, Repr

/-- One entry of an outstanding-request table (R159) with the command it holds (R346, R347). -/
structure Request where
  generation : BitVec 8 := 1
  busy : Bool := false
  /-- generation of the command whose state is readable (R360) -/
  cmdGen : BitVec 8 := 0
  meter : Nat := 0
  code : Nat := 0
  flags : Nat := 0
  params : Octets := []
  /-- 0 QUEUED to 5 EXPIRED (R346) -/
  state : Nat := 0
  result : Nat := 0
  detail : Nat := 0
  sealings : Nat := 0
  /-- elapsed instants of the first and the last sealing -/
  firstAt : Nat := 0
  lastAt : Nat := 0
  /-- 0 the host, 1 the prepayment state machine, 2 another function of the part -/
  origin : Nat := 0
  /-- the DISCONNECT was overtaken by a top-up after its sealing (10 R397) -/
  overtaken : Bool := false
  /-- apply instant of its submission or its last resealing, TB64 ns (15 R548, R553) -/
  applyAt : Nat := 0
  /-- the egress port of a LANE_JOIN, which leaves on the lane that is joined (R310) -/
  port : Option Nat := none
  deriving DecidableEq, Repr

/-- The queues and request tables of every tile. -/
structure QueueState where
  /-- queue q of tile t at t × 256 + q -/
  queues : Tab Queue := []
  /-- entry n of tile t at t × 65,536 + n -/
  requests : Tab Request := []
  /-- source queues whose forwarder open was refused, to be retried (R154), as t × 256 + q -/
  retry : List Nat := []
  /-- HeatCount at which the head frame of the unrouted queue of a tile entered it is kept by frame: (tile, elapsed) in
  queue order (R203) -/
  unroutedAt : List (Nat × Nat) := []
  /-- FenceTag of each packet in the hold queue of a tile, in queue order (R202) -/
  holdTags : Tab (List Nat) := []
  deriving DecidableEq, Repr

end Sys2Proof.Machine
end

