-- ==== Sys2Proof/Machine/State.lean ====
section
/-! DEFINITION. The state of the part: one structure a subject, its chapters in the docstrings; the state at power-on;
the reasons a step can stop. -/

namespace Sys2Proof.Machine

/-- The state of a unit. -/
structure State where
  /-- the ordering part and its fitted memory -/
  fit : Config.Fit := {}
  /-- commands waiting, first in, first out -/
  pending : List Instr := []
  /-- outputs sent, oldest first (log 9) -/
  out : List Output := []
  /-- nanoseconds since power-on: the instant timers are measured on (log 3) -/
  elapsed : Nat := 0
  /-- draws made of the free values (log 6) -/
  freeCount : Nat := 0
  heat : HeatState := {}
  fabric : FabricState := {}
  compiler : CompilerState := {}
  queues : QueueState := {}
  mem : MemState := {}
  place : PlacementState := {}
  line : LineState := {}
  radio : RadioState := {}
  meters : List Meter := []
  tunnel : TunnelState := {}
  billing : BillingState := {}
  loss : LossState := {}
  keys : KeyState := {}
  store : StorageState := {}
  clock : ClockState := {}
  pair : PairState := {}
  dict : DictState := {}
  boot : BootState := {}
  recorder : RecorderState := {}
  update : UpdateState := {}
  pins : PinState := {}
  power : PowerState := {}
  deriving DecidableEq, Repr

/-- Tiles of the part (R1, R4). -/
abbrev State.nTiles (s : State) : Nat := s.fit.part.tiles

/-- The unit right after power-on, before SYS_RESET_N rises (R611): nothing has run, every object is at its default, every
memory reads zero (log 4). -/
def State.reset : State := {}

/-- No command of the part faults the machine: every failure the spec describes is a next state with its events and
counters. The one constructor stands for a state the model cannot hold; nothing raises it. -/
inductive Fault where
  /-- raised by nothing -/
  | impossible
  deriving DecidableEq, Repr

/-- Reasons a step is refused. -/
inductive Refusal where
  /-- an arm of exec that has no meaning yet raises it; safe: the machine stops -/
  | notModelled (mnemonic : String)
  deriving DecidableEq, Repr

/-- The outcome of a command. -/
abbrev Result := Host.Outcome State Fault Refusal

end Sys2Proof.Machine
end

