-- ==== Sys2Proof/Machine/Ops.lean ====
section
/-! DEFINITION. The operations every family shares: time, the dictionary's registers, events and their rate limits,
counters, outputs and free values. -/

namespace Sys2Proof.Machine

/-! ### Time -/

/-- The state after `dt` ns: TB64 runs on at the nominal rate with the corrections of R515 and R519 (log 3). -/
def State.advance (s : State) (dt : Nat) : State :=
  { s with
    elapsed := s.elapsed + dt
    clock := { s.clock with
      tb := ((s.clock.tb : Int) + dt * 4294967296 + dt * (s.clock.rate + s.clock.rampRate) * 4294967296 / 1000000000000).toNat } }

/-- The state at an instant of the elapsed time, no earlier than now. -/
def State.advanceTo (s : State) (t : Nat) : State := s.advance (t - s.elapsed)

/-- TB64 in whole ns (R503). -/
def State.tbNs (s : State) : Nat := s.clock.tb / 4294967296 % 18446744073709551616

/-- Timebase seconds (R503). -/
def State.tbSeconds (s : State) : Nat := s.tbNs / 1000000000

/-- Timebase milliseconds. -/
def State.tbMs (s : State) : Nat := s.tbNs / 1000000

/-- The step of the timebase that is due (14 R514). -/
def State.stepDue (s : State) : Option Int :=
  match s.clock.step with
  | some (d, t) => if t ≤ s.tbNs then some d else none
  | none => none

/-- Operating seconds since MAKE, saturating (R655). -/
def State.operatingSeconds (s : State) : Nat := min 4294967295 (s.elapsed / 1000000000)

/-- The instant of a heat boundary: nothing has passed since the last one (R38, R41). -/
def State.onBoundary (s : State) : Bool := decide (s.elapsed = s.heat.boundaryAt)

/-- True where `d` ns or more have passed since instant `t`. -/
def State.due (s : State) (t d : Nat) : Bool := t + d ≤ s.elapsed

/-- The channel of a tile retrains: the controller holds its requests (R643). -/
def State.dramHeld (s : State) (tile : Nat) : Bool := Tab.has s.recorder.dramRetrain tile

/-- 0x1000.06 FirmwareVersion and the running compiler's version (R673, R681). -/
def State.firmwareVersion (s : State) : Nat := s.update.running.getD Config.firmwareVersion.toNat
def State.compilerVersion (s : State) : Nat := match s.update.running with
  | some v => (Config.compilerOf v).toNat
  | none => Config.compilerVersion.toNat

/-- The hottest sensor of the part reads above the grade maximum (R742): 105 °C on grade E, 125 °C on grade X (R2). -/
def State.gradeMax (s : State) : Int := if s.fit.part.grade = 0 then 1050 else 1250
def State.overTemp (s : State) : Bool := s.power.temps.any fun e => decide (s.gradeMax < e.2)

/-! ### Registers of the dictionary (R573, R576) -/

/-- The key of a sub-index in the object tables. -/
def objKey (index sub : Nat) : Nat := index * 256 + sub

/-- The default of a numeric object. -/
def defaultNum (index sub : Nat) : Int :=
  match findRow index sub with
  | some r => r.dflt.getD 0
  | none => 0

/-- The default value of an object by its type. -/
def defaultVal (index sub : Nat) : Val :=
  match findRow index sub with
  | some r =>
    match r.ty with
    | .oct n => .oct (List.replicate n 0)
    | .vstr _ => .oct []
    | .domain => .oct []
    | _ => .num (r.dflt.getD 0)
  | none => .num 0

/-- The value in force of a sub-index. -/
def State.objVal (s : State) (index sub : Nat) : Val :=
  match Tab.find? s.dict.objs (objKey index sub) with
  | some v => v
  | none => defaultVal index sub

/-- The number in force at a sub-index, signed. -/
def State.objI (s : State) (index sub : Nat) : Int :=
  match Tab.find? s.dict.objs (objKey index sub) with
  | some (.num i) => i
  | _ => defaultNum index sub

/-- The number in force at a sub-index. -/
def State.obj (s : State) (index sub : Nat) : Nat := (s.objI index sub).toNat

/-- The octets in force at a sub-index. -/
def State.objOct (s : State) (index sub : Nat) : Octets :=
  match s.objVal index sub with
  | .oct b => b
  | .num _ => []

/-- A value stored in force at a sub-index. -/
def State.setVal (s : State) (index sub : Nat) (v : Val) : State :=
  { s with dict := { s.dict with objs := Tab.set s.dict.objs (objKey index sub) v } }

/-- A signed number stored at a sub-index. -/
def State.setObjI (s : State) (index sub : Nat) (i : Int) : State := s.setVal index sub (.num i)

/-- A number stored at a sub-index. -/
def State.setObj (s : State) (index sub n : Nat) : State := s.setVal index sub (.num n)

/-- A 64-bit count at a sub-index, saturating. -/
def State.addObj (s : State) (index sub n : Nat) : State := s.setObj index sub (satAdd 64 (s.obj index sub) n)

/-- One more at a sub-index. -/
def State.bump (s : State) (index sub : Nat) : State := s.addObj index sub 1

/-- A DOMAIN image in force; an absent one is empty. -/
def State.domain (s : State) (index sub : Nat) : Octets := (Tab.find? s.dict.domains (objKey index sub)).getD []

/-- A DOMAIN image stored. -/
def State.setDomain (s : State) (index sub : Nat) (b : Octets) : State :=
  { s with dict := { s.dict with domains := Tab.set s.dict.domains (objKey index sub) b } }

/-! ### Events (R655 to R658, R80) -/

/-- An event offered to the recorder; EVENT_RECORD writes it (R657, R658). The items are those its table names (log 8). -/
def State.offerFull (s : State) (code tile : Nat) (data : List Nat) (summary buffered : Bool) : State :=
  { s with recorder := { s.recorder with
      offered := s.recorder.offered ++
        [{ code := code, tile := tile, data := data, summary := summary
           buffered := buffered || decide (1 ≤ s.boot.phase ∧ s.boot.phase ≤ 4)
           seconds := if s.clock.state = 0 then 0 else s.tbSeconds % 4294967296
           operating := s.operatingSeconds }] } }

/-- An event offered to the recorder. -/
def State.offer (s : State) (code tile : Nat) (data : List Nat) : State := s.offerFull code tile data false false

/-- The tile byte of a package-wide event (R655). -/
def packageWide : Nat := 255

/-- The key of a rate limiter: an event code, its tile and what else it is limited by. -/
def limiterKey (code tile sub : Nat) : Nat := (code * 256 + tile) * 4294967296 + sub

/-- A rate-limited event: at most one in each FabricEventInterval heats for a key; the others are counted and the next
carries their number, counted from a base, as its last item (R80, R162). -/
def State.offerCounted (s : State) (code tile sub : Nat) (data : List Nat) (base : Nat) : State :=
  let k := limiterKey code tile sub
  let l := Tab.find? s.fabric.limiters k
  let emit (n : Nat) : State :=
    ({ s with fabric := { s.fabric with
        limiters := Tab.set s.fabric.limiters k { since := s.heat.count, suppressed := 0, last := data, tile := tile } } }
      : State).offerFull code tile (data ++ [n + base]) (0 < n) false
  match l with
  | none => emit 0
  | some l =>
    if l.since + s.obj 0x2014 1 ≤ s.heat.count then emit l.suppressed
    else { s with fabric := { s.fabric with
        limiters := Tab.set s.fabric.limiters k { l with suppressed := l.suppressed + 1, last := data } } }

/-- A rate-limited event whose last item is the count of suppressed occurrences (R80). -/
def State.offerLimited (s : State) (code tile sub : Nat) (data : List Nat) : State := s.offerCounted code tile sub data 0

/-- The pace, ring and management clocks run: not in pilot light nor while it wakes (R736, R737, R739). -/
def State.awake (s : State) : Bool := decide (s.power.pilot < 2)

/-- The part is ready and awake. -/
def State.partRuns (s : State) : Bool := decide (s.boot.phase = 9) && s.awake

/-! ### Performance counters (R663) -/

/-- The key of a block's counter. -/
def counterKey (tile block index : Nat) : Nat := (tile * 64 + block) * 32 + index

/-- A block counter raised by `n`: 40 bits, saturating with its flag (R663). -/
def State.countN (s : State) (tile block index n : Nat) : State :=
  { s with recorder := { s.recorder with
      counters := Tab.modify s.recorder.counters (counterKey tile block index) (0, false) fun c =>
        (satAdd 40 c.1 n, c.2 || decide (2 ^ 40 ≤ c.1 + n)) } }

/-- A block counter raised by one. -/
def State.count (s : State) (tile block index : Nat) : State := s.countN tile block index 1

/-! ### Outputs and free values -/

/-- Octets sent at a port, after those sent before (log 9). -/
def State.send (s : State) (port : OutPort) (bytes : Octets) : State :=
  { s with out := s.out ++ [{ port := port, bytes := bytes }] }

/-- The block whose counter a message at a port raises, and its index: the Ethernet ports' frames sent, the mirror link's
messages sent (R663). -/
def OutPort.sentCounter : OutPort → Option (Nat × Nat)
  | .udx p | .net p | .ptp p | .tunnel p _ => if p < 2 then some (33 + p, 1) else none
  | .mirror _ => some (35, 0)
  | _ => none

/-- A message sent at a host port or on the mirror link, and counted there (R663). -/
def State.sendOn (s : State) (port : OutPort) (bytes : Octets) : State :=
  match port.sentCounter with
  | some (b, i) => (s.send port bytes).count 0 b i
  | none => s.send port bytes

/-- What a host port received, counted: port 0 or 1 a frame and the kind of its load, 5 UDX, 6 tunnel, 7 PTP event; port 2 an
entry taken from a mailbox ring (R663). -/
def State.heardOn (s : State) (port kind : Nat) : State :=
  if port < 2 then (s.count 0 (33 + port) 0).count 0 (33 + port) kind else s.count 0 32 3

/-- The state after `n` draws of the free values (log 6). -/
def State.drew (s : State) (n : Nat) : State := { s with freeCount := s.freeCount + n }

/-! ### Commands -/

/-- A command whose effect is a state. -/
def ok (s : State) : Result := .next s

/-- A command that acts when a condition holds and changes nothing otherwise (log 3). -/
def okIf (c : Bool) (s t : State) : Result := .next (if c then t else s)

/-- A change applied to each tile of the part, in order. -/
def State.eachTile (s : State) (f : State → Nat → State) : State := (List.range s.nTiles).foldl f s

end Sys2Proof.Machine
end

