-- ==== Sys2Proof/Machine/Calendar.lean ====
section
/-! DEFINITION. Tariff calendars: the image, local time, seasons, day types, switches, friendly windows; the slot-map word
(10 R366, R367, R382, R383). -/

namespace Sys2Proof.Machine

/-! ### Dates from days since timebase zero, a Thursday (R503) -/

/-- Year, month and day of a day number (proleptic Gregorian). -/
def civil (days : Int) : Int × Nat × Nat :=
  let z := days + 719468
  let era := z / 146097
  let doe := (z - era * 146097).toNat
  let yoe := (doe - doe / 1460 + doe / 36524 - doe / 146096) / 365
  let doy := doe - (365 * yoe + yoe / 4 - yoe / 100)
  let mp := (5 * doy + 2) / 153
  let d := doy - (153 * mp + 2) / 5 + 1
  let m := if mp < 10 then mp + 3 else mp - 9
  (yoe + era * 400 + (if m ≤ 2 then 1 else 0), m, d)

/-- Weekday of a day number: 0 Monday to 6 Sunday. -/
def weekday (days : Int) : Nat := ((days + 3) % 7).toNat

/-- Day number of a date. -/
def dayNumber (y : Int) (m d : Nat) : Int :=
  let y' := if m ≤ 2 then y - 1 else y
  let era := y' / 400
  let yoe := (y' - era * 400).toNat
  let doy := (153 * (if 2 < m then m - 3 else m + 9) + 2) / 5 + d - 1
  let doe := yoe * 365 + yoe / 4 - yoe / 100 + doy
  era * 146097 + doe - 719468

/-! ### The calendar image (R382) -/

/-- Counts and parts of an image. -/
def calSeasons (c : Octets) : Nat := fieldAt c 3 1
def calDayTypes (c : Octets) : Nat := fieldAt c 4 1
def calHolidays (c : Octets) : Nat := fieldAt c 5 1
def calOffsets (c : Octets) : Nat := fieldAt c 6 1
def calDayTypeAt (c : Octets) (d : Nat) : Octets := slice c (48 + 10 * calSeasons c + 42 * d) 42
def calHolidayAt (c : Octets) (h : Nat) : Octets := slice c (48 + 10 * calSeasons c + 42 * calDayTypes c + 4 * h) 4
def calOffsetAt (c : Octets) (o : Nat) : Octets :=
  slice c (48 + 10 * calSeasons c + 42 * calDayTypes c + 4 * calHolidays c + 6 * o) 6
def calLength (c : Octets) : Nat :=
  48 + 10 * calSeasons c + 42 * calDayTypes c + 4 * calHolidays c + 6 * calOffsets c + 4

/-- The rate of a tariff (R382). -/
def calRate (c : Octets) (tariff : Nat) : Nat := fieldAt c (16 + 2 * tariff) 2

/-- Offsets as (EffectiveSeconds, minutes). -/
def calOffsetList (c : Octets) : List (Nat × Int) :=
  (List.range (calOffsets c)).map fun o => (fieldAt (calOffsetAt c o) 0 4, toSigned 16 (fieldAt (calOffsetAt c o) 4 2))

/-- OffsetMinutes in force in a second (R383). -/
def offsetIn (c : Octets) (sec : Int) : Int :=
  let l := calOffsetList c
  let past := l.filter fun e => decide ((e.1 : Int) ≤ sec)
  match past with
  | e :: r => (r.foldl (fun a b => if a.1 < b.1 then b else a) e).2
  | [] =>
    match l with
    | e :: r => (r.foldl (fun a b => if b.1 < a.1 then b else a) e).2
    | [] => 0

/-- Local seconds of a second that starts at `sec`, with the offset in force during it (R383). -/
def localSecond (c : Octets) (sec : Int) : Int := sec + 60 * offsetIn c sec

/-- Local day number and minute of a second. -/
def localDay (c : Octets) (sec : Int) : Int := localSecond c sec / 86400
def localMinute (c : Octets) (sec : Int) : Nat := (localSecond c sec % 86400 / 60).toNat

/-- The season in force on a date: the latest start at or before it, wrapping the year (R383). -/
def seasonOn (c : Octets) (m d : Nat) : Octets :=
  let l := (List.range (calSeasons c)).map fun i => slice c (48 + 10 * i) 10
  let key (s : Octets) : Nat := fieldAt s 0 1 * 32 + fieldAt s 1 1
  let pick (l : List Octets) : Octets :=
    match l with
    | [] => []
    | e :: r => r.foldl (fun a b => if key a < key b then b else a) e
  let past := l.filter fun s => decide (key s ≤ m * 32 + d)
  if past.isEmpty then pick l else pick past

/-- A listed holiday (R382). -/
def isHoliday (c : Octets) (y : Int) (m d : Nat) : Bool :=
  (List.range (calHolidays c)).any fun h =>
    let e := calHolidayAt c h
    (decide (fieldAt e 0 2 = 0) || decide ((fieldAt e 0 2 : Int) = y)) && decide (fieldAt e 2 1 = m) && decide (fieldAt e 3 1 = d)

/-- The day type of a local day (R383). -/
def dayTypeOn (c : Octets) (day : Int) : Octets :=
  let (y, m, d) := civil day
  let s := seasonOn c m d
  calDayTypeAt c (if isHoliday c y m d then fieldAt s 9 1 else fieldAt s (2 + weekday day) 1)

/-- Switches of a day type as (minute, tariff). -/
def switchesOf (dt : Octets) : List (Nat × Nat) :=
  (List.range (fieldAt dt 5 1)).map fun i => (fieldAt dt (6 + 3 * i) 2, fieldAt dt (8 + 3 * i) 1)

/-- The tariff in force during the second that starts at `sec` (R383). -/
def tariffIn (c : Octets) (sec : Int) : Nat :=
  let m := localMinute c sec
  ((switchesOf (dayTypeOn c (localDay c sec))).filter fun e => decide (e.1 ≤ m)).foldl (fun _ e => e.2) 0

/-- The tariff of an instant: that in force during the second that ends there (R367). -/
def tariffAt (c : Octets) (t : Nat) : Nat := tariffIn c (t - 1)

/-- The local minute of an instant is friendly: its local time takes the offset of the second that ends there (R383). -/
def friendlyIn (c : Octets) (sec : Int) : Bool :=
  let loc := sec + 60 * offsetIn c (sec - 1)
  let m := (loc % 86400 / 60).toNat
  let day := loc / 86400
  let dt := dayTypeOn c day
  let pv := dayTypeOn c (day - 1)
  let fs := fieldAt dt 1 2
  let fe := fieldAt dt 3 2
  bitAt (fieldAt dt 0 1) 7 ||
    (if fs < fe then decide (fs ≤ m ∧ m < fe) else decide (fe < fs ∧ fs ≤ m)) ||
    (decide (fieldAt pv 3 2 < fieldAt pv 1 2) && decide (m < fieldAt pv 3 2))

/-- The next instant at which local time can change its minute or its offset: a whole minute, or the second an offset takes
effect. -/
def nextInstant (c : Octets) (sec : Int) : Int :=
  (calOffsetList c).foldl (fun a e => if sec < e.1 ∧ (e.1 : Int) < a then e.1 else a) ((sec / 60 + 1) * 60)

/-- The first second from `sec` on, from one such instant to the next, at which a condition on seconds holds. -/
def firstInstant (c : Octets) (p : Int → Bool) (fuel : Nat) (sec : Int) : Option Int :=
  match fuel with
  | 0 => none
  | n + 1 => if p sec then some sec else firstInstant c p n (nextInstant c sec)

/-- The end of the friendly window that holds at a second, at most 8 days on. -/
def friendlyEnd (c : Octets) (sec : Int) : Nat :=
  ((firstInstant c (fun t => !friendlyIn c t) 11552 sec).getD sec).toNat

/-- A friendly window holds at or begins by an instant from now (R398): some minute from now to then is friendly. -/
def friendlyBy (c : Octets) (now until_ : Nat) : Option Int :=
  (firstInstant c (fun t => friendlyIn c t || decide ((until_ : Int) < t)) 1440 now).bind fun t =>
    if t ≤ (until_ : Int) ∧ friendlyIn c t = true then some t else none

/-- An instant at which the scheduled period of an image closes (R387): a whole minute whose local time is PeriodDay and
PeriodMinute, with the offset in force during the second that ends there. -/
def closesAt (c : Octets) (t : Nat) : Bool :=
  let pd := fieldAt c 7 1
  let loc : Int := t + 60 * offsetIn c ((t : Int) - 1)
  let (_, _, d) := civil (loc / 86400)
  decide (pd ≠ 0) && decide (t % 60 = 0) && decide (d = pd) && decide (loc % 86400 / 60 = (fieldAt c 8 2 : Int))

/-- An instant that ends a demand interval of `minutes` in local time (R386). -/
def demandEndAt (c : Octets) (minutes t : Nat) : Bool :=
  decide (minutes ≠ 0) && decide (((t : Int) + 60 * offsetIn c ((t : Int) - 1)) % (60 * (minutes : Int)) = 0)

/-- A tariff switch at an instant: the tariff from it differs from that of it (R385). -/
def switchesAt (c : Octets) (t : Nat) : Bool := tariffIn c t != tariffAt c t

/-! ### Checks of an image (R382, R383) -/

/-- Switches ascend, lie 5 min apart, start at minute 0, and name tariffs that exist (R383). -/
def switchesOk (count : Nat) : List (Nat × Nat) → Bool
  | [] => false
  | (m, t) :: r => decide (m = 0 ∧ t < count) && go m r
where
  go (last : Nat) : List (Nat × Nat) → Bool
    | [] => true
    | (m, t) :: r => decide (last + 5 ≤ m ∧ m < 1440 ∧ t < count) && go m r

/-- The image keeps R382 and R383 for a structure of `count` tariffs. -/
def calendarOk (c : Octets) (count : Nat) : Bool :=
  decide (c.length ≤ 1252) && decide (52 ≤ c.length) && decide (fieldAt c 0 2 ≠ 0) && decide (fieldAt c 2 1 = count) &&
  decide (1 ≤ calSeasons c ∧ calSeasons c ≤ 8) && decide (1 ≤ calDayTypes c ∧ calDayTypes c ≤ 16) &&
  decide (calHolidays c ≤ 64) && decide (1 ≤ calOffsets c ∧ calOffsets c ≤ 32) && decide (fieldAt c 7 1 ≤ 28) &&
  decide (fieldAt c 8 2 ≤ 1439) && decide (fieldAt c 10 2 = c.length) && decide (c.length = calLength c) &&
  decide (fieldAt c 12 4 = 0) &&
  ((List.range (calSeasons c)).all fun i =>
    let s := slice c (48 + 10 * i) 10
    decide (1 ≤ fieldAt s 0 1 ∧ fieldAt s 0 1 ≤ 12 ∧ 1 ≤ fieldAt s 1 1 ∧ fieldAt s 1 1 ≤ 31) &&
      (List.range 8).all fun j => decide (fieldAt s (2 + j) 1 < calDayTypes c)) &&
  ((List.range (calDayTypes c)).all fun i =>
    let d := calDayTypeAt c i
    decide (fieldAt d 0 1 % 128 = 0) && decide (fieldAt d 1 2 < 1440 ∧ fieldAt d 3 2 < 1440) &&
      decide (1 ≤ fieldAt d 5 1 ∧ fieldAt d 5 1 ≤ 12) && switchesOk count (switchesOf d)) &&
  ((List.range (calHolidays c)).all fun i =>
    let h := calHolidayAt c i
    decide (1 ≤ fieldAt h 2 1 ∧ fieldAt h 2 1 ≤ 12 ∧ 1 ≤ fieldAt h 3 1 ∧ fieldAt h 3 1 ≤ 31)) &&
  ((calOffsetList c).all fun e => decide (-720 ≤ e.2 ∧ e.2 ≤ 840)) &&
  decide ((calOffsetList c).map (·.1)).Nodup &&
  decide (fieldAt c (c.length - 4) 4 = crc32 (c.take (c.length - 4)))

/-! ### The slot-map word (R366, R367) -/

/-- A slot-map word. -/
def slotMapWord (now before switchSec rateNow rateBefore : Nat) : Word :=
  BitVec.ofNat 64 (now * 2 ^ 60 + before * 2 ^ 56 + (switchSec / 60) % 2 ^ 24 * 2 ^ 32 + rateNow * 2 ^ 16 + rateBefore)

/-- The tariff and the rate of an instant by a slot-map word (R367). -/
def tariffOf (t : Nat) (w : Word) : Nat × Nat :=
  let v := w.toNat
  let m := (t - 1) / 60 % 2 ^ 24
  if wrapSub 24 m (field v 55 32) < 2 ^ 23 then (field v 63 60, field v 31 16) else (field v 59 56, field v 15 0)

/-- The latest switch later than `lo` and at or before `t`, which lie in one minute: at `t`, or where an offset takes effect. -/
def switchIn (c : Octets) (lo t : Nat) : Option Nat :=
  (t :: ((calOffsetList c).map (·.1)).filter fun e => lo < e && e < t).foldl
    (fun a e => if switchesAt c e then some (max e (a.getD 0)) else a) none

/-- The latest switch at or before an instant, minute by minute; none where the tariff did not change. -/
def lastSwitch (c : Octets) (fuel t : Nat) : Option Nat :=
  match fuel with
  | 0 => none
  | n + 1 => match switchIn c ((t - 1) / 60 * 60) t with
    | some e => some e
    | none => lastSwitch c n ((t - 1) / 60 * 60)

/-- The slot-map word an image gives at an instant: the switch that lies at most 60 s ahead, else the latest one (R366). A
tariff unchanged for two days stands as its own switch two days back. -/
def slotMapFor (c : Octets) (now : Nat) : Word :=
  let at_ : Nat := match lastSwitch c 2881 (now + 60) with
    | some t => t
    | none => (now + 60) / 60 * 60 - 172800
  let a := tariffIn c (Int.ofNat at_)
  let b := tariffAt c at_
  slotMapWord a b at_ (calRate c a) (calRate c b)

/-! ### Structures -/

/-- The entry in force of a structure, 32 bytes (R381). -/
def State.structEntry (s : State) (n : Nat) : Octets := padTo 32 (s.objOct 0x4010 (n + 1))

/-- Fields of an entry (R381). -/
def entryTariffs (e : Octets) : Nat := fieldAt e 0 1
def entryMinutes (e : Octets) : Nat := fieldAt e 1 1
def entryExponent (e : Octets) : Nat := fieldAt e 2 1
def entryEnabled (e : Octets) : Bool := bitAt (fieldAt e 3 1) 7
def entryArmOnly (e : Octets) : Bool := bitAt (fieldAt e 3 1) 6
def entryLow (e : Octets) : Nat := fieldAt e 4 4
def entryEmergency (e : Octets) : Nat := fieldAt e 8 4

/-- An entry within the ranges of R381; one that is not enabled is not checked. -/
def entryOk (e : Octets) : Bool :=
  !entryEnabled e ||
    (decide (1 ≤ entryTariffs e ∧ entryTariffs e ≤ 16) && decide (entryMinutes e ∈ [5, 10, 15, 30, 60]) &&
      decide (entryExponent e ≤ 7) && decide (entryLow e ≤ 134217727 ∧ entryEmergency e ≤ 134217727) &&
      decide (fieldAt e 3 1 % 64 = 0) && decide (ofBe (e.drop 12) = 0))

/-- A structure's running state. -/
def State.structure (s : State) (n : Nat) : Structure := Tab.getD s.billing.structures n {}

/-- A structure's running state stored. -/
def State.setStructure (s : State) (n : Nat) (x : Structure) : State :=
  { s with billing := { s.billing with structures := Tab.set s.billing.structures n x } }

/-- The tariff in force now of a structure with a calendar. -/
def State.tariffNow (s : State) (n : Nat) : Nat :=
  let x := s.structure n
  if x.inForce then tariffIn x.image s.tbSeconds else 0

end Sys2Proof.Machine
end

