-- ==== Sys2Proof/Machine/Ecc.lean ====
section
/-! DEFINITION. The scratchpad's address map and the tables laid in it, error patterns, and the writes that renew a stored
word (05 R163 to R169, R174 to R177, R180, R191). -/

namespace Sys2Proof.Machine

/-! ### The address map (R163) -/

/-- The zone of a scratchpad word address: 0 F, 1 W1, 2 W2, 3 W3, 4 T, 5 S (R163). -/
def zoneOf (a : Nat) : Nat :=
  if a < 0x200000 then 0 else if a < 0x300000 then 1 else if a < 0x400000 then 2 else if a < 0x500000 then 3
  else if a < 0x5C0000 then 4 else 5

/-- The base of a zone (R163). -/
def zoneBase (z : Nat) : Nat :=
  if z = 0 then 0 else if z = 1 then 0x200000 else if z = 2 then 0x300000 else if z = 3 then 0x400000
  else if z = 4 then 0x500000 else 0x5C0000

/-- The banks of a zone in interleave order (R163). -/
def zoneBanks (z : Nat) : List Nat :=
  if z = 0 then List.range 32
  else if z = 1 then List.range 16
  else if z = 2 then (List.range 14).map (· + 16) ++ [14, 15]
  else if z = 3 then List.range 14 ++ [16, 17]
  else if z = 4 then (List.range 12).map (· + 18)
  else [30, 31]

/-- The first row a zone uses in a bank (R163). -/
def zoneRow (z bank : Nat) : Nat :=
  if z = 0 then 0
  else if z = 1 then 65536
  else if z = 2 then (if bank < 16 then 131072 else 65536)
  else if z = 3 then 131072
  else if z = 4 then 131072
  else 65536

/-- The bank and the row of a scratchpad word (R163). -/
def bankRow (a : Nat) : Nat × Nat :=
  let z := zoneOf a
  let i := a - zoneBase z
  let bs := zoneBanks z
  let b := bs.getD (i % bs.length) 0
  (b, zoneRow z b + i / bs.length)

/-! ### Where the tables lie (R165 to R168)

The compiler places the regions in the zones of R165; the places below are the model's (log 14): in zone F the packet queues
from 0, the sums from 0x080000, the test area from 0x0C0000, the hot records from 0x100000; in zone T the index in banks 18 to
25, and rules, maps, lane tables and sheets in banks 26 to 29. -/

/-- The word address of a hot record's word: areas F, W1, W2, W3 follow one another (R163, R166). -/
def hotAddress (record w : Nat) : Nat := 0x100000 + 16 * record + w

/-- The area of a hot record: 0 F even, 1 F odd, 2 W1, 3 W2, 4 W3 (R166). -/
def recordArea (record : Nat) : Nat := if record < 65536 then record % 2 else record / 65536 + 1

/-- The bank of a pipeline's feeder sum table: one for the whole table, another for each pipeline (R167, R410, log 14). -/
def sumBank (pipe : Nat) : Nat := 4 * pipe

/-- The word of a feeder sum of a pipeline: word 0 running, 1 snapshot. Words lie at zone F's stride of 32, so the whole table of
4,096 sums is in one bank (R167, R410). -/
def sumAddress (pipe n w : Nat) : Nat := 0x080000 + 32 * (2 * n + w) + sumBank pipe

/-- A word of the ECC test area (R165, R192). -/
def testWord (index : Nat) : Nat := 0x0C0000 + index

/-- A word of the pacer record of a pipeline, beside the test area in the management and DMA region (R89, log 14). -/
def pacerAddress (pipe w : Nat) : Nat := 0x0C1000 + 16 * pipe + w

/-- A word of a key slot: the slots of a tile fill zone S from its base, 64 B each (R163, R443). -/
def keyWord (slot w : Nat) : Nat := 0x5C0000 + 8 * slot + w

/-- A word of zone T: a row of one of its twelve banks (R163). -/
def zoneT (bank row : Nat) : Nat := 0x500000 + 12 * row + (bank - 18)

/-- The word of a cuckoo table that a meter number hashes to: each of the two tables of a group lies in a single bank, and
the two in different ones (R167). The hashes are not stated (log 14). -/
def indexAddress (group table m : Nat) : Nat :=
  zoneT (18 + (group + table) % 8) (32768 * table + (Config.indexHash table m).toNat)

/-- The table half in force (R127). -/
def State.tableHalf (s : State) : Nat := match s.compiler.sheet with
  | some h => h.generation % 2
  | none => 0

/-- Row `j` of a rule set, and a slot-map word, in a half of the table region, at zone T's stride of 12 (R127, R167). -/
def ruleAddress (half set j : Nat) : Nat := zoneT (26 + j) (16384 * half + set)
def slotMapAddress (half map : Nat) : Nat := zoneT 28 (16384 * half + map)

/-- The lane tables of a half of the table region (R50, R127), and a half of the heat-sheet region: the sheet in force in one, the
staged sheet in the other (R50, R121). -/
def laneTables (half : Nat) : Nat := zoneT 29 (16384 * half)
def sheetBase (half : Nat) : Nat := zoneT 26 (32768 + 16384 * half)

/-- The regions of R165, as 0xE105 and 0x6801 number them: 0 hot records, 1 queues, 2 management, 3 index, 4 rules and maps,
5 sheets, 6 secure part (log 14). -/
def regionOf (a : Nat) : Nat :=
  if a < 0x080000 then 1 else if a < 0x100000 then 2 else if a < 0x500000 then 0
  else if a < 0x5C0000 then
    (if (a - 0x500000) % 12 < 8 then 3 else if (a - 0x500000) / 12 < 32768 then 4 else 5)
  else 6

/-! ### Error patterns (R180, R191) -/

/-- The key of a stored code word's error pattern. -/
def errorKey (cls tile address : Nat) : Nat := cls * 281474976710656 + tile * 1099511627776 + address

/-- The mark of a poisoned word (R180). -/
def poison : Nat := 2 ^ 511

/-- Inverted bits of a pattern, of `n` bits. -/
def popCount (n v : Nat) : Nat := (List.range n).countP fun i => bitAt v i

/-- Bytes of a DRAM pattern with an inverted bit. -/
def popBytes (v : Nat) : Nat := (List.range 36).countP fun i => decide ((v >>> (8 * i)) % 256 ≠ 0)

/-- The code bits of a class that an ECC decoder sees: 13 of a tag, 72 of a word, 36 bytes of a DRAM code word. -/
def errorCount (cls pattern : Nat) : Nat :=
  if cls = 2 ∨ cls = 4 then popBytes pattern else if cls = 1 then popCount 13 pattern else popCount 72 pattern

/-- The poison pattern of a class: the check byte inverted, the check bits inverted, the check bytes XOR 0xA55AA55A (R180). -/
def poisonOf (cls : Nat) : Nat := if cls = 2 ∨ cls = 4 then 0xA55AA55A else if cls = 1 then 31 else 255

/-- The outcome of decoding a word of a class: 0 clean, 1 corrected, 2 uncorrectable. The codes correct one bit (or byte) and
detect two, and the poison pattern decodes as uncorrectable; of other patterns the spec states no outcome: a free value (R180,
log 6). -/
def eccOutcome (cls free pattern : Nat) : Nat :=
  if poison ≤ pattern ∨ pattern = poisonOf cls then 2
  else if errorCount cls pattern ≤ 2 then errorCount cls pattern else Config.freeNat free % 3

/-- An error pattern stored for a code word; zero is a clean word. -/
def MemState.setError (m : MemState) (k pattern : Nat) : MemState :=
  { m with errors := if pattern = 0 then Tab.erase m.errors k else Tab.set m.errors k pattern }

/-- A bank. -/
def State.bank (s : State) (tile b : Nat) : Bank := if b < 32 then Tab.getD s.mem.banks (tile * 32 + b) {} else {}

/-- A bank stored: a tile has 32 (R25). -/
def State.setBank (s : State) (tile b : Nat) (x : Bank) : State :=
  { s with mem := { s.mem with banks := if b < 32 then Tab.set s.mem.banks (tile * 32 + b) x else s.mem.banks } }

/-- The bank of a scratchpad word woke without a clear, and the word has not been written since (R177). -/
def State.unwritten (s : State) (tile a : Nat) : Bool :=
  let x := s.bank tile (bankRow a).1
  x.lost && !x.fresh.contains a

/-- The outcome of reading a scratchpad word of a tile, class 0, or its tag, class 1: unpredictable in a word whose contents
were lost (R177, R180, log 6). -/
def State.eccAt (s : State) (cls tile a : Nat) : Nat :=
  if cls = 0 ∧ s.unwritten tile a = true then Config.freeNat s.freeCount % 3
  else eccOutcome cls s.freeCount (Tab.getD s.mem.errors (errorKey cls tile a) 0)

/-- A word written is known, whatever its bank lost (R177). -/
def MemState.freshen (m : MemState) (tile a : Nat) : MemState :=
  let k := tile * 32 + (bankRow a).1
  match Tab.find? m.banks k with
  | some x => if x.lost && !x.fresh.contains a then { m with banks := Tab.set m.banks k { x with fresh := a :: x.fresh } } else m
  | none => m

/-- A scratchpad word, class 0, or a queue tag, class 1, is written: an armed mask for it inverts code bits of it and is
consumed; otherwise it is clean (R191). -/
def State.wordWritten (s : State) (cls tile a : Nat) : State :=
  let m := s.mem.freshen tile a
  match s.mem.scratchFlip with
  | some f =>
    if f.tile = tile ∧ f.target = cls + 1 ∧ f.address = a then
      ((({ s with mem := { m with scratchFlip := none }.setError (errorKey cls tile a) (ofBe f.bits) } : State).setObj
        0x6820 5 0).offer 0xE288 tile [0, tile, a])
    else { s with mem := m.setError (errorKey cls tile a) 0 }
  | none => { s with mem := m.setError (errorKey cls tile a) 0 }

/-! ### Accesses to banks (R169, R174, R176) -/

/-- The agents of R162's items, and beside them a scrubber and the secure mode of the management cores (R169, R170; log 8). -/
def scrubAgent : Nat := 9
def secureAgent : Nat := 10

/-- The bank of a scratchpad word is on. -/
def State.bankIsOn (s : State) (tile a : Nat) : Bool := (s.bank tile (bankRow a).1).power == 0

/-- Agents that reach zone S: the secure mode of the management cores alone, and the scrubber, whose lap takes all six zones
(R169, R193). -/
def reachesSecure (agent : Nat) : Bool := agent == scrubAgent || agent == secureAgent

/-- An access of a management core or of DMA to a scratchpad word: one to a bank that is not on, or to zone S by a barred
agent, is not carried out and is recorded with the agent (R169, R176). -/
def State.access (s : State) (tile a agent : Nat) : Bool × State :=
  if !s.bankIsOn tile a || (zoneOf a == 5 && !reachesSecure agent) then
    (false, (s.count tile 8 8).offer 0xE285 tile [tile, (bankRow a).1, agent])
  else (true, s)

/-- The first word of a run that an agent cannot reach. -/
def State.barred (s : State) (tile agent : Nat) (ws : List Nat) : Option Nat :=
  ws.find? fun a => !s.bankIsOn tile a || (zoneOf a == 5 && !reachesSecure agent)

/-- An access of a run of words: it is carried out where its agent reaches them all; the first it does not reach is recorded. -/
def State.accessAll (s : State) (tile agent : Nat) (ws : List Nat) : Bool × State :=
  match s.barred tile agent ws with
  | some a => (false, (s.access tile a agent).2)
  | none => (true, s)

end Sys2Proof.Machine
end

