-- ==== Sys2Proof/Machine/QueueOps.lean ====
section
/-! DEFINITION. The packet queues' operations (R135 to R160). -/

namespace Sys2Proof.Machine

/-- Words the fixed queues of a tile take (R135). -/
def State.fixedWords (s : State) (tile : Nat) : Nat :=
  8 * (4096 + 2048 + 2048 + 1024 + 1024 + 4096 + 8192 + 1024 + 1024 + 4096 + 1024) + 12 * 2048 + 4 * 4096 + 8 * 1024 +
    8 * 1024 + 2 * (s.nTiles - 1) * 2048 + (if tile = 0 then 3 * 8192 else 0)

/-- The general pool of a tile in words (R136). -/
def State.generalPool (s : State) (tile : Nat) : Nat := 524288 - s.fixedWords tile

/-- The capacity of a queue in words (R135, R136). The management cores size the general queues; here each has an equal
share, rounded down to whole rows of zone F (R168, log 13). -/
def State.capacity (s : State) (tile q : Nat) : Nat :=
  if q < 0x08 then 4096
  else if q < 0x18 then 2048
  else if q < 0x28 then 1024
  else if q < 0x30 then 4096
  else if q < 0x38 then 8192
  else if q < 0x48 then 1024
  else if q < 0x50 then 4096
  else if q < 0x58 then 1024
  else if q < 0x64 then 2048
  else if q < 0x68 then 4096
  else if q < 0x78 then 1024
  else if q < 0x88 then
    (if q % 8 = tile then 0 else if q % 8 < s.nTiles then 2048 else 0)
  else if q < 0x8B then (if tile = 0 then 8192 else 0)
  else if q < 0xA0 then 0
  else if q < 0xA2 then 4096
  else (s.generalPool tile - 8192) / 94 / 32 * 32

/-- The largest packet of a queue in words (R137). -/
def packetLimit (q : Nat) : Nat :=
  if q < 0x08 then 13
  else if 0x28 ≤ q ∧ q < 0x30 then 13
  else if 0x58 ≤ q ∧ q < 0x8B then 13
  else 64

/-- The producers of a queue (R135). -/
def isProducer (q : Nat) (p : Producer) : Bool :=
  if q < 0x08 then p == .forwarder || p == .ringRouter || p == .replay || p == .management
  else if q < 0x28 then p == .management
  else if q < 0x58 then p == .pipeline
  else if q < 0x64 then p == .lineLane
  else if q < 0x68 then p == .forwarder || p == .ringRouter
  else if q < 0x70 then p == .radioLane
  else if q < 0x78 then p == .forwarder || p == .ringRouter
  else if q < 0x80 then p == .forwarder || p == .tunnelPort
  else if q < 0x88 then p == .forwarder
  else if q < 0x8B then p == .forwarder || p == .ringRouter
  else if q < 0xA0 then false
  else if q < 0xA2 then p == .forwarder
  else p == .management || p == .dma

/-- The code of a producer in event data (R162 names the item, not its code; log 8). -/
def Producer.code : Producer → Nat
  | .pipeline => 0
  | .ringRouter => 1
  | .forwarder => 2
  | .replay => 3
  | .lineLane => 4
  | .radioLane => 5
  | .tunnelPort => 6
  | .management => 7
  | .dma => 8

/-- The key of a queue. -/
def queueKey (tile q : Nat) : Nat := tile * 256 + q

/-- A queue. -/
def State.queue (s : State) (tile q : Nat) : Queue := if q < 256 then Tab.getD s.queues.queues (queueKey tile q) {} else {}

/-- A queue stored: a tile has 256 (R135). -/
def State.setQueue (s : State) (tile q : Nat) (x : Queue) : State :=
  { s with queues := { s.queues with queues := if q < 256 then Tab.set s.queues.queues (queueKey tile q) x else s.queues.queues } }

/-- The base of a queue in zone F: the queues of a tile follow one another, each at a multiple of 32 words (R168). -/
def State.queueBase (s : State) (tile q : Nat) : Nat := ((List.range q).map (s.capacity tile)).sum

/-- The word address of a position of a queue: base plus storage index, the position modulo the capacity (R145, R168). -/
def State.queueWord (s : State) (tile q : Nat) (pos : BitVec 32) : Nat :=
  s.queueBase tile q + pos.toNat % s.capacity tile q

/-- Words of a queue from a position on are written, each with its tag (R142, R191). -/
def State.wordsWritten (s : State) (tile q : Nat) (pos : BitVec 32) (n : Nat) : State :=
  (List.range n).foldl (fun s i =>
    let a := s.queueWord tile q (pos + BitVec.ofNat 32 i)
    (s.wordWritten 0 tile a).wordWritten 1 tile a) s

/-- The words and tags of the packet at a queue's head (R73, R142). -/
def State.packetWords (s : State) (tile q n : Nat) : List (Nat × Nat) :=
  (List.range n).flatMap fun i =>
    let a := s.queueWord tile q ((s.queue tile q).readPos + BitVec.ofNat 32 i)
    [(0, a), (1, a)]

/-- END words of a run of words (R142). -/
def endWords (ws : List (Word × Byte)) : Nat := ws.countP fun w => w.2.getLsbD 6

/-- WritePos − FreePos (R145). -/
def Queue.occupancy (x : Queue) : Nat := (x.writePos - x.freePos).toNat

/-- The words complete and not yet read, from ReadPos to CompletePos (R145). -/
def Queue.unread (x : Queue) : List (Word × Byte) :=
  (x.words.drop (x.readPos - x.freePos).toNat).take (x.completePos - x.readPos).toNat

/-- The words of the first packet of a run: up to and with its END word. -/
def firstPacket : List (Word × Byte) → List (Word × Byte)
  | [] => []
  | w :: r => if w.2.getLsbD 6 then [w] else w :: firstPacket r

/-- The packets of a run of whole packets. -/
def packetsOf (fuel : Nat) (ws : List (Word × Byte)) : List (List (Word × Byte)) :=
  match fuel with
  | 0 => []
  | n + 1 =>
    if ws.isEmpty then [] else
      let p := firstPacket ws
      p :: packetsOf n (ws.drop p.length)

/-- The first complete packet not yet read. -/
def Queue.head? (x : Queue) : Option (List (Word × Byte)) :=
  if x.waiting = 0 then none else some (firstPacket x.unread)

/-- read(q) (R147, R148): the word and its tag, and the queue after. -/
def Queue.read (x : Queue) : (Word × Byte) × Queue :=
  match x.unread with
  | [] => ((0, 0), x)
  | w :: _ =>
    let e := w.2.getLsbD 6
    (w, { x with readPos := x.readPos + 1
                 waiting := if e then x.waiting - 1 else x.waiting
                 held := if e then x.held + 1 else x.held })

/-- mark(q) (R148). -/
def Queue.mark (x : Queue) : Queue := { x with markPos := x.readPos }

/-- rewind(q) (R148). -/
def Queue.rewind (x : Queue) : Queue :=
  let ws := (x.words.drop (x.markPos - x.freePos).toNat).take (x.readPos - x.markPos).toNat
  let n : BitVec 16 := BitVec.ofNat 16 (endWords ws)
  { x with waiting := x.waiting + n, held := x.held - n, readPos := x.markPos }

/-- True where release(q, pos) is allowed: pos lies from FreePos to ReadPos and just after an END word (R148). FreePos moves by
releases alone, so once it has moved it is itself just after a released END word. -/
def Queue.canRelease (x : Queue) (pos : BitVec 32) : Bool :=
  let n := (pos - x.freePos).toNat
  decide (n ≤ (x.readPos - x.freePos).toNat) &&
    (match (x.words.take n).getLast? with
     | some w => w.2.getLsbD 6
     | none => decide (x.freePos ≠ 0))

/-- release(q, pos) where it is allowed (R148). -/
def Queue.release (x : Queue) (pos : BitVec 32) : Queue :=
  let n := (pos - x.freePos).toNat
  { x with held := x.held - BitVec.ofNat 16 (endWords (x.words.take n))
           freePos := pos
           words := x.words.drop n
           markPos := if (x.markPos - x.freePos).toNat < n then pos else x.markPos }

/-- A packet read whole: mark, then its words (R149). -/
def Queue.readPacket (x : Queue) : List (Word × Byte) × Queue :=
  match x.head? with
  | none => ([], x.mark)
  | some p =>
    (p, { x.mark with readPos := x.readPos + BitVec.ofNat 32 p.length
                      waiting := x.waiting - 1
                      held := x.held + 1 })

/-- Occupancy below 50 % lets QueueHighWater be recorded again (R155). -/
def Queue.calm (cap : Nat) (x : Queue) : Queue :=
  if x.highWater && decide (2 * x.occupancy < cap) then { x with highWater := false } else x

/-- The key of a queue's own rate limit (R162). -/
def queueEvent (s : State) (code tile q : Nat) (data : List Nat) : State := s.offerLimited code tile q (tile :: q :: data)

/-- release(q, pos) by the queue's consumer: a refused one changes no position, is counted in the status record and recorded
(R148, R161, R162). -/
def State.releaseTo (s : State) (tile q : Nat) (pos : BitVec 32) : State :=
  let x := s.queue tile q
  if x.canRelease pos then s.setQueue tile q ((x.release pos).calm (s.capacity tile q))
  else queueEvent ((s.setQueue tile q { x with releaseRefused := true }).count tile 9 6) 0xE204 tile q [pos.toNat]

/-- The oldest packet of a queue taken by its consumer: mark, read to its END word, release up to it (R149, R68). -/
def State.takePacket (s : State) (tile q : Nat) : Option (List (Word × Byte)) × State :=
  let x := s.queue tile q
  match x.head? with
  | none => (none, s)
  | some p =>
    let y := x.readPacket.2
    (some p, ((s.setQueue tile q y).releaseTo tile q y.readPos).count tile 9 1)

/-- A queue reset (R158). Opens that wait are dropped with the packets of their producers (DESIGN CHOICE, log 63). -/
def Queue.reset (x : Queue) : Queue :=
  { x with writePos := x.freePos, completePos := x.freePos, openPos := x.freePos, readPos := x.freePos
           markPos := x.freePos, waiting := 0, held := 0, generation := x.generation + 1, words := []
           openBy := none, waiters := [], highWater := false }

/-- Space for a reservation (R150). -/
def Queue.fits (cap : Nat) (x : Queue) (words : Nat) : Bool := decide (words + x.occupancy ≤ cap)

/-- An open granted: the packet's START position and the ticket's generation are the queue's (R150). -/
def Queue.grant (x : Queue) (p : Producer) (words now : Nat) : Queue :=
  { x with openBy := some (p, words), openPos := x.writePos, openedAt := now, openAnswer := 0 }

/-- An open refused for space (R154). -/
def State.refuseOpen (s : State) (tile q : Nat) (p : Producer) : State :=
  let x := s.queue tile q
  queueEvent ((s.setQueue tile q { x with openAnswer := 2 }).count tile 9 2)
    0xE201 tile q [p.code]

/-- An open of a queue with no open packet (R150). -/
def State.tryOpen (s : State) (tile q : Nat) (p : Producer) (words : Nat) : State :=
  let x := s.queue tile q
  if packetLimit q < words then s.setQueue tile q { x with openAnswer := 3 }
  else if x.fits (s.capacity tile q) words then s.setQueue tile q (x.grant p words s.elapsed)
  else s.refuseOpen tile q p

/-- Occupancy passing 75 % is recorded once (R155). -/
def State.highWater (s : State) (tile q : Nat) : State :=
  let x := s.queue tile q
  let s := s.setQueue tile q { x with peak := max x.peak x.occupancy }
  let x := s.queue tile q
  if !x.highWater && decide (3 * s.capacity tile q < 4 * x.occupancy) then
    queueEvent (s.setQueue tile q { x with highWater := true }) 0xE203 tile q [x.occupancy]
  else s

/-- The open packet dropped: its words go, the generation increments (R152, R156). Cause 0 timeout, 1 overrun. -/
def State.dropOpen (s : State) (tile q cause : Nat) : State :=
  let x := s.queue tile q
  let n := (x.writePos - x.openPos).toNat
  let y : Queue := { x with writePos := x.openPos, words := x.words.take (x.openPos - x.freePos).toNat
                            generation := x.generation + 1, openBy := none }
  queueEvent ((s.setQueue tile q (y.calm (s.capacity tile q))).count tile 9 3)
    0xE200 tile q [x.generation.toNat, n, cause]

/-- The completion timeout of a queue in ns: pace cycles at 600 per µs, on the elapsed time (R156). -/
def State.packetTimeout (s : State) : Nat := s.obj 0x2200 1 * 1000

/-- An open refused at once and counted for the queue: the agent is no producer of it (R150). -/
def State.refuseStranger (s : State) (tile q : Nat) : State :=
  let x := s.queue tile q
  s.setQueue tile q { x with strangers := x.strangers + 1, openAnswer := 3 }

/-- An open joins those that wait, in the order requested; a ring-router open wins a tie with forwarder opens of its pace
cycle (R151). -/
def waitIn (w : Waiter) : List Waiter → List Waiter
  | [] => [w]
  | v :: r =>
    if w.producer = .ringRouter ∧ v.producer = .forwarder ∧ v.at_ = w.at_ then w :: v :: r else v :: waitIn w r

/-- An open that waits behind the packet that is open, or behind opens asked for before it (R151). -/
def State.waitOpen (s : State) (tile q : Nat) (p : Producer) (words : Nat) (ws : List (Word × Byte)) : State :=
  let x := s.queue tile q
  s.setQueue tile q { x with
    waiters := waitIn { producer := p, words := words, at_ := s.elapsed, packet := ws } x.waiters, openAnswer := 1 }

/-- A producer keeps its packet where it is and asks again: the forwarder in the source queue, a tunnel port in its receive
buffer (R154). -/
def Producer.keeps (p : Producer) : Bool := p == .forwarder || p == .tunnelPort

/-- The word addresses of the next `n` words of a queue. -/
def State.nextWords (s : State) (tile q n : Nat) : List Nat :=
  (List.range n).map fun i => s.queueWord tile q ((s.queue tile q).writePos + BitVec.ofNat 32 i)

/-- A producer's first word of the next `n` that lies in a bank not on: every producer but the fabric writes by DMA or from a
management core (R170, R176). -/
def State.barredWord (s : State) (tile q : Nat) (p : Producer) (n : Nat) : Option Nat :=
  if p = .pipeline then none else s.barred tile p.code (s.nextWords tile q n)

/-- A packet written whole into a queue with no open packet, if it fits and its banks are on (R150, R152, R154, R155,
R176). -/
def State.writePacket (s : State) (tile q : Nat) (p : Producer) (ws : List (Word × Byte)) : Bool × State :=
  let x := s.queue tile q
  if x.fits (s.capacity tile q) ws.length then
    match s.barredWord tile q p ws.length with
    | some a => (false, (s.access tile a p.code).2)
    | none =>
      let n : BitVec 32 := BitVec.ofNat 32 ws.length
      (true, (((s.setQueue tile q { x with writePos := x.writePos + n, completePos := x.writePos + n
                                           openPos := x.writePos + n, words := x.words ++ ws
                                           waiting := x.waiting + 1, openBy := none }).wordsWritten tile q x.writePos
        ws.length).highWater tile q).count tile 9 0)
  else (false, s.refuseOpen tile q p)

/-- The open of a producer that keeps its packet waits with the packet's words, which name it when the producer asks again; it
joins once (R151). -/
def State.askAgain (s : State) (tile q : Nat) (p : Producer) (ws : List (Word × Byte)) : State :=
  if (s.queue tile q).waiters.any fun w => w.producer == p && w.packet == ws then s else s.waitOpen tile q p ws.length ws

/-- The turn of a producer that keeps its packet has come: its own open is the oldest that waits and no packet is open, or a
grant of its size stands with no word written (R151). -/
def Queue.turnOf (x : Queue) (p : Producer) (ws : List (Word × Byte)) : Option Queue :=
  match x.openBy, x.waiters with
  | none, w :: r => if w.producer = p ∧ w.packet = ws then some { x with waiters := r } else none
  | some g, _ => if g = (p, ws.length) ∧ x.writePos = x.openPos then some x else none
  | none, [] => none

/-- A whole packet given to a queue by a producer that writes it in one burst (R150 to R155). Words get START, END and BYTES
tags already. Behind an open packet, or opens asked for before it, it waits in the order asked for: a producer that keeps its
packet asks again until its turn comes. The result tells whether the queue has taken it. -/
def State.pushPacket (s : State) (tile q : Nat) (p : Producer) (ws : List (Word × Byte)) : Bool × State :=
  let x := s.queue tile q
  if ws.isEmpty then (true, s)
  else if !isProducer q p then (false, s.refuseStranger tile q)
  else if packetLimit q < ws.length then (false, s.setQueue tile q { x with openAnswer := 3 })
  else if x.openBy.isSome || !x.waiters.isEmpty then
    (if p.keeps then
      (match x.turnOf p ws with
       | some y => (s.setQueue tile q y).writePacket tile q p ws
       | none => (false, s.askAgain tile q p ws))
     else (true, s.waitOpen tile q p ws.length ws))
  else s.writePacket tile q p ws

/-- The waiting packets at the head of a queue's waiters are written, in order, until one waits that its producer writes itself,
word by word or from where it keeps it (R151). -/
def State.writeWaiting (fuel : Nat) (s : State) (tile q : Nat) : State :=
  match fuel with
  | 0 => s
  | n + 1 =>
    let x := s.queue tile q
    match x.openBy, x.waiters with
    | none, w :: r =>
      if w.packet.isEmpty || w.producer.keeps then s
      else State.writeWaiting n ((s.setQueue tile q { x with waiters := r }).writePacket tile q w.producer w.packet).2 tile q
    | _, _ => s

/-- Tag of word `i` of `n` of a packet whose last word holds `lastBytes` data bytes (R142). -/
def wordTag (i n lastBytes : Nat) : Byte :=
  let e := decide (i + 1 = n)
  BitVec.ofNat 8 (0x80 + (if e then 0x40 else 0) + (if i = 0 then 0x20 else 0) + (if e then lastBytes - 1 else 7))

/-- A packet of a first word and the bytes that follow it (R142 to R144). -/
def packetOf (first : Word) (b : Octets) : List (Word × Byte) :=
  let ws := first :: packWords b
  let last := if b.isEmpty then 8 else (b.length + 7) % 8 + 1
  ws.zipIdx.map fun (w, i) => (w, wordTag i ws.length last)

/-- A packet of words, the last one whole. -/
def packetOfWords (ws : List Word) : List (Word × Byte) := ws.zipIdx.map fun (w, i) => (w, wordTag i ws.length 8)

/-- The bytes a packet carries after its first word, as many as its tags say (R142). -/
def packetBytes (p : List (Word × Byte)) : Octets :=
  (p.drop 1).flatMap fun (w, t) => (be 8 w.toNat).take (if t.getLsbD 6 then t.toNat % 8 + 1 else 8)

/-- The first word of a packet as a number. -/
def packetHead (p : List (Word × Byte)) : Nat :=
  match p with
  | [] => 0
  | (w, _) :: _ => w.toNat

/-- A run of packets written again at the end of a queue, in order (R136, R97). -/
def State.pushAll (s : State) (tile q : Nat) (p : Producer) (ps : List (List (Word × Byte))) : State :=
  ps.foldl (fun s w => (s.pushPacket tile q p w).2) s

/-! ### Outstanding requests (R159) -/

/-- The key of a request-table entry. -/
def requestKey (tile n : Nat) : Nat := tile * 65536 + n

/-- The entry of a request-table number. -/
def State.request (s : State) (tile n : Nat) : Request := Tab.getD s.queues.requests (requestKey tile n) {}

/-- An entry stored. -/
def State.setRequest (s : State) (tile n : Nat) (r : Request) : State :=
  { s with queues := { s.queues with requests := Tab.set s.queues.requests (requestKey tile n) r } }

/-- A request identifier (R159). -/
def requestId (gen tile n : Nat) : Nat := gen * 16777216 + tile * 65536 + n

/-- The lowest number from `n` on whose entry is not busy, within `fuel` numbers. -/
def freeRequest (s : State) (tile fuel n : Nat) : Option Nat :=
  match fuel with
  | 0 => none
  | f + 1 => if (s.request tile n).busy then freeRequest s tile f (n + 1) else some n

/-- The lowest free number of a tile's table (R159). -/
def State.newRequest (s : State) (tile : Nat) : Option Nat :=
  freeRequest s tile (min 65536 (s.queues.requests.length + 1)) 0

/-- An entry freed: its generation increments, wrapping from 255 to 1 (R159); its command's final state stays readable
(R360). -/
def Request.free (r : Request) : Request :=
  { r with generation := if r.generation = 255 then 1 else r.generation + 1, busy := false }

/-- The entry a request identifier names, when its generation matches. -/
def State.requestOf (s : State) (id : Nat) : Option (Nat × Nat × Request) :=
  let tile := field id 23 16
  let n := field id 15 0
  let r := s.request tile n
  if r.busy && decide (r.generation.toNat = field id 31 24) then some (tile, n, r) else none

/-- A completion that names a superseded generation (R159). -/
def State.lateCompletion (s : State) (id : Nat) : State :=
  let tile := field id 23 16
  (s.count tile 9 5).offerLimited 0xE202 tile 0 [tile, id]

end Sys2Proof.Machine
end

