-- ==== Sys2Proof/Machine/Mirror.lean ====
section
/-! DEFINITION. The mirror link's sending side, MGMT records and the digest contributions (15 R536, R548, R549, R553). -/

namespace Sys2Proof.Machine

/-- A message on the mirror link: its header of 16 bytes, body and CRC-32 (R536). -/
def mirrorBytes (kind flags seq ack : Nat) (body : Octets) : Octets :=
  let m := be 1 kind ++ be 1 flags ++ be 2 body.length ++ be 4 seq ++ be 4 ack ++ be 4 0 ++ body
  m ++ be 4 (crc32 m)

/-- The mirror link carries messages: in pair mode, after bring-up and out of pilot light, with the link up (R536, R541). -/
def State.mirrorUp (s : State) : Bool := s.partRuns && decide (s.pair.state ≠ 0) && s.pair.linkUp

/-- A message sent, with the next LinkSeq; it is kept for repeats until acknowledged (R536). -/
def State.mirrorSend (s : State) (kind : Nat) (body : Octets) : State :=
  if s.mirrorUp then
    let n := s.pair.sendSeq + 1
    let m : MirrorMessage := { seq := n, kind := kind, body := body, sentAt := s.elapsed }
    ({ s with pair := { s.pair with sendSeq := n, unacked := s.pair.unacked ++ [m] } } : State).sendOn (.mirror kind)
      (mirrorBytes kind 0 n s.pair.recvSeq body)
  else s

/-- The active has a standby that follows it, in STANDBY or SYNCING and not detached (R548). -/
def State.mirrors (s : State) : Bool :=
  decide (s.pair.state = 2) && s.mirrorUp && (s.pair.peerState == 3 || s.pair.peerState == 4) && !s.pair.peerDetached &&
    s.pair.applying.isNone

/-- The apply instant of a record sent now: 2 ms ahead (R548). -/
def State.applyInstant (s : State) : Nat := s.tbNs + 2000000

/-- The bytes of a MGMT record: apply instant, type, record; the record's layout is not stated (log 35). -/
def mgmtBody (at_ kind : Nat) (args : List Nat) (data : Octets) : Octets := be 8 at_ ++ be 2 kind ++ args.flatMap (be 8) ++ data

/-- A MGMT record of the active's own change (R549). -/
def State.mgmt (s : State) (kind : Nat) (args : List Nat) (data : Octets) : State :=
  if s.mirrors then s.mirrorSend 7 (mgmtBody s.applyInstant kind args data) else s

/-- A MGMT record whose boundary is 4 heats ahead: a move's fence-open or commit boundary (R226; log 35). -/
def State.mgmtHeats (s : State) (kind : Nat) (args : List Nat) : State :=
  if s.mirrors then s.mirrorSend 7 (mgmtBody (s.tbNs + 40200) kind args []) else s

/-- A MGMT record of a standby: the report of its build (R130, R552). -/
def State.mgmtReport (s : State) (kind : Nat) (args : List Nat) (data : Octets) : State :=
  s.mirrorSend 7 (mgmtBody s.tbNs kind args data)

/-- CRC-64 of R553: polynomial 0x42F0E1EBA9EA3693, initial value 0, no reflection. -/
def crc64 (b : Octets) : Nat := crcMsb 64 0x42F0E1EBA9EA3693 0 0 b

/-- A contribution to the digest of the bin of an instant in TB64 ns (R553, R554). -/
def State.contribute (s : State) (m at_ : Nat) (bytes : Octets) : State :=
  if s.pair.state = 0 then s
  else
    let c := crc64 (be 4 m ++ bytes)
    (({ s with pair := { s.pair with bins := Tab.modify s.pair.bins (at_ / 1000000) {} fun b =>
        { b with xor_ := b.xor_ ^^^ c, count := b.count + 1, log := b.log ++ [(m, c)] } } } : State).count 0 31 0).count 0 31 2

/-- A unit that does not hold the baton and is past STARTING. -/
def State.isStandby (s : State) : Bool := decide (3 ≤ s.pair.state) && !s.pair.baton

/-- A failed check of the diagnosis set (R559), which a pair's active acts on at its next boundary (R560); 13 and 14 concern a pair
alone. -/
def State.failCheck (s : State) (check : Nat) : State :=
  if (s.pair.state = 0 ∧ 8 ≤ check) ∨ s.pair.failures.contains check then s
  else { s with pair := { s.pair with failures := s.pair.failures ++ [check] } }

/-- A meter in a unit-local fence is flagged from its open to its close (R227, R557). -/
def State.flagMeter (s : State) (m : Nat) (opens : Bool) : State :=
  let l := if opens then s.pair.flagged ++ [(m, s.tbMs, none)]
    else s.pair.flagged.map fun f => if f.1 = m ∧ f.2.2.isNone = true then (f.1, f.2.1, some s.tbMs) else f
  { s with pair := { s.pair with flagged := l } }

/-- A unit-local fence's open or close told to the peer in FENCE_FLAG (R557). -/
def State.localFence (s : State) (m : Nat) (opens : Bool) : State :=
  if s.pair.state = 0 then s else (s.flagMeter m opens).mirrorSend 15 (be 4 m ++ be 1 (bit01 opens))

end Sys2Proof.Machine
end

