-- ==== Sys2Proof/Machine/Operands.lean ====
section
/-! DEFINITION. The operand form of every host command: a UDX message in its session (R588 to R608). Authentication, the
sequence window, repeats, the checks of R602 in their order, the reply. -/

namespace Sys2Proof.Machine

/-! ### Sequence windows (R336) -/

/-- The classes of a sequence number in a 64-entry window (R336). -/
inductive SeqClass where
  | ahead | behind | stale | duplicate
  deriving DecidableEq, Repr

/-- classify(seq, top, mask) of R336. -/
def classifySeq (seq top mask : Nat) : SeqClass :=
  if top < seq then .ahead
  else if 64 ≤ top - seq then .stale
  else if bitAt mask (top - seq) then .duplicate
  else .behind

/-- accept(seq, class) of R336: the window after a taken message. -/
def acceptSeq (seq top mask : Nat) : Nat × Nat :=
  if top < seq then
    (seq, if 64 ≤ seq - top then 1 else ((mask <<< (seq - top)) ||| 1) % 18446744073709551616)
  else (top, mask ||| (1 <<< (top - seq)))

/-! ### Status codes (R601) -/

namespace Status
def ok : Nat := 0x00
def pending : Nat := 0x01
def busy : Nat := 0x02
def notReady : Nat := 0x03
def denied : Nat := 0x10
def refused : Nat := 0x11
def withdrawn : Nat := 0x12
def mediaExhausted : Nat := 0x13
def timeRegression : Nat := 0x14
def noObject : Nat := 0x20
def access : Nat := 0x21
def typeMismatch : Nat := 0x22
def outOfRange : Nat := 0x23
def noMeter : Nat := 0x24
def malformed : Nat := 0x25
def changed : Nat := 0x26
def tooLarge : Nat := 0x27
end Status

/-- A reply with a status alone. -/
def replyOf (status : Nat) : Reply := { status := status }

/-- A reply with a status and a retry hint in ms (R596). -/
def replyHint (status hint : Nat) : Reply := { status := status, hint := min 60000 (max 10 hint) }

/-! ### Requests (R595) -/

/-- The fields of a REQUEST body (R595). -/
structure Ask where
  op : Nat
  flags : Nat := 0
  index : Nat := 0
  sub : Nat := 0
  meter : Nat := 0
  offset : Nat := 0
  data : Octets := []
  deriving DecidableEq, Repr

/-- A WRITE of a sub-index (R595). -/
def writeAsk (index sub meter : Nat) (data : Octets) : Ask :=
  { op := 2, index := index, sub := sub, meter := meter, data := data }

/-- The body a request seals (R595). -/
def Ask.body (a : Ask) (tag : Nat) : Octets :=
  be 4 tag ++ be 1 a.op ++ be 1 a.flags ++ be 2 a.index ++ be 1 a.sub ++ be 1 0 ++ be 2 a.data.length ++ be 4 a.meter ++
    be 4 a.offset ++ be 4 0 ++ a.data

/-- The request that a body of R595 spells. -/
def askOf (b : Octets) : Ask :=
  { op := fieldAt b 4 1, flags := fieldAt b 5 1, index := fieldAt b 6 2, sub := fieldAt b 8 1, meter := fieldAt b 12 4
    offset := fieldAt b 16 4, data := b.drop 24 }

/-- The 16-byte header of a UDX message (R588). -/
def udxHeader (kind session seq len flags : Nat) : Octets :=
  be 2 0x5558 ++ be 1 1 ++ be 1 kind ++ be 4 session ++ be 4 seq ++ be 2 len ++ be 1 flags ++ be 1 0

/-- The IV of a sealed UDX message (R589). -/
def udxIv (session seq kind flags : Nat) : Octets := be 4 session ++ be 4 seq ++ be 1 kind ++ be 1 flags ++ be 2 0

/-- The key of a tile slot in the key store: slot n of a tile, from 768. -/
def tileSlotKey (tile n : Nat) : Nat := (tile + 1) * 1024 + n

/-- The lowest tile slot n such that it and the next are empty (R443). -/
def State.freeTileSlots (s : State) (tile : Nat) : Option Nat :=
  ((List.range 255).map (· + 768)).find? fun n =>
    !Tab.has s.keys.slots (tileSlotKey tile n) && !Tab.has s.keys.slots (tileSlotKey tile (n + 1))

/-- A free tile slot: the highest (12 R446; DESIGN CHOICE, log 27). -/
def State.freeTileSlot (s : State) (tile : Nat) : Option Nat :=
  ((List.range 256).map (1023 - ·)).find? fun n => !Tab.has s.keys.slots (tileSlotKey tile n)

/-- The tile whose zone S holds a key slot (R443, log 27). -/
def slotTile (k : Nat) : Nat := if k < 768 then 0 else k / 1024 - 1

/-- The key material of a key-store entry; an empty slot has none. -/
def State.keyMaterial (s : State) (k : Nat) : Octets :=
  match Tab.find? s.keys.slots k with
  | some x => x.material
  | none => []

/-- A sealed UDX message of the part: header, ciphertext, tag (R589). -/
def sealUdx (key : Octets) (kind session seq : Nat) (body : Octets) : Octets :=
  let hdr := udxHeader kind session seq (body.length + 16) 0x80
  let iv := udxIv session seq kind 0x80
  let c := gcmText key iv body
  hdr ++ c ++ gcmTag key iv hdr c

/-- The tag the host's message must bear (R589). -/
def hostTag (key : Octets) (kind session seq : Nat) (body : Octets) : Octets :=
  let iv := udxIv session seq kind 0
  gcmTag key iv (udxHeader kind session seq (body.length + 16) 0) (gcmText key iv body)

/-! ### Sessions (R591 to R594) -/

/-- An open or half-open session. -/
def State.session? (s : State) (id : Nat) : Option Session := s.dict.sessions.find? fun x => x.id == id

/-- A session stored in the place of the one with its number. -/
def State.setSession (s : State) (x : Session) : State :=
  { s with dict := { s.dict with sessions := s.dict.sessions.map fun y => if y.id = x.id then x else y } }

/-- A session's end: both key slots destroyed, its values discarded (R593). Reasons: R610. -/
def State.endSession (s : State) (id reason : Nat) : State :=
  match s.session? id with
  | none => s
  | some x =>
    (({ s with
        dict := { s.dict with sessions := s.dict.sessions.filter fun y => y.id != id }
        keys := { s.keys with slots := Tab.erase (Tab.erase s.keys.slots (tileSlotKey 0 x.keySlot))
                                (tileSlotKey 0 (x.keySlot + 1)) } } : State).bump 0x1024 9).offer 0xE801 0 [id, reason]

/-- Every session that satisfies a condition ends (R593). -/
def State.endSessions (s : State) (p : Session → Bool) (reason : Nat) : State :=
  (s.dict.sessions.filter p).foldl (fun s x => s.endSession x.id reason) s

/-- The rights of a role: reader 0, operator 1, owner 2; service has the owner's in SERVICE only (R575). -/
def State.roleRank (s : State) (role : Nat) : Nat :=
  if role = 3 then (if s.boot.lifeCycle = 3 then 2 else 0) else role

/-- The segment limit of a transport (R598). -/
def segmentLimit (transport : Nat) : Nat := if transport = 2 then 4096 else 1024

/-- A mailbox channel; 0 for UDX, 1 for the tunnel (R585). -/
def State.channel (s : State) (c : Nat) : Channel := s.dict.channels.getD c {}

/-- A mailbox channel stored. -/
def State.setChannel (s : State) (c : Nat) (x : Channel) : State :=
  { s with dict := { s.dict with channels := (List.range 2).map fun i => if i = c then x else s.channel i } }

/-- A ring entry: the 16-byte header with its little-endian length, then the message or datagram (R585). -/
def ringEntry (bytes : Octets) : Octets := le 2 bytes.length ++ be 14 0 ++ bytes

/-- The port of a mailbox channel: UDX or the tunnel (R585). -/
def channelPort (c : Nat) : OutPort := if c = 0 then .udx 2 else .tunnel 2 []

/-- An MSI-X vector raised: its message is sent, or stays pending while it is masked (R584, R585; PRESUMED, log 90). -/
def State.raiseVector (s : State) (v : Nat) : State :=
  if ((s.dict.msix.getD v {}).masked) then { s with dict := { s.dict with msixPending := putBit s.dict.msixPending v true } }
  else (s.send (.pulse 3 v) []).count 0 32 5

/-- The host has set the entry of a vector that it names in a channel: it is unmasked, and a pending message leaves (log 90). -/
def State.unmaskVector (s : State) (v : Nat) : State :=
  let s1 : State := { s with dict := { s.dict with
    msix := modifyAt s.dict.msix v fun x => { x with masked := false }, msixPending := putBit s.dict.msixPending v false } }
  if bitAt s.dict.msixPending v then s1.raiseVector v else s1

/-- An entry written to the out ring of a channel, which is `x` but for its producer counter, and the channel's interrupt (R585). -/
def State.putEntry (s : State) (c : Nat) (x : Channel) (bytes : Octets) : State :=
  (((s.setChannel c { x with outProducer := (x.outProducer + 1) % 2 ^ 32 }).send (channelPort c) (ringEntry bytes)).count 0 32
    4).raiseVector x.vector

/-- A message written to the out ring of a channel; a full ring holds it (R585, R586). -/
def State.ringOut (s : State) (c : Nat) (bytes : Octets) : State :=
  let x := s.channel c
  if wrapSub 32 x.outProducer x.outConsumer < x.entries ∧ x.heldReplies.isEmpty = true then
    s.putEntry c x bytes
  else s.setChannel c { x with heldReplies := x.heldReplies ++ [(bytes, s.elapsed)] }

/-- The octets of a message put on its transport (R582, R586). -/
def State.sendUdx (s : State) (x : Session) (bytes : Octets) : State :=
  if x.transport = 2 then s.ringOut 0 bytes else s.sendOn (.udx x.transport) bytes

/-- The result of a host message's authentication and window check (R589). -/
structure Admitted where
  session : Option Session
  state : State

/-- An open of the service cipher that failed its tag (R437). The requester is the UDX session or relay. -/
def State.serviceAuthFail (s : State) (requester slot : Nat) : State :=
  (s.count 0 25 3).offerLimited 0xE60C 0 0 [requester, slot]

/-- A message the part does not take: counted and unanswered (R589). -/
def State.dropMessage (s : State) (sub : Nat) : State := s.bump 0x1024 sub

/-- The transport of a session's messages: 0 and 1 Ethernet, 2 the mailbox; a session that is none counts on none. -/
def State.heardFrom (s : State) (session : Nat) : State :=
  match s.session? session with
  | some x => s.heardOn x.transport 5
  | none => s

/-- A datagram longer than R583 allows, counted on its Ethernet port; a mailbox message too long is no datagram (R587). -/
def State.dropLong (s : State) (session : Nat) : State :=
  let s1 := s.dropMessage 10
  match s.session? session with
  | some x => if x.transport < 2 then s1.count 0 (33 + x.transport) 4 else s1
  | none => s1

/-- The part takes a host message only when its tag passes and its MsgSeq is AHEAD or BEHIND; the first of a half-open
session bears MsgSeq 1 and opens it (R589, R591). -/
def State.admitMessage (s : State) (r : Req) (kind : Nat) (body : Octets) : Admitted :=
  match s.session? r.session with
  | none => ⟨none, s.dropMessage 3⟩
  | some x =>
    if hostTag (s.keyMaterial (tileSlotKey 0 x.keySlot)) kind x.id r.msgSeq body = r.mac then
      match classifySeq r.msgSeq x.inTop x.inMask with
      | .stale => ⟨none, s.dropMessage 4⟩
      | .duplicate => ⟨none, s.dropMessage 4⟩
      | _ =>
        if x.halfOpen && (r.msgSeq != 1 || kind != 5) then ⟨none, s.dropMessage 4⟩
        else
          let w := acceptSeq r.msgSeq x.inTop x.inMask
          let y := { x with inTop := w.1, inMask := w.2, halfOpen := false, lastAt := s.elapsed, lastSeconds := s.tbSeconds }
          let s1 := s.setSession y
          let s2 := if x.halfOpen then (s1.bump 0x1024 8).offer 0xE800 0 [x.id, x.role, x.transport] else s1
          ⟨some y, s2⟩
    else ⟨none, ((s.dropMessage 3).serviceAuthFail x.id x.keySlot).offerLimited 0xE802 0 0 [x.transport, x.id]⟩

/-- A sequence end closes the session (R593). -/
def State.checkSequenceEnd (s : State) (id : Nat) : State :=
  match s.session? id with
  | none => s
  | some x => if x.inTop = 4294967295 ∨ x.outSeq = 4294967295 then s.endSession id 2 else s

/-! ### Replies (R596, R597) -/

/-- The body of a REPLY (R596). -/
def Reply.body (p : Reply) (a : Ask) (tag : Nat) : Octets :=
  be 4 tag ++ be 1 a.op ++ be 1 p.status ++ be 2 p.hint ++ be 2 a.index ++ be 1 a.sub ++ be 1 p.replyFlags ++
    be 2 p.data.length ++ be 2 p.detail ++ be 4 a.meter ++ be 4 a.offset ++ be 4 p.generation ++ be 4 p.total ++ p.data

/-- A reply sealed under the part-to-host key and sent (R589, R596). -/
def State.sendReply (s : State) (id : Nat) (a : Ask) (tag : Nat) (p : Reply) : State :=
  match s.session? id with
  | none => s
  | some x =>
    let m := sealUdx (s.keyMaterial (tileSlotKey 0 (x.keySlot + 1))) 6 x.id x.outSeq (p.body a tag)
    let s1 := ((s.setSession { x with outSeq := x.outSeq + 1 }).sendUdx x m).bump 0x1024 2
    let s2 := if p.status = Status.busy then s1.bump 0x1024 5 else if p.status = Status.pending then s1.bump 0x1024 6 else s1
    s2.checkSequenceEnd id

/-- A request and its reply kept for repeats: the last 64 of the session (R597). -/
def State.keepReply (s : State) (id : Nat) (q : SessionRequest) : State :=
  match s.session? id with
  | none => s
  | some x => s.setSession { x with requests := (q :: x.requests.filter fun y => y.tag != q.tag).take 64 }

/-- The shed level a backlog in ns gives, from the level before: it rises at its threshold and falls below half of it
(R607). -/
def State.shedFor (s : State) : Nat :=
  let b := s.dict.backlog
  let th (l : Nat) : Nat := s.obj 0x1023 (l + 1) * 1000000
  let l := s.obj 0x1023 1
  let up := if th 3 < b then 3 else if th 2 < b then 2 else if th 1 < b then 1 else 0
  let stays (k : Nat) : Bool := decide (k ≤ l) && decide (th k ≤ 2 * b)
  let held := if stays 3 then 3 else if stays 2 then 2 else if stays 1 then 1 else 0
  max up held

/-- The sum of the estimated service times of the requests admitted and not yet final, in ns (R607, log 15). -/
def State.openWork (s : State) : Nat :=
  (s.dict.sessions.map fun x => (x.requests.map fun q =>
    if q.final then 0 else Config.serviceTime (askOf q.body).op (askOf q.body).index).sum).sum

/-- SHED_LEVEL_CHANGE: the backlog summed, and the level after it (R607). -/
def State.setShed (s0 : State) : State :=
  let s : State := { s0 with dict := { s0.dict with backlog := s0.openWork } }
  let l := s.obj 0x1023 1
  let n := s.shedFor
  if n = l then s else (s.setObj 0x1023 1 n).offerLimited 0xE804 0 0 [l, n, s.dict.backlog / 1000000]

/-- A request still running ends with a final reply, and the backlog falls by it; the reply is sent unless PENDING has been (R597, R605,
R607). -/
def State.finishRequest (s : State) (id tag : Nat) (p : Reply) : State :=
  match s.session? id with
  | none => s
  | some x =>
    match x.requests.find? fun q => q.tag == tag with
    | none => s
    | some q =>
      if q.final then s
      else
        let s1 := (s.setSession { x with requests := x.requests.map fun y =>
          if y.tag = tag then { y with final := true, reply := p, finalAt := s.elapsed, answered := true } else y }).setShed
        if q.answered then s1 else s1.sendReply id (askOf q.body) tag p

/-! ### Checks before the object's own rules (R602) -/

/-- Meter-scoped objects (R580). -/
def meterScoped (index : Nat) : Bool := 0xC000 ≤ index && index ≤ 0xCFFF

/-- An enrolled meter (R580, R341: a retiring one is as none). -/
def State.meter? (s : State) (m : Nat) : Option Meter := s.meters.find? fun x => x.number == m

/-- A meter stored in the place of the one with its number. -/
def State.setMeter (s : State) (x : Meter) : State :=
  { s with meters := s.meters.map fun y => if y.number = x.number then x else y }

/-- A meter changed by `f`, if enrolled. -/
def State.modMeter (s : State) (m : Nat) (f : Meter → Meter) : State :=
  { s with meters := s.meters.map fun y => if y.number = m then f y else y }

/-- True where no meter is enrolled under the number or it is retiring (R341). -/
def State.noMeter (s : State) (m : Nat) : Bool :=
  match s.meter? m with
  | none => true
  | some x => x.retiring

/-- A request is answered NO_METER for its meter: reads, and writes but those of 0xC000, for a number that is not enrolled; for a
retiring meter every request but an enrolment, which is refused (R341). -/
def State.meterBars (s : State) (m index sub : Nat) (reading : Bool) (data : Octets) : Bool :=
  match s.meter? m with
  | none => decide (index ≠ 0xC000) || reading
  | some x => x.retiring && !(decide (index = 0xC000 ∧ sub = 1 ∧ ofBe data = 1) && !reading)

/-- Sub-indices of writable objects that lie beyond the part's own tiles or lanes (R750). -/
def State.beyondPart (s : State) (index sub : Nat) : Bool :=
  if index = 0x6804 then s.nTiles < sub
  else if index = 0x3000 ∨ index = 0x3001 then 4 * s.nTiles < sub
  else if index = 0x3004 then 12 * s.nTiles < sub
  else if index = 0x3010 then 3 * s.nTiles < sub
  else if index = 0x3800 ∨ index = 0x3802 ∨ index = 0x3805 then 8 * s.nTiles < sub
  else if index = 0x5011 then (4 * s.nTiles < sub && sub ≤ 32) || 32 + 8 * s.nTiles < sub
  else false

/-- Bytes of a value of a type on the wire, where the type fixes them (R573). -/
def ObjTy.bytes : ObjTy → Option Nat
  | .bool => some 1
  | .u n => some n
  | .i n => some n
  | .oct n => some n
  | .vstr _ => none
  | .domain => none

/-- A value read from its bytes (R573). -/
def ObjTy.parse (t : ObjTy) (b : Octets) : Val :=
  match t with
  | .bool => .num (ofBe b)
  | .u _ => .num (ofBe b)
  | .i n => .num (toSigned (8 * n) (ofBe b))
  | _ => .oct b

/-- The bytes of a value of a type (R573, R14). -/
def ObjTy.wire (t : ObjTy) (v : Val) : Octets :=
  match t, v with
  | .bool, .num k => be 1 k.toNat
  | .u n, .num k => be n k.toNat
  | .i n, .num k => be n (ofSigned (8 * n) k)
  | .vstr _, .oct b => be 2 b.length ++ b
  | _, .oct b => b
  | _, .num k => be 8 k.toNat

/-- True where a value lies in the row's range; a BOOL is 0 or 1 (R573). -/
def ObjRow.inRange (r : ObjRow) (v : Val) : Bool :=
  match v with
  | .oct _ => true
  | .num i =>
    (match r.ty with
     | .bool => decide (i = 0 ∨ i = 1)
     | _ => true) &&
    (match r.range with
     | none => true
     | some (lo, hi) => decide (lo ≤ i ∧ i ≤ hi))

/-- Requests admitted and not yet final that are commands (R608). -/
def State.openCommands (s : State) : Nat :=
  (s.dict.sessions.map fun x => x.requests.countP fun q => q.command && !q.final).sum

/-- The shed class of a request: 0 command, 1 counter, 2 statistic, 3 query (R606). -/
def shedClass (role : Nat) (a : Ask) (row : Option ObjRow) : Nat :=
  if a.op = 2 ∨ a.op = 4 ∨ a.op = 6 then 0
  else if role ≥ 2 && decide (0x8000 ≤ a.index ∧ a.index ≤ 0x80FF) then 0
  else if decide (0x9100 ≤ a.index ∧ a.index ≤ 0x91FF) then 1
  else match row with
    | some r =>
      if r.array && decide (r.ty = .u 8) then 1
      else if r.access == .ro && decide (r.ty = .domain) && decide (a.sub ≠ 0 ∨ a.op = 5) then 2
      else 3
    | none => 3

/-- The retry hint of BUSY: the backlog rounded up to 10 ms, at least 10 (R608). -/
def State.busyHint (s : State) : Nat := max 10 (divUp (s.dict.backlog / 1000000) 10 * 10)

/-- BUSY for load (R608). -/
def State.shedBusy (s : State) (c : Nat) : Bool :=
  if c = 0 then decide (64 ≤ s.openCommands)
  else
    let l := s.obj 0x1023 1
    (c == 1 && decide (1 ≤ l)) || (c == 2 && decide (2 ≤ l)) || (c == 3 && decide (3 ≤ l))

/-- Objects answered NOT_READY until the restore is done (R603). -/
def restoreScoped (index : Nat) : Bool :=
  (0x4000 ≤ index && index < 0x5000) || (0x6000 ≤ index && index < 0x6800) || meterScoped index

/-- Objects with one sub-index a tile. -/
def perTile (index : Nat) : Bool :=
  ([0x1043, 0x2041, 0x2201, 0x2202, 0x2203, 0x2204, 0x2205, 0x2206, 0x2301, 0x2302, 0x2305, 0x5001, 0x5002, 0x5050, 0x6000,
    0x6005, 0x6006, 0x6007, 0x6008, 0x600B, 0x6010, 0x6011, 0x6801, 0x6802, 0x6803, 0x6804, 0x6805] : List Nat).contains index ||
    ([0x6810, 0x6811, 0x6812, 0x6813, 0x6814, 0x6815, 0x6816, 0x6831, 0x6832, 0x6833, 0x6834, 0x9030, 0xB020, 0xB022, 0xB040]
      : List Nat).contains index

/-- The state of a tile's health: 0 live, 1 LOST, 2 recovering, 3 failed (R649 to R651). -/
def State.healthOf (s : State) (t : Nat) : Nat := (Tab.getD s.recorder.health t {}).state

/-- Objects of a tile that tile 0 holds itself: enumeration, clock monitors, allocation, counts of meters and fences, health. -/
def heldByTile0 (index : Nat) : Bool := ([0x1043, 0x2041, 0x2301, 0x2302, 0x2305, 0x9030] : List Nat).contains index

/-- The tile that a request needs: the home of its meter, or the tile that its sub-index names (R649; DEDUCED, log 82). -/
def State.tileNeeded (s : State) (a : Ask) : Option Nat :=
  if meterScoped a.index then (s.meter? a.meter).map fun x => x.home
  else if perTile a.index && !heldByTile0 a.index && decide (a.sub ≠ 0) && decide (a.op ≠ 5) then some (a.sub - 1)
  else none

/-- The request needs a tile that is LOST, recovering or failed (R649, R651). -/
def State.tileAbsent (s : State) (a : Ask) : Bool := (s.tileNeeded a).any fun t => s.healthOf t != 0

/-- The time in ms to the end of tile recovery at the latest: its delay and its 400 ms, or 200 ms on a part of 8 tiles; 60,000,
the longest hint, for a tile that stays LOST (R596, R649 to R651). -/
def State.tileHint (s : State) (a : Ask) : Nat :=
  if (s.tileNeeded a).any fun t => s.healthOf t == 3 then 60000
  else s.obj 0x9020 7 + (if s.nTiles = 8 then 200 else 400)

/-- A halted unit serves the objects of the 0x1000 and 0x9000 ranges and 0x5040 (R626); ROM recovery those of its image
procedure (R619, R686). -/
def State.haltRefuses (s : State) (index : Nat) : Bool :=
  (decide (s.boot.phase = 10) && !(index / 4096 == 1) && !(index / 4096 == 9) && index != 0x5040) ||
    (decide (s.boot.phase = 11) && !([0xA000, 0xA001, 0xA010, 0xA011, 0xA020] : List Nat).contains index)

/-- In pilot light the part serves the objects of the 0x1000, 0x7000 and 0xB000 ranges and 0x5040 (R737). -/
def State.pilotRefuses (s : State) (index : Nat) : Bool :=
  decide (2 ≤ s.power.pilot) && !(index / 4096 == 1) && !(index / 4096 == 7) && !(index / 4096 == 11) && index != 0x5040

/-- The sub-indices of an object that a read of the whole returns, those that can be read, with their rows (R579). -/
def wholeRows (index : Nat) : List (Nat × ObjRow) :=
  ((List.range ((highestSub index).getD 0)).map (· + 1)).filterMap fun n => match findRow index n with
    | some w => if w.access == .wo then none else some (n, w)
    | none => none

/-- The least role a request needs: for a read of the whole, the highest that any of its sub-indices needs (R575). -/
def needRole (a : Ask) (reading : Bool) : Nat :=
  if a.op = 5 then ((wholeRows a.index).map fun e => e.2.readRole).foldl max 0
  else match findRow a.index a.sub with
    | some r => if reading then r.readRole else r.writeRole
    | none => 0

/-- The row by which a request is shed: that of its sub-index, of the first one for the whole or for sub-index 0 (R606). -/
def shedRow (a : Ask) : Option ObjRow := findRow a.index (if a.op = 5 ∨ a.sub = 0 then 1 else a.sub)

/-- Bytes of a DOMAIN that its object fixes (R600). -/
def domainLength (index sub : Nat) : Option Nat :=
  match index * 256 + sub with
  | 0x240001 => some 16384
  | 0x300302 => some 64
  | 0x380602 => some 128
  | 0x380805 => some 512
  | 0x3C0301 => some 131072
  | 0x481001 => some 262144
  | 0xA01001 => some 4096
  | _ => none

/-- Checks 8 and 9 of R602 for a WRITE: lengths that do not fit the type or the transport, then the range. A DOMAIN that fits
one WRITE is taken whole (R598, R600). -/
def State.checkValue (s : State) (x : Session) (a : Ask) (r : ObjRow) : Option Reply :=
  if segmentLimit x.transport < a.data.length then some (replyOf Status.tooLarge)
  else if (match r.ty with
      | .vstr n => decide (a.data.length < 2 ∨ a.data.length ≠ 2 + fieldAt a.data 0 2 ∨ n < fieldAt a.data 0 2)
      | .domain => (domainLength a.index a.sub).any (· != a.data.length)
      | t => decide (t.bytes ≠ some a.data.length)) then some (replyOf Status.typeMismatch)
  else if s.beyondPart a.index a.sub || !r.inRange (r.ty.parse a.data) then some (replyOf Status.outOfRange)
  else none

/-- Checks 1 to 9 of R602 in their order; none where they pass. DESIGN CHOICE (log 81): the REFUSED of meter number 0 (R12,
R580) stands where NO_METER stands, before checks 8 and 9, since R602 gives it no place of its own; the REFUSED of a halted
unit (R626), which serves nothing else, and the NOT_READY of pilot light (R737) stand at check 6. -/
def State.checkAsk (s : State) (x : Session) (a : Ask) : Option Reply :=
  let row := findRow a.index a.sub
  let reading : Bool := a.op == 1 || a.op == 3 || a.op == 5
  if a.op = 6 then (if s.shedBusy 0 then some (replyHint Status.busy s.busyHint) else none)
  else if (a.meter ≠ 0 && !meterScoped a.index) || decide (a.flags % 64 ≠ 0) ||
      (decide (a.offset ≠ 0) && decide (a.op ≠ 3 ∧ a.op ≠ 4)) then some (replyOf Status.malformed)
  else if (a.sub = 0 ∨ a.op = 5) ∧ (highestSub a.index).isNone then some (replyOf Status.noObject)
  else if a.sub ≠ 0 ∧ a.op ≠ 5 ∧ row.isNone then some (replyOf Status.noObject)
  else if s.roleRank x.role < needRole a reading then some (replyOf Status.denied)
  else if (match row with
      | some r => (r.access == (if reading then Access.wo else Access.ro))
      | none => !reading) then some (replyOf Status.access)
  else if s.shedBusy (shedClass x.role a (shedRow a)) then some (replyHint Status.busy s.busyHint)
  else if s.haltRefuses a.index then some (replyOf Status.refused)
  else if s.pilotRefuses a.index then some (replyHint Status.notReady 50)
  else if restoreScoped a.index && !s.boot.restored then
    some (replyHint Status.notReady (max 100 (Config.restoreEstimate s.elapsed)))
  else if s.tileAbsent a then some (replyHint Status.notReady (s.tileHint a))
  else if meterScoped a.index && decide (a.meter = 0) then some (replyOf Status.refused)
  else if meterScoped a.index && s.meterBars a.meter a.index a.sub reading a.data then
    some (replyOf Status.noMeter)
  else if a.op = 2 then
    (match row with
     | none => some (replyOf Status.access)
     | some r => s.checkValue x a r)
  else none

/-! ### A request from arrival to reply -/

/-- What an object's own rules answer: the reply, whether it is final, the state. -/
structure Done where
  reply : Reply
  final : Bool := true
  state : State

/-- Done with a status and an unchanged state. -/
def Done.refuse (s : State) (status : Nat) : Done := { reply := replyOf status, state := s }

/-- Done with OK. -/
def Done.ok (s : State) : Done := { reply := {}, state := s }

/-- The pause of an activation, from its step 2 to its step 8 (R679). -/
def State.inPause (s : State) : Bool := s.update.activation.any fun a => decide (a.step ≠ 0)

/-- The host interfaces are up: the part is ready, halted in step 5 or 6, or in ROM recovery (R614, R619, R623, R626). -/
def State.hostUp (s : State) : Bool :=
  decide (s.boot.phase = 9) || (decide (s.boot.phase = 10) && decide (5 ≤ s.boot.haltStep)) || decide (s.boot.phase = 11)

/-- The host interfaces answer: not in the pause of an activation (R682). -/
def State.hostOpen (s : State) : Bool := s.hostUp && !s.inPause

/-- An Ethernet port is enabled with an address on which UDP reaches it: its own, or the pair's service address while the unit
holds the baton (R538, R582, R609). -/
def State.portAddressed (s : State) (port : Nat) : Bool :=
  let given (b : Octets) : Bool := b.any (· != 0)
  decide (s.obj 0x1010 (port + 1) ≠ 0) &&
    (given (s.objOct 0x1012 (port + 1)) || given (s.objOct 0x1014 (port + 1)) || (s.pair.baton && given (s.objOct 0x8000 4)))

/-- A transport answers: 0 and 1 the Ethernet ports with their links, 2 the PCIe mailbox while HostControl [0] is 1 (R586); only the pilot port in pilot light,
Ethernet 0 and the mailbox in ROM recovery, whose addresses the spec does not state (R582, R619, R708, R737). -/
def State.portOpen (s : State) (transport : Nat) : Bool :=
  s.hostOpen && (decide (s.boot.phase ≠ 11) || transport != 1) && (transport != 2 || s.dict.mailboxEnable) &&
    (decide (2 ≤ transport) || decide (s.boot.phase = 11) || s.portAddressed transport) &&
    (decide (s.power.pilot < 2) || transport == s.obj 0xB001 2) &&
    !(s.pins.linkDown.any fun n => n % 2 == transport && decide (transport < 2))

/-- The transport of a session answers. -/
def State.sessionOpen (s : State) (id : Nat) : Bool := match s.session? id with
  | some x => s.portOpen x.transport
  | none => s.hostOpen

/-- A repeat of one of the session's last 64 requests whose reply is kept (R597). -/
def Session.repeatOf (x : Session) (now tag : Nat) : Option SessionRequest :=
  x.requests.find? fun q => q.tag == tag && (!q.final || decide (now ≤ q.finalAt + 10000000000))

/-- The answer to a repeat: its stored reply, PENDING, or MALFORMED with Detail 1 (R597). -/
def State.answerRepeat (s : State) (x : Session) (a : Ask) (tag : Nat) (q : SessionRequest) : State :=
  let s := s.bump 0x1024 7
  if q.body = a.body tag then
    s.sendReply x.id a tag (if q.final then q.reply else replyHint Status.pending s.busyHint)
  else (s.offerLimited 0xE806 0 0 [x.id, tag]).sendReply x.id a tag { status := Status.malformed, detail := 1 }

/-- A new request served: the checks of R602, the object's own rules, the reply kept and sent in one step (R597). A
request answered BUSY is not admitted, so its tag stays new (R601). -/
def State.serveAsk (s : State) (x : Session) (a : Ask) (tag : Nat) (act : State → Session → Done) : State :=
  let d : Done := match s.checkAsk x a with
    | some p => { reply := p, state := s }
    | none => act s x
  let q : SessionRequest :=
    { tag := tag, body := a.body tag, final := d.final, reply := d.reply, at_ := s.elapsed, finalAt := s.elapsed
      command := shedClass x.role a (shedRow a) == 0, answered := d.final }
  let s1 := if d.reply.status = Status.busy ∨ d.reply.status = Status.notReady then d.state else d.state.keepReply x.id q
  let s2 := s1.setShed
  if d.final then s2.sendReply x.id a tag d.reply else s2

/-- A datagram or mailbox message longer than its transport takes: 1,232 B and 4,208 B (R583, R587). -/
def State.tooLong (s : State) (r : Req) (a : Ask) : Bool :=
  match s.session? r.session with
  | some x => decide ((if x.transport = 2 then 4208 else 1232) < 56 + a.data.length)
  | none => false

/-- A REQUEST of a session: authenticated, then answered as a repeat or served (R589, R595 to R602). -/
def udxRequest (s : State) (r : Req) (a : Ask) (act : State → Session → Done) : State :=
  if s.tooLong r a then (s.heardFrom r.session).dropLong r.session
  else if s.sessionOpen r.session then
    let m := (s.heardFrom r.session).admitMessage r 5 (a.body r.tag)
    match m.session with
    | none => m.state
    | some x =>
      let s1 := (m.state.bump 0x1024 1).count 0 26 3
      match x.repeatOf s.elapsed r.tag with
      | some q => s1.answerRepeat x a r.tag q
      | none => s1.serveAsk x a r.tag act
  else s

/-- A unit of a pair that does not hold the baton refuses writes but those of the pair and of a diagnosis (R547), and those of
the flip-masks and the ECC test area, which R192 lets a standby arm (DEDUCED, log 66). -/
def State.standbyRefuses (s : State) (index sub : Nat) : Bool :=
  decide (s.pair.state ≠ 0) && !s.pair.baton && !(decide (0x8000 ≤ index ∧ index ≤ 0x80FF)) &&
    !(decide (0x6820 ≤ index ∧ index ≤ 0x6822)) &&
    !(decide (index = 0x2018 ∧ sub = 1))

/-- Host writes whose effect a standby must hold (R549): a meter's words, commands and prepayment, calendar activations,
period closes, snapshots and key generations. Readouts carry their sequence and commits their inputs instead. -/
def mirroredWrite (index sub : Nat) : Bool :=
  (decide (0xC000 ≤ index ∧ index ≤ 0xC0FF) && index != 0xC051) || (index == 0x4120 && (sub == 6 || sub == 2)) || index == 0x4130 ||
    index == 0x4802 || index == 0x5010

/-- A session with values of parameters written: (index, sub, value) under a meter. -/
def Session.withValues (x : Session) (meter : Nat) (vals : List (Nat × Nat × Val)) : Session :=
  { x with values := vals.foldl (fun t v => Tab.set t (meter * 16777216 + objKey v.1 v.2.1) v.2.2) x.values }

/-- Session values as numbers of a MGMT record: index, sub-index, then 0 and the number as 64 bits, or 1, the length and the
octets (log 35). -/
def valueNumbers (vals : List (Nat × Nat × Val)) : List Nat := vals.flatMap fun v => match v.2.2 with
  | .num i => [v.1, v.2.1, 0, ofSigned 64 i]
  | .oct b => [v.1, v.2.1, 1, b.length] ++ b.map (·.toNat)

/-- The values that the numbers of a record spell. -/
def numberValues : Nat → List Nat → List (Nat × Nat × Val)
  | n + 1, i :: s :: 0 :: v :: r => (i, s, .num (toSigned 64 v)) :: numberValues n r
  | n + 1, i :: s :: _ :: len :: r => (i, s, .oct ((r.take len).map (BitVec.ofNat 8))) :: numberValues n (r.drop len)
  | _, _ => []

/-- A host write of the active put off to its apply instant, with its MGMT record sent (R548). -/
def State.deferWrite (s : State) (x : Session) (tag : Nat) (a : Ask) (vals : List (Nat × Nat × Val)) : State :=
  let at_ := s.applyInstant
  let s1 := s.mirrorSend 7 (mgmtBody at_ 3 ([a.index, a.sub, a.meter] ++ valueNumbers vals) a.data)
  { s1 with pair := { s1.pair with deferred := s1.pair.deferred ++
      [{ at_ := at_, seq := s1.pair.sendSeq, session := x, tag := tag, index := a.index, sub := a.sub, meter := a.meter
         data := a.data }] } }

/-- A host write by its object's own rules: refused on a standby (R547); on an active with a standby, one whose effect the
standby must hold waits for its apply instant once those rules take it (R548). -/
def serveWrite (s : State) (x : Session) (tag : Nat) (a : Ask) (vals : List (Nat × Nat × Val)) (act : State → Session → Done) :
    Done :=
  if s.standbyRefuses a.index a.sub then Done.refuse s Status.refused
  else
    let d := act s x
    if s.mirrors && mirroredWrite a.index a.sub && decide (d.reply.status ≤ Status.pending) then
      { reply := replyOf Status.pending, final := false, state := s.deferWrite (x.withValues a.meter vals) tag a vals }
    else d

/-- A host write after the values of its parameters were written (R578). -/
def udxAct (s : State) (r : Req) (index sub meter : Nat) (data : Octets) (vals : List (Nat × Nat × Val))
    (act : State → Session → Done) : State :=
  udxRequest s r (writeAsk index sub meter data) fun s x => serveWrite s x r.tag (writeAsk index sub meter data) vals act

/-- A host write served by the object's own rules. -/
def udxWrite (s : State) (r : Req) (index sub meter : Nat) (data : Octets) (act : State → Session → Done) : State :=
  udxAct s r index sub meter data [] act

/-! ### Session values of action records (R578) -/

/-- The key of a session value: the meter in the high part. -/
def valueKey (meter index sub : Nat) : Nat := meter * 16777216 + objKey index sub

/-- A session's value of a parameter or result. -/
def Session.val (x : Session) (meter index sub : Nat) : Val :=
  match Tab.find? x.values (valueKey meter index sub) with
  | some v => v
  | none => defaultVal index sub

/-- A session's number. -/
def Session.num (x : Session) (meter index sub : Nat) : Nat :=
  match x.val meter index sub with
  | .num i => i.toNat
  | .oct _ => 0

/-- A session's signed number. -/
def Session.numI (x : Session) (meter index sub : Nat) : Int :=
  match x.val meter index sub with
  | .num i => i
  | .oct _ => 0

/-- A session's octets. -/
def Session.oct (x : Session) (meter index sub : Nat) : Octets :=
  match x.val meter index sub with
  | .num _ => []
  | .oct b => b

/-- A session value stored. -/
def State.setSessionVal (s : State) (id meter index sub : Nat) (v : Val) : State :=
  match s.session? id with
  | none => s
  | some x => s.setSession { x with values := Tab.set x.values (valueKey meter index sub) v }

end Sys2Proof.Machine
end

