-- ==== Sys2Proof/Machine/Memory.lean ====
section
/-! DEFINITION. Scratchpad, DRAM and error correction (05 R163 to R197). -/

namespace Sys2Proof.Machine

/-! ### The ECC test area as memory (R192) -/

/-- What an unlisted byte of a test area reads as: the clear and the fill of bring-up write zeros (R188, R613). -/
def memDefault : BitVec 8 := 0

/-- A byte of memory. -/
def memRead (m : List Host.Cell) (a : Nat) : BitVec 8 :=
  match m with
  | [] => memDefault
  | (b, v) :: r => if b = a then v else memRead r a

/-- A byte written; a byte that equals the default is not listed. -/
def memWrite (m : List Host.Cell) (a : Nat) (v : BitVec 8) : List Host.Cell :=
  match m with
  | [] => if v = memDefault then [] else [(a, v)]
  | (b, w) :: r =>
    if b < a then (b, w) :: memWrite r a v
    else if b = a then (if v = memDefault then r else (a, v) :: r)
    else if v = memDefault then (b, w) :: r else (a, v) :: (b, w) :: r

/-- Bytes written from an address on. -/
def memWrites (m : List Host.Cell) (a : Nat) : Octets → List Host.Cell
  | [] => m
  | v :: r => memWrites (memWrite m a v) (a + 1) r

/-- Bytes read from an address on. -/
def memReads (m : List Host.Cell) (a n : Nat) : Octets := (List.range n).map fun i => memRead m (a + i)

/-- Every listed address is above `lo` and rising, and no listed byte is the default. -/
def memWfFrom (lo : Nat) : List Host.Cell → Bool
  | [] => true
  | (a, v) :: r => decide (lo ≤ a) && decide (v ≠ memDefault) && memWfFrom (a + 1) r

/-- The canonical form of memory. -/
def memWf (m : List Host.Cell) : Bool := memWfFrom 0 m

/-- The byte address of a test-area word: 64 words of 32 B of each class and tile (R192). -/
def testAddress (tile cls index : Nat) : Nat := ((tile * 2 + cls) * 64 + index) * 32

/-! ### Reports (R181, R183, R197) -/

/-- The last uncorrectable error of a tile (0x6814; the packing is not stated, log 8). -/
def State.setLastEcc (s : State) (tile cls address : Nat) : State :=
  s.setVal 0x6814 (tile + 1) (.oct ((List.range 16).map fun i =>
    Config.eventDataByte 0x6814 [cls, address, (Tab.getD s.mem.errors (errorKey cls tile address) 0), s.tbSeconds] i))

/-- A corrected scratchpad error reported (R181). -/
def State.scratchCorrected (s : State) (tile address : Nat) : State :=
  (s.count tile 8 4).offerLimited 0xE281 tile 0 [tile, address]

/-- An uncorrectable scratchpad or tag word reported (R180, R197). -/
def State.scratchUncorrectable (s : State) (tile cls address : Nat) : State :=
  let s1 := ((s.count tile 8 5).setLastEcc tile cls address).offer 0xE280 tile
    [tile, zoneOf address, address]
  if cls < 3 then s1.failCheck 2 else s1

/-- A corrected DRAM code word reported, and written back in the next idle cycle (R181). -/
def State.dramCorrected (s : State) (tile address : Nat) : State :=
  (s.count tile 11 3).offerLimited 0xE283 tile 0 [tile, address]

/-- An uncorrectable DRAM code word reported (R183). -/
def State.dramUncorrectable (s : State) (tile cls address : Nat) : State :=
  let s1 := ((s.count tile 11 4).setLastEcc tile cls address).offer 0xE282 tile [tile, address]
  if cls < 3 then s1.failCheck 2 else s1

/-! ### Bank power (R174 to R177) -/

/-- A bank woken from off is cleared by 0x6804 or the plan; banks 30 and 31 always (R177). -/
def State.clearsOnWake (s : State) (tile b : Nat) (plan : Bool) : Bool :=
  decide (30 ≤ b) || plan || bitAt (s.obj 0x6804 (tile + 1)) b

/-- A word of the hot record. -/
def Meter.word (x : Meter) (w : Nat) : Nat := (x.hot.getD w 0).toNat

/-- The hot record as 16 words. -/
def Meter.words (x : Meter) : List Word := (List.range 16).map fun w => x.hot.getD w 0

/-- The words of a meter's hot record that lie in a bank of its home tile. -/
def Meter.wordsIn (x : Meter) (b : Nat) : List Nat := (List.range 16).filter fun w => (bankRow (hotAddress x.record w)).1 == b

/-- A word replaced where its address lies in a bank. -/
def inBank (b a : Nat) (f : Nat → Word) (w : Word) : Word := if (bankRow a).1 = b then f a else w

/-- The hot record of a meter of a tile, the words of a bank replaced. -/
def Meter.mapBank (x : Meter) (tile b : Nat) (f : Nat → Word) : Meter :=
  if x.home = tile then
    { x with hot := (x.wordsIn b).foldl (fun h w => modifyAt h w fun _ => f (hotAddress x.record w)) x.words }
  else x

/-- The words of a queue, those of a bank replaced. Their tags lie outside the scratchpad and stay (R142). -/
def State.mapQueue (s : State) (tile b : Nat) (f : Nat → Word) (k : Nat) (x : Queue) : Queue :=
  if k / 256 = tile then
    { x with words := x.words.zipIdx.map fun e =>
        (inBank b (s.queueWord tile (k % 256) (x.freePos + BitVec.ofNat 32 e.2)) f e.1.1, e.1.2) }
  else x

/-- The pacer record of a pipeline under its key, its words in a bank replaced. -/
def mapPacer (tile b : Nat) (f : Nat → Word) (k : Nat) (x : Pipeline) : Pipeline :=
  if k / 8 = tile then { x with record := x.record.zipIdx.map fun e => inBank b (pacerAddress (k % 8) e.2) f e.1 } else x

/-- The words of a feeder sum under its key, those of a bank replaced. -/
def mapSum (tile b : Nat) (f : Nat → Word) (k : Nat) (x : FeederSum) : FeederSum :=
  if k / 32768 = tile then
    { x with running := inBank b (sumAddress (k / 4096 % 8) (k % 4096) 0) f x.running
             snapshot := inBank b (sumAddress (k / 4096 % 8) (k % 4096) 1) f x.snapshot }
  else x

/-- The test-area words of a tile in a bank replaced. -/
def mapTest (tile b : Nat) (f : Nat → Word) (m : List Host.Cell) : List Host.Cell :=
  ((List.range 64).filter fun i => (bankRow (testWord i)).1 == b).foldl
    (fun m i => memWrites m (testAddress tile 0 i) (be 8 (f (testWord i)).toNat)) m

/-- The stored words of a tile in a bank replaced by a function of their address: hot records, queue words, feeder sums and the
test area. The key slots of a bank of zone S are gone with it (R443). -/
def State.mapBank (s : State) (tile b : Nat) (f : Nat → Word) : State :=
  { s with
    meters := s.meters.map fun x => x.mapBank tile b f
    queues := { s.queues with queues := s.queues.queues.map fun e => (e.1, s.mapQueue tile b f e.1 e.2) }
    loss := { s.loss with sums := s.loss.sums.map fun e => (e.1, mapSum tile b f e.1 e.2) }
    mem := { s.mem with test := mapTest tile b f s.mem.test }
    fabric := { s.fabric with pipes := s.fabric.pipes.map fun e => (e.1, mapPacer tile b f e.1 e.2) }
    keys := { s.keys with slots := if 30 ≤ b then s.keys.slots.filter fun e => slotTile e.1 != tile else s.keys.slots } }

/-- The contents of a bank that goes off are lost: unpredictable until written or cleared (R174, R177, log 6). -/
def State.loseBank (s : State) (tile b : Nat) : State :=
  (s.mapBank tile b fun a => Config.freeWord (s.freeCount + a)).drew 6291456

/-- An error pattern's key names a scratchpad word of a bank of a tile; a queue tag lies outside the scratchpad (R142). -/
def keyInBank (tile b k : Nat) : Bool :=
  let a := k % 1099511627776
  k / 1099511627776 % 256 == tile &&
    (match k / 281474976710656 with
     | 0 => (bankRow a).1 == b
     | 3 => (bankRow (testWord a)).1 == b
     | _ => false)

/-- The clear of a bank: zero words with valid check bits (R175). -/
def State.clearBank (s : State) (tile b : Nat) : State :=
  let s1 := s.mapBank tile b fun _ => 0
  { s1 with mem := { s1.mem with errors := s1.mem.errors.filter fun e => !keyInBank tile b e.1 } }

/-- A change of a bank's power state at a heat boundary (R175): to 1 or 2 at once, to 0 through waking. -/
def State.changeBank (s : State) (tile b new : Nat) (plan : Bool) : State :=
  let x := s.bank tile b
  if new = 0 then
    if x.power = 0 ∨ x.power = 3 then s
    else
      let c := decide (x.power = 2) && s.clearsOnWake tile b plan
      s.setBank tile b { x with power := 3, wakeHeat := s.heat.count, clear := c, lost := x.lost && !c }
  else if new = 2 then (s.setBank tile b { power := 2, lost := true }).loseBank tile b
  else s.setBank tile b { x with power := new }

/-- Heat boundaries a wake takes (R175). -/
def Bank.wakeHeats (x : Bank) : Nat := if x.clear then 33 else 1

/-- A bank that wakes is on at its boundary, its words zero where it was cleared (R175). -/
def State.bankOn (s : State) (tile b : Nat) : State :=
  let x := s.bank tile b
  if x.power = 3 ∧ x.wakeHeat + x.wakeHeats ≤ s.heat.count then
    let s1 := s.setBank tile b { x with power := 0, wakeHeat := 0, clear := false }
    if x.clear then s1.clearBank tile b else s1
  else s

/-- BANK_WAKE_DONE, at a heat boundary. -/
def execBankWakeDone (tile bank : Nat) (s : State) : Result := okIf s.onBoundary s (s.bankOn tile bank)

/-- 0x6803 BankPowerState of a tile (R196). -/
def State.bankPowerWord (s : State) (tile : Nat) : Nat :=
  (List.range 32).foldl (fun a b => a + (s.bank tile b).power * 4 ^ b) 0

/-! ### The wipe of zone S (R178, R179) -/

/-- A wipe of zone S starts on every tile: from now it reads zero and writes are discarded (R178). The key slots lie in
zone S (R443). Cause 0 tamper, 1 life-cycle change. -/
def State.startWipe (s : State) (cause : Nat) : State :=
  { s with
    mem := { s.mem with wiping := (List.range s.nTiles).map fun t => (t, (cause, s.elapsed)) }
    keys := { s.keys with slots := [] } }

/-- The wipe of a tile is complete: its words are clean and the gate lifts (R179). -/
def execSecureWipeDone (tile : Nat) (s : State) : Result :=
  match Tab.find? s.mem.wiping tile with
  | none => ok s
  | some (cause, start) =>
    ok (({ s with mem := { s.mem with
        wiping := Tab.erase s.mem.wiping tile
        errors := s.mem.errors.filter fun e => !(e.1 / 1099511627776 == tile && zoneOf (e.1 % 1099511627776) == 5) } } : State).offer 0xE286 tile
      [cause, (s.elapsed - start) / 1000])

/-- The gate of zone S holds on a tile: reads return zero words and writes are discarded (R178). -/
def State.gated (s : State) (tile : Nat) : Bool := Tab.has s.mem.wiping tile

/-- The eight words of a key slot written on a tile (R191, R443). -/
def State.keyWritten (s : State) (tile slot : Nat) : State := (List.range 8).foldl (fun s w => s.wordWritten 0 tile (keyWord slot w)) s

/-- A key slot written by the key-load path: on its tile, and a part slot on every other tile too, unless the gate of its tile's zone S
discards the write or its bank is not on (R169, R176, R178, R443). -/
def State.setSlot (s : State) (k : Nat) (x : KeySlot) : State :=
  let t := slotTile k
  let n := if k < 768 then k else k % 1024
  if s.gated t then s
  else
    let a := s.accessAll t secureAgent ((List.range 8).map (keyWord n))
    if a.1 then
      let s1 := if k < 768 then a.2.eachTile fun s i => s.keyWritten i n else a.2.keyWritten t n
      { s1 with keys := { s1.keys with slots := Tab.set s1.keys.slots k x } }
    else a.2

/-! ### DRAM code words (R182, R183, R190) -/

/-- Code words of a tile's usable DRAM (R182). -/
def State.dramWords (s : State) : Nat := s.fit.dramManaged * 1073741824 / 256 * 7

/-- The part keeps a valid map: a CK7-8 (R189). -/
def State.hasMap (s : State) : Bool := s.fit.part == .ck78e

/-- The DRAM address of the map code word that covers a code word: the map lies at the top of usable DRAM, one bit a code word
(R189, R496). -/
def State.mapAddress (s : State) (a : Nat) : Nat := 32 * s.dramWords - s.dramWords / 8 + a / 32 / 256 * 32

/-- The stored pattern of a DRAM code word, decoded. -/
def State.dramCode (s : State) (tile a : Nat) : Nat := eccOutcome 2 s.freeCount (Tab.getD s.mem.errors (errorKey 2 tile a) 0)

/-- The valid bit of a code word; an uncorrectable map word makes all it covers count as valid (R190). -/
def State.validBit (s : State) (tile a : Nat) : Bool :=
  !s.hasMap || (Tab.getD s.mem.valid tile []).contains (a / 32) || s.dramCode tile (s.mapAddress a) == 2

/-- The outcome of reading a DRAM code word: clean where its valid bit is 0 (R190). -/
def State.dramAt (s : State) (tile a : Nat) : Nat := if s.validBit tile a then s.dramCode tile a else 0

/-- A DRAM code word goes to its place: an armed mask whose target it is inverts bits of it and is consumed (R191). -/
def State.dramCoded (s : State) (tile address : Nat) : State :=
  match s.mem.dramFlip with
  | some f =>
    if f.tile = tile ∧ f.target = 1 ∧ f.address = address then
      ((({ s with mem := { s.mem with dramFlip := none }.setError (errorKey 2 tile address) (ofBe f.bits) } : State).setObj
        0x6821 4 0).offer 0xE288 tile [1, tile, address])
    else { s with mem := s.mem.setError (errorKey 2 tile address) 0 }
  | none => { s with mem := s.mem.setError (errorKey 2 tile address) 0 }

/-- The map code word of a code word is read: a corrected one is written back, an uncorrectable one recorded (R181, R190). -/
def State.mapMet (s : State) (tile a : Nat) : State :=
  let m := s.mapAddress a
  if !s.hasMap then s
  else if s.dramCode tile m = 2 then ((s.drew 1).dramUncorrectable tile 2 m).offer 0xE28A tile [tile, m]
  else if s.dramCode tile m = 1 then
    ({ s with mem := s.mem.setError (errorKey 2 tile m) 0 } : State).dramCorrected tile m
  else s

/-- The first write to a code word sets its valid bit, in a map code word that is itself written (R190, R191). -/
def State.setValid (s : State) (tile a : Nat) : State :=
  if s.validBit tile a then s
  else
    ({ s with mem := { s.mem with valid := Tab.modify s.mem.valid tile [] fun l => insertKey id (a / 32) l } } : State).dramCoded
      tile (s.mapAddress a)

/-- A DRAM code word written (R190, R191). -/
def State.dramStored (s : State) (tile address : Nat) : State := ((s.mapMet tile address).setValid tile address).dramCoded tile address

/-- A DRAM code word read: a corrected one is written back, an uncorrectable one is counted and recorded (R181, R183). The result
tells whether it reads. -/
def State.dramWord (s : State) (tile w : Nat) : Bool × State :=
  let t := s.mapMet tile w
  if t.dramAt tile w = 2 then (false, (t.drew 1).dramUncorrectable tile 2 w)
  else if t.dramAt tile w = 1 then
    (true, ({ t with mem := t.mem.setError (errorKey 2 tile w) 0 } : State).dramCorrected tile w)
  else (true, t)

/-- A management core reads the code words of a run of DRAM bytes; the read of one that is uncorrectable receives a bus error
(R181, R183). The result tells whether every word reads. -/
def State.dramLoad (s : State) (tile a n : Nat) : Bool × State :=
  (List.range ((a % 32 + n + 31) / 32)).foldl (fun r k =>
    let x := r.2.dramWord tile ((a / 32 + k) * 32)
    (r.1 && x.1, x.2)) (true, s)

/-- A DMA transfer brings words of a DRAM code word to scratchpad: an uncorrectable one leaves the scratchpad poison pattern in
them (R180, R183). -/
def State.dramToScratch (s : State) (tile a : Nat) (ws : List Nat) : State :=
  let r := s.dramLoad tile a 1
  ws.foldl (fun s w =>
    let t := s.wordWritten 0 tile w
    if r.1 then t else { t with mem := t.mem.setError (errorKey 0 tile w) poison }) r.2

/-! ### The merge buffer (R184 to R187) -/

/-- The merge entries of a tile. -/
def State.mergeOf (s : State) (tile : Nat) : List MergeEntry := Tab.getD s.mem.merge tile []

/-- The merge entries of a tile stored. -/
def State.setMerge (s : State) (tile : Nat) (l : List MergeEntry) : State :=
  { s with mem := { s.mem with merge := Tab.set s.mem.merge tile l } }

/-- A code word overlaid with the bytes of its entry (R185, R186). The records that State holds of DRAM data are those a read
returns: they hold the entries' bytes already. -/
def MergeEntry.overlay (e : MergeEntry) (stored : Octets) : Octets :=
  (List.range 32).map fun i => if bitAt e.mask i then e.bytes.getD i 0 else stored.getD i 0

/-- A DRAM read of a code word whose stored bytes are given (R186). -/
def State.dramRead (s : State) (tile address : Nat) (stored : Octets) : Octets :=
  match (s.mergeOf tile).find? fun e => e.address == address with
  | some e => e.overlay stored
  | none => slice stored 0 32

/-- The cold registers of a code word that a poisoned read-modify-write could not read become zero (R187, R362, R496). -/
def State.zeroUnread (s : State) (tile : Nat) (e : MergeEntry) : State :=
  if e.address < 134217728 then
    { s with meters := s.meters.map fun x =>
        if x.home = tile ∧ x.record = e.address / 512 then
          { x with cold := (List.range 4).foldl (fun c r =>
              if field e.mask (8 * r + 7) (8 * r) = 0 then modifyAt c (e.address % 512 / 8 + r) fun _ => 0 else c) x.cold }
        else x }
  else s

/-- A merge entry written to DRAM: whole, or by read-modify-write, which poisons a word it cannot read; on a part with the valid
map, a word not yet valid is merged with zero bytes without a read (R185, R187, R190). -/
def State.writeMerge (s : State) (tile : Nat) (e : MergeEntry) : State :=
  let s1 := (s.mapMet tile e.address).setMerge tile ((s.mergeOf tile).filter fun x => x.address != e.address)
  let s0 := if s.hasMap && e.mask != 4294967295 then s1.count tile 11 7 else s1
  if e.mask = 4294967295 ∨ s.validBit tile e.address = false then (s0.dramStored tile e.address).count tile 11 1
  else
    let s1 := ((s0.count tile 11 2).count tile 11 0).count tile 11 1
    let o := s.dramAt tile e.address
    if o = 2 then
      let s2 := (s1.setLastEcc tile 2 e.address).dramStored tile e.address
      (((({ s2 with mem := s2.mem.setError (errorKey 2 tile e.address) poison } : State).zeroUnread tile e).count tile 11
        4).offer 0xE284 tile [tile, e.address]).failCheck 2
    else if o = 1 then (s1.dramCorrected tile e.address).dramStored tile e.address
    else s1.dramStored tile e.address

/-- The bytes of a narrow write put in an entry from an offset on (R184). -/
def MergeEntry.put (e : MergeEntry) (off : Nat) (data : Octets) : MergeEntry :=
  { e with mask := (List.range data.length).foldl (fun m i => m ||| 2 ^ (off + i)) e.mask
           bytes := (List.range 32).map fun i => if off ≤ i ∧ i < off + data.length then data.getD (i - off) 0 else e.bytes.getD i 0 }

/-- A narrow write enters the entry of its code word, or a new one; a ninth code word sends the oldest (R184, R185). -/
def State.mergeWrite (s : State) (tile address off : Nat) (data : Octets) : State :=
  let l := s.mergeOf tile
  match l.find? fun e => e.address == address with
  | some e =>
    let e' := e.put off data
    let s1 := (s.setMerge tile (l.map fun x => if x.address = address then e' else x)).count tile 11 8
    if e'.mask = 4294967295 then s1.writeMerge tile e' else s1
  | none =>
    let s1 := match l with
      | e :: _ => if l.length < 8 then s else s.writeMerge tile e
      | [] => s
    s1.setMerge tile (s1.mergeOf tile ++ [({ address := address, mask := 0, at_ := s.elapsed } : MergeEntry).put off data])

/-- An aligned write of a whole code word discards its entry (R186). -/
def State.dramWhole (s : State) (tile address : Nat) : State :=
  ((s.setMerge tile ((s.mergeOf tile).filter fun x => x.address != address)).dramStored tile address).count tile 11 1

/-- Bytes written to DRAM from an address on, code word by code word: whole ones directly, the others through the merge buffer
(R184, R186). -/
def State.dramWrite (s : State) (tile a : Nat) (data : Octets) : State :=
  (List.range ((a % 32 + data.length + 31) / 32)).foldl (fun s k =>
    let base := (a / 32 + k) * 32
    let lo := max a base
    let n := min (a + data.length) (base + 32) - lo
    if n = 32 then s.dramWhole tile base else s.mergeWrite tile base (lo - base) (slice data (lo - a) n)) s

/-- Every entry of a tile written: the fence of a fold or transfer, or a power-fail warning (R185). -/
def State.mergeFence (s : State) (tile : Nat) : State := (s.mergeOf tile).foldl (fun s e => s.writeMerge tile e) s

/-! ### Circular windows (R172, R173) -/

/-- Window 0 of a tile is the interval ring: a DRAM window with Wrap = 1 over its region (R173, R481, R496). No command enables
another (log 52). -/
def State.window (s : State) (tile w : Nat) : Window :=
  { enabled := w == 0, dram := w == 0, wrap := w == 0, base := if w = 0 then 744 * 1048576 else 0
    length := if w = 0 then 2304 * 1048576 else 0, wrapCount := (Tab.getD s.mem.windows (tile * 16 + w) {}).wrapCount }

/-- window_address(w, x) of R173: the address, and the window with its crossing counted. None is a fault: 0 WINDOW_OFF, 1
WINDOW_RANGE. -/
def Window.access (w : Window) (x size : Nat) : Except Nat (Nat × Window) :=
  if !w.enabled then .error 0
  else if !w.wrap && decide (w.length < x + size) then .error 1
  else .ok (w.base + x % w.length,
    if w.length < x % w.length + size then { w with wrapCount := min 4294967295 (w.wrapCount + 1) } else w)

/-- Bytes written through a window; one that ends past the buffer's end is split at the wrap point (R173). -/
def State.windowWrite (s : State) (tile w x : Nat) (data : Octets) : State :=
  match (s.window tile w).access x data.length with
  | .error _ => s
  | .ok (a, v) =>
    let n := min data.length (v.base + v.length - a)
    let s0 : State := { s with mem := { s.mem with windows := Tab.set s.mem.windows (tile * 16 + w) v } }
    let s1 := if v.length < x % v.length + data.length then s0.count tile 8 9 else s0
    (s1.dramWrite tile a (data.take n)).dramWrite tile v.base (data.drop n)

/-- MERGE_ENTRY_TIMEOUT: an entry held 2 µs is written (R185). -/
def execMergeEntryTimeout (tile address : Nat) (s : State) : Result :=
  match (s.mergeOf tile).find? fun e => e.address == address with
  | some e => okIf (s.due e.at_ 2000 && !s.dramHeld tile) s (s.writeMerge tile e)
  | none => ok s

/-! ### Flip-masks and the test area (R191, R192) -/

/-- Arming away from the test area needs a standby or SERVICE, and in zone S SERVICE (R192). -/
def State.mayArm (s : State) (f : FlipMask) (dram : Bool) : Bool :=
  if f.target = 0 then true
  else if !dram && decide (zoneOf f.address = 5) then decide (s.boot.lifeCycle = 3)
  else s.isStandby || decide (s.boot.lifeCycle = 3)

/-- The mask that 0x6820 describes. -/
def State.scratchMask (s : State) : FlipMask :=
  { tile := s.obj 0x6820 1, target := s.obj 0x6820 2, address := s.obj 0x6820 3, bits := s.objOct 0x6820 4 }

/-- The mask that 0x6821 describes; bit 1 of the armed field selects the test area. -/
def State.dramMask (s : State) (armed : Nat) : FlipMask :=
  { tile := s.obj 0x6821 1, target := if bitAt armed 1 then 0 else 1, address := s.obj 0x6821 2, bits := s.objOct 0x6821 3 }

/-- A mask names a word that exists. -/
def State.maskNames (s : State) (f : FlipMask) (dram : Bool) : Bool :=
  decide (f.tile < s.nTiles) &&
    (if f.target = 0 then decide (f.address < 64)
     else if dram then decide (f.address % 32 = 0)
     else decide (f.address < 0x600000 ∧ f.target < 3))

/-- Arming or disarming a flip-mask by its armed field (R191, R192). Class 0 scratchpad, 1 DRAM. Only 0 disarms: any other
value arms, 0x6821.04 = 2 too (DESIGN CHOICE, log 67). -/
def armMask (cls value : Nat) (s : State) (_ : Session) : Done :=
  let dram := cls == 1
  let f := if dram then s.dramMask value else s.scratchMask
  if value = 0 then
    Done.ok (if dram then ({ s with mem := { s.mem with dramFlip := none } } : State).setObj 0x6821 4 0
             else ({ s with mem := { s.mem with scratchFlip := none } } : State).setObj 0x6820 5 0)
  else if !s.maskNames f dram then Done.refuse s Status.outOfRange
  else if !s.mayArm f dram then Done.refuse s Status.refused
  else
    Done.ok (if dram then ({ s with mem := { s.mem with dramFlip := some f } } : State).setObj 0x6821 4 value
             else ({ s with mem := { s.mem with scratchFlip := some f } } : State).setObj 0x6820 5 value)

/-- The armed field of a class. -/
def armedField (cls : Nat) : Nat × Nat := if cls = 1 then (0x6821, 4) else (0x6820, 5)

/-- FLIP_MASK_ARM. -/
def execFlipMaskArm (r : Req) (cls value : Nat) (s : State) : Result :=
  ok (udxWrite s r (armedField cls).1 (armedField cls).2 0 (be 1 value) (armMask cls (value % 256)))

/-- FLIP_MASK_DISARM. -/
def execFlipMaskDisarm (r : Req) (cls : Nat) (s : State) : Result :=
  ok (udxWrite s r (armedField cls).1 (armedField cls).2 0 (be 1 0) (armMask cls 0))

/-- The number of data bytes of a test-area word: 8 of scratchpad, 32 of DRAM (R192). -/
def testBytes (cls : Nat) : Nat := if cls = 0 then 8 else 32

/-- A word of a test area is written: a mask armed for it inverts code bits and is consumed (R191, R192). -/
def State.testWrite (s : State) (tile cls index : Nat) (data : Octets) : State :=
  let m := memWrites s.mem.test (testAddress tile cls index) (slice data 0 (testBytes cls))
  let armed := if cls = 0 then s.mem.scratchFlip else s.mem.dramFlip
  let hit : Option FlipMask := match armed with
    | some f => if f.tile = tile ∧ f.target = 0 ∧ f.address = index then some f else none
    | none => none
  match hit with
  | some f =>
    let m1 : MemState := { s.mem with test := m, scratchFlip := if cls = 0 then none else s.mem.scratchFlip
                                      dramFlip := if cls = 0 then s.mem.dramFlip else none }
    ((({ s with mem := m1.setError (errorKey (3 + cls) tile index) (ofBe f.bits) } : State).setObj (armedField cls).1
      (armedField cls).2 0).offer 0xE288 tile [cls, tile, index])
  | none => { s with mem := ({ s.mem with test := m } : MemState).setError (errorKey (3 + cls) tile index) 0 }

/-- A test-area word written by the op field of 0x6822; one of scratchpad is known from then on (R177, R192). -/
def State.testStore (s : State) (tile cls index : Nat) (data : Octets) : State :=
  let t := s.testWrite tile cls index data
  if cls = 0 then { t with mem := t.mem.freshen tile (testWord index) } else t

/-- The stored data bits a read of an uncorrectable word returns: the word with its data bits inverted as stored. -/
def storedData (cls pattern : Nat) (data : Octets) : Octets :=
  xorOctets data (be (testBytes cls) (pattern >>> (if cls = 0 then 8 else 32)))

/-- The contents of a scratchpad test word were lost with its bank and not written since (R177). -/
def State.testLost (s : State) (tile cls index : Nat) : Bool := cls == 0 && s.unwritten tile (testWord index)

/-- The outcome of reading a test-area word, unpredictable where its contents were lost (R177, R180, log 6). -/
def State.testAt (s : State) (tile cls index : Nat) : Nat :=
  if s.testLost tile cls index then Config.freeNat s.freeCount % 3
  else eccOutcome (3 + cls) s.freeCount (Tab.getD s.mem.errors (errorKey (3 + cls) tile index) 0)

/-- A word of a test area is read back: clean, corrected or uncorrectable (R192). Where the spec states no outcome for
the inverted bits, or the word was lost, the outcome and the data are free. Reports name the word's place in zone F or its index in
DRAM (log 14). -/
def State.testRead (s : State) (tile cls index : Nat) : State :=
  let n := testBytes cls
  let data := memReads s.mem.test (testAddress tile cls index) n
  let pattern := Tab.getD s.mem.errors (errorKey (3 + cls) tile index) 0
  let open_ := s.testLost tile cls index ||
    (decide (2 < errorCount (3 + cls) pattern) && decide (pattern ≠ poisonOf (3 + cls) ∧ pattern < poison))
  let o := s.testAt tile cls index
  let d := if open_ then Config.freeOctets (s.freeCount + 1) n
    else if o = 2 then storedData cls pattern data else data
  let s1 := ((s.setVal 0x6822 4 (.oct (padTo 32 d))).setObj 0x6822 6 o).drew (if open_ then 1 + n else 0)
  if o = 1 then
    (if cls = 0 then s1.scratchCorrected tile (testWord index)
     else ({ s1 with mem := s1.mem.setError (errorKey 4 tile index) 0 } : State).dramCorrected tile index)
  else if o = 2 then
    (if cls = 0 then s1.scratchUncorrectable tile 3 (testWord index) else s1.dramUncorrectable tile 4 index)
  else s1

/-- The word that 0x6822 names exists. -/
def State.testNames (s : State) : Bool :=
  decide (s.obj 0x6822 1 < s.nTiles) && decide (s.obj 0x6822 2 < 2) && decide (s.obj 0x6822 3 < 64)

/-- The access of 0x6822 reaches its bank; one to a bank that is not on is answered BUSY, its status being stated nowhere (R176,
log 69). -/
def State.testAccess (s : State) : Bool × State :=
  if s.obj 0x6822 2 = 0 then s.access (s.obj 0x6822 1) (testWord (s.obj 0x6822 3)) Producer.management.code else (true, s)

/-- A write of the op field of 0x6822 EccTestAccess (R192). -/
def eccTest (op : Nat) (s : State) (_ : Session) : Done :=
  if !s.testNames then Done.refuse s Status.outOfRange
  else if !s.testAccess.1 then { reply := replyHint Status.busy s.busyHint, state := s.testAccess.2 }
  else
    let s1 := s.setObj 0x6822 5 op
    if op = 1 then Done.ok (s1.testStore (s.obj 0x6822 1) (s.obj 0x6822 2) (s.obj 0x6822 3) (s.objOct 0x6822 4))
    else if op = 2 then Done.ok (s1.testRead (s.obj 0x6822 1) (s.obj 0x6822 2) (s.obj 0x6822 3))
    else Done.refuse s Status.outOfRange

/-- ECC_TEST_WRITE. -/
def execEccTestWrite (r : Req) (s : State) : Result := ok (udxWrite s r 0x6822 5 0 (be 1 1) (eccTest 1))

/-- ECC_TEST_READ. -/
def execEccTestRead (r : Req) (s : State) : Result := ok (udxWrite s r 0x6822 5 0 (be 1 2) (eccTest 2))

/-! ### Scrubbers (R193 to R195) -/

/-- Words of a scratchpad (R163). -/
def scratchWords : Nat := 6291456

/-- The locations of a class and tile with an error, in a range of addresses. -/
def errorsIn (s : State) (cls tile lo hi : Nat) : List Nat :=
  s.mem.errors.filterMap fun e =>
    if errorKey cls tile lo ≤ e.1 ∧ e.1 < errorKey cls tile hi then some (e.1 - errorKey cls tile 0) else none

/-- One scratchpad location scrubbed: a corrected one is written back, an uncorrectable one reported, with its hot record left to
quarantine (R86, R194). -/
def State.scrubScratch (s : State) (tile cls a : Nat) : State :=
  let o := if cls = 3 then s.testAt tile 0 a else s.eccAt cls tile a
  let w := if cls = 3 then testWord a else a
  let s := s.drew 1
  if o = 2 then
    let s1 := s.scratchUncorrectable tile cls w
    if cls = 0 then { s1 with fabric := { s1.fabric with eccSeen := s1.fabric.eccSeen ++ [(tile, a, s.elapsed)] } } else s1
  else if o = 1 then
    ({ s with mem := (s.mem.freshen tile w).setError (errorKey cls tile a) 0 } : State).scratchCorrected tile w
  else s

/-- One DRAM code word scrubbed; one with a merge entry is passed over (R193). -/
def State.scrubDram (s : State) (tile cls a : Nat) : State :=
  if (s.mergeOf tile).any fun e => e.address == a * 32 then s
  else
    let k := if cls = 2 then a * 32 else a
    let o := if cls = 2 then s.dramCode tile k else s.testAt tile 1 k
    let s := (if cls = 2 ∧ s.hasMap = true ∧ s.mapAddress 0 ≤ k then (if o = 2 then s.offer 0xE28A tile [tile, k] else s) else s).drew 1
    if o = 2 then s.dramUncorrectable tile cls k
    else if o = 1 then ({ s with mem := s.mem.setError (errorKey cls tile k) 0 } : State).dramCorrected tile k
    else s

/-- A lap's end: its time in ms, and ScrubLapLate past twice the lap the rate sets (R195). -/
def State.lapEnd (s : State) (tile obj cls start setMs : Nat) : State :=
  let ms := (s.tbNs - start) / 1000000
  let s1 := s.setObj obj (tile + 1) ms
  if 2 * setMs < ms then s1.offer 0xE287 tile [tile, cls, ms] else s1

/-- Words of banks that are not on are not read; each such bank is recorded once (R176, R193). -/
def State.scrubBanks (s : State) (tile at_ n : Nat) : State :=
  (List.range 32).foldl (fun s b =>
    match (List.range (min n 32)).find? fun i => (bankRow (at_ + i)).1 == b with
    | some i => (s.access tile (at_ + i) scrubAgent).2
    | none => s) s

/-- A scratchpad location of a class with something to find: an error pattern, or contents lost with its bank (R177). -/
def State.scrubFinds (s : State) (cls tile a : Nat) : Bool :=
  Tab.has s.mem.errors (errorKey cls tile a) || (cls == 0 && s.unwritten tile a)

/-- One scratchpad word read by the scrubber, where its bank is on, with its tag or as a word of the test area (R193). -/
def State.scrubWord (s : State) (tile a : Nat) : State :=
  if !s.bankIsOn tile a then s
  else if testWord 0 ≤ a ∧ a < testWord 64 then
    (if s.scrubFinds 3 tile (a - testWord 0) || s.scrubFinds 0 tile a then s.scrubScratch tile 3 (a - testWord 0) else s)
  else
    let s1 := if s.scrubFinds 0 tile a then s.scrubScratch tile 0 a else s
    if s1.scrubFinds 1 tile a then s1.scrubScratch tile 1 a else s1

/-- SCRATCH_SCRUB: the words of one heat with their tags, in ascending address (R193). A lap begins with its first step
(R195). -/
def execScratchScrub (tile : Nat) (s : State) : Result :=
  if !s.awake then ok s else
  let at_ := Tab.getD s.mem.scratchNext tile 0
  let start := Tab.getD s.mem.scratchLap tile s.tbNs
  let n := min (s.obj 0x6830 1) (scratchWords - at_)
  let s1 := (List.range n).foldl (fun s i => s.scrubWord tile (at_ + i)) (s.scrubBanks tile at_ n)
  let s3 := s1.countN tile 8 6 n
  if at_ + n < scratchWords then
    ok (({ s3 with mem := { s3.mem with scratchNext := Tab.set s3.mem.scratchNext tile (at_ + n)
                                        scratchLap := Tab.set s3.mem.scratchLap tile start } } : State).setObj 0x6832
      (tile + 1) (at_ + n))
  else
    ok ((({ s3 with mem := { s3.mem with scratchNext := Tab.set s3.mem.scratchNext tile 0
                                         scratchLap := Tab.set s3.mem.scratchLap tile s.tbNs } } : State).setObj 0x6832
      (tile + 1) 0).lapEnd tile 0x6831 0 start (scratchWords / s.obj 0x6830 1 / 100))

/-- Counts of a DRAM lap: every code word, or on a part with the valid map its reads and the valid code words (R193). -/
def State.dramLapWords (s : State) (tile : Nat) : Nat :=
  if s.hasMap then s.dramWords / 256 + (Tab.getD s.mem.valid tile []).length else s.dramWords

/-- The place of a code word in a lap: on a part with the valid map, a read of the map goes before the words it covers, and
the map itself is read in it (R193). -/
def State.dramPlace (s : State) (tile a : Nat) : Nat :=
  if !s.hasMap then a
  else if 32 * a < s.mapAddress 0 then
    a / 256 + 1 + (Tab.getD s.mem.valid tile []).countP fun v => decide (v < a)
  else
    let j := a - s.mapAddress 0 / 32
    j + (Tab.getD s.mem.valid tile []).countP fun v => decide (v < 256 * j)

/-- The DRAM code words with errors whose place in the lap lies in a range. -/
def dramErrorsIn (s : State) (tile lo hi : Nat) : List Nat :=
  ((errorsIn s 2 tile 0 (s.dramWords * 32)).map (· / 32)).filter fun a =>
    (s.validBit tile (32 * a) || decide (s.mapAddress 0 ≤ 32 * a)) && decide (lo ≤ s.dramPlace tile a ∧ s.dramPlace tile a < hi)

/-- DRAM_SCRUB: the code words and map reads of one ms (R190, R193). -/
def execDramScrub (tile : Nat) (s : State) : Result :=
  if !s.awake || s.dramHeld tile then ok s else
  let at_ := Tab.getD s.mem.dramNext tile 0
  let start := Tab.getD s.mem.dramLap tile s.tbNs
  let n := min (s.obj 0x6830 2) (s.dramLapWords tile - at_)
  let s1 := (dramErrorsIn s tile at_ (at_ + n)).foldl (fun s a => s.scrubDram tile 2 a) s
  let s3 := s1.countN tile 11 9 n
  if at_ + n < s.dramLapWords tile then
    ok (({ s3 with mem := { s3.mem with dramNext := Tab.set s3.mem.dramNext tile (at_ + n)
                                        dramLap := Tab.set s3.mem.dramLap tile start } } : State).setObj 0x6834
      (tile + 1) (at_ + n))
  else
    let s4 := (errorsIn s3 4 tile 0 64).foldl (fun s a => s.scrubDram tile 4 a) s3
    ok ((({ s4 with mem := { s4.mem with dramNext := Tab.set s4.mem.dramNext tile 0
                                         dramLap := Tab.set s4.mem.dramLap tile s.tbNs } } : State).setObj 0x6834
      (tile + 1) 0).lapEnd tile 0x6833 1 start (s.dramLapWords tile / s.obj 0x6830 2))

end Sys2Proof.Machine
end

