-- ==== Sys2Proof/Machine/MeterOps.lean ====
section
/-! DEFINITION. Meters: the hot record's words (R334, R365, R421), paths, the index and its quarantine bit, keys, request
packets, pending lists, commands and freezes (R341 to R347, R757, R760). -/

namespace Sys2Proof.Machine

/-! ### Hot record (R334) -/

/-- A word of the hot record written. -/
def Meter.setWord (x : Meter) (w v : Nat) : Meter :=
  { x with hot := modifyAt x.words w fun _ => BitVec.ofNat 64 v }

/-- A field of a word written. -/
def Meter.setField (x : Meter) (w hi lo v : Nat) : Meter := x.setWord w (putField (x.word w) hi lo v)

def Meter.incarnation (x : Meter) : Nat := field (x.word 0) 31 16
def Meter.epoch (x : Meter) : Nat := field (x.word 0) 15 0
def Meter.seqTop (x : Meter) : Nat := field (x.word 1) 63 32
def Meter.lastTime (x : Meter) : Nat := field (x.word 1) 31 0
def Meter.seqMask (x : Meter) : Nat := x.word 2
def Meter.ruleSet (x : Meter) : Nat := field (x.word 4) 63 54
def Meter.slotMap (x : Meter) : Nat := field (x.word 4) 53 46
def Meter.feederSum (x : Meter) : Nat := field (x.word 4) 45 34
def Meter.readoutClass (x : Meter) : Nat := field (x.word 4) 33 31
def Meter.feederTagWord (x : Meter) : Nat := field (x.word 4) 30 15
def Meter.forerunner (x : Meter) : Bool := bitAt (x.word 4) 14
def Meter.prepaid (x : Meter) : Bool := bitAt (x.word 4) 13
def Meter.nextOutSeq (x : Meter) : Nat := field (x.word 5) 63 32
def Meter.prepayState (x : Meter) : Nat := field (x.word 6) 63 61
def Meter.rateExponent (x : Meter) : Nat := field (x.word 6) 60 58
def Meter.lowCredit (x : Meter) : Nat := field (x.word 6) 57 31
def Meter.emergencyCredit (x : Meter) : Nat := field (x.word 6) 30 4
def Meter.emergencyAvailable (x : Meter) : Bool := bitAt (x.word 6) 3
def Meter.topUpTotal (x : Meter) : Nat := x.word 7
def Meter.chargeTotal (x : Meter) : Nat := x.word 12
def Meter.total (x : Meter) (r : Nat) : Nat := field (x.word (8 + r)) 63 16
def Meter.sinceBreak (x : Meter) (r : Nat) : Nat := field (x.word (8 + r)) 15 0
def Meter.bookTariff (x : Meter) : Nat := field (x.word 13) 63 60
def Meter.breakTariff (x : Meter) : Nat := field (x.word 13) 59 56
def Meter.extra (x : Meter) (r : Nat) : Nat := field (x.word 13) (55 - 13 * r) (43 - 13 * r)
def Meter.powerLimit (x : Meter) : Nat := field (x.word 14) 63 40

/-- An unset total (R364). -/
def unsetTotal : Nat := 0xFFFFFFFFFFFF

/-- Credit in credit units: TopUpTotal − ChargeTotal as a signed 64-bit number (R365). -/
def creditOf (topUp charge : Nat) : Int := toSigned 64 (wrapSub 64 topUp charge)

def Meter.credit (x : Meter) : Int := creditOf x.topUpTotal x.chargeTotal

/-! ### Paths: the placement word (R198) and port codes (R143) -/

/-- A port code: kind, tile and number of [63:56] of a descriptor. -/
def portCode (kind tile number : Nat) : Nat := kind * 64 + tile * 8 + number

def portKind (p : Nat) : Nat := p / 64 % 4
def portTile (p : Nat) : Nat := p / 8 % 8
def portNumber (p : Nat) : Nat := p % 8

def Meter.port (x : Meter) : Nat := field (x.word 3) 63 56
def Meter.phase (x : Meter) : Nat := field (x.word 3) 55 54
def Meter.tier (x : Meter) : Nat := field (x.word 3) 53 52
def Meter.served (x : Meter) : Bool := bitAt (x.word 3) 51
def Meter.relay (x : Meter) : Nat := field (x.word 3) 47 36
def Meter.moveCount (x : Meter) : Nat := field (x.word 3) 15 0

/-- A placement word (R198). -/
def placementWord (path : Option (Nat × Nat × Nat)) (tier moves : Nat) : Nat :=
  match path with
  | some (port, phase, relay) => port * 2 ^ 56 + phase * 2 ^ 54 + tier * 2 ^ 52 + 2 ^ 51 + relay * 2 ^ 36 + min 65535 moves
  | none => tier * 2 ^ 52 + min 65535 moves

/-- The serving path of a meter. -/
def Meter.path (x : Meter) : Option (Nat × Nat × Nat) := if x.served then some (x.port, x.phase, x.relay) else none

/-! ### Lanes and lane classes (R456) -/

/-- The sub-index of a lane in 0x5011: line lane t.l, radio lane t.l. -/
def laneSub (kind tile lane : Nat) : Nat := if kind = 0 then tile * 4 + lane + 1 else 33 + tile * 8 + lane

/-- The lane class of a lane: line 0, radio 1 by default (R469). -/
def State.laneClass (s : State) (kind tile lane : Nat) : Nat :=
  match Tab.find? s.dict.objs (objKey 0x5011 (laneSub kind tile lane)) with
  | some (.num i) => i.toNat
  | _ => if kind = 0 then 0 else 1

/-- A relay table entry, 32 bytes (R360). -/
def State.relayEntry (s : State) (i : Nat) : Octets := slice (s.domain 0x3C03 1) (32 * i) 32

/-- In SERVICE and VOID the field lanes and tunnel ports are disabled whatever the inputs (R628). -/
def State.fieldOff (s : State) : Bool := s.boot.lifeCycle == 3 || s.boot.lifeCycle == 4

/-- A lane is enabled in the inputs in force. -/
def State.lineEnabled (s : State) (tile lane : Nat) : Bool := s.obj 0x3000 (tile * 4 + lane + 1) == 1 && !s.fieldOff
def State.radioEnabled (s : State) (tile lane : Nat) : Bool := s.obj 0x3800 (tile * 8 + lane + 1) == 1 && !s.fieldOff
def State.tunnelEnabled (s : State) (port : Nat) : Bool := s.obj 0x3C00 (port + 1) == 1 && !s.fieldOff

/-- The lane class under which frames for a meter are sealed (R456, R360): that of its lane, or of the relay for the lane
kind it was last heard on. -/
def State.meterClass (s : State) (x : Meter) : Nat :=
  if portKind x.port = 2 then x.place.tunnelClass else s.laneClass (portKind x.port) (portTile x.port) (portNumber x.port)

/-- A root-file entry of the sheet in force (R58); an entry not loaded is empty. -/
def State.root (s : State) (e : Nat) : Octets := (Tab.find? s.fabric.roots e).getD []

/-! ### Quarantine (R86, R213, R224, R343, R494) -/

/-- The open fence of a meter. -/
def State.fenceOf (s : State) (m : Nat) : Option Fence := s.place.fences.find? fun f => f.meter == m

/-- The quarantine bit of a meter's index entry. -/
def State.quarantined (s : State) (x : Meter) : Bool :=
  x.eccQuarantine || x.place.parked || decide (x.freezeStep = 2 ∨ x.freezeStep = 3) ||
    s.boot.restoringTiles.contains x.home || s.pair.quarantine ||
    (match s.fenceOf x.number with
     | some f => decide (2 ≤ f.step)
     | none => false)

/-- The words of a meter's hot record, with the class of each (R163, R166). -/
def Meter.hotWords (x : Meter) : List (Nat × Nat) := (List.range 16).map fun w => (0, hotAddress x.record w)

/-- The first of a list of words and tags that reads uncorrectable (R85). -/
def State.firstBad (s : State) (tile : Nat) (ws : List (Nat × Nat)) : Option (Nat × Nat) := ws.find? fun e => s.eccAt e.1 tile e.2 == 2

/-- The corrected words that a read meets are counted and reported (R85, R181). -/
def State.readCorrected (s : State) (tile : Nat) (ws : List (Nat × Nat)) : State :=
  ws.foldl (fun s e => if s.eccAt e.1 tile e.2 = 1 then s.scratchCorrected tile e.2 else s) s

/-- A hot-record word with an uncorrectable error (R85). -/
def State.hotUncorrectable (s : State) (x : Meter) : Bool := (s.firstBad x.home x.hotWords).isSome

/-- The corrected hot-record words a read meets are counted and reported (R85, R181). -/
def State.hotCorrected (s : State) (x : Meter) : State := s.readCorrected x.home x.hotWords

/-- A hot-record word written (R191). -/
def State.hotWritten (s : State) (x : Meter) (w : Nat) : State := s.wordWritten 0 x.home (hotAddress x.record w)

/-- The words that a read of a management core or of DMA meets: corrected and uncorrectable ones are counted and reported (R181,
R197). -/
def State.meetWords (s : State) (tile : Nat) (ws : List (Nat × Nat)) : State :=
  ws.foldl (fun t e =>
    if s.eccAt e.1 tile e.2 = 1 then t.scratchCorrected tile e.2
    else if s.eccAt e.1 tile e.2 = 2 then t.scratchUncorrectable tile e.1 e.2 else t) s

/-- The words of a packet as a reader gets them: what an uncorrectable word gives is free (DESIGN CHOICE, log 87). -/
def State.readAs (s : State) (tile q : Nat) (pk : List (Word × Byte)) : List (Word × Byte) :=
  pk.zipIdx.map fun e =>
    if s.eccAt 0 tile (s.queueWord tile q ((s.queue tile q).readPos + BitVec.ofNat 32 e.2)) = 2 then
      (Config.freeWord (s.freeCount + e.2), e.1.2)
    else e.1

/-- The head packet of a queue read by DMA or a management core: its banks are on, and the errors in its words and tags are met
(R176, R181). -/
def State.readHead (s : State) (tile q agent : Nat) : Option (List (Word × Byte)) × State :=
  match (s.queue tile q).head? with
  | none => (none, s)
  | some pk =>
    let ws := s.packetWords tile q pk.length
    match s.barred tile agent (ws.map (·.2)) with
    | some a => (none, (s.access tile a agent).2)
    | none =>
      (some (s.readAs tile q pk), (s.meetWords tile ws).drew (if (s.firstBad tile ws).isSome then pk.length else 0))

/-- The oldest packet of a queue taken by DMA or a management core (R149, R176, R181). -/
def State.drainPacket (s : State) (tile q agent : Nat) : Option (List (Word × Byte)) × State :=
  match s.readHead tile q agent with
  | (none, s1) => (none, s1)
  | (some pk, s1) => (some pk, (s1.takePacket tile q).2)

/-- A queue emptied by DMA or a management core, packet by packet. -/
def State.drainQueue (s : State) (tile q agent : Nat) (f : State → List (Word × Byte) → State) : State :=
  (List.range (packetsOf 4096 (s.queue tile q).unread).length).foldl (fun s _ =>
    match s.drainPacket tile q agent with
    | (none, s1) => s1
    | (some pk, s1) => f s1 pk) s

/-- The packets of a queue handled by DMA or a management core, in order, up to one that has to wait: what is done tells whether the
packet is dealt with (R154). -/
def State.passQueue (s : State) (tile q agent : Nat) (f : State → List (Word × Byte) → Bool × State) : State :=
  ((packetsOf 4096 (s.queue tile q).unread).foldl (fun (a : Bool × State) _ =>
    if a.1 then
      (match a.2.readHead tile q agent with
       | (some pk, _) => f a.2 pk
       | (none, s1) => (false, s1))
    else a) (true, s)).2

/-- A management write of a hot-record word told to the standby, with its contribution at the apply instant (R549, R553). -/
def State.mirrorWord (s : State) (m w v : Nat) : State :=
  match s.pair.applying with
  | some t => s.contribute m t (be 2 0 ++ be 8 v)
  | none => if s.mirrors then (s.mgmt 0 [m, w, v] []).contribute m s.applyInstant (be 2 0 ++ be 8 v) else s

/-- Words of a meter's hot record written by the management cores, each whole (R83); a bank that is not on takes none of them
(R176). -/
def State.writeHot (s : State) (m : Nat) (ws : List (Nat × Nat)) : State :=
  match s.meter? m with
  | none => s
  | some x =>
    match s.barred x.home Producer.management.code (ws.map fun e => hotAddress x.record e.1) with
    | some a => (s.access x.home a Producer.management.code).2
    | none =>
    (ws.filter fun e => [0, 4, 6, 7, 14, 15].contains e.1).foldl (fun s e => s.mirrorWord m e.1 e.2)
      (ws.foldl (fun s e => s.hotWritten x e.1) (s.setMeter (ws.foldl (fun x e => x.setWord e.1 e.2) x)))

/-- Errors of a hot record gone with its rewriting. -/
def State.hotClean (s : State) (x : Meter) : State :=
  { s with mem := (List.range 16).foldl (fun m w => m.setError (errorKey 0 x.home (hotAddress x.record w)) 0) s.mem }

/-! ### Request packets: what the management cores write in the request queues (log 16) -/

/-- A request packet that names a request-table entry or a readout and a meter. -/
def requestPacket (id meter : Nat) : List (Word × Byte) := packetOfWords [BitVec.ofNat 64 (id * 2 ^ 32 + meter)]

/-- A request packet that carries a payload to seal: frame type, egress port, phase, lane class, then the payload. Meter
4,294,967,295 asks for a broadcast. -/
def payloadPacket (id meter type port phase cls : Nat) (payload : Octets) : List (Word × Byte) :=
  packetOf (BitVec.ofNat 64 (id * 2 ^ 32 + meter))
    (be 1 type ++ be 1 payload.length ++ be 1 port ++ be 1 phase ++ be 1 cls ++ be 3 0 ++ payload)

/-- The request queue of a kind: 0 outbound, 1 readout, 2 query, 3 snapshot (R135). -/
def requestQueue (kind group : Nat) : Nat := 0x08 + 8 * kind + group

/-- Requests of a kind for the meter wait in its pending list: in a held move's fence all, in that of a path-only or tier-only move
the outbound ones alone (R213, R216); in a quarantine all, and behind earlier ones of the kind that wait (R757). -/
def State.holdsRequests (s : State) (x : Meter) (kind : Nat) : Bool :=
  (match s.fenceOf x.number with
   | some f => decide (f.kind ≤ 2) || kind == 0
   | none => false) || s.quarantined x || x.held.any fun h => h.kind == kind

/-- A request put in the meter's pending list, in order (R213). -/
def State.holdRequest (s : State) (m kind : Nat) (ws : List (Word × Byte)) : State :=
  s.modMeter m fun x => { x with held := x.held ++ [{ kind := kind, words := ws }] }

/-- A request packet for a meter enqueued, or held (R213, R757). The result tells whether a full queue refused it. -/
def State.enqueue (s : State) (m kind : Nat) (ws : List (Word × Byte)) : Bool × State :=
  match s.meter? m with
  | none => (false, s)
  | some x =>
    if s.holdsRequests x kind then (true, s.holdRequest m kind ws)
    else s.pushPacket x.home (requestQueue kind x.group) .management ws

/-- Held requests of a meter enqueued at its group, in order; from the first that a full queue refuses on they stay held
(R154, R757). -/
def State.pushHeld (s : State) (x : Meter) : List HeldRequest → State
  | [] => s.modMeter x.number fun y => { y with held := [] }
  | h :: r =>
    let (took, s1) := s.pushPacket x.home (requestQueue h.kind x.group) .management h.words
    if took then State.pushHeld s1 x r else s1.modMeter x.number fun y => { y with held := h :: r }

/-- The pending list released to the meter's group, in order, ahead of newer requests (R213, R757). -/
def State.releaseHeld (s : State) (m : Nat) : State :=
  match s.meter? m with
  | none => s
  | some x => if (s.fenceOf m).isSome || s.quarantined x then s else s.pushHeld x x.held

/-- A journal entry of a tile; the next fold writes it in a page (R378). -/
def State.journal (s : State) (tile : Nat) (e : JournalEntry) : State :=
  { s with billing := { s.billing with
      openEntries := Tab.modify s.billing.openEntries tile [] fun l => l ++ [e] } }

/-- A host write to a meter in a fence waits in its pending list; another is carried out at once (R222). -/
def heldOr (s : State) (m : Nat) (h : HeldWrite) (act : State → Done) : Done :=
  if (s.fenceOf m).isSome then
    { reply := replyOf Status.pending, final := false
      state := s.modMeter m fun x => { x with place := { x.place with heldWrites := x.place.heldWrites ++ [h] } } }
  else act s

/-! ### Commands (R346, R347) -/

-- Command codes (R330).
namespace Cmd
def disconnect : Nat := 1
def reconnect : Nat := 2
def setTime : Nat := 3
def snapshot : Nat := 4
def readNow : Nat := 5
def keyEpoch : Nat := 6
def feederTag : Nat := 7
def tariffActivate : Nat := 8
def firmwareActivate : Nat := 9
def laneJoin : Nat := 10
def setReporting : Nat := 11
def creditState : Nat := 12
end Cmd

/-- Parameter bytes of a command (R330); SNAPSHOT's as R349. -/
def commandBytes (code : Nat) : Nat :=
  if code = 1 then 4 else if code = 2 then 5 else if code = 3 then 9 else if code = 4 then 32 else if code = 5 then 1
  else if code = 6 then 2 else if code = 7 then 2 else if code = 8 then 6 else if code = 9 then 8 else if code = 10 then 33
  else if code = 11 then 4 else if code = 12 then 9 else 0

/-- A command given a request entry and its request enqueued (R159, R346). Origin 0 host, 1 prepayment, 2 another function.
The result is its RequestId, or none when the table or the queue is full. -/
def State.submitCommand (s : State) (m code flags : Nat) (params : Octets) (origin : Nat) : Option Nat × State :=
  match s.meter? m with
  | none => (none, s)
  | some x =>
    match s.newRequest x.home with
    | none => (none, s)
    | some n =>
      let r := s.request x.home n
      let id := requestId r.generation.toNat x.home n
      let r' : Request :=
        { generation := r.generation, busy := true, cmdGen := r.generation, meter := m, code := code, flags := flags
          params := params, state := 0, origin := origin, applyAt := s.pair.applying.getD s.applyInstant }
      let (took, s1) := s.enqueue m 0 (requestPacket id m)
      if took then (some id, (s1.setRequest x.home n r').mgmt 1 [m, code, flags, id, origin] params) else (none, s1)

/-- A command sent for a function of the part (origin 2), where one can be sent. -/
def State.sendCommand (s : State) (m code flags : Nat) (params : Octets) : State :=
  match s.meter? m with
  | none => s
  | some x => if x.served then (s.submitCommand m code flags params 2).2 else s

/-- Every open request of a meter that satisfies a condition, as (tile, number). -/
def State.requestsOf (s : State) (p : Request → Bool) : List (Nat × Nat) :=
  s.queues.requests.filterMap fun e => if e.2.busy && p e.2 then some (e.1 / 65536, e.1 % 65536) else none

/-- A request ended: its final state, its entry freed (R159). -/
def State.endRequest (s : State) (tile n state : Nat) : State :=
  s.setRequest tile n ({ s.request tile n with state := state }.free)

/-! ### Freezes (R343) -/

/-- A change of frozen words asked for: they wait for the freeze of the meter, or join the one that is asked (R343). -/
def State.freeze (s : State) (m : Nat) (ws : List (Nat × Word)) : State :=
  s.modMeter m fun x => { x with freezeWords := x.freezeWords ++ ws, freezeStep := max 1 x.freezeStep }

/-- The value a word will have after the freezes asked for. -/
def Meter.pendingWord (x : Meter) (w : Nat) : Nat :=
  x.freezeWords.foldl (fun a e => if e.1 = w then e.2.toNat else a) (x.word w)

/-- A field of a frozen word changed through a freeze (R343). -/
def State.freezeField (s : State) (m w hi lo v : Nat) : State :=
  match s.meter? m with
  | none => s
  | some x => s.freeze m [(w, BitVec.ofNat 64 (putField (x.pendingWord w) hi lo v))]

/-! ### Reporting -/

/-- A meter's interval of retry: max(ReportInterval, CommandRetryFloor) in s (R347). -/
def State.retryInterval (s : State) (x : Meter) : Nat := max x.reportInterval (s.obj 0x2402 1)

/-- A meter is silent now (R348). -/
def State.meterSilent (s : State) (m : Nat) : Bool :=
  match s.meter? m with
  | none => false
  | some x => x.silent

end Sys2Proof.Machine
end

