-- ==== Sys2Proof/Machine/Prepay.lean ====
section
/-! DEFINITION. Prepayment (10 R396 to R400, R760) and its commands. -/

namespace Sys2Proof.Machine

/-- The state a credit gives where it stands above 0 or not (R396). -/
def creditClass (credit : Int) (low : Nat) : Nat :=
  if (low * 1000000 : Nat) < credit then 0 else if 0 < credit then 1 else 3

/-- CREDIT or LOW by LowCredit (R397). -/
def creditOrLow (credit : Int) (low : Nat) : Nat := if (low * 1000000 : Nat) < credit then 0 else 1

/-- PrepayEnable of a meter: word 4 bit [13] as the freezes asked for leave it (R343, R396). -/
def Meter.isPrepay (x : Meter) : Bool := bitAt (x.pendingWord 4) 13

/-- The credit of a meter with the top-up that waits for word 7 counted (R399). -/
def Meter.creditNow (x : Meter) : Int := creditOf (x.prepay.topUpNew.getD x.topUpTotal) x.chargeTotal

/-- The parameters of CREDIT_STATE: credit in currency units × 1,000 truncated toward zero, then PrepayState (R330, R400). -/
def creditParams (x : Meter) : Octets := be 8 (ofSigned 64 (Int.tdiv x.creditNow 100000)) ++ be 1 x.prepayState

/-- A change of a meter's prepayment record. -/
def State.modPrepay (s : State) (m : Nat) (f : MeterPrepay → MeterPrepay) : State :=
  s.modMeter m fun x => { x with prepay := f x.prepay }

/-- CREDIT_STATE sent, or held while the meter is unserved (R400, R760). -/
def State.sendCreditState (s : State) (m : Nat) : State :=
  match s.meter? m with
  | none => s
  | some x =>
    if x.served then (s.submitCommand m Cmd.creditState 0 (creditParams x) 1).2
    else s.modPrepay m fun p => { p with heldCreditState := true }

/-- A PREPAY entry in the journal of the meter's home (R378). -/
def State.journalPrepay (s : State) (m old new : Nat) : State :=
  match s.meter? m with
  | none => s
  | some x => s.journal x.home
      { kind := 4, meter := m, body := [old, new, bit01 x.emergencyAvailable, ofSigned 64 x.creditNow] }

/-- PrepayState and EmergencyAvailable written in word 6 as a whole (R365). -/
def State.setPrepayWord (s : State) (m new : Nat) (emergency : Bool) : State :=
  match s.meter? m with
  | none => s
  | some x => s.writeHot m [(6, putField (putBit (x.word 6) 3 emergency) 63 61 new)]

/-- A change of PrepayState: written, journalled, and told to the meter (R397, R400). -/
def State.prepayTo (s : State) (m new : Nat) (emergency : Bool) : State :=
  match s.meter? m with
  | none => s
  | some x =>
    let s1 := s.setPrepayWord m new emergency
    if x.prepayState = new then s1
    else
      let s2 := (s1.journalPrepay m x.prepayState new).sendCreditState m
      if new = 3 then s2
      else s2.modPrepay m fun p => { p with refusedForGood := false, heldUntil := none, heldDisconnect := false }

/-- The calendar that decides a meter's friendly windows. -/
def State.meterCalendar (s : State) (x : Meter) : Option Octets :=
  let c := s.structure x.slotMap
  if c.inForce then some c.image else none

/-- The friendly window that holds a DISCONNECT back now: one that holds, or begins by now plus DisconnectValidity (R398). -/
def State.friendlyHold (s : State) (x : Meter) : Option Nat :=
  (s.meterCalendar x).bind fun c =>
    (friendlyBy c s.tbSeconds (s.tbSeconds + s.obj 0x4002 1)).map fun t => friendlyEnd c t

/-- A DISCONNECT held for a friendly window (R398). -/
def State.holdDisconnect (s : State) (m end_ : Nat) : State :=
  (s.modPrepay m fun p => { p with heldUntil := some end_, disconnectId := 0 }).offer 0xE50D 0 [m, end_]

/-- An EXHAUSTED meter's disconnect considered: submitted, held for a friendly window, or held while unserved (R398,
R760). -/
def State.considerDisconnect (s : State) (m : Nat) : State :=
  match s.meter? m with
  | none => s
  | some x =>
    if !x.isPrepay || x.prepayState ≠ 3 || x.prepay.refusedForGood || x.prepay.disconnectId ≠ 0 then s
    else if !x.served then s.modPrepay m fun p => { p with heldDisconnect := true }
    else match s.friendlyHold x with
      | some e => s.holdDisconnect m e
      | none =>
        match s.submitCommand m Cmd.disconnect (s.obj 0x4002 1) (be 4 0) 1 with
        | (some id, s1) => s1.modPrepay m fun p => { p with disconnectId := id, heldUntil := none, heldDisconnect := false }
        | (none, s1) => s1

/-- RECONNECT sent, or held while unserved, unless one stands (R397, R760). -/
def State.sendReconnect (s : State) (m : Nat) : State :=
  match s.meter? m with
  | none => s
  | some x =>
    if x.prepay.reconnectId ≠ 0 then s
    else if !x.served then s.modPrepay m fun p => { p with heldReconnect := true, reconnectAt := none }
    else
      let arm := bit01 (entryArmOnly (s.structEntry x.slotMap))
      match s.submitCommand m Cmd.reconnect 0 (be 4 0 ++ be 1 arm) 1 with
      | (some id, s1) => s1.modPrepay m fun p => { p with reconnectId := id, heldReconnect := false, reconnectAt := none }
      | (none, s1) => s1.modPrepay m fun p => { p with reconnectAt := some (s.elapsed + s.retryInterval x * 1000000000) }

/-- The threshold crossings CreditLow, CreditZero and CreditFloor (R397). -/
def State.creditCrossed (s : State) (m level : Nat) : State :=
  match s.meter? m with
  | none => s
  | some x =>
    let st := x.prepayState
    if !x.isPrepay then s
    else if level = 0 then (if st = 0 then s.prepayTo m 1 x.emergencyAvailable else s)
    else if level = 1 then
      (if st ≠ 0 ∧ st ≠ 1 then s
       else if x.emergencyAvailable then (s.prepayTo m 2 false).offer 0xE50B 0 [m]
       else (s.prepayTo m 3 false).considerDisconnect m)
    else if st = 2 then (s.prepayTo m 3 x.emergencyAvailable).considerDisconnect m
    else s

/-- A request of the prepayment state machine that stands. -/
def standing (s : State) (id : Nat) : Option (Nat × Nat × Request) := if id = 0 then none else s.requestOf id

/-- The DISCONNECT that stands: withdrawn while unsealed, overtaken once sealed (R397). -/
def State.overtakeDisconnect (s : State) (m : Nat) : State :=
  match s.meter? m with
  | none => s
  | some x =>
    match standing s x.prepay.disconnectId with
    | none => s.modPrepay m fun p => { p with disconnectId := 0, heldUntil := none, heldDisconnect := false }
    | some (t, n, r) =>
      if r.sealings = 0 then
        (((s.endRequest t n 4).bump 0x2403 7).modPrepay m fun p => { p with disconnectId := 0 })
      else s.setRequest t n { r with overtaken := true }

/-- A top-up's effect on the state machine, by the credit it leaves (R397). -/
def State.prepayToppedUp (s : State) (m : Nat) : State :=
  match s.meter? m with
  | none => s
  | some x =>
    if x.creditNow ≤ 0 then s
    else if x.prepayState ≤ 4 then (s.overtakeDisconnect m).prepayTo m (creditOrLow x.creditNow x.lowCredit) true
    else if x.prepayState = 5 then (s.setPrepayWord m 5 true).sendReconnect m
    else s.setPrepayWord m x.prepayState true

/-- The state after RECONNECT is acknowledged (R397). -/
def State.reconnected (s : State) (m : Nat) : State :=
  match s.meter? m with
  | none => s
  | some x =>
    s.prepayTo m (if entryArmOnly (s.structEntry x.slotMap) then 6 else creditOrLow x.creditNow x.lowCredit)
      x.emergencyAvailable

/-- DISCONNECT acknowledged with Result 0, 1 or 4, or overtaken by a top-up (R397). -/
def State.disconnected (s : State) (m id : Nat) (overtaken : Bool) : State :=
  match s.meter? m with
  | none => s
  | some x =>
    let s1 := (s.prepayTo m 5 x.emergencyAvailable).offer 0xE50C 0 [m, id]
    if overtaken then s1.sendReconnect m else s1

/-- The end of the DISCONNECT or RECONNECT of a prepayment meter (R397). Result: the acknowledgement's, or 256 for EXPIRED
or WITHDRAWN. -/
def State.prepayEnded (s : State) (m id code result : Nat) (overtaken : Bool) : State :=
  match s.meter? m with
  | none => s
  | some x =>
    let good : Bool := decide (result = 0 ∨ result = 1 ∨ result = 4)
    if code = Cmd.disconnect ∧ x.prepay.disconnectId = id then
      let s1 := s.modPrepay m fun p => { p with disconnectId := 0 }
      if !x.isPrepay then s1
      else if good && (x.prepayState == 4 || overtaken) then s1.disconnected m id overtaken
      else if x.prepayState ≠ 4 then s1
      else if result = 2 ∨ result = 256 then (s1.prepayTo m 3 x.emergencyAvailable).considerDisconnect m
      else (s1.prepayTo m 3 x.emergencyAvailable).modPrepay m fun p => { p with refusedForGood := true }
    else if code = Cmd.reconnect ∧ x.prepay.reconnectId = id then
      let s1 := s.modPrepay m fun p => { p with reconnectId := 0 }
      if !x.isPrepay || x.prepayState ≠ 5 then s1
      else if good then s1.reconnected m
      else if result = 2 ∨ result = 256 then
        s1.modPrepay m fun p => { p with reconnectAt := some (s.elapsed + s.retryInterval x * 1000000000) }
      else s1
    else s

/-- The relay of an armed meter is closed (R397). -/
def State.relayClosed (s : State) (m : Nat) : State :=
  match s.meter? m with
  | none => s
  | some x =>
    if x.isPrepay && x.prepayState == 6 then
      (s.prepayTo m (creditOrLow x.creditNow x.lowCredit) x.emergencyAvailable).offer 0xE50E 0 [m]
    else s

/-- Commands held while a meter was unserved, submitted in the order they arose once it has a serving path (R760). -/
def State.releasePrepay (s : State) (m : Nat) : State :=
  match s.meter? m with
  | none => s
  | some x =>
    if !x.served then s
    else
      let p := x.prepay
      let s0 := s.modPrepay m fun p => { p with heldDisconnect := false, heldReconnect := false, heldCreditState := false }
      let credit (s : State) : State :=
        if p.heldCreditState then (s.submitCommand m Cmd.creditState 0 (creditParams x) 3).2 else s
      if p.heldDisconnect then (credit s0).considerDisconnect m
      else credit (if p.heldReconnect && x.prepayState == 5 then s0.sendReconnect m else s0)

/-! ### Enable and disable (R396) -/

/-- The fields of word 6 that a structure's entry gives, written for a meter of it (R381). -/
def State.copyEntry (s : State) (x : Meter) : State :=
  let e := s.structEntry x.slotMap
  let v := putField (putField (putField (x.word 6) 60 58 (entryExponent e % 8)) 57 31 (entryLow e % 2 ^ 27)) 30 4
    (entryEmergency e % 2 ^ 27)
  if !entryEnabled e || x.word 6 = v then s else s.writeHot x.number [(6, v)]

/-- The entries in force copied into word 6 of every meter, at a swap (R381). -/
def State.copyEntries (s : State) : State := s.meters.foldl (fun s x => s.copyEntry x) s

/-- Word 6 from the structure in force, with a state (R381, R396). -/
def prepayWord (e : Octets) (state : Nat) (emergency : Bool) : Nat :=
  state * 2 ^ 61 + entryExponent e % 8 * 2 ^ 58 + entryLow e % 2 ^ 27 * 2 ^ 31 + entryEmergency e % 2 ^ 27 * 2 ^ 4 +
    bit01 emergency * 8

/-- PrepayEnable written 1. -/
def prepayEnable (m : Nat) (opening : Nat) (s : State) : Done :=
  match s.meter? m with
  | none => Done.refuse s Status.noMeter
  | some x =>
    let e := s.structEntry x.slotMap
    if x.isPrepay then Done.ok s
    else if entryLow e = 0 then Done.refuse s Status.refused
    else
      let st := creditClass (creditOf opening x.chargeTotal) (entryLow e)
      let s1 := s.writeHot m [(6, prepayWord e st true), (7, opening)]
      let s2 := (s1.freezeField m 4 13 13 1).modMeter m fun x => { x with prepay := {} }
      Done.ok (((s2.journalPrepay m x.prepayState st).sendCreditState m).considerDisconnect m)

/-- The unsealed prepayment commands of a meter are withdrawn (R396). -/
def State.withdrawPrepay (s : State) (m : Nat) : State :=
  (s.requestsOf fun r => decide (r.meter = m) && decide (r.origin = 1 ∨ r.origin = 3) && decide (r.sealings = 0)).foldl
    (fun s e => (s.endRequest e.1 e.2 4).bump 0x2403 7) s

/-- PrepayEnable written 0. -/
def prepayDisable (m : Nat) (s : State) : Done :=
  match s.meter? m with
  | none => Done.refuse s Status.noMeter
  | some x =>
    if !x.isPrepay then Done.ok s
    else
      Done.ok (((s.withdrawPrepay m).freezeField m 4 13 13 0).modPrepay m fun p =>
        { disconnectId := 0, reconnectId := 0, topUpNew := p.topUpNew })

/-- PREPAY_ENABLE. The opening credit is the session's 0xC060.08 in the value written before. -/
def execPrepayEnable (r : Req) (meter opening : Nat) (s : State) : Result :=
  ok (udxAct s r 0xC060 7 meter (be 1 1) [(0xC060, 8, .num opening)] fun s x =>
    heldOr s meter { session := x.id, tag := r.tag, index := 0xC060, sub := 7, args := [1, opening] }
      (prepayEnable meter opening))

/-- PREPAY_DISABLE. -/
def execPrepayDisable (r : Req) (meter : Nat) (s : State) : Result :=
  ok (udxWrite s r 0xC060 7 meter (be 1 0) fun s x =>
    heldOr s meter { session := x.id, tag := r.tag, index := 0xC060, sub := 7, args := [0] } (prepayDisable meter))

/-! ### Top-ups (R399) -/

/-- A top-up applied: journal, word 7 due, LastTopUpId, event, the state machine, CREDIT_STATE (R399, R400). -/
def State.applyTopUp (s : State) (x : Meter) (amount id : Nat) : State :=
  let total := x.prepay.topUpNew.getD x.topUpTotal + amount
  let s1 := s.journal x.home { kind := 3, meter := x.number, body := [id, amount, total] }
  let s2 := s1.modMeter x.number fun x => { x with
    prepay := { x.prepay with topUpNew := some total }, billing := { x.billing with lastTopUpId := id } }
  let s3 := (s2.bump 0x4003 9).offer 0xE50F 0 [x.number, id]
  let s4 := s3.prepayToppedUp x.number
  if (s4.meter? x.number).map Meter.prepayState = some x.prepayState then s4.sendCreditState x.number else s4

/-- TopUpSubmit written 1. -/
def topUp (m amount id : Nat) (s : State) : Done :=
  match s.meter? m with
  | none => Done.refuse s Status.noMeter
  | some x =>
    if amount = 0 then Done.refuse s Status.outOfRange
    else if !x.isPrepay then Done.refuse s Status.refused
    else if id ≤ x.billing.lastTopUpId then Done.ok s
    else if 2 ^ 63 - 1 < x.prepay.topUpNew.getD x.topUpTotal + amount then Done.refuse s Status.outOfRange
    else Done.ok (s.applyTopUp x amount id)

/-- TOP_UP: TopUpSubmit, after TopUpAmount and TopUpId. -/
def execTopUp (r : Req) (meter amount id : Nat) (s : State) : Result :=
  ok (udxAct s r 0xC060 6 meter (be 1 1) [(0xC060, 4, .num amount), (0xC060, 5, .num id)] fun s x =>
    heldOr s meter { session := x.id, tag := r.tag, index := 0xC060, sub := 6, args := [amount, id] } (topUp meter amount id))

/-- FRIENDLY_WINDOW_END: a held disconnect is considered again when its window ends (R398). -/
def execFriendlyWindowEnd (meter : Nat) (s : State) : Result :=
  match s.meter? meter with
  | none => ok s
  | some x =>
    match x.prepay.heldUntil with
    | none => ok s
    | some e => okIf (decide (e ≤ s.tbSeconds)) s
        ((s.modPrepay meter fun p => { p with heldUntil := none }).considerDisconnect meter)

/-- RECONNECT_RETRY (R397). -/
def execReconnectRetry (meter : Nat) (s : State) : Result :=
  if !s.awake then ok s else
  match s.meter? meter with
  | none => ok s
  | some x =>
    match x.prepay.reconnectAt with
    | none => ok s
    | some t => okIf (decide (t ≤ s.elapsed) && decide (0 < x.creditNow) && decide (x.prepayState = 5) && x.isPrepay) s
        ((s.modPrepay meter fun p => { p with reconnectAt := none }).sendReconnect meter)

end Sys2Proof.Machine
end

