-- ==== Sys2Proof/Machine/Feeders.lean ====
section
/-! DEFINITION. Feeder membership, sums and theft indicators (11 R406 to R415, R421, R422). -/

namespace Sys2Proof.Machine

/-! ### The feeder table (R406) -/

/-- The 32-byte entry of a feeder in force. -/
def State.feederEntry (s : State) (tag : Nat) : Octets := slice (s.domain 0x4810 1) (32 * (tag - 1)) 32

def feederEnabled (e : Octets) : Bool := bitAt (fieldAt e 0 1) 7
def feederPhases (e : Octets) : Bool := bitAt (fieldAt e 0 1) 6
def feederAlarmRuns (e : Octets) : Nat := fieldAt e 1 1
def feederFraction (e : Octets) : Nat := fieldAt e 2 2
def feederThreshold (e : Octets) : Nat := fieldAt e 4 4
def feederRated (e : Octets) : Nat := fieldAt e 8 4
def feederHead (e : Octets) (phase : Nat) : Nat := fieldAt e (12 + 4 * phase) 4

/-- The feeders the table in force describes. -/
def State.feederTags (s : State) : List Nat := (List.range (min 8192 ((s.domain 0x4810 1).length / 32))).map (· + 1)

/-- Every (feeder, phase) a table names a meter as head of. -/
def headsIn (table : Octets) (m : Nat) : List (Nat × Nat) :=
  (List.range (min 8192 (table.length / 32))).flatMap fun i =>
    (List.range 3).filterMap fun p => if fieldAt table (32 * i + 12 + 4 * p) 4 = m then some (i + 1, p) else none

/-- The feeder and phase a meter is head of (R407). -/
def State.headOf (s : State) (m : Nat) : Option (Nat × Nat) := if m = 0 then none else (headsIn (s.domain 0x4810 1) m).head?

/-- A table that names a meter twice is refused (R407). -/
def feederTableOk (table : Octets) : Bool :=
  ((List.range (min 8192 (table.length / 32))).flatMap fun i =>
    (List.range 3).filterMap fun p =>
      let m := fieldAt table (32 * i + 12 + 4 * p) 4
      if m = 0 then none else some m).Nodup

/-- A meter's role: 0 none, 1 child, 2 head (R407, R426). -/
def State.lossRole (s : State) (x : Meter) : Nat :=
  if (s.headOf x.number).isSome then 2 else if x.loss.feederTag ≠ 0 then 1 else 0

/-- A meter's feeder, 0 none. -/
def State.feederOf (s : State) (x : Meter) : Nat :=
  match s.headOf x.number with
  | some (f, _) => f
  | none => x.loss.feederTag

/-- The phase group of a member: 0 A, 1 B, 2 C, 3 P (R408). -/
def State.lossGroup (s : State) (x : Meter) : Nat :=
  match s.headOf x.number with
  | some (_, p) => p
  | none =>
    if x.loss.declaredPhase ≤ 3 then x.loss.declaredPhase
    else if x.line.phase ≤ 2 then x.line.phase else 3

/-- The children of a feeder in a phase group. -/
def State.childrenOf (s : State) (tag group : Nat) : List Meter :=
  s.meters.filter fun x => !x.retiring && s.lossRole x == 1 && x.loss.feederTag == tag && s.lossGroup x == group

/-- Every child of a feeder. -/
def State.children (s : State) (tag : Nat) : List Meter :=
  s.meters.filter fun x => !x.retiring && s.lossRole x == 1 && x.loss.feederTag == tag

/-- The running state of a feeder. -/
def State.feeder (s : State) (tag : Nat) : Feeder := Tab.getD s.loss.feeders tag {}

/-- The running state of a feeder stored. -/
def State.setFeeder (s : State) (tag : Nat) (f : Feeder) : State :=
  { s with loss := { s.loss with feeders := Tab.set s.loss.feeders tag f } }

/-- The open snapshot of a feeder. -/
def State.openSnapshot (s : State) (tag : Nat) : Option Snapshot := s.loss.openSnapshots.find? fun x => x.feeder == tag

/-- The membership generation of a feeder goes on, its run counts return to 0 (R409, R423). -/
def State.memberChanged (s : State) (tag : Nat) : State :=
  if tag = 0 then s
  else
    let f := s.feeder tag
    let g := (f.generation + 1) % 65536
    (s.setFeeder tag { f with generation := g, balances := f.balances.map fun b => { b with run := 0 } })
      |>.offerLimited 0xE587 0 tag [tag, g]

/-! ### Sums (R410, R415) -/

/-- The key of a pipeline's sum. -/
def sumKey (tile pipe n : Nat) : Nat := (tile * 8 + pipe) * 4096 + n

/-- A sum. -/
def State.sum (s : State) (tile pipe n : Nat) : FeederSum := Tab.getD s.loss.sums (sumKey tile pipe n) {}

/-- A sum stored. -/
def State.setSum (s : State) (tile pipe n : Nat) (f : FeederSum) : State :=
  { s with loss := { s.loss with sums := Tab.set s.loss.sums (sumKey tile pipe n) f } }

/-- Members that count in a sum. -/
def State.sumMembers (s : State) (tile pipe n : Nat) : Nat :=
  s.meters.countP fun x => x.home == tile && x.group == pipe && field (x.pendingWord 4) 45 34 == n &&
    field (x.pendingWord 4) 30 15 != 0

/-- The sums of a pipeline: (number, sum). -/
def State.pipeSums (s : State) (tile pipe : Nat) : List (Nat × FeederSum) :=
  s.loss.sums.filterMap fun e => if e.1 / 4096 = tile * 8 + pipe then some (e.1 % 4096, e.2) else none

/-- The sums of a feeder: (tile, pipeline, number, sum). -/
def State.feederSums (s : State) (tag : Nat) : List (Nat × Nat × Nat × FeederSum) :=
  s.loss.sums.filterMap fun e =>
    if e.2.feeder = tag then some (e.1 / 4096 / 8, e.1 / 4096 % 8, e.1 % 4096, e.2) else none

/-- A swap request of two words. -/
def swapRequest (n tag id feeder group : Nat) (head : Bool) : Nat :=
  2 ^ 124 + n * 2 ^ 112 + tag * 2 ^ 104 + id * 2 ^ 64 + feeder * 2 ^ 48 + group * 2 ^ 46 + bit01 head * 2 ^ 45

/-- A swap written to its snapshot queue; one that a full queue refuses is kept among those left, its refusal counted (R154, R414). -/
def State.pushSwap (a : State × List (Nat × Nat × Nat)) (e : Nat × Nat × Nat) : State × List (Nat × Nat × Nat) :=
  let r := a.1.pushPacket e.1 (0x20 + e.2.1) .management
    (packetOfWords [BitVec.ofNat 64 (e.2.2 / 2 ^ 64), BitVec.ofNat 64 e.2.2])
  (r.2, if r.1 then a.2 else a.2 ++ [e])

/-- Waiting swap requests put in the snapshot queues, in order, as far as there is room. -/
def State.pushSwaps (s : State) : State :=
  let r := s.loss.swaps.foldl State.pushSwap (s, [])
  { r.1 with loss := { r.1.loss with swaps := r.2 } }

/-- The tag that a new sum of a feeder is to bear: that of its open snapshot, else 0; a unit that does not hold the baton takes it
from the feeder's other sums, which the active's swaps reach (R415, R549). -/
def State.openTag (s : State) (tag : Nat) : Nat :=
  match s.openSnapshot tag with
  | some o => if o.closing then 0 else o.tag
  | none =>
    if s.pair.state = 0 ∨ s.pair.baton then 0
    else match (s.feederSums tag).find? fun e => e.2.2.2.swapped with
      | some e => field e.2.2.2.snapshot.toNat 63 56
      | none => 0

/-- A pipeline's sum for a group or a head of a feeder that has room for a member (R410). -/
def State.sumWith (s : State) (tile pipe tag group : Nat) (head : Bool) : Option (Nat × FeederSum) :=
  (s.pipeSums tile pipe).find? fun e =>
    e.2.feeder == tag && e.2.group == group && e.2.head == head && decide (s.sumMembers tile pipe e.1 < 4095)

/-- The number of the sum a pipeline has, or gets, for a group or a head: one with fewer than 4,095 members, else the
lowest free number, whose tag a swap is asked to write (R410, R415). -/
def State.sumFor (s : State) (tile pipe tag group : Nat) (head : Bool) : Nat × State :=
  match s.sumWith tile pipe tag group head with
  | some (n, _) => (n, s)
  | none =>
    let l := s.pipeSums tile pipe
    let n := ((List.range (l.length + 1)).find? fun n => !(l.any fun e => e.1 == n)).getD 0
    let s1 := s.setSum tile pipe n { feeder := tag, group := group, head := head }
    (n, ({ s1 with loss := { s1.loss with
      swaps := s1.loss.swaps ++ [(tile, pipe, swapRequest n (s.openTag tag) 0 tag group head)] } } : State).pushSwaps)

/-- The sum a member needs on a pipeline stands, with the tag of the feeder's open snapshot (R415). -/
def State.sumStands (s : State) (tile pipe tag group : Nat) (head : Bool) : Bool :=
  match s.sumWith tile pipe tag group head with
  | some (_, f) => f.swapped && field f.snapshot.toNat 63 56 == s.openTag tag
  | none => false

/-- Word 4 of a member given its feeder and its sum through a freeze (R343, R409, R410). -/
def State.bindSum (s : State) (m : Nat) : State :=
  match s.meter? m with
  | none => s
  | some x =>
    let tag := s.feederOf x
    let w := x.pendingWord 4
    if tag = 0 then
      (if field w 30 15 = 0 then s else s.freeze m [(4, BitVec.ofNat 64 (putField (putField w 30 15 0) 45 34 0))])
    else
      let (n, s1) := s.sumFor x.home x.group tag (s.lossGroup x) (s.lossRole x == 2)
      let w' := putField (putField w 30 15 tag) 45 34 n
      if w' = w then s1 else s1.freeze m [(4, BitVec.ofNat 64 w')]

/-- A change of a member's feeder or phase: generations, FEEDER_TAG, word 4 (R409). -/
def State.changeMembership (s : State) (m oldTag : Nat) : State :=
  match s.meter? m with
  | none => s
  | some x =>
    let tag := s.feederOf x
    let s1 := if oldTag = tag then s.memberChanged tag else (s.memberChanged oldTag).memberChanged tag
    (if oldTag = tag then s1 else s1.sendCommand m Cmd.feederTag 0 (be 2 tag)).bindSum m

/-! ### Theft indicators (R421, R422): bits 7 TAMPER, 6 PHASE_MISMATCH, 5 ZERO_AT_LOAD, 4 REVERSAL, 3 MISSING -/

/-- An indicator set, with its event the first time. -/
def State.setIndicator (s : State) (m bit : Nat) : State :=
  match s.meter? m with
  | none => s
  | some x =>
    if bitAt (x.word 15) bit then s
    else (s.writeHot m [(15, putBit (x.word 15) bit true)]).offerLimited 0xE585 0 bit [m, bit]

/-- An indicator cleared. -/
def State.clearIndicator (s : State) (m bit : Nat) : State :=
  match s.meter? m with
  | none => s
  | some x => if bitAt (x.word 15) bit then s.writeHot m [(15, putBit (x.word 15) bit false)] else s

/-- Indicators set by a MeterStatus (R422). -/
def State.statusIndicators (s : State) (m status : Nat) : State :=
  let s1 := if bitAt status 15 || bitAt status 14 || bitAt status 8 then s.setIndicator m 7 else s
  match s1.meter? m with
  | none => s1
  | some x => if bitAt status 13 && !x.loss.exportExpected then s1.setIndicator m 4 else s1

/-- PHASE_MISMATCH after a detection (R422). -/
def State.checkPhase (s : State) (m : Nat) : State :=
  match s.meter? m with
  | none => s
  | some x =>
    if x.line.phase = 3 ∨ x.line.agreeing < s.obj 0x3014 2 then s
    else if x.line.reversed || (decide (x.loss.declaredPhase ≤ 2) && x.loss.declaredPhase != x.line.phase) then
      s.setIndicator m 6
    else if x.loss.declaredPhase = x.line.phase then s.clearIndicator m 6
    else s

/-- INDICATOR_CLEAR's effect. -/
def indicatorClear (m : Nat) (s : State) : Done := Done.ok ((s.clearIndicator m 7).clearIndicator m 4)

/-- INDICATOR_CLEAR: a write of 1 to 0xC070.08 (R422). -/
def execIndicatorClear (r : Req) (meter : Nat) (s : State) : Result :=
  ok (udxWrite s r 0xC070 8 meter (be 1 1) fun s x =>
    heldOr s meter { session := x.id, tag := r.tag, index := 0xC070, sub := 8, args := [] } (indicatorClear meter))

/-- A member's feeder or phase changed by the host. PHASE_MISMATCH follows a new DeclaredPhase; one that declares no phase clears it
unless the meter is reversed (R422; DESIGN CHOICE, log 91). -/
def membershipChange (m sub value : Nat) (s : State) : Done :=
  match s.meter? m with
  | none => Done.refuse s Status.noMeter
  | some x =>
    if sub = 1 then
      (if 8192 < value then Done.refuse s Status.outOfRange
       else if x.loss.feederTag = value then Done.ok s
       else Done.ok ((s.modMeter m fun x => { x with loss := { x.loss with feederTag := value } }).changeMembership m
         (s.feederOf x)))
    else if sub = 2 then
      (if 4 < value then Done.refuse s Status.outOfRange
       else
         let s1 := s.modMeter m fun x => { x with loss := { x.loss with declaredPhase := value } }
         let s2 := if value ≤ 2 then s1.checkPhase m else if x.line.reversed then s1 else s1.clearIndicator m 6
         Done.ok (if x.loss.feederTag ≠ 0 ∧ s.lossGroup x ≠ (match s1.meter? m with
             | some y => s1.lossGroup y
             | none => 0)
           then s2.changeMembership m (s.feederOf x) else s2))
    else if sub = 6 then Done.ok (s.modMeter m fun x => { x with loss := { x.loss with exportExpected := decide (value ≠ 0) } })
    else indicatorClear m s

/-- MEMBERSHIP_CHANGE: a write of FeederTag (sub 1) or DeclaredPhase (sub 2) of 0xC070 (R409). -/
def execMembershipChange (r : Req) (meter sub value : Nat) (s : State) : Result :=
  ok (udxWrite s r 0xC070 sub meter (be (if sub = 1 then 2 else 1) value) fun s x =>
    heldOr s meter { session := x.id, tag := r.tag, index := 0xC070, sub := sub, args := [value] }
      (membershipChange meter sub value))

/-! ### Abandonment (R418) -/

/-- Every open snapshot abandoned without a balance. Reasons: 0 power fail, 1 mains FREE_RUN, 2 baton handover. -/
def State.abandonSnapshots (s : State) (reason : Nat) : State :=
  let ids := (s.loss.openSnapshots.map (·.id)).eraseDups
  let s1 : State := { s with loss := { s.loss with openSnapshots := [] } }
  ids.foldl (fun s id => (s.bump 0x4850 5).offer 0xE588 0 [id, reason]) s1

/-- Snapshots whose named crossing comes while the authority tile is in FREE_RUN are abandoned with the others. -/
def State.snapshotCrossing (s : State) (number state : Nat) : State :=
  if state = 2 ∧ (s.loss.openSnapshots.any fun x => x.cycle == number) then s.abandonSnapshots 1 else s

end Sys2Proof.Machine
end

