-- ==== Sys2Proof/Machine/Billing.lean ====
section
/-! DEFINITION. The billing fold, the journal, periods, tariffs and demand (10 R362 to R395). -/

namespace Sys2Proof.Machine

/-! ### The fold of a meter (R377, R388 to R390) -/

/-- A register of the cold record. -/
def Meter.coldAt (x : Meter) (tariff r : Nat) : Nat := (x.cold.getD (tariff * 4 + r) 0).toNat

/-- A register of the cold record raised (R362). -/
def addCold (cold : List Word) (tariff r n : Nat) : List Word :=
  modifyAt ((List.range 64).map fun i => cold.getD i 0) (tariff * 4 + r) fun w => w + BitVec.ofNat 64 n

/-- The fold base of a register; unset where none is held (R363). -/
def Billing.base (b : Billing) (r : Nat) : Nat := b.foldBase.getD r 0xFFFFFFFFFFFFFFFF

/-- An unset fold base (R363). -/
def unsetBase : Nat := 0xFFFFFFFFFFFFFFFF

/-- One register folded: cold registers and bases after it (R377). -/
def foldRegister (x : Meter) (st : List Word × List Nat × Nat) (r : Nat) : List Word × List Nat × Nat :=
  let (cold, bases, extra) := st
  let t := x.total r
  let base := bases.getD r unsetBase
  if t = unsetTotal then st
  else if base = unsetBase then (cold, modifyAt bases r fun _ => t, extra)
  else
    let p := wrapSub 48 t (x.sinceBreak r)
    let c1 :=
      if base < p then addCold (addCold cold x.breakTariff r (p - base)) x.bookTariff r (wrapSub 48 t p)
      else if base < t then addCold cold x.bookTariff r (t - base)
      else cold
    let e0 := field extra (55 - 13 * r) (43 - 13 * r)
    let c2 := addCold c1 x.bookTariff r ((x.extra r + 8192 - e0) % 8192)
    (c2, modifyAt bases r fun _ => t, putField extra (55 - 13 * r) (43 - 13 * r) (x.extra r))

/-- The fold bases equal to the totals, charge and Extra fields of a rebuilt hot record (R380). -/
def Meter.rebased (x : Meter) : Meter :=
  { x with billing := { x.billing with
      foldBase := (List.range 4).map fun r => if x.total r = unsetTotal then unsetBase else x.total r
      extraBase := putField (putField (putField (putField 0 55 43 (x.extra 0)) 42 30 (x.extra 1)) 29 17 (x.extra 2)) 16 4 (x.extra 3)
      chargeBase := x.chargeTotal } }

/-- The four bases as held. -/
def Billing.bases (b : Billing) : List Nat := (List.range 4).map fun r => b.base r

/-- Flags of a period (R363). -/
def flagRegression : Nat := 2147483648
def flagIncomplete : Nat := 1073741824
def flagSpan : Nat := 536870912
def flagSplit : Nat := 268435456

/-- Pages written to a tile's record zone now: its wear and the write sequence go on (R474, R497). -/
def State.zoneWritten (s : State) (t n : Nat) : State :=
  if n = 0 then s
  else
    let day := s.elapsed / 86400000000000
    { s with store := { s.store with tiles := Tab.modify s.store.tiles t {} fun x =>
        { x with zoneWrites := x.zoneWrites + n, writeSeq := (x.writeSeq + n) % 2 ^ 48
                 zoneDays := (Tab.modify x.zoneDays day 0 (· + n)).filter fun e => decide (day < e.1 + 30) } } }

/-- A meter's open period closed by a record (R388, R390). -/
def State.closeMeterPeriod (s : State) (m close reason : Nat) : State :=
  match s.meter? m with
  | none => s
  | some x =>
    let b := x.billing
    let rec_ : PeriodRecord :=
      { meter := m, periodIndex := b.periodIndex, periodStart := b.periodStart, close := close, flags := b.periodFlags
        cold := (List.range 64).map fun i => x.cold.getD i 0, demandMax := b.demandMax, credit := ofSigned 64 x.credit
        reason := reason, incarnation := x.incarnation }
    let n := if s.billing.periods.length % 21 = 20 then 1 else 0
    (({ s with billing := { s.billing with periods := s.billing.periods ++ [rec_] } } : State).zoneWritten x.home n).modMeter m fun x =>
      { x with billing := { x.billing with demandMax := [], periodFlags := 0, periodStart := close
                                           periodIndex := (s.structure x.slotMap).periodIndex } }

/-- Bytes 0 to 63 of a billing record (R363). -/
def Billing.headBytes (b : Billing) : Octets :=
  (List.range 4).flatMap (fun r => be 8 (b.base r)) ++ be 8 b.extraBase ++ be 8 b.chargeBase ++ be 4 b.periodIndex ++
    be 4 b.periodStart ++ be 4 b.lastFold ++ be 4 b.periodFlags

/-- A fold's writes to a meter's records in DRAM: the cold registers that changed, each of 8 bytes, and the head of its billing
record (R184, R362, R363, R496). -/
def State.foldWrites (s : State) (x : Meter) (cold : List Word) (b : Billing) : State :=
  let s1 := ((List.range 64).filter fun i => cold.getD i 0 != x.cold.getD i 0).foldl (fun s i =>
    s.dramWrite x.home (512 * x.record + 8 * i) (be 8 (cold.getD i 0).toNat)) s
  s1.dramWrite x.home (134217728 + 256 * x.record) b.headBytes

/-- The fold of a meter (R377): the period of a meter that lags its structure closes first (R388). -/
def State.foldMeter (s0 : State) (m : Nat) : State :=
  let s := match s0.meter? m with
    | some x =>
      let c := s0.structure x.slotMap
      if x.billing.periodIndex < c.periodIndex then s0.closeMeterPeriod m c.lastClose 0 else s0
    | none => s0
  match s.meter? m with
  | none => s
  | some x =>
    let b := x.billing
    let (cold, bases, extra) := (List.range 4).foldl (foldRegister x)
      ((List.range 64).map fun i => x.cold.getD i 0, b.bases, b.extraBase)
    if bases = b.bases ∧ extra = b.extraBase ∧ x.chargeTotal = b.chargeBase then s
    else
      let late := decide (x.lastTime < b.periodStart)
      let flags := (if late then 128 else 0) + (if b.spanSeen then 64 else 0)
      let b' : Billing := { b with
        foldBase := bases, extraBase := extra, chargeBase := x.chargeTotal, lastFold := s.tbSeconds
        periodFlags := if late then b.periodFlags ||| flagRegression else b.periodFlags, spanSeen := false }
      let s1 := (s.foldWrites x cold b').setMeter { x with cold := cold, billing := b' }
      let s2 := s1.journal x.home { kind := 1, flags := flags, meter := m
                                    body := [x.bookTariff, x.breakTariff, x.seqTop, x.lastTime, x.total 0, x.total 1, x.total 2, x.total 3,
          x.sinceBreak 0, x.sinceBreak 1, x.sinceBreak 2, x.sinceBreak 3, x.chargeTotal, x.extra 0, x.extra 1, x.extra 2,
          x.extra 3] }
      let s3 := s2.bump 0x4003 1
      let s4 := if late then s3.bump 0x4003 4 else s3
      -- export active cold registers that rise without ExportExpected (R422)
      if (List.range 16).any (fun t => (cold.getD (t * 4 + 1) 0).toNat != x.coldAt t 1) && !x.loss.exportExpected then
        s4.setIndicator m 4
      else s4

/-- A meter the fold leaves out: its quarantine bit is set, or its double read meets an uncorrectable word (R86, R375). -/
def State.foldsOut (s : State) (x : Meter) : Bool := s.quarantined x || s.hotUncorrectable x

/-- A management core reads a meter's cold and billing records in DRAM; the result tells whether both read (R181, R183, R362, R363,
R496). -/
def State.loadBilling (s : State) (x : Meter) : Bool × State :=
  let a := s.dramLoad x.home (512 * x.record) 512
  let b := a.2.dramLoad x.home (134217728 + 256 * x.record) 256
  (a.1 && b.1, b.2)

/-- A meter's hot record read by the double read of R376, and its cold and billing records; the result tells whether all read. An
uncorrectable hot word quarantines the meter (R86); a bank not on, or a DRAM word that does not read, leaves it as it is (R176, R183;
DESIGN CHOICE, log 87). -/
def State.readRecords (s : State) (x : Meter) : Bool × State :=
  match s.barred x.home Producer.dma.code (x.hotWords.map (·.2)) with
  | some a => (false, (s.access x.home a Producer.dma.code).2)
  | none =>
    match s.firstBad x.home x.hotWords with
    | some bad =>
      (false, (s.scratchUncorrectable x.home bad.1 bad.2).modMeter x.number fun x => { x with eccQuarantine := true })
    | none => (s.hotCorrected x).loadBilling x

/-- The fold's handling of one meter: one whose records do not read is left out, and its next fold tries again (log 87). -/
def State.foldOne (s : State) (m : Nat) : State :=
  match s.meter? m with
  | none => s
  | some x =>
    if s.quarantined x then s
    else
      let r := s.readRecords x
      if r.1 then r.2.foldMeter m else r.2

/-- Journal pages of a tile: 255 entries each (R378). -/
def pagesOf (tile seconds ns number seq : Nat) : Nat → List JournalEntry → List JournalPage
  | 0, _ => []
  | n + 1, es =>
    if es.isEmpty then []
    else { number := number, tile := tile, seq := seq % 2 ^ 48, seconds := seconds, ns := ns, entries := es.take 255 } ::
      pagesOf tile seconds ns (number + 1) (seq + 1) n (es.drop 255)

/-- The open entries of a tile written in journal pages; where the exhausted zone freed no block folds go on without a journal (R378,
R500). -/
def State.writeJournal (s : State) (tile : Nat) : State :=
  let es := Tab.getD s.billing.openEntries tile []
  let ps := if (Tab.getD s.store.tiles tile {}).noJournal then [] else
    pagesOf tile s.tbSeconds (s.tbNs % 4294967296) s.billing.nextPage (Tab.getD s.store.tiles tile {}).writeSeq
      (es.length / 255 + 1) es
  ({ s with billing := { s.billing with
    openEntries := Tab.erase s.billing.openEntries tile
    pages := s.billing.pages ++ ps, nextPage := s.billing.nextPage + ps.length } } : State).zoneWritten tile ps.length

/-- Hot-record addresses of a tile's sweep share (R375). -/
def State.sweepShare (s : State) : Nat := divUp 262144 (s.obj 0x4000 1)

/-- The meters of a tile whose records lie in `n` addresses from `at_` on, in address order. -/
def State.metersFrom (s : State) (tile at_ n : Nat) : List Nat :=
  let l := (s.meters.filter fun x => x.home == tile && decide ((x.record + 262144 - at_) % 262144 < n)).map fun x =>
    ((x.record + 262144 - at_) % 262144, x.number)
  (l.foldl (fun acc e => insertKey (·.1) e acc) []).map (·.2)

/-- The meters a fold of a tile visits: those named in its cold-store queues since the last fold (R375). -/
def State.namedHere (s : State) (tile : Nat) : List Nat :=
  (Tab.getD s.billing.named tile []).filter fun m => match s.meter? m with
    | some x => x.home == tile
    | none => false

/-- A meter whose quarantine bit stands: a fold that leaves it out takes it first once the bit has cleared (R375). -/
def State.frozenMeter (s : State) (m : Nat) : Bool :=
  match s.meter? m with
  | some x => s.quarantined x
  | none => false

/-- Meters of a tile folded, a fence, and the fold's pages (R375 to R378, R185). Those left out for a freeze are named for the next
fold. -/
def State.foldThese (s : State) (tile : Nat) (ms : List Nat) : State :=
  let s1 : State := { s with billing := { s.billing with
    named := Tab.set s.billing.named tile (ms.eraseDups.filter s.frozenMeter) } }
  let s3 := ((ms.foldl (fun s m => s.foldOne m) s1).mergeFence tile).writeJournal tile
  s3.setObj 0x4000 2 (max ((s.elapsed - s.heat.boundaryAt) / 1000) 0)

/-- The fold of a tile: meters named since the last fold, then the sweep share; the pages (R375 to R378). -/
def State.fold (s : State) (tile : Nat) : State :=
  let at_ := Tab.getD s.billing.sweep tile 0
  let n := s.sweepShare
  ({ s with billing := { s.billing with sweep := Tab.set s.billing.sweep tile ((at_ + n) % 262144) } } : State).foldThese tile
    (s.namedHere tile ++ s.metersFrom tile at_ n)

/-- The fold of the open millisecond at a power-fail warning: the meters named (R379). -/
def State.foldNamed (s : State) (tile : Nat) : State := s.foldThese tile (s.namedHere tile)

/-- The start of the billing folds of a new millisecond; a fold still to run is delayed (R41, R375). -/
def State.startFolds (s : State) : State :=
  let s1 := s.heat.foldDue.foldl (fun s t =>
    (s.bump 0x4003 2).offerLimited 0xE500 t 0 [t, (s.tbNs - s.heat.foldMs * 1000000) / 1000]) s
  { s1 with heat := { s1.heat with foldMs := s.tbMs, foldAt := s.tbNs, foldDue := List.range s.nTiles } }

/-! ### Transitions (R378, R385 to R388, R394) -/

/-- A TRANSITION entry in every tile's journal: kind 1 demand interval closed, 2 tariff switch, 3 period close, 4 calendar
activated. -/
def State.transition (s : State) (structure_ kind instant old new : Nat) : State :=
  s.eachTile fun s t => s.journal t { kind := 2, body := [structure_, kind, instant, old, new] }

/-- A tariff switch of a structure (R385). -/
def State.tariffSwitch (s : State) (n t old new : Nat) : State :=
  (((s.transition n 2 t old new).setStructure n { s.structure n with lastSwitch := t }).setObj 0x4121 (n + 1) new).offer
    0xE501 0 [n, old, new]

/-- The switch of a structure at an instant, where its calendar has one. -/
def State.switchAt (s : State) (n t : Nat) : State :=
  let c := s.structure n
  if c.inForce && switchesAt c.image t then s.tariffSwitch n t (tariffAt c.image t) (tariffIn c.image t) else s

/-- A demand interval's end for a structure (R386). -/
def State.demandEnd (s : State) (n t : Nat) : State :=
  (s.transition n 1 t 0 0).setStructure n { s.structure n with lastDemandEnd := t }

/-- True where a demand interval of a structure ends at an instant. -/
def State.demandEndsAt (s : State) (n t : Nat) : Bool :=
  let e := s.structEntry n
  entryEnabled e && demandEndAt (s.structure n).image (entryMinutes e) t

/-- The demand interval that ends at an instant closed, unless it is already (R394). -/
def State.closeDemand (s : State) (n t : Nat) : State :=
  if s.demandEndsAt n t && decide ((s.structure n).lastDemandEnd < t) then s.demandEnd n t else s

/-- TARIFF_SWITCH at the heat boundary after its instant (R41, R385); the demand interval that ends there closes first, under the old
tariff (R394). -/
def execTariffSwitch (structure_ t : Nat) (s : State) : Result :=
  let c := s.structure structure_
  okIf (s.onBoundary && c.inForce && decide (t ≤ s.tbSeconds) && decide (c.lastSwitch < t) && decide (c.appliedAt < t) &&
    switchesAt c.image t) s ((s.closeDemand structure_ t).switchAt structure_ t)

/-- The slot-map word of a structure now: its calendar's, or that of the activation that switched to the calendar where no
later switch of it lies within 60 s (R366, R384). -/
def State.slotMapOf (s : State) (c : Structure) : Word :=
  match c.replaced with
  | some (tariff, rate) =>
    if (lastSwitch c.image ((s.tbSeconds + 60 - c.appliedAt) / 60 + 1) (s.tbSeconds + 60)).any fun t => c.appliedAt < t then
      slotMapFor c.image s.tbSeconds
    else
      let now := tariffIn c.image c.appliedAt
      slotMapWord now tariff c.appliedAt (calRate c.image now) rate
  | none => slotMapFor c.image s.tbSeconds

/-- The slot-map word of a structure on every tile (R366). -/
def State.rewriteSlotMap (s : State) (n : Nat) : State :=
  let c := s.structure n
  if c.inForce then
    ((s.setStructure n { c with slotMap := s.slotMapOf c }).eachTile fun s t =>
      s.wordWritten 0 t (slotMapAddress s.tableHalf n)).mgmt 5 [n, (s.slotMapOf c).toNat] []
  else s

/-- The slot-map word and 0x4121 for the tariff in force now (R393, R395). -/
def State.retariff (s : State) (n : Nat) : State :=
  let s1 := s.rewriteSlotMap n
  if (s1.structure n).inForce then s1.setObj 0x4121 (n + 1) (s1.tariffNow n) else s1

/-- A structure's slot-map word is to be rewritten for a switch: its calendar's latest one by 60 s from now is not the word's
(R366). -/
def State.slotMapDue (s : State) (n : Nat) : Bool :=
  let c := s.structure n
  c.inForce && (lastSwitch c.image 2881 (s.tbSeconds + 60)).isSome && s.slotMapOf c != c.slotMap

/-- SLOT_MAP_REWRITE at the first heat boundary at or after 60 s before a switch (R366). -/
def execSlotMapRewrite (structure_ : Nat) (s : State) : Result :=
  okIf (s.onBoundary && s.slotMapDue structure_) s (s.rewriteSlotMap structure_)

/-- DEMAND_INTERVAL_END at an instant that has come (R386). -/
def execDemandIntervalEnd (structure_ t : Nat) (s : State) : Result :=
  okIf (s.onBoundary && s.demandEndsAt structure_ t && decide (t ≤ s.tbSeconds) && decide ((s.structure structure_).lastDemandEnd < t)) s
    (s.demandEnd structure_ t)

/-- A structure's period closes at an instant (R387). -/
def State.periodClose (s : State) (n t : Nat) : State :=
  let c := s.structure n
  (((s.transition n 3 t c.periodIndex (c.periodIndex + 1)).setStructure n
    { c with periodIndex := c.periodIndex + 1, lastClose := t, closeRequests := c.closeRequests.filter (· != t) }).setObj
      0x4131 (n + 1) (c.periodIndex + 1)).offer 0xE503 0 [n, c.periodIndex] |>.mgmt 4 [n, t] []

/-- A period close of a structure is due: scheduled by its calendar, or requested, in the order of their instants (R387). -/
def State.closeDue (s : State) (n t : Nat) : Bool :=
  let c := s.structure n
  decide (t ≤ s.tbSeconds) && decide (c.lastClose < t) && !c.closeRequests.any (fun r => decide (r < t)) &&
    ((c.inForce && decide (c.appliedAt ≤ t) && closesAt c.image t) || c.closeRequests.contains t)

/-- The transitions of a structure that are due at an instant and not yet applied, in their order (R379, R394). -/
def State.dueTransitions (s : State) (n t : Nat) : State :=
  let c := s.structure n
  let s1 := s.closeDemand n t
  let s2 := if decide (c.lastSwitch < t ∧ c.appliedAt < t) then s1.switchAt n t else s1
  if s2.closeDue n t then s2.periodClose n t else s2

/-- PERIOD_CLOSE at a heat boundary: the demand interval and the tariff switch of its instant come first (R387, R394). -/
def execPeriodClose (structure_ t : Nat) (s : State) : Result :=
  okIf (s.onBoundary && s.closeDue structure_ t) s (s.dueTransitions structure_ t)

/-- PeriodCloseRequest submitted. -/
def periodCloseRequest (n t : Nat) (s : State) : Done :=
  if 254 < n then Done.refuse s Status.outOfRange
  else
    let c := s.structure n
    if t ≤ c.lastClose then Done.refuse s Status.timeRegression
    else Done.ok (s.setStructure n { c with closeRequests := c.closeRequests ++ [t] })

/-- PERIOD_CLOSE_REQUEST: a submit of 0x4130 with its structure and instant. -/
def execPeriodCloseRequest (r : Req) (structure_ instant : Nat) (s : State) : Result :=
  ok (udxAct s r 0x4130 3 0 (be 1 1) [(0x4130, 1, .num structure_), (0x4130, 2, .num instant)] fun s _ => periodCloseRequest structure_ instant s)

/-! ### Calendars (R384) -/

/-- A calendar image sealed to a meter in frames of 60 fragment bytes, then TARIFF_ACTIVATE. -/
def State.sendCalendar (s : State) (m : Nat) (image : Octets) (effective : Nat) : State :=
  match s.meter? m with
  | none => s
  | some x =>
    if !x.served then s
    else
      let n := divUp image.length 60
      let ver := fieldAt image 0 2
      let s1 := (List.range n).foldl (fun s i =>
        (s.enqueue m 0 (payloadPacket 0 m 8 x.port x.phase 0
          (be 2 ver ++ be 1 i ++ be 1 n ++ (image.drop (60 * i)).take 60))).2) s
      s1.sendCommand m Cmd.tariffActivate 0 (be 2 ver ++ be 4 effective)

/-- The enrolled meters of a structure. -/
def State.structureMeters (s : State) (n : Nat) : List Nat :=
  (s.meters.filter fun x => !x.retiring && x.slotMap == n).map (·.number)

/-- CalendarActivate written 1. -/
def calendarActivate (n effective : Nat) (s : State) : Done :=
  let c := s.structure n
  if c.heldImage.isEmpty || !calendarOk c.heldImage (entryTariffs (s.structEntry n)) then Done.refuse s Status.refused
  else if effective ≤ c.lastClose then Done.refuse s Status.timeRegression
  else if effective < s.tbSeconds + 60 then Done.refuse s Status.refused
  else
    let at_ := divUp effective 60 * 60
    let ms := s.structureMeters n
    let s1 := s.setStructure n { c with pendingImage := c.heldImage, pendingAt := at_, pending := true, metersPending := ms }
    Done.ok (ms.foldl (fun s m => s.sendCalendar m c.heldImage at_) s1)

/-- CALENDAR_ACTIVATE for the selected structure. -/
def execCalendarActivate (r : Req) (structure_ effective : Nat) (s : State) : Result :=
  ok (udxAct s r 0x4120 6 0 (be 1 1) [(0x4120, 1, .num structure_), (0x4120, 5, .num effective)] fun s _ =>
    calendarActivate structure_ effective s)

/-- The calendar of a structure applied at its effective instant (R384). -/
def State.calendarApply (s : State) (n : Nat) : State :=
  let c := s.structure n
  let old := if c.inForce then tariffAt c.image c.pendingAt else 0
  let new := tariffIn c.pendingImage c.pendingAt
  let s1 := (s.setStructure n { c with
    image := c.pendingImage, inForce := true, pending := false, pendingImage := [], appliedAt := c.pendingAt
    replaced := if old = new then none else some (old, if c.inForce then calRate c.image old else 0) })
  let s2 := (s1.transition n 4 c.pendingAt old new).offer 0xE502 0 [n, fieldAt c.pendingImage 0 2]
  let s3 := s2.rewriteSlotMap n
  if old = new then s3.setObj 0x4121 (n + 1) new else s3.tariffSwitch n c.pendingAt old new

/-- CALENDAR_APPLY. -/
def execCalendarApply (structure_ : Nat) (s : State) : Result :=
  let c := s.structure structure_
  okIf (s.onBoundary && c.pending && decide (c.pendingAt ≤ s.tbSeconds)) s (s.calendarApply structure_)

/-! ### Demand (R373, R374, R386, R391) -/

/-- Fields of an interval record of 4 words, read as one number of 256 bits. -/
def recordNat (ws : List Word) : Nat := ws.foldl (fun a w => a * 18446744073709551616 + w.toNat) 0

/-- Minutes of a MinutesCode; 0 for any other value (R374). -/
def minutesOf (code : Nat) : Nat :=
  if code = 0 then 5 else if code = 1 then 10 else if code = 2 then 15 else if code = 3 then 30 else if code = 4 then 60 else 0

/-- A span of seconds holds some instant of an interval that ends at `end_`. -/
def spanMeets (span : Nat × Nat) (start end_ : Nat) : Bool := decide (start < span.2) && decide (span.1 < end_)

/-- True where an interval counts for demand (R386). -/
def State.intervalCounts (s : State) (x : Meter) (minutes end_ : Nat) : Bool :=
  let e := s.structEntry x.slotMap
  let c := s.structure x.slotMap
  decide (minutes = entryMinutes e) && demandEndAt c.image minutes end_ && decide (x.billing.periodStart < end_) &&
    !(c.incomplete.any fun sp => spanMeets sp (end_ - 60 * minutes) end_) &&
    !(x.billing.splits.any fun t => decide (end_ - 60 * minutes ≤ t ∧ t < end_))

/-- One interval's demand taken (R386). -/
def State.takeDemand (s : State) (m tariff minutes end_ delta : Nat) : State :=
  match s.meter? m with
  | none => s
  | some x =>
    if s.intervalCounts x minutes end_ then
      let w := delta * 60 / minutes
      let dm := (List.range 16).map fun i => x.billing.demandMax.getD i (0, 0)
      if (dm.getD tariff (0, 0)).1 < w then
        s.setMeter { x with billing := { x.billing with demandMax := modifyAt dm tariff fun _ => (w, end_) } }
      else s
    else s.bump 0x4003 7

/-- The intervals of a block record: (tariff, end, Wh), oldest first (R374). -/
def blockIntervals (v : Nat) : List (Nat × Nat × Nat) :=
  let minutes := minutesOf (field v 191 189)
  let count := field v 188 185
  let scale := 10 ^ field v 184 182
  let idx := field v 173 170
  (List.range count).map fun i =>
    (if i < idx then field v 177 174 else field v 181 178, field v 223 192 - (count - 1 - i) * 60 * minutes,
     field v (127 - 12 * i) (116 - 12 * i) * scale)

/-- Demand of a block record, and the tariff-span flag of a booking earlier than the previous switch (R367, R386). -/
def State.drainDemand (s : State) (v : Nat) (block : Bool) : State :=
  let m := field v 255 224
  let t := field v 223 192
  match s.meter? m with
  | none => s
  | some x =>
    let c := s.structure x.slotMap
    let w := c.slotMap.toNat
    let early : Bool := c.inForce && decide (t ≤ s.tbSeconds) &&
      (let sw := (s.tbSeconds / 60 / 2 ^ 24) * 2 ^ 24 * 60 + field w 55 32 * 60
       match lastSwitch c.image 2880 ((if sw ≤ s.tbSeconds then sw else sw - 2 ^ 24 * 60) - 60) with
       | some p => decide (t ≤ p)
       | none => false)
    let s1 := if early then
        (s.setMeter { x with billing := { x.billing with spanSeen := true, periodFlags := x.billing.periodFlags ||| flagSpan } }).bump
          0x4003 3
      else s
    if block then
      (blockIntervals v).foldl (fun s e => s.takeDemand m e.1 (minutesOf (field v 191 189)) e.2.1 e.2.2) s1
    else s1

/-- A clock adjustment splits the demand intervals that hold the two times (R391). -/
def State.clockAdjusted (s : State) (m old new : Nat) : State :=
  let d := if old ≤ new then new - old else old - new
  if s.obj 0x4001 1 < d then
    ((s.modMeter m fun x => { x with billing := { x.billing with
        splits := old :: new :: x.billing.splits, periodFlags := x.billing.periodFlags ||| flagSplit } }).bump 0x4003 8).offer
      0xE505 0 [m, ofSigned 32 ((new : Int) - old)]
  else s

/-- SET_TIME after a booked reading whose MeterTime differs from its receive second (R392). -/
def State.checkClock (s : State) (m meterTime rxSecond : Nat) : State :=
  match s.meter? m with
  | none => s
  | some x =>
    let d := if meterTime ≤ rxSecond then rxSecond - meterTime else meterTime - rxSecond
    let ready : Bool := match x.lastSetTime with
      | none => true
      | some t => s.due t (x.reportInterval * 1000000000)
    if s.obj 0x4001 2 < d && ready && s.clock.state != 0 then
      (s.sendCommand m Cmd.setTime 0 (be 8 0 ++ be 1 (if s.obj 0x4001 1 < d then 0 else 1))).modMeter m fun x =>
        { x with lastSetTime := some s.elapsed }
    else s

/-! ### Changes of time and outages (R393 to R395) -/

/-- The whole-minute instants after `a` up to `b`. -/
def minutesIn (a b : Nat) : List Nat := (List.range (b / 60 - a / 60)).map fun i => (a / 60 + 1 + i) * 60

/-- Those instants in order, with the seconds within a minute at which an offset of an image takes effect. -/
def instantsIn (c : Octets) (a b : Nat) : List Nat :=
  let offs := ((calOffsetList c).map (·.1)).filter fun e => a < e && e ≤ b && e % 60 != 0
  (offs ++ minutesIn a b).foldl (fun acc e => insertKey id e acc) []

/-- The transitions of one instant in their order (R394). -/
def State.transitionsAt (s : State) (n t : Nat) : State :=
  let s1 := if s.demandEndsAt n t then s.demandEnd n t else s
  let s2 := s1.switchAt n t
  if s2.closeDue n t then s2.periodClose n t else s2

/-- Structures whose entries are enabled. -/
def State.structures (s : State) : List Nat := (List.range 255).filter fun n => entryEnabled (s.structEntry n)

/-- A span's demand intervals are incomplete for a structure. -/
def State.markIncomplete (s : State) (n a b : Nat) : State :=
  let c := s.structure n
  s.setStructure n { c with incomplete := (a, b) :: c.incomplete }

/-- A step of the timebase, in seconds before and after (R393). The state already holds the new time. -/
def State.billingStep (s : State) (stepNs : Int) (before after : Nat) : State :=
  let s1 := s.eachTile fun s t => s.journal t { kind := 6, body := [ofSigned 64 stepNs, before, after] }
  s1.structures.foldl (fun s n =>
    let s2 := if before ≤ after then ((instantsIn (s.structure n).image before after).foldl (fun s t => s.transitionsAt n t) s).markIncomplete n before after
      else s.setStructure n { s.structure n with lastSwitch := min (s.structure n).lastSwitch after
                                                 lastDemandEnd := min (s.structure n).lastDemandEnd after
                                                 appliedAt := min (s.structure n).appliedAt after }
    let s3 := s2.retariff n
    if decide (after < (s3.structure n).lastClose) ||
        s3.meters.any fun x => x.slotMap == n && decide (after < x.billing.periodStart) then
      s3.offer 0xE504 0 [n, (s3.structure n).periodIndex, ofSigned 64 (stepNs / 1000000000)]
    else s3) s1

/-- Marks of an outage span in TB64 ns: every structure's intervals of it, every meter's open period (R395). -/
def State.markOutage (s : State) (a b : Nat) : State :=
  let sa := a / 1000000000
  let sb := b / 1000000000
  let marked := (s.structures.map fun n => 1 + (minutesIn sa sb).countP fun t => s.demandEndsAt n t).sum
  let s1 := s.structures.foldl (fun s n => s.markIncomplete n sa (sb + 1)) s
  let s2 : State := { s1 with meters := s1.meters.map fun x =>
    { x with billing := { x.billing with periodFlags := x.billing.periodFlags ||| flagIncomplete } } }
  s2.offer 0xE507 packageWide [(b - a) / 1000000, marked]

end Sys2Proof.Machine
end

