-- ==== Sys2Proof/Machine/Commands.lean ====
section
/-! DEFINITION. Enrolment, incarnations, key epochs, freezes, commands and meter silence (09 R341 to R348). -/

namespace Sys2Proof.Machine

/-! ### Issue groups and records (R166, R206, R208, R209) -/

/-- Records of an issue group: the default allocation gives each group half an area (log 21). -/
def State.groupRecords (s : State) (tile g : Nat) : Nat := (Tab.getD s.place.allocations (tile * 8 + g) { area := 0, records := 32768 }).records

/-- The i-th hot-record number of a group's allocation: groups 0 and 1 take the even and the odd records of area F, groups 2
and 3, 4 and 5, 6 and 7 halves of W1, W2 and W3 (R166, log 21). -/
def groupRecord (g i : Nat) : Nat := if g < 2 then 2 * i + g else 65536 + (g - 2) * 32768 + i

/-- The moves whose targets are held: open fences, and those planned and not yet open (R206). -/
def State.moveTargets (s : State) : List Fence := s.place.fences ++ s.place.planned

/-- The meters homed on a tile in a group, targets of moves included. -/
def State.groupMeters (s : State) (tile g : Nat) : Nat :=
  (s.meters.countP fun x => x.home == tile && x.group == g) +
    (s.moveTargets.countP fun f => decide (f.kind ≤ 2) && !f.stays && f.home == tile && f.group == g)

/-- A record is used by a meter or by the target of a move. -/
def State.recordUsed (s : State) (tile rec_ : Nat) : Bool :=
  (s.meters.any fun x => x.home == tile && x.record == rec_) ||
    (s.moveTargets.any fun f => f.home == tile && f.record == rec_)

/-- The lowest free record of a group, from the i-th on, within `fuel` records. -/
def freeRecordFrom (s : State) (tile g : Nat) : Nat → Nat → Option Nat
  | 0, _ => none
  | n + 1, i =>
    if s.groupRecords tile g ≤ i then none
    else if s.recordUsed tile (groupRecord g i) then freeRecordFrom s tile g n (i + 1)
    else some (groupRecord g i)

/-- The lowest free record of a group. -/
def State.freeRecord (s : State) (tile g : Nat) : Option Nat :=
  freeRecordFrom s tile g (s.meters.length + s.moveTargets.length + 1) 0

/-- A pipeline's state (R101). -/
def State.pipe (s : State) (tile p : Nat) : Pipeline := if p < 8 then Tab.getD s.fabric.pipes (tile * 8 + p) {} else {}

/-- A pipeline stored: a tile has eight (R25). -/
def State.setPipe (s : State) (tile p : Nat) (x : Pipeline) : State :=
  { s with fabric := { s.fabric with pipes := if p < 8 then Tab.set s.fabric.pipes (tile * 8 + p) x else s.fabric.pipes } }

/-- Free records of a tile, over its groups in service. -/
def State.freeRecords (s : State) (tile : Nat) : Nat :=
  ((List.range 8).map fun g => if (s.pipe tile g).state = 0 then s.groupRecords tile g - s.groupMeters tile g else 0).sum

/-- The tile with the most free records; equal counts go to the lower number (R206). -/
def State.emptiestTile (s : State) : Nat :=
  (List.range s.nTiles).foldl (fun best t => if s.freeRecords best < s.freeRecords t then t else best) 0

/-- The table of a group's pipeline holds a sum of the feeder-phase (R206, R410). -/
def State.holdsSum (s : State) (tile g feeder phase : Nat) : Bool :=
  feeder != 0 && (s.pipeSums tile g).any fun e => e.2.feeder == feeder && e.2.group == phase

/-- The groups of a tile that a meter of a feeder-phase may join, with their lowest free records: in service, a record free, and
its pipeline's sums at or below 4,096 with it (R206 rule 3, R117). -/
def State.openGroups (s : State) (tile feeder phase : Nat) : List (Nat × Nat) :=
  (List.range 8).filterMap fun g =>
    if (s.pipe tile g).state = 0 &&
        (feeder == 0 || s.holdsSum tile g feeder phase || decide ((s.pipeSums tile g).length < 4096)) then
      (s.freeRecord tile g).map fun r => (g, r)
    else none

/-- The preference of rule 3 among groups: one already holding the feeder-phase, then one in the area of the present record,
then the one with the fewest meters (R206). -/
def State.preferGroup (s : State) (tile feeder phase : Nat) (area : Option Nat) (ok : List (Nat × Nat)) : Option (Nat × Nat) :=
  match ok.find? fun e => s.holdsSum tile e.1 feeder phase with
  | some e => some e
  | none =>
    match ok.find? fun e => some (recordArea e.2) == area with
    | some e => some e
    | none =>
      match ok with
      | [] => none
      | e :: r => some (r.foldl (fun a b => if s.groupMeters tile b.1 < s.groupMeters tile a.1 then b else a) e)

/-- A group of a tile by rule 3 of R206. -/
def State.chooseGroup (s : State) (tile : Nat) (feeder phase : Nat) (area : Option Nat) : Option (Nat × Nat) :=
  s.preferGroup tile feeder phase area (s.openGroups tile feeder phase)

/-! ### Enrolment (R341) -/

/-- The hot record of a new enrolment (R334, R341, R365, R198). -/
def freshHot (m incarnation epoch ruleSet limit tariff : Nat) (forerunner : Bool) : List Word :=
  let t := unsetTotal * 65536
  [m * 2 ^ 32 + incarnation * 65536 + epoch, 0, 1, 1 * 2 ^ 52, ruleSet * 2 ^ 54 + bit01 forerunner * 2 ^ 14, 1 * 2 ^ 32, 8, 0,
    t, t, t, t, 0, tariff * 2 ^ 60 + tariff * 2 ^ 56, limit % 2 ^ 24 * 2 ^ 40, 0].map (BitVec.ofNat 64)

/-- MeterEnrolment action 1. -/
def enrol (m incarnation epoch ruleSet interval limit : Nat) (forerunner : Bool) (s : State) : Done :=
  if m = 0 ∨ m = 4294967295 ∨ (s.meter? m).isSome = true ∨ s.tunnel.relayMode = true then Done.refuse s Status.refused
  else
    let tile := s.emptiestTile
    let fresh : Meter := { number := m }
    match s.chooseGroup tile (s.feederOf fresh) (s.lossGroup fresh) none with
    | none => Done.refuse s Status.refused
    | some (g, rec_) =>
      let x : Meter :=
        { number := m, home := tile, group := g, record := rec_
          hot := freshHot m incarnation epoch ruleSet limit (s.tariffNow 0) forerunner
          cold := List.replicate 64 0
          billing := { foldBase := List.replicate 4 unsetBase, periodStart := s.tbSeconds, periodIndex := (s.structure 0).periodIndex }
          reportInterval := interval, heardAt := s.elapsed, incarnationAt := s.tbSeconds }
      let s1 : State := { s with
        meters := insertKey Meter.number x s.meters
        place := { s.place with passDue := true } }
      let s2 := (List.range 16).foldl (fun s w => s.hotWritten x w) s1
      Done.ok (((s2.offer 0xE480 0 [m, incarnation, epoch]).memberChanged (s2.feederOf x)).bindSum m)

/-- ENROL. -/
def execEnrol (r : Req) (meter incarnation epoch ruleSet interval limit : Nat) (forerunner : Bool) (s : State) : Result :=
  ok (udxAct s r 0xC000 1 meter (be 1 1) [(0xC000, 2, .num incarnation), (0xC000, 3, .num epoch), (0xC000, 4, .num ruleSet),
    (0xC000, 5, .num interval), (0xC000, 6, .num (bit01 forerunner)), (0xC000, 7, .num limit)] fun s _ => enrol meter incarnation epoch ruleSet interval limit forerunner s)

/-- The key-epoch change whose KEY_EPOCH ended unacknowledged is dropped; one of another RequestId stays (R342). -/
def Meter.dropEpoch (x : Meter) (id : Nat) : Meter :=
  { x with epochChange := match x.epochChange with
      | some (e, i, a) => if i = id ∧ a = false then none else some (e, i, a)
      | none => none }

/-- A command withdrawn: its state, count and effect on whoever waits for it (R98, R341, R346). -/
def State.withdraw (s : State) (tile n : Nat) : State :=
  let r := s.request tile n
  let id := requestId r.generation.toNat tile n
  let s1 := (s.endRequest tile n 4).bump 0x2403 7
  let s2 := if r.code = Cmd.keyEpoch then s1.modMeter r.meter fun x => x.dropEpoch id else s1
  s2.prepayEnded r.meter id r.code 256 r.overtaken

/-- Every open command of a meter withdrawn (R341). -/
def State.withdrawAll (s : State) (m : Nat) : State :=
  (s.requestsOf fun r => decide (r.meter = m)).foldl (fun s e => s.withdraw e.1 e.2) s

/-- MeterEnrolment action 2: the new incarnation is set through a freeze; one asked for while another waits takes its place
(DESIGN CHOICE, log 91). -/
def newIncarnation (m incarnation epoch : Nat) (s : State) : Done :=
  match s.meter? m with
  | none => Done.refuse s Status.refused
  | some x =>
    if x.retiring then Done.refuse s Status.noMeter
    else if incarnation ≤ x.incarnation then Done.refuse s Status.refused
    else
      let s1 := (s.withdrawAll m).modMeter m fun x =>
        { x with incarnationChange := some (incarnation, epoch), epochChange := none, freezeStep := max 1 x.freezeStep }
      Done.ok (s1.offer 0xE481 0 [m, x.incarnation, incarnation])

/-- NEW_INCARNATION. -/
def execNewIncarnation (r : Req) (meter incarnation epoch : Nat) (s : State) : Result :=
  ok (udxAct s r 0xC000 1 meter (be 1 2) [(0xC000, 2, .num incarnation), (0xC000, 3, .num epoch)] fun s x =>
    heldOr s meter { session := x.id, tag := r.tag, index := 0xC000, sub := 1, args := [2, incarnation, epoch] }
      (newIncarnation meter incarnation epoch))

/-- MeterEnrolment action 3: KEY_EPOCH is sent under the present epoch (R342). -/
def newKeyEpoch (m epoch : Nat) (s : State) : Done :=
  match s.meter? m with
  | none => Done.refuse s Status.refused
  | some x =>
    if x.retiring then Done.refuse s Status.noMeter
    else if epoch ≤ x.epoch ∨ x.epochChange.isSome = true ∨ x.served = false then Done.refuse s Status.refused
    else match s.submitCommand m Cmd.keyEpoch 0 (be 2 epoch) 2 with
      | (some id, s1) => Done.ok (s1.modMeter m fun x => { x with epochChange := some (epoch, id, false) })
      | (none, s1) => { reply := replyHint Status.busy 10, state := s1 }

/-- NEW_KEY_EPOCH. -/
def execNewKeyEpoch (r : Req) (meter epoch : Nat) (s : State) : Result :=
  ok (udxAct s r 0xC000 1 meter (be 1 3) [(0xC000, 3, .num epoch)] fun s x =>
    heldOr s meter { session := x.id, tag := r.tag, index := 0xC000, sub := 1, args := [3, epoch] } (newKeyEpoch meter epoch))

/-- A retirement carried out: commands withdrawn, the meter folded, its final period record written, its index entry deleted
(R341, R390). -/
def State.retireNow (s : State) (m : Nat) : State :=
  match s.meter? m with
  | none => s
  | some x =>
    let f := s.feederOf x
    let s1 := (s.withdrawAll m).modMeter m fun x => { x with held := [] }
    let s2 := (s1.foldMeter m).closeMeterPeriod m s.tbSeconds 2
    ((s2.modMeter m fun x => { x with finalFolded := true, unindexed := true }).memberChanged f).offer 0xE483 0 [m]

/-- MeterEnrolment action 4. The meter is retiring from the acceptance on, and the action itself waits for a fence (R222). -/
def retire (m : Nat) (s : State) : Done :=
  match s.meter? m with
  | none => Done.refuse s Status.refused
  | some x =>
    let s1 := s.modMeter m fun x => { x with retiring := true }
    if x.retiring then Done.refuse s Status.noMeter
    else Done.ok (if (s.fenceOf m).isSome then s1 else s1.retireNow m)

/-- RETIRE. -/
def execRetire (r : Req) (meter : Nat) (s : State) : Result :=
  ok (udxWrite s r 0xC000 1 meter (be 1 4) fun s _ => retire meter s)

/-- RETIREMENT_COMPLETE at the first heat boundary after the final record (R341): record, routes and directory entry are
free. -/
def execRetirementComplete (meter : Nat) (s : State) : Result :=
  match s.meter? meter with
  | none => ok s
  | some x =>
    okIf (s.onBoundary && x.retiring && x.finalFolded && x.unindexed) s
      { s with
        meters := s.meters.filter fun y => y.number != meter
        place := { s.place with
          routes := s.place.routes.filter fun e => e.1 % 4294967296 != meter } }

/-! ### Freezes (R343) -/

/-- The quarantine bit set at a heat boundary for the words asked for. -/
def State.freezeStart (s : State) (m : Nat) : State :=
  s.modMeter m fun x => { x with freezeStep := 2, freezeHeat := s.heat.count }

/-- FREEZE_START: a settled meter with a change asked for. -/
def execFreezeStart (meter : Nat) (s : State) : Result :=
  match s.meter? meter with
  | none => ok s
  | some x => okIf (s.onBoundary && decide (x.freezeStep = 1) && (s.fenceOf meter).isNone) s (s.freezeStart meter)

/-- The words of a new incarnation (R341, R365, R390): the meter is folded, its final record closed, then zeroed. -/
def State.setIncarnation (s : State) (m incarnation epoch : Nat) : State :=
  let s1 := (s.foldMeter m).closeMeterPeriod m s.tbSeconds 1
  match s1.meter? m with
  | none => s1
  | some x =>
    let t := unsetTotal * 65536
    let tariff := s.tariffNow x.slotMap
    let s2 := s1.modMeter m fun x => { x with
      cold := List.replicate 64 0
      billing := { x.billing with foldBase := List.replicate 4 unsetBase, extraBase := 0, periodStart := s.tbSeconds }
      place := { x.place with paths := [] }, incarnationChange := none, nearEnd := false, incarnationAt := s.tbSeconds }
    (s2.writeHot m [(0, m * 2 ^ 32 + incarnation * 65536 + epoch), (1, 0), (2, 1), (5, 2 ^ 32), (8, t), (9, t), (10, t), (11, t),
      (12, x.chargeTotal), (13, tariff * 2 ^ 60 + tariff * 2 ^ 56)]).memberChanged (s1.feederOf x)

/-- The words of a freeze written in the heat after its first boundary. -/
def State.freezeWrite (s : State) (m : Nat) : State :=
  match s.meter? m with
  | none => s
  | some x =>
    let s1 := s.writeHot m (x.freezeWords.map fun e => (e.1, e.2.toNat))
    let s2 := match x.incarnationChange with
      | some (i, e) => s1.setIncarnation m i e
      | none => s1
    s2.modMeter m fun x => { x with freezeWords := [], freezeStep := 3 }

/-- FREEZE_WRITE. -/
def execFreezeWrite (meter : Nat) (s : State) : Result :=
  match s.meter? meter with
  | none => ok s
  | some x => okIf (decide (x.freezeStep = 2)) s (s.freezeWrite meter)

/-- FREEZE_END: the bit is cleared at the next boundary; a change asked for meanwhile starts anew. -/
def execFreezeEnd (meter : Nat) (s : State) : Result :=
  match s.meter? meter with
  | none => ok s
  | some x =>
    okIf (s.onBoundary && decide (x.freezeStep = 3) && decide (x.freezeHeat < s.heat.count)) s
      (s.modMeter meter fun x => { x with
        freezeStep := if x.freezeWords.isEmpty && x.incarnationChange.isNone then 0 else 1 })

/-- RETURNED_REQUEST_REQUEUE: at a heat boundary, held requests are enqueued again once no bit stands (R757). -/
def execReturnedRequestRequeue (meter : Nat) (s : State) : Result := okIf s.onBoundary s (s.releaseHeld meter)

/-- KEY_EPOCH_APPLY at the heat boundary after the acknowledgement (R342). -/
def execKeyEpochApply (meter : Nat) (s : State) : Result :=
  match s.meter? meter with
  | none => ok s
  | some x =>
    match x.epochChange with
    | some (e, _, true) =>
      okIf (s.onBoundary && (s.fenceOf meter).isNone && decide (x.freezeStep ≤ 1)) s
        ((((s.freeze meter [(0, BitVec.ofNat 64 (meter * 2 ^ 32 + x.incarnation * 65536 + e)),
            (1, BitVec.ofNat 64 x.lastTime), (2, 1), (5, BitVec.ofNat 64 (2 ^ 32))]).freezeStart meter).modMeter meter fun x =>
          { x with epochChange := none, nearEnd := false, place := { x.place with paths := [] } }).offer 0xE482 0 [meter, e])
    | _ => ok s

/-! ### Commands from the host (R346) -/

/-- MeterCommand submitted: refused for an unserved meter (R223), BUSY where no entry or queue space is free (R154). -/
def hostCommand (m code : Nat) (params : Octets) (s : State) (x : Session) : Done :=
  match s.meter? m with
  | none => Done.refuse s Status.noMeter
  | some y =>
    if code = 0 ∨ 12 < code then Done.refuse s Status.outOfRange
    else if y.served = false then Done.refuse s Status.refused
    else match s.submitCommand m code 0 (params.take (commandBytes code)) 0 with
      | (some id, s1) => Done.ok (s1.setSessionVal x.id m 0xC040 4 (.num id))
      | (none, s1) => { reply := replyHint Status.busy 10, state := s1 }

/-- A MeterCommand submit with a command code and its parameters. -/
def hostSubmit (r : Req) (meter code : Nat) (params : Octets) (s : State) : State :=
  udxAct s r 0xC040 3 meter (be 1 1) [(0xC040, 1, .num code), (0xC040, 2, .oct (padTo 56 params))] (hostCommand meter code params)

/-- DISCONNECT: ExecuteAt (R330). -/
def execDisconnect (r : Req) (meter executeAt : Nat) (s : State) : Result := ok (hostSubmit r meter 1 (be 4 executeAt) s)

/-- RECONNECT: ExecuteAt, ArmOnly. -/
def execReconnect (r : Req) (meter executeAt armOnly : Nat) (s : State) : Result :=
  ok (hostSubmit r meter 2 (be 4 executeAt ++ be 1 armOnly) s)

/-- SET_TIME: TargetSeconds, TargetNs, Mode. -/
def execSetTime (r : Req) (meter seconds ns mode : Nat) (s : State) : Result :=
  ok (hostSubmit r meter 3 (be 4 seconds ++ be 4 ns ++ be 1 mode) s)

/-- READ_NOW: RegisterSet. -/
def execReadNow (r : Req) (meter set : Nat) (s : State) : Result := ok (hostSubmit r meter 5 (be 1 set) s)

/-- KEY_EPOCH: NewEpoch. -/
def execKeyEpoch (r : Req) (meter epoch : Nat) (s : State) : Result := ok (hostSubmit r meter 6 (be 2 epoch) s)

/-- FEEDER_TAG: FeederTag. -/
def execFeederTag (r : Req) (meter tag : Nat) (s : State) : Result := ok (hostSubmit r meter 7 (be 2 tag) s)

/-- TARIFF_ACTIVATE: CalendarVersion, EffectiveSeconds. -/
def execTariffActivate (r : Req) (meter version effective : Nat) (s : State) : Result :=
  ok (hostSubmit r meter 8 (be 2 version ++ be 4 effective) s)

/-- FIRMWARE_ACTIVATE: ImageId, EffectiveSeconds. -/
def execFirmwareActivate (r : Req) (meter image effective : Nat) (s : State) : Result :=
  ok (hostSubmit r meter 9 (be 4 image ++ be 4 effective) s)

/-- SET_REPORTING: ReportInterval. -/
def execSetReporting (r : Req) (meter interval : Nat) (s : State) : Result := ok (hostSubmit r meter 11 (be 4 interval) s)

/-- CREDIT_STATE: credit and PrepayState. -/
def execCreditState (r : Req) (meter credit state : Nat) (s : State) : Result :=
  ok (hostSubmit r meter 12 (be 8 credit ++ be 1 state) s)

/-! ### A command's end (R346, R347, R159) -/

/-- FIRMWARE_ACTIVATE of a target meter ended: ACTIVATED, or FAILED with the Result, 5 for an expiry, 6 for a campaign's end
(R694; the reason's codes are not stated, log 8). -/
def State.firmwareEnded (s : State) (m : Nat) (params : Octets) (good : Bool) (reason : Nat) : State :=
  match s.meter? m with
  | none => s
  | some x =>
    if x.firmware.target = 0 ∨ x.firmware.target ≠ fieldAt params 0 4 ∨ 3 ≤ x.firmware.state then s
    else if good then (s.modMeter m fun x => { x with firmware := { x.firmware with state := 3 } }).bump 0xA042 5
    else ((s.modMeter m fun x => { x with firmware := { x.firmware with state := 4 } }).bump 0xA042 6).offerLimited 0xE98E 0 0 [m, reason]

/-- An acknowledgement of a command, with its Result and Detail (R331, R346). A stale identifier completes nothing (R159), nor
does one that names a live request of another meter (DESIGN CHOICE, log 85). -/
def State.commandAcked (s : State) (m id result detail : Nat) : State :=
  match s.requestOf id with
  | none => s.lateCompletion id
  | some (tile, n, r) =>
    if r.meter ≠ m then s.lateCompletion id
    else
      let good : Bool := decide (result = 0 ∨ result = 1 ∨ result = 4)
      let s1 := s.setRequest tile n ({ r with state := if good then 2 else 3, result := result, detail := detail }.free)
      let s2 := if good then s1.bump 0x2403 5 else s1.offer 0xE486 tile [m, id, result]
      let s3 :=
        if r.code = Cmd.keyEpoch then s2.modMeter m fun x => { x with epochChange := match x.epochChange with
          | some (e, i, a) => if i = id then (if result ≤ 1 then some (e, i, true) else none) else some (e, i, a)
          | none => none }
        else if r.code = Cmd.tariffActivate ∧ good then
          (match s2.meter? m with
           | some x => s2.setStructure x.slotMap { s2.structure x.slotMap with
               metersPending := (s2.structure x.slotMap).metersPending.filter (· != m) }
           | none => s2)
        else if r.code = Cmd.setReporting ∧ good then
          s2.modMeter m fun x => { x with reportInterval := ofBe (r.params.take 4) }
        else if r.code = Cmd.firmwareActivate then
          s2.firmwareEnded m r.params good result
        else s2
      s3.prepayEnded m id r.code result r.overtaken

/-- A command expires 3 × max(ReportInterval, CommandRetryFloor) after its first sealing (R347); a DISCONNECT of the part at
the latest by its validity limit, CommandFlags seconds after that sealing (R398, log 91). -/
def State.expiryDue (s : State) (r : Request) : Bool :=
  match s.meter? r.meter with
  | none => true
  | some x => s.due r.firstAt (3 * s.retryInterval x * 1000000000) ||
      (decide (r.code = Cmd.disconnect ∧ r.origin = 1) && s.due r.firstAt (r.flags * 1000000000))

/-- COMMAND_EXPIRED. -/
def execCommandExpired (id : Nat) (s : State) : Result :=
  if !s.awake then ok s else
  match s.requestOf id with
  | none => ok s
  | some (tile, n, r) =>
    if r.state = 1 ∧ s.expiryDue r = true then
      let s1 := ((s.endRequest tile n 5).bump 0x2403 6).offerLimited 0xE485 tile 0 [r.meter, r.code]
      let s2 := if r.code = Cmd.keyEpoch then s1.modMeter r.meter fun x => x.dropEpoch id else s1
      let s3 := if r.code = Cmd.firmwareActivate then s2.firmwareEnded r.meter r.params false 5 else s2
      ok (s3.prepayEnded r.meter id r.code 256 r.overtaken)
    else ok s

/-- A request enqueued again (R347); in a pair both units do so (R549). -/
def State.reseal (s : State) (id : Nat) : State :=
  match s.requestOf id with
  | none => s
  | some (tile, n, r) =>
    let s1 := s.setRequest tile n { r with applyAt := s.pair.applying.getD s.applyInstant }
    (s1.enqueue r.meter 0 (requestPacket id r.meter)).2.mgmt 19 [id] []

/-- A request that waits to be sealed: in its meter's pending list, in its outbound request queue or behind an open packet. -/
def State.requestWaits (s : State) (x : Meter) (id : Nat) : Bool :=
  let q := s.queue x.home (requestQueue 0 x.group)
  (x.held.any fun h => h.kind == 0 && packetHead h.words / 4294967296 == id) ||
    ((packetsOf 4096 q.unread).any fun pk => packetHead pk / 4294967296 == id) ||
    q.waiters.any fun w => packetHead w.packet / 4294967296 == id

/-- COMMAND_RESEAL: the same request enqueued again, one that still waits for its slot not twice (R347). -/
def execCommandReseal (id : Nat) (s : State) : Result :=
  if !s.awake then ok s else
  match s.requestOf id with
  | none => ok s
  | some (_, _, r) =>
    match s.meter? r.meter with
    | none => ok s
    | some x =>
      okIf (decide (r.state = 1) && x.served && (s.pair.state == 0 || s.pair.baton) &&
          s.due r.lastAt (s.retryInterval x * 1000000000) && !s.expiryDue r && !s.requestWaits x id) s
        (s.reseal id)

/-! ### Silence (R348) -/

/-- METER_SILENT: no frame ended as BOOKED or DUPLICATE in 3 × ReportInterval. -/
def execMeterSilent (meter : Nat) (s : State) : Result :=
  if !s.awake then ok s else
  match s.meter? meter with
  | none => ok s
  | some x =>
    okIf (!x.silent && s.due x.heardAt (3 * x.reportInterval * 1000000000)) s
      (((s.modMeter meter fun x => { x with silent := true, silentAt := s.elapsed }).addObj 0x2403 8 1).offerLimited 0xE487 x.home
        0 [meter])

/-- A frame ended as BOOKED or DUPLICATE: the silence ends (R348). -/
def State.heardMeter (s : State) (m : Nat) : State :=
  match s.meter? m with
  | none => s
  | some x =>
    let s1 := s.modMeter m fun x => { x with heardAt := s.elapsed, silent := false }
    if x.silent then
      (s1.setObj 0x2403 8 (s1.obj 0x2403 8 - 1)).offer 0xE488 x.home [m, (s.elapsed - x.silentAt) / 1000000000]
    else s1

end Sys2Proof.Machine
end

