-- ==== Sys2Proof/Machine/Slots.lean ====
section
/-! DEFINITION. The issue slots that carry frames and requests (02 R61 to R88, 09 R322 to R345, 10 R368 to R374,
11 R411 to R414). -/

namespace Sys2Proof.Machine

/-! ### Slot kinds and gates (R61, R62, R36, R92, R126) -/

/-- The kind of slot k of a heat: 0 inbound, 1 outbound, 2 readout, 3 query, 4 snapshot, 5 test, 6 pacer (R62). -/
def slotKind (k : Nat) : Nat :=
  let g := k / 15
  let q := k % 15
  if q ≤ 11 then 0
  else if q = 12 then 1
  else if q = 13 then (if g = 24 then 5 else 2)
  else if g = 24 then 6
  else if g % 2 = 0 then 3 else 4

/-- The number of slot k since bring-up. -/
def State.slotNumber (s : State) (k : Nat) : Nat := s.heat.count * 375 + k

/-- A pace or ring clock monitor fault stands on a tile, or REFCLK25 is lost (R36). Domain 0 is pace, 2 ring (R753). -/
def State.clockStopped (s : State) (tile : Nat) : Bool :=
  s.heat.refclkLost || (Tab.getD s.heat.monitors (tile * 16) {}).fault || (Tab.getD s.heat.monitors (tile * 16 + 2) {}).fault

/-- A reason in force that stops slots; power fail and thermal shutdown stop inbound slots only (R379, R744). -/
def State.halted (s : State) (inbound : Bool) : Bool :=
  s.heat.halts.any fun e => decide (e.2 ≤ s.heat.count) && (inbound || (e.1 != 0 && e.1 != 6))

/-- A slot of a tile runs at all: the part is ready with a sheet, its clocks are in range, no transition slot of a swap, and
nothing halts it. -/
def State.slotRuns (s : State) (tile k : Nat) (inbound : Bool) : Bool :=
  decide (s.boot.phase = 9) && s.compiler.sheet.isSome && decide (tile < s.nTiles) && !s.clockStopped tile && !s.halted inbound &&
    decide ((Tab.getD s.recorder.health tile {}).state = 0) && !s.fabric.keysCleared && !(s.compiler.swapped && decide (s.compiler.swapHeat = s.heat.count ∧ k ≤ 8))

/-- A pipeline takes work: in service and not off in the sheet in force (R92, R104). -/
def State.pipeWorks (s : State) (tile pipe : Nat) : Bool :=
  decide (pipe < 8) && decide ((s.pipe tile pipe).state = 0) &&
    (match s.compiler.sheet with
     | some h => !h.off.contains (tile * 8 + pipe)
     | none => false)

/-- A frame-carrying slot of a kind is open. -/
def State.slotOpen (s : State) (kind tile pipe k : Nat) : Bool :=
  decide (k < 375) && decide (slotKind k = kind) && s.slotRuns tile k (kind == 0) && s.pipeWorks tile pipe

/-- The record was admitted by the pipeline in one of its previous 7 issue slots (R66). -/
def Pipeline.defers (p : Pipeline) (n rec_ : Nat) : Bool := p.recent.any fun e => e.2 == rec_ && decide (n ≤ e.1 + 7)

/-- An admission remembered for the deferral check. -/
def State.admitPacket (s : State) (tile pipe n rec_ : Nat) : State :=
  let p := s.pipe tile pipe
  s.setPipe tile pipe { p with recent := ((n, rec_) :: p.recent).take 8 }

/-- The meter a pipeline's index resolves a number to (R70, R166). -/
def State.indexed (s : State) (tile pipe m : Nat) : Option Meter :=
  match s.meter? m with
  | some x => if x.home = tile ∧ x.group = pipe ∧ x.unindexed = false then some x else none
  | none => none

/-! ### Frames (R322 to R325) -/

def frVersion (f : Octets) : Nat := fieldAt f 0 1 / 16
def frType (f : Octets) : Nat := fieldAt f 0 1 % 16
def frIncarnation (f : Octets) : Nat := fieldAt f 2 2
def frMeter (f : Octets) : Nat := fieldAt f 4 4
def frEpoch (f : Octets) : Nat := fieldAt f 8 2
def frSequence (f : Octets) : Nat := fieldAt f 10 4
def frLength (f : Octets) : Nat := fieldAt f 14 1

/-- The IV of a meter frame (R323). -/
def frIv (f : Octets) : Octets := be 1 (fieldAt f 1 1) ++ be 1 (fieldAt f 0 1) ++ be 2 (frEpoch f) ++ be 4 (frMeter f) ++ be 4 (frSequence f)

/-- A payload length a type can have (R324, R325). -/
def payloadFits (type n : Nat) : Bool :=
  if type = 1 then decide (n = 48)
  else if type = 2 then decide (20 ≤ n ∧ n ≤ 56 ∧ n % 4 = 0)
  else if type = 3 then decide (8 ≤ n ∧ n ≤ 32)
  else if type = 4 then decide (n = 44)
  else if type = 6 then decide (n = 8)
  else false

/-- The header of a frame is well formed, whatever meter it names (R325): meter number 0 is accepted in pacer slots alone (R89). -/
def headerShape (f : Octets) (frameLength : Nat) : Bool :=
  decide (frVersion f = 1) && decide (fieldAt f 1 1 % 64 = 0 ∧ fieldAt f 1 1 < 128) && decide (fieldAt f 15 1 = 0) &&
    payloadFits (frType f) (frLength f) && decide (frameLength = 28 + frLength f) && decide (frSequence f ≠ 0)

/-- The header of a frame is well formed (R325). -/
def headerOk (f : Octets) (frameLength : Nat) : Bool :=
  headerShape f frameLength && decide (frMeter f ≠ 0) && decide (frMeter f ≠ 4294967295)

/-- Plaintext that agrees with its length (R325). -/
def payloadOk (type : Nat) (p : Octets) : Bool :=
  if type = 2 then decide (1 ≤ fieldAt p 5 1 ∧ fieldAt p 5 1 ≤ 10 ∧ 16 + 4 * fieldAt p 5 1 = p.length)
  else if type = 3 then decide (fieldAt p 6 1 ≤ 24 ∧ 8 + fieldAt p 6 1 = p.length)
  else true

/-- The frame's ciphertext, its full tag value under a key, and its plaintext (R323, R433). -/
def frCipher (f : Octets) : Octets := (f.drop 16).take (frLength f)
def frTag (key f : Octets) : Octets := gcmTag key (frIv f) (f.take 16) (frCipher f)
def frPlain (key f : Octets) : Octets := gcmText key (frIv f) (frCipher f)

/-- A sealed frame of the part (R322, R323). -/
def sealFrame (key : Octets) (type meter incarnation epoch seq : Nat) (broadcast : Bool) (payload : Octets) : Octets :=
  let h := be 1 (16 + type) ++ be 1 (if broadcast then 192 else 128) ++ be 2 incarnation ++ be 4 meter ++ be 2 epoch ++
    be 4 seq ++ be 1 payload.length ++ be 1 0
  let c := gcmText key (frIv h) payload
  h ++ c ++ (gcmTag key (frIv h) h c).take 12

/-- The short acknowledgement of a frame (R333). -/
def ackFrame (x : Meter) (f tag : Octets) : Octets :=
  be 1 0x16 ++ be 1 0x80 ++ be 2 x.incarnation ++ slice f 4 4 ++ be 2 x.epoch ++ be 4 (frSequence f) ++ be 1 (frType f) ++ be 1 0 ++
    slice tag 12 4 ++ be 4 0

/-- The egress descriptor (R144). -/
def egress (port phase len id : Nat) : Word := BitVec.ofNat 64 (port * 2 ^ 56 + phase * 2 ^ 54 + len * 2 ^ 40 + id)

/-! ### Booking (R368 to R371) -/

/-- What a frame reports: MeterTime, status, registers present and their totals, power, interval deltas. -/
structure Report where
  time : Nat
  status : Nat
  present : Nat
  totals : List Nat
  power : Option Int := none
  minutes : Nat := 0
  deltas : List Nat := []

/-- The report of a reading (R326). -/
def readingReport (p : Octets) : Report :=
  { time := fieldAt p 0 4, status := fieldAt p 4 2, present := fieldAt p 6 1 % 16
    totals := (List.range 4).map fun r => fieldAt p (8 + 8 * r) 8 % 2 ^ 48, power := some (toSigned 32 (fieldAt p 40 4)) }

/-- The report of an interval block (R327). -/
def blockReport (p : Octets) : Report :=
  { time := fieldAt p 0 4, status := fieldAt p 6 2, present := 1, totals := [fieldAt p 8 8 % 2 ^ 48, 0, 0, 0]
    minutes := fieldAt p 4 1, deltas := (List.range (fieldAt p 5 1)).map fun i => fieldAt p (16 + 4 * i) 4 }

/-- A register is present. -/
def Report.has (q : Report) (r : Nat) : Bool := bitAt q.present r

/-- The increase of a register, where one exists (R344, R345). -/
def Report.increase (q : Report) (x : Meter) (r : Nat) : Option Int :=
  if q.has r && x.total r != unsetTotal then some ((q.totals.getD r 0 : Int) - x.total r) else none

/-- A rule entry fails (R344, R345). The frame is AHEAD when `ahead`. -/
def ruleFails (e : Nat) (x : Meter) (q : Report) (ahead : Bool) (rxSecond : Nat) : Bool :=
  let kind := field e 31 27
  let r := field e 25 24
  let par := field e 23 0
  let dt : Int := max 1 ((q.time : Int) - x.lastTime)
  let inc := q.increase x r
  if kind = 1 then (match inc with
    | some i => ahead && decide (i < 0)
    | none => false)
  else if kind = 2 then (match inc with
    | some i => decide ((par : Int) * dt < i * 3600)
    | none => false)
  else if kind = 3 then (match inc with
    | some i => decide ((x.powerLimit : Int) * dt < i * 3600)
    | none => false)
  else if kind = 4 then decide (par < (if q.time ≤ rxSecond then rxSecond - q.time else q.time - rxSecond))
  else if kind = 5 then ahead && decide (q.time < x.lastTime)
  else if kind = 6 then decide ((q.status &&& (par % 65536)) ≠ 0)
  else if kind = 7 then (match inc with
    | some i => decide ((par : Int) < i)
    | none => false)
  else if kind = 8 then (match inc, q.power with
    | some i, some w => decide (i = 0 ∧ (par : Int) < w)
    | _, _ => false)
  else false

/-- The four entries of a rule set (R344). -/
def State.ruleEntries (s : State) (set : Nat) : List Nat := (List.range 4).map fun i => fieldAt (s.domain 0x2400 1) (16 * set + 4 * i) 4

/-- The digest bytes of an inbound slot after the meter number: Sequence, frame type, outcome, the 8 words written back
(R553). -/
def digestBytes (x : Meter) (seq type outcome : Nat) : Octets :=
  be 4 seq ++ be 1 type ++ be 1 outcome ++ [1, 2, 8, 9, 10, 11, 12, 13].flatMap fun w => be 8 (x.word w)

/-- A booking: the meter's record after it, energy booked per register (Extra included), flags of the interval record, the
index of the first interval after the switch, and the charge. -/
structure Booking where
  meter : Meter
  delta : List Nat
  flags : Nat
  breakIndex : Nat := 0
  charge : Nat := 0

/-- The stored total and increase of one register booked AHEAD (R368): total, increase, opening, below. -/
def bookTotal (x : Meter) (q : Report) (r : Nat) : Nat × Nat × Bool × Bool :=
  let t := q.totals.getD r 0
  if !q.has r then (x.total r, 0, false, false)
  else if x.total r = unsetTotal then (t, 0, true, false)
  else if t < x.total r then (x.total r, 0, false, true)
  else (t, t - x.total r, false, false)

/-- The first interval of a block whose end less 1 s lies at or after the switch of the slot map, when the block's intervals
lie on both sides of it (R370). -/
def splitIndex (q : Report) (w : Word) : Option Nat :=
  let n := q.deltas.length
  let after (i : Nat) : Bool :=
    let end_ := q.time - (n - 1 - i) * 60 * q.minutes
    decide (wrapSub 24 ((end_ - 1) / 60 % 2 ^ 24) (field w.toNat 55 32) < 2 ^ 23)
  match (List.range n).find? after with
  | some 0 => none
  | some i => some i
  | none => none

/-- Charge of a prepayment meter in credit units (R371). -/
def chargeUnits (x : Meter) (wh rate : Nat) : Nat := wh * rate * 10 ^ x.rateExponent

/-- The rate the slot map gives a tariff; it names two tariffs, another's rate is free (R371, log 22). -/
def mapRate (w : Word) (tariff free : Nat) : Nat :=
  if field w.toNat 63 60 = tariff then field w.toNat 31 16
  else if field w.toNat 59 56 = tariff then field w.toNat 15 0
  else Config.freeNat free % 65536

/-- A reading or block booked AHEAD (R368, R370, R371). -/
def bookAhead (x : Meter) (q : Report) (w : Word) : Booking :=
  let rs := (List.range 4).map (bookTotal x q)
  let d := rs.map fun e => e.2.1
  let (tb, rate) := tariffOf q.time w
  let split := splitIndex q w
  let since : List Nat := match split with
    | some i => [(q.deltas.drop i).sum, 0, 0, 0]
    | none => if tb = x.bookTariff then (List.range 4).map fun r => x.sinceBreak r + d.getD r 0 else d
  let breaks : Bool := split.isSome || tb != x.bookTariff
  let book := match split with
    | some _ => field w.toNat 63 60
    | none => tb
  let brk := match split with
    | some _ => field w.toNat 59 56
    | none => if tb = x.bookTariff then x.breakTariff else x.bookTariff
  let sat := since.any fun v => decide (65535 < v)
  let x1 := (List.range 4).foldl (fun x r =>
    x.setWord (8 + r) ((rs.getD r (0, 0, false, false)).1 * 65536 + min 65535 (since.getD r 0))) x
  let x2 := x1.setWord 13 (putField (putField (x.word 13) 63 60 book) 59 56 brk)
  let d0 := d.getD 0 0
  let charge := if x.prepaid then (match split with
      | some _ => let a := min d0 (since.getD 0 0)
                  chargeUnits x a (field w.toNat 31 16) + chargeUnits x (d0 - a) (field w.toNat 15 0)
      | none => chargeUnits x d0 rate) else 0
  { meter := x2.setWord 12 ((x.chargeTotal + charge) % 2 ^ 64), delta := d
    flags := (if rs.any (·.2.2.1) then 128 else 0) + (if rs.any (·.2.2.2) then 64 else 0) + (if sat then 16 else 0) +
      (if breaks then 8 else 0)
    breakIndex := split.getD 0, charge := charge }

/-- A reading or block booked BEHIND (R339, R369, R371): positive differences go to Extra. -/
def bookBehind (x : Meter) (q : Report) (w : Word) (free : Nat) : Booking :=
  let d := (List.range 4).map fun r => match q.increase x r with
    | some i => i.toNat
    | none => 0
  let w13 := (List.range 4).foldl (fun v r => putField v (55 - 13 * r) (43 - 13 * r) ((x.extra r + d.getD r 0) % 8192)) (x.word 13)
  let charge := if x.prepaid then chargeUnits x (d.getD 0 0) (mapRate w x.bookTariff free) else 0
  { meter := (x.setWord 13 w13).setWord 12 ((x.chargeTotal + charge) % 2 ^ 64), delta := d, flags := 32
    breakIndex := (splitIndex q w).getD 0, charge := charge }

/-- Levels a charge crosses, as a mask: bit 0 LowCredit, 1 zero, 2 the emergency floor (R372). -/
def crossings (before after : Meter) : Nat :=
  let c (level : Int) : Bool := decide (level < before.credit ∧ after.credit ≤ level)
  bit01 (c (before.lowCredit * 1000000)) + 2 * bit01 (c 0) + 4 * bit01 (c (-(before.emergencyCredit * 1000000 : Nat)))

/-! ### Records and descriptors -/

/-- The interval record of a reading or a rejected frame (R373). -/
def readingRecord (m time kind flagged seq : Nat) (b : Booking) : List Word :=
  let x := b.meter
  [m * 2 ^ 32 + time, b.delta.getD 0 0 % 2 ^ 32 * 2 ^ 32 + b.delta.getD 1 0 % 2 ^ 32,
    b.delta.getD 2 0 % 2 ^ 32 * 2 ^ 32 + b.delta.getD 3 0 % 2 ^ 32,
    kind * 2 ^ 60 + x.bookTariff * 2 ^ 56 + x.breakTariff * 2 ^ 52 + flagged * 2 ^ 48 + b.flags * 2 ^ 40 + seq].map (BitVec.ofNat 64)

/-- MinutesCode (R374). -/
def minutesCode (n : Nat) : Nat :=
  if n = 5 then 0 else if n = 10 then 1 else if n = 15 then 2 else if n = 30 then 3 else if n = 60 then 4 else 7

/-- The smallest scale under which the largest delta fits in 12 bits (R374). -/
def blockScale (ds : List Nat) : Nat :=
  ((List.range 8).find? fun k => decide (ds.all fun d => (d + 10 ^ k / 2) / 10 ^ k < 4096)).getD 7

/-- The interval record of a block (R374). -/
def blockRecord (m seq : Nat) (q : Report) (b : Booking) : List Word :=
  let k := blockScale q.deltas
  let x := b.meter
  let head := minutesCode q.minutes * 2 ^ 61 + q.deltas.length * 2 ^ 57 + k * 2 ^ 54 + x.bookTariff * 2 ^ 50 + x.breakTariff * 2 ^ 46 +
    b.breakIndex * 2 ^ 42 + b.flags * 2 ^ 34
  let ds := q.deltas.zipIdx.foldl (fun a e => a + (e.1 + 10 ^ k / 2) / 10 ^ k % 4096 * 2 ^ (116 - 12 * e.2)) 0
  [m * 2 ^ 32 + q.time, head + seq, ds / 2 ^ 64, ds % 2 ^ 64].map (BitVec.ofNat 64)

/-- An interval record written to the pipeline's cold-store queue; the fold folds every meter so named (R373, R375). -/
def State.pushRecord (s : State) (tile pipe m kind : Nat) (ws : List Word) : State :=
  let (took, s1) := s.pushPacket tile (0x30 + pipe) .pipeline (packetOfWords ws)
  if took then
    { s1 with billing := { s1.billing with
        named := Tab.modify s1.billing.named tile [] fun l => if l.contains m then l else l ++ [m]
        recordKinds := Tab.modify s1.billing.recordKinds (tile * 8 + pipe) [] fun l => l ++ [kind] } }
  else s1

/-- A descriptor in the pipeline's event queue (R70): [63:32] meter, [31:16] code, [15:8] class 0 a report, 1 meter event, 2
threshold, 3 an uncorrectable word, 4 a returned request, [7:0] mask; word 1 names the descriptor's items or the event frame's
payload (log 18). The result tells whether the queue took it. -/
def State.pushEvent (s : State) (tile pipe m code cls mask : Nat) (body : Octets) : Bool × State :=
  let n := s.fabric.eventSerial
  let (took, s1) := s.pushPacket tile (0x38 + pipe) .pipeline
    (packetOfWords [BitVec.ofNat 64 (m * 2 ^ 32 + code * 65536 + cls * 256 + mask), BitVec.ofNat 64 n])
  (took, if took then { s1 with fabric := { s1.fabric with eventSerial := n + 1
                                                           eventBodies := Tab.set s1.fabric.eventBodies n body } } else s1)

/-- A slot's descriptor of a rate-limited outcome: at most one a code, tile and interval, with the meter last seen, its detail and
the count suppressed since the last one (R80, R102). -/
def State.slotEvent (s : State) (tile pipe code m detail : Nat) : State :=
  let k := limiterKey code tile 0
  let emit (n : Nat) : State :=
    (({ s with fabric := { s.fabric with
        limiters := Tab.set s.fabric.limiters k { since := s.heat.count, suppressed := 0, last := [m, detail], tile := tile } } }
      : State).pushEvent tile pipe m code 0 (detail % 256) (be 4 n)).2
  match Tab.find? s.fabric.limiters k with
  | none => emit 0
  | some l =>
    if l.since + s.obj 0x2014 1 ≤ s.heat.count then emit l.suppressed
    else { s with fabric := { s.fabric with
        limiters := Tab.set s.fabric.limiters k { l with suppressed := l.suppressed + 1, last := [m, detail] } } }

/-- A slot that met an uncorrectable word: the word reported, its 0xE105 descriptor in the event queue; where that queue is full the
management cores find the word from LastEccFault (R85, R86). -/
def State.slotAbort (s : State) (tile pipe m : Nat) (bad : Nat × Nat) : State :=
  let (took, s1) := (s.scratchUncorrectable tile bad.1 bad.2).pushEvent tile pipe m 0xE105 3 (regionOf bad.2) (be 4 bad.2)
  if took then s1 else { s1 with fabric := { s1.fabric with eccSeen := s1.fabric.eccSeen ++ [(tile, bad.2, s.elapsed)] } }

/-- The two probes of the meter index (R70, R167). -/
def probeWords (group m : Nat) : List (Nat × Nat) := [(0, indexAddress group 0 m), (0, indexAddress group 1 m)]

/-- The words an inbound slot reads of a meter and its tables (R73): the hot record, the slot-map word, two rule rows, and a word of
the meter's sum: the snapshot word for a snapshot reply, else the running word (R411, R413). -/
def State.meterWords (s : State) (x : Meter) (type : Nat) : List (Nat × Nat) :=
  x.hotWords ++ [(0, slotMapAddress s.tableHalf x.slotMap), (0, ruleAddress s.tableHalf x.ruleSet 0),
    (0, ruleAddress s.tableHalf x.ruleSet 1), (0, sumAddress x.group x.feederSum (bit01 (type == 4)))]

/-- The relay a tunnelled frame came through, by its descriptor; 0 of any other frame (R205, R356). -/
def Meter.relayOf (x : Meter) (desc : Nat) : Nat :=
  if portKind (field desc 63 56) = 2 then
    (match x.place.relays.find? fun e => e.1 == field desc 63 56 * 2 ^ 32 + field desc 31 0 with
     | some e => e.2
     | none => x.place.relay)
  else 0

/-- A frame for a tunnel port keeps the relay it leaves to: that of the placement word its slot read, or of the frame it
acknowledges (R199). -/
def State.toRelay (s : State) (port relay : Nat) (f : Octets) : State :=
  if portKind port = 2 then { s with tunnel := { s.tunnel with egress := s.tunnel.egress ++ [(ofBe (f.take 14), relay)] } } else s

/-- A frame of a pipeline put in its emission queue with its egress descriptor (R87, R144). -/
def State.emit (s : State) (tile pipe port phase relay id : Nat) (f : Octets) : State :=
  let r := s.pushPacket tile (0x28 + pipe) .pipeline (packetOf (egress port phase f.length id) f)
  if r.1 then r.2.toRelay port relay f else r.2

/-- Where the acknowledgement of a frame leaves: on the port its descriptor names; for an injected frame, whose descriptor names none,
on the meter's serving path, where it has one (R199, R143; DESIGN CHOICE, log 65). The result is port, phase and relay. -/
def Meter.ackPath (x : Meter) (desc : Nat) : Option (Nat × Nat × Nat) :=
  let port := field desc 63 56
  if portKind port = 3 then x.path
  else some (port, if portKind port = 0 then field desc 55 54 else 0, x.relayOf desc)

/-- An acknowledgement of a frame (R199, R333). -/
def State.pushAck (s : State) (tile pipe desc : Nat) (x : Meter) (f tag : Octets) : State :=
  match x.ackPath desc with
  | some (port, phase, relay) => s.emit tile pipe port phase relay 0 (ackFrame x f tag)
  | none => s

/-! ### Running sums (R411 to R413) -/

/-- Energy booked added to the running word of a member's sum. -/
def State.addRunning (s : State) (x : Meter) (b : Booking) : State :=
  if x.feederTagWord = 0 then s
  else
    let f := s.sum x.home x.group x.feederSum
    let v := f.running.toNat
    let r := (field v 63 32 + b.delta.getD 0 0) % 2 ^ 32 * 2 ^ 32 + (field v 31 0 + b.delta.getD 1 0) % 2 ^ 32
    (s.setSum x.home x.group x.feederSum { f with running := BitVec.ofNat 64 r }).wordWritten 0 x.home
      (sumAddress x.group x.feederSum 0)

/-- A snapshot reply's latch added to its sum, or late, or not added (R351, R413). -/
def State.addLatch (s : State) (x : Meter) (p : Octets) : State :=
  let f := s.sum x.home x.group x.feederSum
  let v := f.snapshot.toNat
  let tag := field v 63 56
  let id := fieldAt p 0 4
  let err := toSigned 16 (fieldAt p 8 2)
  let fl := fieldAt p 10 1
  if x.feederTagWord = 0 ∨ tag = 0 ∨ id % 256 ≠ tag then (s.bump 0x2403 9).offerLimited 0xE48D x.home 0 [id, x.number]
  else if bitAt fl 5 || bitAt fl 7 || decide (fieldAt p 8 2 = 0x7FFF) || (!bitAt fl 6 && decide (s.obj 0x4801 3 < err.natAbs)) then
    s.bump 0x4850 4
  else
    let sum := wrapSub 44 (field v 43 0 + fieldAt p 12 8) (fieldAt p 20 8)
    ((s.setSum x.home x.group x.feederSum
      { f with snapshot := BitVec.ofNat 64 (tag * 2 ^ 56 + (field v 55 44 + 1) % 4096 * 2 ^ 44 + sum) }).wordWritten 0 x.home
        (sumAddress x.group x.feederSum 1)).clearIndicator x.number 3

/-! ### The inbound slot -/

/-- The key of a candidate path: a lane and phase, or a tunnel relay with the port it was last heard by (R205). -/
def pathKey (port phase relay : Nat) : Nat :=
  if portKind port = 2 then relay * 1024 + port * 4 else port * 4 + phase

/-- Two keys name one candidate path: a relay is one path by whichever tunnel port (R205). -/
def samePath (a b : Nat) : Bool :=
  a == b || (portKind (a % 1024 / 4) == 2 && portKind (b % 1024 / 4) == 2 && a / 1024 == b / 1024)

/-- A frame heard on a path: its Sequence is the newest of the last 64 received there, repeats included (R759). A frame that the
management cores injected names no lane or tunnel it came by (R143). -/
def Meter.hear (x : Meter) (port phase relay seq now cls : Nat) : Meter :=
  let key := pathKey port phase relay
  let old := match x.place.paths.find? fun e => samePath e.1 key with
    | some (_, l, _) => l
    | none => []
  if portKind port = 3 then x
  else { x with place := { x.place with
      paths := (key, (seq :: old).take 64, now) :: x.place.paths.filter fun e => !samePath e.1 key
      tunnelClass := if portKind port = 2 then cls else x.place.tunnelClass } }

/-- extend(n32, ref64) of R506. -/
def extend32 (n ref : Nat) : Nat :=
  let d := wrapSub 32 n ref
  if d < 2 ^ 31 then ref + d else ref - (2 ^ 32 - d)

/-- The TB64 ns of a descriptor's RxTimeNs: a frame that was in a queue at the last step is extended against the timebase
before it (R506, R517). -/
def State.rxInstant (s : State) (desc : Nat) : Nat :=
  extend32 (field desc 31 0) (if s.clock.preStep.contains desc then ((s.tbNs : Int) - s.clock.preStepBy).toNat else s.tbNs)

/-- The outcome codes of R76. -/
inductive Outcome where
  | notValid | booked | duplicate | stale | unknownMeter | authFail | rejectedRule | malformed | eccAbort | quarantined
  deriving DecidableEq, Repr

def Outcome.code : Outcome → Nat
  | .notValid => 0
  | .booked => 1
  | .duplicate => 2
  | .stale => 3
  | .unknownMeter => 4
  | .authFail => 5
  | .rejectedRule => 6
  | .malformed => 7
  | .eccAbort => 8
  | .quarantined => 9

/-- An outcome counted (R76, R663). -/
def State.outcome (s : State) (tile pipe : Nat) (o : Outcome) : State := s.count tile pipe o.code

/-- The second a frame was received in, by its descriptor. -/
def State.rxSecond (s : State) (desc : Nat) : Nat := s.rxInstant desc / 1000000000 % 4294967296

/-- A frame that carries energy: READING or BLOCK. -/
def isEnergy (f : Octets) : Bool := frType f == 1 || frType f == 2

/-- The rules that a report fails, with their numbers; only energy is checked (R344, R345). -/
def State.rulesFailed (s : State) (desc : Nat) (x : Meter) (f : Octets) (q : Report) (ahead : Bool) : List (Nat × Nat) :=
  if isEnergy f then (s.ruleEntries x.ruleSet).zipIdx.filter fun e => ruleFails e.1 x q ahead (s.rxSecond desc) else []

/-- The failed flag entries of a frame counted (R345). -/
def State.countFlags (s : State) (tile pipe : Nat) (rules : List (Nat × Nat)) : State :=
  { s with fabric := { s.fabric with
      ruleFlags := Tab.modify s.fabric.ruleFlags (tile * 8 + pipe) 0 fun n => satAdd 64 n (rules.countP fun e => bitAt e.1 26) } }

/-- RuleFlags: the failed entries whose action is to flag, as a bitmap (R345, R374). -/
def ruleMask (rules : List (Nat × Nat)) : Nat := (rules.filter fun e => bitAt e.1 26).foldl (fun a e => a + 2 ^ e.2) 0

/-- A meter heard on the path of a frame, its session words moved to the frame's sequence (R75, R335). -/
def State.heardFrame (s : State) (desc : Nat) (x : Meter) (f : Octets) (time : Nat) : Meter :=
  let port := field desc 63 56
  let w := acceptSeq (frSequence f) x.seqTop x.seqMask
  ((x.setWord 1 (w.1 * 2 ^ 32 + time)).setWord 2 w.2).hear port (field desc 55 54) (x.relayOf desc) (frSequence f) s.elapsed
    (field desc 53 50)

/-- A frame that a rule rejects: session words move, an acknowledgement and a flagged record leave, nothing is booked (R340,
R344). -/
def State.rejectFrame (s : State) (tile pipe desc : Nat) (x : Meter) (f tag : Octets) (q : Report) (flagged rule : Nat)
    (ahead : Bool) : State :=
  let top := (acceptSeq (frSequence f) x.seqTop x.seqMask).1
  let x1 : Meter := { s.heardFrame desc x f x.lastTime with nearEnd := x.nearEnd || decide (0xF0000000 ≤ top) }
  let s1 := (s.setMeter x1).hotWritten x 1 |>.hotWritten x 2
  let s2 := (s1.contribute x.number (s.rxInstant desc) (digestBytes x1 (frSequence f) (frType f) 1)).outcome tile pipe
    .rejectedRule
  let s3 := if !x.nearEnd && decide (0xF0000000 ≤ top) then s2.offer 0xE484 tile [x.number, top] else s2
  let s4 := (s3.pushEvent tile pipe x.number 0xE10A 0 rule (be 4 0)).2.pushAck tile pipe desc x f tag
  s4.pushRecord tile pipe x.number 0
    (readingRecord x.number q.time 2 flagged (frSequence f) { meter := x, delta := [0, 0, 0, 0], flags := if ahead then 0 else 32 })

/-- What a frame books: energy by its order, nothing otherwise (R76, R368). -/
def State.bookingOf (s : State) (x : Meter) (f : Octets) (q : Report) (ahead : Bool) : Booking :=
  let w := (s.structure x.slotMap).slotMap
  if isEnergy f then (if ahead then bookAhead x q w else bookBehind x q w s.freeCount)
  else { meter := x, delta := [0, 0, 0, 0], flags := 0 }

/-- The booked registers of a frame written, with its digest, its outcome and the meter heard (R75, R76, R335). -/
def State.writeBooking (s : State) (tile pipe desc : Nat) (x : Meter) (f : Octets) (q : Report) (b : Booking) (ahead : Bool) :
    State :=
  let top := (acceptSeq (frSequence f) x.seqTop x.seqMask).1
  let x1 := s.heardFrame desc b.meter f (if isEnergy f && ahead then q.time else x.lastTime)
  let x2 : Meter := { x1 with lastBooked := s.tbSeconds, nearEnd := x.nearEnd || decide (0xF0000000 ≤ top) }
  let s1 := [1, 2, 8, 9, 10, 11, 12, 13].foldl (fun s w => s.hotWritten x w) (s.setMeter x2)
  let s2 := (((s1.contribute x.number (s.rxInstant desc) (digestBytes x2 (frSequence f) (frType f) 0)).outcome tile pipe
    .booked).drew (if isEnergy f && !ahead then 1 else 0)).heardMeter x.number
  if !x.nearEnd && decide (0xF0000000 ≤ top) then s2.offer 0xE484 tile [x.number, top] else s2

/-- What booked energy sends on: its record, its counts, crossings of the credit thresholds, indicators and the clock check
(R76, R328, R372, R391). -/
def State.passEnergy (s : State) (tile pipe desc : Nat) (x : Meter) (f : Octets) (q : Report) (b : Booking) (flagged : Nat) :
    State :=
  let rec_ := if frType f = 1 then readingRecord x.number q.time 0 flagged (frSequence f) b
    else blockRecord x.number (frSequence f) q b
  let s5 := (s.addRunning x b).pushRecord tile pipe x.number (if frType f = 2 then 1 else 0) rec_
  let s6 := if bitAt b.flags 4 then s5.bump 0x4003 5 else s5
  let s7 := if bitAt b.flags 6 then s6.bump 0x4003 6 else s6
  let mask := if x.prepaid then crossings x b.meter else 0
  let s8 := if mask = 0 then s7 else (s7.pushEvent tile pipe x.number 0xE508 2 mask []).2
  let s9 := if frType f = 1 then s8.statusIndicators x.number q.status else s8
  s9.checkClock x.number q.time (s.rxSecond desc)

/-- A frame booked: registers and session words, an acknowledgement but for one that is itself one, and what its type does
(R75, R76). -/
def State.acceptFrame (s : State) (tile pipe desc : Nat) (x : Meter) (f tag p : Octets) (q : Report) (flagged : Nat)
    (ahead : Bool) : State :=
  let b := s.bookingOf x f q ahead
  let s3 := s.writeBooking tile pipe desc x f q b ahead
  let s4 := if frType f = 6 then s3 else s3.pushAck tile pipe desc x f tag
  if isEnergy f then s4.passEnergy tile pipe desc x f q b flagged
  else if frType f = 3 then (s4.pushEvent tile pipe x.number (fieldAt p 4 2) 1 0 p).2
  else if frType f = 4 then s4.addLatch x p
  else s4.commandAcked x.number (fieldAt p 0 4) (fieldAt p 4 2) (fieldAt p 6 2)

/-- A frame taken after its tag passed in the window: session words, registers and emissions of its type (R75, R76, R335). -/
def State.bookFrame (s : State) (tile pipe desc : Nat) (x : Meter) (f tag p : Octets) : State :=
  let ahead := decide (x.seqTop < frSequence f)
  let q := if frType f = 1 then readingReport p else blockReport p
  let rules := s.rulesFailed desc x f q ahead
  let s0 := s.countFlags tile pipe rules
  match rules.find? fun e => !bitAt e.1 26 with
  | some (_, i) => s0.rejectFrame tile pipe desc x f tag q (ruleMask rules) i ahead
  | none => s0.acceptFrame tile pipe desc x f tag p q (ruleMask rules) ahead

/-- The outcome of a packet admitted for an indexed meter whose words all read (R337). -/
def State.inboundMeter (s : State) (tile pipe desc : Nat) (x : Meter) (f : Octets) : State :=
  let port := field desc 63 56
  let phase := field desc 55 54
  if s.quarantined x then
    let s1 := s.outcome tile pipe .quarantined
    (match s.fenceOf x.number with
     | some g => if 2 ≤ g.step then s1.bump 0x2306 6 else s1
     | none => s1)
  else
    let key := meterKey (s.root (field desc 53 50)) x.number x.incarnation x.epoch
    let tag := frTag key f
    if tag.take 12 ≠ slice f (16 + frLength f) 12 then
      let other := decide (frIncarnation f ≠ x.incarnation ∨ frEpoch f ≠ x.epoch)
      let s1 := if other then s.bump 0x2403 3 else s
      (s1.outcome tile pipe .authFail).slotEvent tile pipe 0xE107 x.number (bit01 other)
    else
      let p := frPlain key f
      if !payloadOk (frType f) p then (s.outcome tile pipe .malformed).slotEvent tile pipe 0xE109 x.number port
      else match classifySeq (frSequence f) x.seqTop x.seqMask with
        | .stale => ((s.bump 0x2403 2).outcome tile pipe .stale).slotEvent tile pipe 0xE10D x.number 0
        | .duplicate =>
          let s1 := s.modMeter x.number fun y =>
            let z := y.hear port phase (y.relayOf desc) (frSequence f) s.elapsed (field desc 53 50)
            { z with duplicates := if frType f = 6 then y.duplicates else satAdd 32 y.duplicates 1 }
          let s2 := (s1.outcome tile pipe .duplicate).heardMeter x.number
          if frType f = 6 then s2 else (s2.bump 0x2403 1).pushAck tile pipe desc x f tag
        | _ => s.bookFrame tile pipe desc x f tag p

/-- An admitted packet of an inbound slot, taken from its queue, its outcome in the order of R337: a word of the packet, a probe or
a word of the meter's records that reads uncorrectable aborts the slot, a header breaking a limit is malformed, and a number the
index does not hold is unknown. -/
def State.inboundPacket (s : State) (tile pipe : Nat) (pk : List (Word × Byte)) (words : List (Nat × Nat)) (x : Option Meter) :
    State :=
  let desc := packetHead pk
  let f := packetBytes pk
  let all := words ++ (match x with
    | some x => s.meterWords x (frType f)
    | none => [])
  match s.firstBad tile all with
  | some bad => (s.outcome tile pipe .eccAbort).slotAbort tile pipe (frMeter f) bad
  | none =>
    let s0 := s.readCorrected tile all
    if !headerOk f (field desc 47 40) then
      (s0.outcome tile pipe .malformed).slotEvent tile pipe 0xE109 (frMeter f) (field desc 63 56)
    else match x with
      | some x => s0.inboundMeter tile pipe desc x f
      | none =>
        let s1 := if (s.meter? (frMeter f)).isSome then s0.bump 0x2306 6 else s0
        (s1.outcome tile pipe .unknownMeter).slotEvent tile pipe 0xE108 (frMeter f) 0

/-- INBOUND_SLOT: slot k of a pipeline in the heat in progress (R61 to R86). -/
def execInboundSlot (tile pipe k : Nat) (s : State) : Result :=
  if tile < s.nTiles ∧ pipe < 8 ∧ k < 375 ∧ slotKind k = 0 then
    if !s.slotOpen 0 tile pipe k then ok (s.outcome tile pipe .notValid)
    else
      match (s.queue tile pipe).head? with
      | none => ok ((s.setQueue tile pipe (s.queue tile pipe).mark).outcome tile pipe .notValid)
      | some pk =>
        let m := frMeter (packetBytes pk)
        let n := s.slotNumber k
        let words := s.packetWords tile pipe pk.length ++ probeWords pipe m
        match s.indexed tile pipe m with
        | some x =>
          if (s.pipe tile pipe).defers n x.record then ok ((s.setQueue tile pipe (s.queue tile pipe).mark).count tile pipe 10)
          else ok (((s.takePacket tile pipe).2.admitPacket tile pipe n x.record).inboundPacket tile pipe pk words (some x))
        | none => ok ((s.takePacket tile pipe).2.inboundPacket tile pipe pk words none)
  else ok s

/-! ### Outbound, readout, query and snapshot slots (R87, R88, R757) -/

/-- A readout whose request was returned restarts from its first slot, its part-records so far discarded (R757). -/
def State.restartReadout (s : State) (id : Nat) : State :=
  { s with billing := { s.billing with readouts := s.billing.readouts.map fun q =>
      if q.id = id then { q with done_ := 0, chain := zeroBlock, final := [], run := q.run + 1 } else q } }

/-- A request returned unperformed waits in its meter's pending list, and its descriptor, of the meter, the slot kind and the
request, or of the uncorrectable word, goes to the event queue (R757). -/
def State.returnRequest (s : State) (tile pipe kind : Nat) (x : Meter) (pk : List (Word × Byte)) : State :=
  let s1 := s.holdRequest x.number kind pk
  let s2 := if kind = 1 then s1.restartReadout (packetHead pk / 4294967296) else s1
  if s.quarantined x then (s2.pushEvent tile pipe x.number 0 4 kind (be 4 (packetHead pk / 4294967296))).2
  else match s.firstBad tile x.hotWords with
    | some bad => s2.slotAbort tile pipe x.number bad
    | none => s2

/-- A request slot of a kind: the meter's packet is deferred, returned or performed. One whose words or probes read uncorrectable is
aborted (R85). One for a meter the pipeline's index does not hold is released with no effect (DESIGN CHOICE, log 70). -/
def requestSlot (s : State) (kind tile pipe k q : Nat) (counter : Nat) (perform : State → Meter → List (Word × Byte) → State) :
    State :=
  if !s.slotOpen kind tile pipe k then s
  else match (s.queue tile q).head? with
    | none => s.setQueue tile q (s.queue tile q).mark
    | some pk =>
      let m := packetHead pk % 4294967296
      let words := s.packetWords tile q pk.length ++ probeWords pipe m
      match s.indexed tile pipe m with
      | none =>
        let s1 := (s.takePacket tile q).2.count tile pipe counter
        (match s.firstBad tile words with
         | some bad => s1.slotAbort tile pipe m bad
         | none => s1.readCorrected tile words)
      | some x =>
        let n := s.slotNumber k
        if (s.pipe tile pipe).defers n x.record then (s.setQueue tile q (s.queue tile q).mark).count tile pipe 10
        else
          let s1 := ((s.takePacket tile q).2.admitPacket tile pipe n x.record).count tile pipe counter
          match s.firstBad tile words with
          | some bad => s1.slotAbort tile pipe m bad
          | none =>
            if s.quarantined x || s.hotUncorrectable x then (s1.readCorrected tile words).returnRequest tile pipe (kind - 1) x pk
            else perform ((s1.readCorrected tile words).hotCorrected x) x pk

/-- Whether a meter's outbound Sequence is spent: 0 stands in NextOutSeq after 4,294,967,295 was sealed, and no frame is sealed under
that key again (R322, R323; DESIGN CHOICE, log 91). -/
def Meter.outSpent (x : Meter) : Bool := x.nextOutSeq == 0

/-- A frame sealed for a meter under a lane class and sent on a port; the outbound sequence goes on (R323, R334, R454). -/
def State.sealOn (s : State) (tile pipe : Nat) (x : Meter) (cls port phase type id : Nat) (payload : Octets) : State :=
  let seq := x.nextOutSeq
  let key := meterKey (s.root cls) x.number x.incarnation x.epoch
  let f := sealFrame key type x.number x.incarnation x.epoch seq false payload
  let s1 := s.writeHot x.number [(5, (seq + 1) % 2 ^ 32 * 2 ^ 32 + id)]
  s1.emit tile pipe port phase x.relay id f

/-- A frame sealed for a meter on its serving path. -/
def State.sealFor (s : State) (tile pipe : Nat) (x : Meter) (type id : Nat) (payload : Octets) : State :=
  s.sealOn tile pipe x (s.meterClass x) x.port x.phase type id payload

/-- The parameters a sealing carries: SET_TIME of the part and a held CREDIT_STATE take theirs now; a DISCONNECT of the
prepayment state machine takes ExecuteAt at its first sealing (R347, R392, R398, R760). -/
def State.sealParams (s : State) (x : Meter) (r : Request) : Octets :=
  if r.code = Cmd.setTime ∧ r.origin = 2 then be 4 (s.tbSeconds % 2 ^ 32) ++ be 4 (s.tbNs % 1000000000) ++ r.params.drop 8
  else if r.sealings = 0 ∧ r.code = Cmd.creditState ∧ r.origin = 3 then creditParams x
  else if r.sealings = 0 ∧ r.code = Cmd.disconnect ∧ r.origin = 1 then be 4 (s.tbSeconds % 2 ^ 32)
  else r.params

/-- A command of the request table sealed (R346, R347). -/
def State.sealCommand (s : State) (tile pipe : Nat) (x : Meter) (rt n : Nat) (r : Request) : State :=
  let id := requestId r.generation.toNat rt n
  let params := s.sealParams x r
  let payload := be 4 id ++ be 2 r.code ++ be 2 r.flags ++ params
  let s1 := match r.port with
    | some q => s.sealOn tile pipe x (s.laneClass 1 (q % 64 / 8) (q % 8)) q 0 5 id payload
    | none => s.sealFor tile pipe x 5 id payload
  let r' : Request := { r with
    state := 1, sealings := min 255 (r.sealings + 1), params := params, lastAt := s.elapsed
    firstAt := if r.sealings = 0 then s.elapsed else r.firstAt }
  let s2 := ((s1.setRequest rt n r').bump 0x2403 4).contribute x.number r.applyAt
    (be 4 id ++ be 8 (((s1.meter? x.number).getD x).word 5))
  let s2 := if r.code = Cmd.firmwareActivate then s2.modMeter x.number fun x =>
      if x.firmware.state = 1 ∧ x.firmware.target = fieldAt params 0 4 then { x with firmware := { x.firmware with state := 2 } } else x
    else s2
  if r.code = Cmd.disconnect ∧ r.origin = 1 ∧ r.sealings = 0 then
    (s2.bump 0x4003 10).prepayTo x.number 4 x.emergencyAvailable
  else s2

/-- The work of an outbound slot for one packet. -/
def State.outbound (s : State) (tile pipe : Nat) (x : Meter) (pk : List (Word × Byte)) : State :=
  let id := packetHead pk / 4294967296
  if 1 < pk.length then
    let b := packetBytes pk
    if x.served && !x.outSpent then s.sealFor tile pipe x (fieldAt b 0 1) id ((b.drop 8).take (fieldAt b 1 1)) else s
  else match s.requestOf id with
    | none => s
    | some (rt, n, r) =>
      if (!x.served && r.port.isNone) || x.outSpent then s.withdraw rt n
      else if (r.origin == 1 || r.origin == 3) && !x.isPrepay && r.sealings == 0 then s.withdraw rt n
      else if r.code = Cmd.disconnect ∧ r.origin = 1 ∧ r.sealings = 0 then
        (match s.friendlyHold x with
         | some e => (s.endRequest rt n 4).holdDisconnect x.number e
         | none => s.sealCommand tile pipe x rt n r)
      else s.sealCommand tile pipe x rt n r

/-- OUTBOUND_SLOT. -/
def execOutboundSlot (tile pipe k : Nat) (s : State) : Result :=
  ok (requestSlot s 1 tile pipe k (0x08 + pipe) 11 fun s x pk => s.outbound tile pipe x pk)

/-- QUERY_SLOT: the 16-word image to the management reply queue. -/
def execQuerySlot (tile pipe k : Nat) (s : State) : Result :=
  ok (requestSlot s 3 tile pipe k (0x18 + pipe) 13 fun s x pk =>
    (s.pushPacket tile (0x40 + pipe) .pipeline (packetOfWords (BitVec.ofNat 64 (packetHead pk) :: x.words))).2)

/-- A swap of a sum's tag (R414). -/
def State.swapSum (s : State) (tile pipe : Nat) (v : Nat) : State :=
  let n := field v 123 112
  let f := s.sum tile pipe n
  let s1 := (s.setSum tile pipe n { f with
    snapshot := BitVec.ofNat 64 (field v 111 104 * 2 ^ 56), swapped := true }).wordWritten 0 tile
    (sumAddress pipe n 1)
  (s1.pushPacket tile (0x50 + pipe) .pipeline (packetOfWords [BitVec.ofNat 64 (v / 2 ^ 64), f.snapshot])).2

/-- The predicted crossing of a cycle of the authority tile, TB64 ns (R528). -/
def State.crossingAt (s : State) (cycle : Nat) : Nat :=
  ((s.line.cycleAt : Int) + toSigned 32 (wrapSub 32 cycle s.line.cycle) * (Tab.getD s.line.mains s.line.authority {}).period).toNat

/-- TargetSeconds and TargetNs of a cycle, public nanoseconds (R349, R504, R528). -/
def State.targetBytes (s : State) (cycle : Nat) : Octets :=
  let t := s.crossingAt cycle
  be 4 (t / 1000000000) ++ be 4 t

/-- A broadcast frame sealed under the broadcast key of a lane class (R455, log 17); a command of it is a SNAPSHOT, whose target
instant is computed at the sealing (R330, R349). After Sequence 4,294,967,295 nothing is sealed (R323; DESIGN CHOICE, log 91). -/
def State.sealBroadcast (s : State) (tile pipe : Nat) (b : Octets) : State :=
  let cls := fieldAt b 4 1
  let epoch := s.obj 0x5012 (cls + 1)
  let seq := Tab.getD s.keys.broadcastSeq cls 0 + 1
  let p := (b.drop 8).take (fieldAt b 1 1)
  let f := sealFrame (meterKey (s.root cls) 4294967295 0 epoch) (fieldAt b 0 1) 4294967295 0 epoch seq true
    (if fieldAt b 0 1 = 5 then p.take 16 ++ s.targetBytes (fieldAt p 12 4) ++ p.drop 24 else p)
  let s1 : State := { s with keys := { s.keys with broadcastSeq := Tab.set s.keys.broadcastSeq cls seq } }
  if 2 ^ 32 ≤ seq then s else s1.emit tile pipe (fieldAt b 2 1) (fieldAt b 3 1) 0 0 f

/-- The words a snapshot slot reads: its request, and the snapshot word of the sum that a swap names (R414). -/
def State.snapshotWords (s : State) (tile pipe : Nat) (pk : List (Word × Byte)) : List (Nat × Nat) :=
  s.packetWords tile (0x20 + pipe) pk.length ++
    (if pk.length = 2 then [(0, sumAddress pipe (field (recordNat (pk.map (·.1))) 123 112) 1)] else [])

/-- A snapshot slot that met an uncorrectable word: its request has no effect, and the loss engine asks for a swap again (R85;
DESIGN CHOICE, log 87). -/
def State.snapshotAbort (s : State) (tile pipe : Nat) (pk : List (Word × Byte)) (bad : Nat × Nat) : State :=
  let s1 := s.slotAbort tile pipe (if pk.length = 2 then 0 else packetHead pk % 4294967296) bad
  if pk.length = 2 then
    { s1 with loss := { s1.loss with swaps := s1.loss.swaps ++ [(tile, pipe, recordNat (pk.map (·.1)))] } }
  else s1

/-- What a snapshot slot does with its request: a swap request of two words, or a broadcast command to seal. -/
def State.snapshotRequestDone (s : State) (tile pipe : Nat) (pk : List (Word × Byte)) : State :=
  if pk.length = 2 then s.swapSum tile pipe (recordNat (pk.map (·.1))) else s.sealBroadcast tile pipe (packetBytes pk)

/-- SNAPSHOT_SLOT: another Op than 1 in a swap request makes the slot not-valid; a word that reads uncorrectable aborts it (R85,
R142, R414). -/
def execSnapshotSlot (tile pipe k : Nat) (s : State) : Result :=
  if !s.slotOpen 4 tile pipe k then ok s
  else match (s.queue tile (0x20 + pipe)).head? with
    | none => ok s
    | some pk =>
      let ws := s.snapshotWords tile pipe pk
      let s1 := (s.takePacket tile (0x20 + pipe)).2.count tile pipe 14
      match s.firstBad tile ws with
      | some bad => ok (s1.snapshotAbort tile pipe pk bad)
      | none =>
        okIf (decide (pk.length ≠ 2) || decide (field (recordNat (pk.map (·.1))) 127 124 = 1)) s
          ((s1.readCorrected tile ws).snapshotRequestDone tile pipe pk)

/-! ### Descriptors of the event queues (R80, R102, R372) -/

/-- A descriptor's payload. -/
def State.eventBody (s : State) (pk : List (Word × Byte)) : Octets :=
  (Tab.find? s.fabric.eventBodies ((pk.getD 1 (0, 0)).1.toNat)).getD []

/-- The descriptor at the head of an event queue as the management cores read it (R181). -/
def State.eventPacket (s : State) (tile pipe : Nat) : Option (List (Word × Byte)) :=
  (s.readHead tile (0x38 + pipe) Producer.management.code).1

/-- The head of an event queue taken by the management cores, with its payload. -/
def State.takeEvent (s : State) (tile pipe : Nat) : State :=
  match s.drainPacket tile (0x38 + pipe) Producer.management.code with
  | (some pk, s1) =>
    { s1 with fabric := { s1.fabric with eventBodies := Tab.erase s1.fabric.eventBodies ((pk.getD 1 (0, 0)).1.toNat) } }
  | (none, s1) => s1

/-- The items of a slot's report, as R102 orders them: the meter or the ingress lane, the suppressed count, the mismatch flag; the
rule row of 0xE10A. -/
def reportItems (d : Nat) (body : Octets) : List Nat :=
  let m := d / 4294967296
  let detail := d % 256
  let code := field d 31 16
  if code = 0xE107 then [m, fieldAt body 0 4, detail]
  else if code = 0xE109 then [detail, fieldAt body 0 4]
  else if code = 0xE10A then [m, detail]
  else [m, fieldAt body 0 4]

/-- A slot's report recorded by the management cores; one of a returned request is only taken, since the request waits already
(R80, R102, R757). -/
def State.reportEvent (s : State) (tile : Nat) (pk : List (Word × Byte)) : State :=
  let d := packetHead pk
  if field d 15 8 = 0 then
    s.offerFull (field d 31 16) tile (reportItems d (s.eventBody pk)) (decide (0 < fieldAt (s.eventBody pk) 0 4)) false
  else s

/-- The reports at the head of an event queue recorded, in order, up to the first descriptor of another kind. -/
def State.drainReports (fuel : Nat) (s : State) (tile pipe : Nat) : State :=
  match fuel with
  | 0 => s
  | n + 1 =>
    match s.eventPacket tile pipe with
    | some pk =>
      if field (packetHead pk) 15 8 = 0 ∨ field (packetHead pk) 15 8 = 4 then
        State.drainReports n ((s.reportEvent tile pk).takeEvent tile pipe) tile pipe
      else s
    | none => s

/-- The event queue of a pipeline with the reports at its head taken. -/
def State.events (s : State) (tile pipe : Nat) : State :=
  s.drainReports (s.queue tile (0x38 + pipe)).waiting.toNat tile pipe

/-- Every event queue's reports. -/
def State.drainEvents (s : State) : State := s.eachTile fun s t => (List.range 8).foldl (fun s p => s.events t p) s

/-- The head of an event queue as descriptor and payload, where it has a class: 1 meter event, 2 threshold, 3 an uncorrectable
word (log 18). -/
def State.eventHead (s : State) (tile pipe cls : Nat) : Option (Nat × Octets) :=
  match s.eventPacket tile pipe with
  | some pk => if field (packetHead pk) 15 8 = cls then some (packetHead pk, s.eventBody pk) else none
  | none => none

end Sys2Proof.Machine
end

