-- ==== Sys2Proof/Machine/Line.lean ====
section
/-! DEFINITION. Line lanes and the mains time base (07 R230 to R287). -/

namespace Sys2Proof.Machine

/-! ### Lanes -/

/-- A line lane. -/
def State.lane (s : State) (t l : Nat) : LineLane := if l < 4 then Tab.getD s.line.lanes (t * 4 + l) {} else {}

/-- A line lane stored. -/
def State.setLane (s : State) (t l : Nat) (x : LineLane) : State :=
  { s with line := { s.line with lanes := if l < 4 then Tab.set s.line.lanes (t * 4 + l) x else s.line.lanes } }

/-- A coupling channel. -/
def State.port (s : State) (t l c : Nat) : LinePort :=
  if l < 4 ∧ c < 3 then Tab.getD s.line.ports ((t * 4 + l) * 3 + c) {} else {}

/-- A coupling channel stored, with its fault byte in 0x3020: a tile has four lanes of three channels (R9, R25). -/
def State.setPort (s : State) (t l c : Nat) (x : LinePort) : State :=
  if l < 4 ∧ c < 3 then
    ({ s with line := { s.line with ports := Tab.set s.line.ports ((t * 4 + l) * 3 + c) x } } : State).setObj 0x3020
      (t * 12 + l * 3 + c + 1) x.bits
  else s

/-- The mains time base of a tile. -/
def State.mains (s : State) (t : Nat) : Mains := Tab.getD s.line.mains t {}

/-- The mains time base of a tile stored, with its objects. -/
def State.setMains (s : State) (t : Nat) (x : Mains) : State :=
  ({ s with line := { s.line with mains := Tab.set s.line.mains t x } } : State).setObj 0x3013 (t + 4) x.state

/-- A channel is out of service. -/
def LinePort.out (x : LinePort) : Bool := bitAt x.bits 5

/-- The lane works in three-phase coupling (R230). -/
def State.threePhase (s : State) (t l : Nat) : Bool := s.obj 0x3001 (t * 4 + l + 1) == 1

/-- The receiver that hears a channel, and the channel of what answers it: the channel's own, or 3, the lane's one that combines all
three, in three-phase coupling and in pilot light (R230, R251, R285). -/
def State.receiver (s : State) (t l c : Nat) : Nat := if s.threePhase t l || decide (2 ≤ s.power.pilot) then 3 else c

/-- The channels of an access domain: all three together for a signal on all of them and in three-phase coupling, else the channel
alone (R230, R231). -/
def State.domain3 (s : State) (t l phase : Nat) : List Nat := if s.threePhase t l || decide (3 ≤ phase) then [0, 1, 2] else [phase]

/-- The channels that a signal of a phase drives: those of the phase that are in service (R230, R277). -/
def State.drives (s : State) (t l phase : Nat) : Nat :=
  ((List.range 3).filter fun c => (decide (3 ≤ phase) || c == phase) && !(s.port t l c).out).foldl (fun a c => a + 2 ^ c) 0

/-- A signal sent on the channels of a phase; those out of service have their pins at high impedance (R277). -/
def State.signal (s : State) (t l phase kind : Nat) (b : Octets) : State :=
  if s.drives t l phase = 0 then s else s.send (.line t l (s.drives t l phase) kind) b

/-- The phase of what a lane contends for: its beacon, else the frame it sends, else the channel it calibrates; every channel for a lane
with none of them. -/
def LineLane.contender (x : LineLane) : Nat :=
  if x.beacon.isSome then 3
  else match x.sending, x.calibration with
    | some e, _ => e.frame.phase
    | none, some c => (c.channel - 1) % 3
    | none, none => 3

/-- The medium of a phase's access domain is taken: no window cycle opens there before an instant (R256). -/
def State.holdMedium (s : State) (t l phase at_ : Nat) : State :=
  let x := s.lane t l
  s.setLane t l { x with opensAt := x.opensAt.zipIdx.map fun e => if (s.domain3 t l phase).contains e.2 then at_ else e.1 }

/-- The lane transmits at this instant, or is about to send a receipt: a frame, receipt, claim tone or calibration step (R231,
R233). -/
def State.lineBusy (s : State) (t l : Nat) : Bool := (s.lane t l).transmitting || decide (s.elapsed < (s.lane t l).sentTo)

/-- How long a frame has lasted that completes now with a receive instant: at least a receipt's length, at most the longest frame's
(R233, R235). -/
def State.frameLasted (s : State) (rx : Nat) : Nat := max 143360 (min 4000000 (s.tbNs - extend32 rx s.tbNs))

/-- A frame that completes now was under reception while the lane transmitted: it is lost (R231, R233). -/
def State.blanked (s : State) (t l rx : Nat) : Bool :=
  let x := s.lane t l
  x.transmitting || (decide (x.sentFrom < x.sentTo) && decide (x.sentFrom < s.elapsed) &&
    decide (s.elapsed < x.sentTo + s.frameLasted rx))

/-- The state of R283: the highest whose condition holds; STARTING, whose own condition speaks of a tile that is not LOCKED,
stands before the two states of the mains (log 23). -/
def State.laneState (s : State) (t l : Nat) : Nat :=
  let x := s.lane t l
  if !x.on then 0
  else if (List.range 3).all fun c => (s.port t l c).out then 6
  else if x.impaired then 5
  else if x.starting then 1
  else if (s.mains t).state = 2 then 4
  else if (s.mains t).state = 1 then 3
  else 2

/-- Placement is told of a lane in or out of PORT_FAULT, IMPAIRED, SYNC_LOSS or DISABLED (R223, R283). -/
def State.laneUsable (s : State) (port : Nat) (usable : Bool) : State :=
  if usable then { s with place := { s.place with impaired := s.place.impaired.filter (· != port) } }
  else if s.place.impaired.contains port then s
  else { s with place := { s.place with impaired := s.place.impaired ++ [port], passDue := true } }

/-- The lane's reported state follows its conditions (R283). -/
def State.restate (s : State) (t l : Nat) : State :=
  let x := s.lane t l
  let n := s.laneState t l
  if n = x.state then s
  else
    ((((s.setLane t l { x with state := n }).setObj 0x3002 (t * 4 + l + 1) n).offer 0xE380 t [t * 4 + l, x.state, n]).laneUsable
      (portCode 0 t l) (decide (1 ≤ n ∧ n ≤ 3)))

/-- Every lane of a tile restated. -/
def State.restateTile (s : State) (t : Nat) : State := (List.range 4).foldl (fun s l => s.restate t l) s

/-- The beacon key of a lane, from the broadcast key of its class (12 R455). -/
def State.deriveBeacon (s : State) (t l : Nat) : Octets :=
  let cls := s.laneClass 0 t l
  let bk := meterKey (s.root cls) 4294967295 0 (s.obj 0x5012 (cls + 1))
  kdf bk (labelOf 0x42434F4E) (be 4 Config.unitId.toNat ++ be 1 t ++ be 1 l) 128

/-- The tile slot of a beacon key written: encrypt-only (12 R455). -/
def State.installBeacon (s : State) (t l n : Nat) : State :=
  let cls := s.laneClass 0 t l
  let k : KeySlot :=
    { use := 0, type := 1, generation := s.obj 0x5012 (cls + 1), parent := 16 + cls, label := 0x42434F4E
      material := s.deriveBeacon t l, context := be 4 Config.unitId.toNat ++ be 1 t ++ be 1 l }
  s.setSlot (tileSlotKey t n) k

/-- The beacon key of a lane that is enabled, in the lane's slot or in a free one (12 R446, R455). -/
def State.keyBeacon (s : State) (t l : Nat) : State :=
  match (s.lane t l).keySlot with
  | some n => s.installBeacon t l n
  | none =>
    match s.freeTileSlot t with
    | none => s.offer 0xE60B t [t]
    | some n => (s.installBeacon t l n).setLane t l { s.lane t l with keySlot := some n }

/-- The material of a lane's beacon key. -/
def State.beaconKey (s : State) (t l : Nat) : Octets :=
  match (s.lane t l).keySlot with
  | none => []
  | some n => s.keyMaterial (tileSlotKey t n)

/-- A lane enabled by a swap (R283). -/
def State.startLine (s : State) (t l : Nat) : State :=
  let s1 := s.keyBeacon t l
  (s1.setLane t l { s1.lane t l with on := true, starting := true, startAt := s.elapsed, firstBeacon := false }).restate t l

/-- A calibration abandoned: its previous result stays (R282). -/
def State.dropCalibration (s : State) (t l : Nat) : State :=
  match (s.lane t l).calibration with
  | none => s
  | some c => ((s.setLane t l { s.lane t l with calibration := none }).setObj 0x3022 2 3).offer 0xE38F t [c.channel, c.step]

/-- A lane reaches DISABLED (R99): nothing of its access or frames is kept, and its calibration is abandoned. -/
def State.stopLine (s : State) (t l : Nat) : State :=
  let s1 := s.dropCalibration t l
  (s1.setLane t l { s1.lane t l with on := false, starting := false, sending := none, own := [], beacon := none, holds := []
                                     transmitting := false, window := false }).restate t l

/-- LINE_LANE_STARTING_TIMEOUT (R283). -/
def execLineLaneStartingTimeout (tile lane : Nat) (s : State) : Result :=
  let x := s.lane tile lane
  okIf (x.starting && s.due x.startAt 1000000000 && decide ((s.mains tile).state ≠ 0)) s
    ((s.setLane tile lane { x with starting := false }).restate tile lane)

/-- The unit's line pins transmit at all: not on a standby, nor on an active whose LANE_OWN reads back low, not after a tamper or
in pilot light (R284, R465, R712). -/
def State.linesDrive (s : State) : Bool :=
  (decide (s.pair.state = 0) || (s.pair.baton && !bitAt (s.obj 0x1061 1) 1)) && !s.fabric.keysCleared && !(s.halted false) &&
    !Tab.has s.heat.halts 6

/-- The lane transmits at all: it is enabled, with a channel in service. -/
def State.lineSends (s : State) (t l : Nat) : Bool := (s.lane t l).on && decide ((s.lane t l).state ≠ 6) && s.linesDrive

/-- The end of STARTING: port checks and first beacon done; a unit whose lanes transmit nothing has no beacon to wait for (R283,
R284; DEDUCED, log 76). -/
def State.endStarting (s : State) (t l : Nat) : State :=
  let x := s.lane t l
  if x.starting && (x.firstBeacon || !s.lineSends t l) && (List.range 3).all (fun c => (s.port t l c).checked) then
    (s.setLane t l { x with starting := false }).restate t l
  else s

/-- A line counter, in the order of 0x3030. -/
def State.lineCount (s : State) (t l i : Nat) : State := s.count t (13 + l) i

/-! ### Notches (R241 to R243) -/

/-- Carriers of profile 1. -/
def notchProfile1 : List (Nat × Nat) :=
  [(50, 55), (95, 110), (191, 200), (275, 278), (382, 392), (493, 497), (573, 586), (679, 683), (764, 812)]

/-- Ranges of a NotchTable image: 16 entries of first and last carrier. -/
def notchRanges (table : Octets) : List (Nat × Nat) :=
  (List.range 16).filterMap fun i =>
    let a := fieldAt table (4 * i) 2
    let b := fieldAt table (4 * i + 2) 2
    if a = 0 ∧ b = 0 then none else some (a, b)

/-- The ranges of a profile. -/
def profileRanges (profile : Nat) (table : Octets) : List (Nat × Nat) :=
  if profile = 0 then [] else if profile = 1 then notchProfile1 else notchRanges table

/-- Data carriers a set of ranges leaves (R235). -/
def dataCarriers (rs : List (Nat × Nat)) : Nat :=
  (List.range 770).countP fun i =>
    let c := i + 50
    !([120, 240, 360, 480, 600, 720].contains c) && !(rs.any fun r => decide (r.1 ≤ c ∧ c ≤ r.2))

/-- A notch set may be used: no pilot covered, at least 384 data carriers (R241). -/
def notchOk (rs : List (Nat × Nat)) : Bool :=
  !([120, 240, 360, 480, 600, 720].any fun p => rs.any fun r => decide (r.1 ≤ p ∧ p ≤ r.2)) && decide (384 ≤ dataCarriers rs)

/-- The notch set that the objects name: profile and table (R242). -/
def State.notchObjects (s : State) : Nat × Octets := (s.obj 0x3003 1, s.domain 0x3003 2)

/-- A notch set written, where its ranges are allowed, in force later (R241, R243). -/
def State.takeNotch (s : State) (profile : Nat) (table : Octets) : State :=
  if notchOk (profileRanges profile table) then
    { s with line := { s.line with newNotch := some (profile, table, s.elapsed) } }
  else s

/-- The period of two mains cycles (R263). -/
def State.beaconPeriod (s : State) : Nat := 2 * (s.mains s.line.authority).period

/-! ### Frame control and blocks (R237, R245) -/

/-- CRC-24 of R245 and CRC-16 of R237. -/
def crc24 (b : Octets) : Nat := crcMsb 24 0x864CFB 0xB704CE 0 b
def crc16 (b : Octets) : Nat := crcMsb 16 0x1021 0xFFFF 0 b

/-- Fields of a frame control of 16 bytes. -/
def fcField (fc : Octets) (hi lo : Nat) : Nat := field (ofBe (slice fc 0 16)) hi lo

/-- A frame control that passes its check. -/
def fcOk (fc : Octets) : Bool := decide (fcField fc 23 0 = crc24 (fc.take 13))

/-- A frame control of the part. -/
def makeFc (kind cls allPhases retry src dst map len kindField seq : Nat) : Octets :=
  let v := kind * 2 ^ 124 + cls * 2 ^ 122 + allPhases * 2 ^ 121 + retry * 2 ^ 120 + src * 2 ^ 104 + dst * 2 ^ 88 + map * 2 ^ 80 +
    len * 2 ^ 70 + kindField * 2 ^ 32 + seq * 2 ^ 24
  let b := (be 16 v).take 13
  b ++ be 3 (crc24 b)

/-- Payload bytes a block carries at a rate code (R237). -/
def blockBytes (rate : Nat) : Nat := if rate = 0 then 133 else if rate = 1 then 178 else if rate = 2 then 223 else 238

/-- The rate code of a tone map's mode byte (R250). -/
def mapRateCode (image : Octets) : Nat := fieldAt image 2 1 / 16 % 4

/-- A payload in blocks of n bytes, the last padded with zero bytes, each followed by its CRC-16 (R237). -/
def payloadBlocks (n : Nat) (payload : Octets) : List Octets :=
  (List.range (divUp payload.length n)).map fun i =>
    slice payload (n * i) n ++ be 2 (crc16 (slice payload (n * i) n))

/-- A received block passes its CRC-16. -/
def blockOk (n : Nat) (b : Octets) : Bool := decide (fieldAt b n 2 = crc16 (slice b 0 n))

/-- The tag of a meter on a lane. -/
def LineLane.tagOf (x : LineLane) (m : Nat) : Option Nat := (List.find? (fun e => e.2.meter == m) x.tags).map (·.1)

/-! ### Phase detection (R273, R274, R422) -/

/-- The offset of a phase's crossings from the tile's reference, ns. -/
def Mains.offset (x : Mains) (c : Nat) : Int :=
  let l := (x.inputs.getD c {}).offsets
  if l.isEmpty then 0 else l.sum / l.length

/-- A difference of instants as the nearest to 0 of those that a whole number of periods separates. -/
def withinHalf (period : Nat) (d : Int) : Int :=
  let p : Int := max 1 period
  (d + p / 2) % p - p / 2

/-- The tile's reference input: A, or the lowest-lettered input that has been in sync while A has not (R267). -/
def Mains.reference (x : Mains) : Nat :=
  ((List.range 3).find? fun c => decide ((x.inputs.getD c {}).state ≠ 0)).getD 0

/-- The angle of an instant from a phase's crossings, in 0.1 degrees, 0 to 3,599. -/
def Mains.angle (x : Mains) (c : Nat) (t : Int) : Int :=
  let p : Int := max 1 x.period
  ((t - x.last - x.offset c) % p) * 3600 / p

/-- The phases whose crossings the tile has: its reference, and every input with an accepted crossing (R267, R274). -/
def Mains.known (x : Mains) (c : Nat) : Bool :=
  (c == x.reference && (x.inputs.getD c {}).state != 0) || !(x.inputs.getD c {}).offsets.isEmpty

/-- The phase and reversal a crossing instant shows (R274). -/
def Mains.shows (x : Mains) (tol : Nat) (t : Int) : Option (Nat × Bool) :=
  let near (c : Nat) (a : Int) : Bool :=
    let d := (x.angle c t - a) % 3600
    x.known c && (decide (d ≤ 10 * tol) || decide (3600 - 10 * tol ≤ d))
  match (List.range 3).find? fun c => near c 0 with
  | some c => some (c, false)
  | none => ((List.range 3).find? fun c => near c 1800).map fun c => (c, true)

/-- The detection of one frame with a ZcDelta (R274). -/
def State.detectPhase (s : State) (t m zc rx : Nat) : State :=
  match s.meter? m with
  | none => s
  | some x =>
    let mn := s.mains t
    if zc = 0xFFFF ∨ mn.state = 2 then s
    else
      let at_ : Int := (extend32 rx s.tbNs : Int) - zc * 500
      let seen := mn.shows (s.obj 0x3014 1) at_
      let run := if seen = x.line.seen then satAdd 8 x.line.agreeing 1 else 1
      let l : MeterLine := { x.line with seen := seen, agreeing := run, lastAngle := mn.angle (mn.reference) at_ }
      match seen with
      | none => s.setMeter { x with line := l }
      | some (p, rev) =>
        if s.obj 0x3014 2 ≤ run ∧ (x.line.phase ≠ p ∨ x.line.reversed ≠ rev) then
          let s1 := (s.setMeter { x with line := { l with phase := p, reversed := rev } }).offerLimited 0xE391 t 0 [m, p, bit01 rev]
          if x.loss.declaredPhase = 4 ∧ x.loss.feederTag ≠ 0 then s1.changeMembership m x.loss.feederTag else s1
        else s.setMeter { x with line := l }

/-! ### Tags (R246, R248) -/

/-- A lane's own frame to send; a standby's lane has none (R284). -/
def State.laneFrame (s : State) (t l : Nat) (f : LineFrame) : State :=
  if s.isStandby then s else s.setLane t l { s.lane t l with own := (s.lane t l).own ++ [f] }

/-- The number of tags in use, in 0x3031. -/
def State.tagCount (s : State) (t l : Nat) : State := s.setObj 0x3031 (t * 4 + l + 1) (s.lane t l).tags.length

/-- The tag of the meter not served on the lane and longest unheard (R246). -/
def State.oldestTag (s : State) (t l : Nat) : Option Nat :=
  let x := s.lane t l
  let free := x.tags.filter fun e => match s.meter? e.2.meter with
    | some m => !(m.served && m.port == portCode 0 t l)
    | none => true
  match free with
  | [] => none
  | e :: r => some (r.foldl (fun a b => if b.2.heardAt < a.2.heardAt then b else a) e).1

/-- A tag erased with its maps. -/
def State.eraseTag (s : State) (t l tag : Nat) : State :=
  let x := s.lane t l
  (s.setLane t l { x with tags := Tab.erase x.tags tag, maps := x.maps.filter fun e => e.1 / 4 != tag
                          given := x.given.filter fun e => e.1 / 256 != tag }).tagCount t l

/-- A tag freed with its maps, on the standby too (R246, R284). -/
def State.freeTag (s : State) (t l tag : Nat) : State := (s.eraseTag t l tag).mgmt 26 [t, l, tag] []

/-- A join request's tag: the meter's own, or the lowest free one, after a full table has freed one (R246, R248). A unit that
follows the active's table assigns none (R284). -/
def State.joinTag (s : State) (tile lane channel meter kind : Nat) : State :=
  let x := s.lane tile lane
  let full := decide (8191 ≤ x.tags.length) && (x.tagOf meter).isNone
  let s1 := if full then (match s.oldestTag tile lane with
      | some g => (s.freeTag tile lane g).offerCounted 0xE390 tile lane [tile * 4 + lane] 1
      | none => s) else s
  let y := s1.lane tile lane
  let tag : Option Nat := match y.tagOf meter with
    | some g => some g
    | none => (List.range (y.tags.length + 1)).map (· + 1) |>.find? fun g => decide (g ≤ 0x1FFF) && !Tab.has y.tags g
  if s.isStandby then s
  else match tag with
    | none => s1
    | some g =>
      let s2 := (s1.setLane tile lane { y with tags := Tab.set y.tags g { meter := meter, kind := kind, heardAt := s.elapsed } }).tagCount
        tile lane
      let s3 := (s2.modMeter meter fun m => { m with line := { m.line with kind := kind } }).mgmt 9 [tile, lane, g, meter, kind] []
      s3.laneFrame tile lane { kind := 4, cls := 2, dst := 0xFFFE, phase := s.receiver tile lane channel,
                               payload := be 1 2 ++ be 4 meter ++ be 2 g }

/-- A tone map of a meter is kept (R251). -/
def State.keepMap (s : State) (tile lane tag : Nat) (image : Octets) : State :=
  let x := s.lane tile lane
  if !Tab.has x.tags tag ∨ image.length ≠ 296 then s
  else (s.setLane tile lane { x with maps := Tab.set x.maps (tag * 4 + fieldAt image 3 1 % 4) { image := image, at_ := s.elapsed } }).mgmt 10
    [tile, lane, tag] image

/-- A sounding frame to a meter: symbols in [63:56] of KindField (R245). -/
def soundingFrame (tag channel symbols : Nat) : LineFrame :=
  { kind := 3, cls := 3, dst := tag, phase := channel, kindField := symbols * 2 ^ 24 }

/-- The part sounds for a meter on a channel, where a SoundRequest asks for it (R248). Neither R248 nor R252 names an occasion on
which the part would send one itself, so nothing does (log 89). -/
def State.soundFor (s : State) (tile lane tag channel symbols : Nat) : State :=
  s.laneFrame tile lane (soundingFrame tag (channel % 4) (max 2 (min 8 symbols)))

/-- A lane management frame of a meter consumed by the lane, by its type byte (R234, R248). -/
def State.manageFrame (s : State) (tile lane channel src : Nat) (payload : Octets) : State :=
  let type := fieldAt payload 0 1
  if type = 1 then s.joinTag tile lane channel (fieldAt payload 1 4) (fieldAt payload 5 1)
  else if type = 3 then s.keepMap tile lane src payload
  else if type = 4 then s.soundFor tile lane src (fieldAt payload 1 1) (fieldAt payload 2 1)
  else s

/-! ### Tone maps the part builds (R236, R250, R252) -/

/-- Coded bits per carrier and the minimum SNR in dB of each loading code (R236). -/
def codedBits (code : Nat) : Nat := ([0, 1, 2, 3, 4, 6, 8, 10] : List Nat).getD code 0
def minSnr (code : Nat) : Nat := ([0, 4, 7, 11, 14, 20, 26, 32] : List Nat).getD code 0

/-- The densest constellation whose minimum SNR plus LoadMargin a carrier's SNR meets, both in 0.25 dB, up to a cap (R252). -/
def loadingCode (snr margin cap : Nat) : Nat :=
  ((List.range (cap + 1)).filter fun c => decide (c = 0 ∨ 4 * minSnr c + margin ≤ snr)).foldl max 0

/-- Loading codes packed from bit 7 of byte 8 on, 287 bytes (R250). -/
def loadingBytes (codes : List Nat) : Octets := be 287 (codes.foldl (fun a c => a * 8 + c) 0 * 2 ^ (2296 - 3 * codes.length))

/-- The loading code of data carrier i of a map. -/
def loadingAt (image : Octets) (i : Nat) : Nat := (ofBe (slice image 8 287) >>> (2293 - 3 * i)) % 8

/-- A map has a carrier under loading code 7 (R743). -/
def hasSeven (image : Octets) : Bool := (List.range (fieldAt image 4 2)).any fun i => loadingAt image i == 7

/-- A tile's lanes derate (R743). -/
def State.derated (s : State) (t : Nat) : Bool := Tab.has s.power.derated t

/-- The image of a map built now: loading by the measured SNR, guard by the delay spread, and a rate that gives the most payload
bytes per µs over a 96-byte frame; of several such rates none is stated: a free choice (R252; log 77). -/
def State.builtMap (s : State) (t index channel : Nat) : Octets :=
  let n := s.freeCount
  let carriers := dataCarriers (profileRanges s.line.profile s.line.table)
  let codes := (List.range carriers).map fun i =>
    loadingCode (Config.carrierSnr n i) (s.obj 0x3006 3) (if s.derated t then 6 else 7)
  let coded := (codes.map codedBits).sum
  let symbols (r : Nat) : Nat := divUp (divUp 96 (blockBytes r) * 2160) (max 1 coded)
  let best := (List.range 4).filter fun r => (List.range 4).all fun q => decide (symbols r ≤ symbols q)
  let rate := best.getD (Config.freeNat n % best.length) 0
  let guard := if Config.delaySpread n < 2560 then 0 else 1
  be 1 3 ++ be 1 index ++ be 1 (guard * 64 + rate * 16) ++ be 1 channel ++ be 2 carriers ++ be 2 coded ++ loadingBytes codes ++ [0]

/-- A map of the part for what a meter sends on a channel, built, kept and sent to it (R251, R252). -/
def State.giveMap (s : State) (t l tag channel : Nat) : State :=
  let x := s.lane t l
  if !Tab.has x.tags tag || s.isStandby || !s.lineSends t l then s
  else
    let last := ((x.given.filter fun e => e.1 / 256 == tag).map fun e => e.1 % 256).foldl max 0
    let index := last % 255 + 1
    let image := s.builtMap t index channel
    (((s.setLane t l { x with given := Tab.set x.given (tag * 256 + index) image }).drew 1).laneFrame t l
      { kind := 4, cls := 2, dst := tag, phase := channel, payload := image }).mgmt 25 [t, l, tag * 256 + index] image

/-- A map for a meter that has been given none on a channel, from its data frame (R252). -/
def State.firstMap (s : State) (t l tag channel : Nat) : State :=
  if (s.lane t l).given.any fun e => e.1 / 256 == tag && fieldAt e.2 3 1 == s.receiver t l channel then s
  else s.giveMap t l tag (s.receiver t l channel)

/-! ### Reception (R234, R260, R261) -/

/-- The frame control of a receipt: the failed blocks of a frame and whether its map is unknown (R245, R260). -/
def receiptFc (fc : Octets) (all failed : Nat) (unknown : Bool) : Octets :=
  makeFc 2 (fcField fc 123 122) all 0 0 (fcField fc 119 104) 0 0 (bit01 unknown * 2 ^ 31 + failed % 256) (fcField fc 31 24)

/-- The receipt of a frame: one reply gap after it, on the channel it came by, for 143.36 µs (R254, R260). A lane that transmits then, a
second receipt among it, sends none: it transmits one frame at a time (R231). -/
def State.sendReceipt (s : State) (t l c : Nat) (fc : Octets) (failed : Nat) (unknown : Bool) : State :=
  let x := s.lane t l
  if s.lineSends t l && !s.lineBusy t l then
    ((s.setLane t l { x with sentFrom := s.elapsed + 15360, sentTo := s.elapsed + 158720 }).signal t l c 2
      (receiptFc fc (bit01 (decide (3 ≤ c))) failed unknown)).lineCount t l 5
  else s

/-- A frame held by lane 0.0 in pilot light, up to 64 (R285). -/
def State.holdFrame (s : State) (p : List (Word × Byte)) : State :=
  if s.line.pilotHeld.length < 64 then { s with line := { s.line with pilotHeld := s.line.pilotHeld ++ [p] } }
  else { s with line := { s.line with pilotDropped := s.line.pilotDropped + 1 } }

/-- A data frame's payload written to the receive queue with its ingress descriptor (R143, R234). In relay mode its ZcDelta
is kept for the uplink record (R353). -/
def State.queueLine (s : State) (t l c zc rx : Nat) (payload : Octets) : State :=
  if payload.length < 28 ∨ 96 < payload.length then s.lineCount t l 13
  else
    let r := s.receiver t l c
    let desc := portCode 0 t l * 2 ^ 56 + r * 2 ^ 54 + s.laneClass 0 t l * 2 ^ 50 + payload.length * 2 ^ 40 + rx % 4294967296
    let q := 0x58 + 3 * l + (if r = 3 then 0 else c)
    if 2 ≤ s.power.pilot then s.holdFrame (packetOf (BitVec.ofNat 64 desc) payload) else
    let (took, s1) := s.pushPacket t q .lineLane (packetOf (BitVec.ofNat 64 desc) payload)
    if took && s1.tunnel.relayMode then
      { s1 with tunnel := { s1.tunnel with zcDeltas := Tab.modify s1.tunnel.zcDeltas (queueKey t q) [] (· ++ [zc]) } }
    else s1

/-- A lane, or a coupling channel of a line lane, completes an inbound frame: one in a heat (R114). -/
def State.laneCompletes (s : State) (k : Nat) : State := { s with heat := { s.heat with laneDone := k :: s.heat.laneDone } }

/-- A frame complete at the lane: a data frame is queued, its meter's phase detected, a map built where it has none; a lane
management frame is consumed (R234, R252, R274). The ZcDelta is that of the transmission that completes the frame: R274 fixes
RxTimeNs alone to the first one (DESIGN CHOICE, log 89). A channel completes one frame in a heat: no second one can be complete while heats
run (R114; DEDUCED, log 75). -/
def State.lineComplete (s0 : State) (t l c : Nat) (fc : Octets) (rx : Nat) (payload : Octets) : State :=
  let s := s0.laneCompletes (portCode 0 t l * 4 + c)
  let s1 := s.lineCount t l 0
  if s0.heat.laneDone.contains (portCode 0 t l * 4 + c) && decide (s.power.pilot < 2) then s0
  else if fcField fc 127 124 = 1 then
    (((s1.queueLine t l c (fcField fc 63 48) rx payload).detectPhase t (frMeter payload) (fcField fc 63 48) rx).checkPhase
      (frMeter payload)).firstMap t l (fcField fc 119 104) c
  else s1.manageFrame t l c (fcField fc 119 104) payload

/-- A split baton met by a holder, found by BATON_IN 0 or by a lantern or beacon 1; the non-preferred unit is to resign
whatever its checks, which mark 13 asks for (R565). -/
def State.splitBaton (s : State) (by_ : Nat) : State :=
  let s1 := s.offer 0xE78D 0 [by_]
  if s.pair.preferred ∨ s.pair.failures.contains 13 = true then s1
  else { s1 with pair := { s1.pair with failures := s1.pair.failures ++ [13] } }

/-- A holder of the baton hears its peer's beacon or lantern (R565). -/
def State.peerHeard (s : State) (partTag : Nat) : State :=
  if s.pair.state ≠ 0 ∧ s.pair.baton = true ∧ partTag = s.pair.peer then s.splitBaton 1 else s

/-- The tag of a frame's source is heard (R246). -/
def State.tagHeard (s : State) (tile lane src : Nat) : State :=
  let x := s.lane tile lane
  match Tab.find? x.tags src with
  | some g => s.setLane tile lane { x with tags := Tab.set x.tags src { g with heardAt := s.elapsed } }
  | none => s

/-- The numbers of the blocks that a transmission of k blocks carries: all of the frame; in a selective retransmission those that the
last receipt with as many failed blocks named, and with none such those missing (R259, R260; DEDUCED, log 89). -/
def BlockHold.sent (h : BlockHold) (retry : Bool) (count k : Nat) : List Nat :=
  if !retry then List.range count
  else match h.reports.find? fun r => popCount 8 r == k with
    | some r => (List.range count).filter (bitAt r)
    | none => (List.range count).filter fun i => !(h.parts.any fun e => e.1 == i)

/-- What a delivery at an instant adds to a transfer: the hold, the numbers of good and failed blocks, and the failed ones as a
bitmap (R259 to R261). -/
def BlockHold.deliver (h : BlockHold) (n count now : Nat) (retry : Bool) (blocks : Octets) : BlockHold × Nat × Nat × Nat :=
  let sent := (h.sent retry count (blocks.length / (n + 2))).zipIdx.map fun e => (e.1, slice blocks ((n + 2) * e.2) (n + 2))
  let good := sent.filter fun e => blockOk n e.2
  let fresh := good.filter fun e => !(h.parts.any fun p => p.1 == e.1)
  let failed := (sent.filter fun e => !blockOk n e.2).foldl (fun a e => a + 2 ^ e.1) 0
  ({ h with parts := h.parts ++ fresh.map fun e => (e.1, e.2.take n)
            firstAt := if h.parts.isEmpty && !fresh.isEmpty then now else h.firstAt
            reports := if failed = 0 then h.reports else failed :: h.reports }, good.length, sent.length - good.length, failed)

/-- Every block of a transfer has passed. -/
def BlockHold.whole (h : BlockHold) (count : Nat) : Bool := (List.range count).all fun i => h.parts.any fun e => e.1 == i

/-- The bytes of a whole transfer. -/
def BlockHold.bytes (h : BlockHold) (count : Nat) : Octets :=
  (List.range count).flatMap fun i => ((h.parts.find? fun e => e.1 == i).map (·.2)).getD []

/-- The instant of a sample at 75 MHz: RxTimeNs has a resolution of 13.3 ns (R234, R235). -/
def sampleInstant (rx : Nat) : Nat := rx * 3 / 40 * 40 / 3

/-- The transfer that a transmission belongs to: the one its receiver keeps for the source and sequence, or a new one. The blocks are kept
for 50 ms (R261). -/
def State.holdOf (s : State) (tile lane channel : Nat) (fc : Octets) (rx : Nat) : BlockHold :=
  ((s.lane tile lane).holds.find? fun h => h.src == fcField fc 119 104 && h.seq == fcField fc 31 24 &&
      h.channel == s.receiver tile lane channel && !s.due h.firstAt 50000001).getD
    { src := fcField fc 119 104, seq := fcField fc 31 24, channel := s.receiver tile lane channel, length := fcField fc 79 70
      firstAt := s.elapsed, rx := sampleInstant rx }

/-- A transfer kept, and those of the same source at the receiver under another sequence discarded (R261). -/
def State.keepHold (s : State) (tile lane : Nat) (h : BlockHold) : State :=
  let y := s.lane tile lane
  s.setLane tile lane { y with holds := (y.holds.filter fun g => !(g.src == h.src && g.channel == h.channel)) ++ [h] }

/-- Data blocks of a transfer by their tone map's image: a receipt of the failed ones, and the whole frame once, when none is
missing; a repeat of one that is whole is acknowledged and delivered no more (R259 to R261). -/
def State.dataBlocks (s : State) (tile lane channel : Nat) (fc blocks : Octets) (rx : Nat) (im : Octets) : State :=
  let n := blockBytes (if fcField fc 87 80 = 0 then 0 else mapRateCode im)
  let h := s.holdOf tile lane channel fc rx
  let count := divUp h.length n
  let d := h.deliver n count s.elapsed (fcField fc 120 120 == 1) blocks
  let s2 := (s.countN tile (13 + lane) 1 d.2.1).countN tile (13 + lane) 2 d.2.2.1
  let s3 := if fcField fc 103 88 = 0 then s2.sendReceipt tile lane (s.receiver tile lane channel) fc d.2.2.2 false else s2
  if d.1.whole count && !h.done then
    (s3.keepHold tile lane { d.1 with done := true }).lineComplete tile lane channel fc d.1.rx ((d.1.bytes count).take h.length)
  else s3.keepHold tile lane d.1

/-- The image of the tone map that a frame control names: none of its own for index 0, and unknown to a lane in pilot light
(R252, R737). -/
def State.givenMap (s : State) (tile lane : Nat) (fc : Octets) : Option Octets :=
  if fcField fc 87 80 = 0 then some []
  else if 2 ≤ s.power.pilot then none
  else Tab.find? (s.lane tile lane).given (fcField fc 119 104 * 256 + fcField fc 87 80)

/-- A frame heard on a channel ends the windows there, and its exchange settles before the next window cycle: at the end of its
response window where it solicits a receipt (R254, R256). -/
def State.mediumHeard (s : State) (t l c : Nat) (fc : Octets) : State :=
  let kind := fcField fc 127 124
  let wait := if (kind = 1 ∨ kind = 4) ∧ fcField fc 103 88 ≠ 0xFFFF then 199680 else 40960
  let s1 := s.holdMedium t l c (s.elapsed + wait)
  if (s.domain3 t l (s.lane t l).contender).contains c then s1.setLane t l { s1.lane t l with window := false } else s1

/-- LINE_FRAME_RECEIVED on a channel: frame control, the blocks sent with their CRCs in order, receive instant (public ns)
and impulse symbols erased: the lane's comparison of the samples with ImpulseThreshold is their count (R275). A tile that is LOST takes
and acknowledges none (R649). -/
def execLineFrameReceived (tile lane channel : Nat) (fc blocks : Octets) (rx erased : Nat) (s : State) : Result :=
  let x := s.lane tile lane
  if tile < s.nTiles ∧ lane < 4 ∧ channel < 3 ∧ 2 ≤ x.state ∧ s.healthOf tile = 0 then
    if s.blanked tile lane rx then ok (s.lineCount tile lane 14)
    else if !fcOk fc then ok s
    else
      let kind := fcField fc 127 124
      let r := s.receiver tile lane channel
      let s0 := (if erased = 0 then s else (s.countN tile (13 + lane) 3 erased).lineCount tile lane 4).mediumHeard tile lane channel fc
      if kind = 0 then ok (s0.peerHeard (fieldAt blocks 0 4))
      else if 5 ≤ kind ∨ kind = 2 then ok s0
      else if fcField fc 103 88 ≠ 0 ∧ fcField fc 103 88 ≠ 0xFFFF then ok s0
      else
        let s1 := s0.tagHeard tile lane (fcField fc 119 104)
        if kind = 3 then ok (s1.giveMap tile lane (fcField fc 119 104) r)
        else match s1.givenMap tile lane fc with
          | none => ok (if fcField fc 103 88 = 0 then s1.sendReceipt tile lane r fc 255 true else s1)
          | some im => ok (s1.dataBlocks tile lane channel fc blocks rx im)
  else ok s

/-- BLOCK_HOLD_EXPIRY: 50 ms after the first delivery, at each receiver of the lane (R261). -/
def execBlockHoldExpiry (tile lane tag : Nat) (s : State) : Result :=
  let x := s.lane tile lane
  ok (s.setLane tile lane { x with holds := x.holds.filter fun h => !(h.src == tag && s.due h.firstAt 50000000) })

/-! ### Tags and tone maps (R246, R248 to R253) -/

/-- JOIN_REQUEST: the lane assigns a tag and answers with TagAssign (R246, R248). -/
def execJoinRequest (tile lane channel meter kind : Nat) (s : State) : Result :=
  okIf (decide (2 ≤ (s.lane tile lane).state ∧ tile < s.nTiles ∧ lane < 4)) s (s.joinTag tile lane channel meter kind)

/-- TONE_MAP_RESPONSE: the map toward a meter is kept (R251). -/
def execToneMapResponse (tile lane tag : Nat) (image : Octets) (s : State) : Result :=
  okIf (decide (2 ≤ (s.lane tile lane).state)) s (s.keepMap tile lane tag image)

/-- SOUND_REQUEST from a meter: the part sounds on the channel (R248). -/
def execSoundRequest (tile lane tag channel symbols : Nat) (s : State) : Result :=
  okIf (decide (2 ≤ (s.lane tile lane).state)) s (s.soundFor tile lane tag channel symbols)

/-- A tone map erased, with the failed exchanges counted under it. -/
def State.eraseMap (s : State) (t l key : Nat) : State :=
  let x := s.lane t l
  s.setLane t l { x with maps := Tab.erase x.maps key, mapFails := Tab.erase x.mapFails (key / 4) }

/-- A tone map becomes invalid, on the standby too; the sender sounds (R253, R284), with 4 of the 2 to 8 symbols that R245 allows
(DESIGN CHOICE, log 89). Reasons: 0 age, 1 notch set, 2 UnknownMap, 3 failed exchanges, 4 channel, 5 derating. -/
def State.invalidateMap (s : State) (t l tag c reason : Nat) : State :=
  (((((s.eraseMap t l (tag * 4 + c)).mgmt 27 [t, l, tag * 4 + c] []).laneFrame t l (soundingFrame tag c 4)).lineCount t l
    10).offerLimited 0xE38B t l [t * 4 + l, tag, reason])

/-- Every tone map of a lane becomes invalid as a notch set takes effect (R243, R253). -/
def State.dropMaps (s : State) (t l : Nat) : State :=
  let s1 := (s.lane t l).maps.foldl (fun s e => s.invalidateMap t l (e.1 / 4) (e.1 % 4) 1) s
  s1.setLane t l { s1.lane t l with maps := [], given := [] }

/-- A new notch set takes effect at the beacon that a lane has planned: at least 2 beacon periods after the write (R243). -/
def State.notchAt (s : State) (x : LineLane) : Bool := match s.line.newNotch with
  | some (_, _, at_) => x.beacon.isSome && decide (at_ + 2 * s.beaconPeriod ≤ x.plannedAt)
  | none => false

/-- The new notch set is to take effect: its beacon is planned, or no lane sends beacons and 2 beacon periods have passed (R243;
DEDUCED, log 89). -/
def State.notchDue (s : State) : Bool :=
  let ks := List.range (4 * s.nTiles)
  ks.any (fun k => s.notchAt (s.lane (k / 4) (k % 4))) ||
    (!(ks.any fun k => s.lineSends (k / 4) (k % 4)) && match s.line.newNotch with
      | some (_, _, at_) => s.due at_ (2 * s.beaconPeriod)
      | none => false)

/-- The new notch set in force: every tone map of every lane is invalid (R243). -/
def State.applyNotch (s : State) : State := match s.line.newNotch with
  | none => s
  | some (p, tb, _) =>
    (({ s with line := { s.line with profile := p, table := tb, newNotch := none } } : State).eachTile fun s t =>
      (List.range 4).foldl (fun s l => s.dropMaps t l) s).offer 0xE38D packageWide [p, dataCarriers (profileRanges p tb)]

/-- NOTCH_SET_APPLY: at a beacon planned at least 2 beacon periods after the write; every tone map is invalid (R243). -/
def execNotchSetApply (s : State) : Result := okIf s.notchDue s s.applyNotch

/-- TONE_MAP_EXPIRY. -/
def execToneMapExpiry (tile lane tag channel : Nat) (s : State) : Result :=
  match Tab.find? (s.lane tile lane).maps (tag * 4 + channel) with
  | none => ok s
  | some m => okIf (s.due m.at_ (s.obj 0x3006 2 * 1000000000) && !s.isStandby) s (s.invalidateMap tile lane tag channel 0)

/-- LINE_TAG_EXPIRY: a meter not heard for 24 h (R246); a standby's table follows the active's (R284). -/
def execLineTagExpiry (tile lane tag : Nat) (s : State) : Result :=
  match Tab.find? (s.lane tile lane).tags tag with
  | none => ok s
  | some g => okIf (s.due g.heardAt 86400000000000 && !s.isStandby) s
      ((s.freeTag tile lane tag).laneFrame tile lane { kind := 4, cls := 2, dst := tag, payload := be 1 5 ++ be 2 tag })

/-! ### Access (R254 to R262) -/

/-- Contention windows of a class (R257). -/
def cwMin (c : Nat) : Nat := if c = 0 then 1 else if c = 1 then 4 else if c = 2 then 8 else 16
def cwMax (c : Nat) : Nat := if c = 0 then 1 else if c = 1 then 16 else if c = 2 then 64 else 256

/-- The access class of a frame for a meter (R257); tariff calendars, which the table does not name, go with readings (log
24). -/
def meterFrameClass (f : Octets) : Nat :=
  if frType f = 5 ∨ frType f = 6 then 1 else if frType f = 7 then 3 else 2

/-- A data or lane-management frame to one station solicits a receipt (R247). -/
def LineFrame.solicits (f : LineFrame) : Bool := (f.kind == 1 || f.kind == 4) && f.dst != 0xFFFF

/-- The next FrameSeq toward a destination. -/
def LineLane.nextSeq (x : LineLane) (dst : Nat) : Nat := (Tab.getD x.seqs dst 0 + 1) % 256

/-- A packet of the transmit queue as a line frame; none when its meter holds no tag. -/
def State.txFrame (s : State) (t l : Nat) (pk : List (Word × Byte)) : Option LineFrame :=
  let d := packetHead pk
  let f := packetBytes pk
  if frMeter f = 4294967295 then
    some { kind := 1, cls := meterFrameClass f, dst := 0xFFFF, phase := 3, payload := f, queued := true }
  else ((s.lane t l).tagOf (frMeter f)).map fun g =>
    { kind := 1, cls := meterFrameClass f, dst := g, phase := field d 55 54, payload := f, queued := true }

/-- The tone map toward a destination on a channel, robust where none is valid: none, or one past ToneMapLifetime (R239, R251,
R253). -/
def State.mapFor (s : State) (t l : Nat) (f : LineFrame) : Nat :=
  if f.dst = 0xFFFF ∨ f.kind ≠ 1 then 0
  else match Tab.find? (s.lane t l).maps (f.dst * 4 + f.phase) with
    | some m => if s.due m.at_ (s.obj 0x3006 2 * 1000000000) then 0 else fieldAt m.image 1 1
    | none => 0

/-- A send procedure begins for a frame: cw, backoff (free), FrameSeq (R259). -/
def State.beginSend (s : State) (t l : Nat) (f : LineFrame) : State :=
  let x := s.lane t l
  let cw := cwMin f.cls
  let seq := x.nextSeq f.dst
  (s.setLane t l { x with
    own := if f.queued then x.own else x.own.drop 1
    seqs := Tab.set x.seqs f.dst seq
    sending := some { frame := f, cw := cw, bc := Config.freeNat s.freeCount % cw, seq := seq, map := s.mapFor t l f } }).drew 1

/-- LINE_SEND: the lane's own frames first, then its transmit queue. A frame for a meter without a tag has no destination to send it to: it
counts as dropped at the retry limit, with tag 0xFFFE (DESIGN CHOICE, log 89). -/
def execLineSend (tile lane : Nat) (s : State) : Result :=
  let x := s.lane tile lane
  if !s.lineSends tile lane || x.sending.isSome then ok s
  else match x.own with
    | f :: _ => ok (s.beginSend tile lane f)
    | [] =>
      match s.readHead tile (0x64 + lane) Producer.lineLane.code with
      | (none, s1) => ok s1
      | (some pk, s1) =>
        match s1.txFrame tile lane pk with
        | some f => ok (s1.beginSend tile lane f)
        | none => ok (((s1.takePacket tile (0x64 + lane)).2.lineCount tile lane 8).offerLimited 0xE38C tile lane
            [tile * 4 + lane, 0xFFFE, meterFrameClass (packetBytes pk)])

/-- The exchange ends: the queue's packet goes when it was sent from there. -/
def State.endSend (s : State) (t l : Nat) : State :=
  let x := s.lane t l
  match x.sending with
  | none => s
  | some e =>
    let s1 := s.setLane t l { x with sending := none }
    if e.frame.queued then (s1.takePacket t (0x64 + l)).2 else s1

/-- The claim tone of the lane at the start of window Pk, with that instant, on every channel that its access domain senses; the slots
begin as Pk ends, and without a frame their period ends after CW max of them (R256, R258). -/
def State.claim (s : State) (t l k : Nat) : State :=
  let x := s.lane t l
  let from_ := x.openedAt + 35840 * k
  let phase := if s.threePhase t l then 3 else x.contender
  if x.claimed.isSome then s
  else
    let s1 := s.signal t l phase 16 (be 1 k ++ be 8 from_)
    (s1.setLane t l { x with claimed := some k, sentFrom := from_, sentTo := from_ + 20480 }).holdMedium t l phase
      (from_ + 35840 + cwMax k * 25600)

/-- A beacon of the lane contends: planned, with its key installed (R263, R455). -/
def State.beaconReady (s : State) (t l : Nat) : Bool :=
  s.lineSends t l && (s.lane t l).beacon.isSome && !(s.beaconKey t l).isEmpty

/-- A window cycle may open: the lane sends nothing, and the access domain of what it contends for has been free since the instant that
R256 gives. -/
def State.cycleMayOpen (s : State) (t l : Nat) : Bool :=
  let x := s.lane t l
  !s.lineBusy t l && (s.domain3 t l x.contender).all fun c => decide (x.opensAt.getD c 0 ≤ s.elapsed)

/-- WINDOW_CYCLE_OPEN (R256): a deferred or waiting frame may contend again; a beacon claims at once, in P0, and the lane's other frame
defers to it (R258, R263). Without a claim the cycle ends with P3. -/
def execWindowCycleOpen (tile lane : Nat) (s : State) : Result :=
  let x := s.lane tile lane
  if !s.cycleMayOpen tile lane then ok s
  else
    let b := s.beaconReady tile lane
    let s1 := (s.setLane tile lane { x with
      window := true, openedAt := s.elapsed, heard := none, claimed := none
      quiet := x.window && x.heard.isNone && x.claimed.isNone
      sending := x.sending.map fun e => if e.step ≤ 3 then { e with step := if b then 2 else 1 } else e }).holdMedium tile lane
      x.contender (s.elapsed + 143360)
    ok (if b then s1.claim tile lane 0 else s1)

/-- The class of the frame that contends in this window cycle. -/
def LineLane.contends (x : LineLane) : Option Nat := match x.sending with
  | some e => if e.step = 1 ∨ e.step = 3 then some e.frame.cls else none
  | none => none

/-- CLAIM_TONE_HEARD in window P0 to P3 (R258): a frame of a later class defers, one of that class has claimed with it. A tone after the
lane's own claim is in no window: the windows have ended. -/
def execClaimToneHeard (tile lane window : Nat) (s : State) : Result :=
  let x := s.lane tile lane
  if !x.window || x.heard.isSome || decide (4 ≤ window) || (match x.claimed with | some k => decide (k < window) | none => false) then ok s
  else match x.contends with
    | some k =>
      if window < k then
        ok ((s.setLane tile lane { x with
          heard := some window, sending := x.sending.map fun e => { e with step := 2 } }).holdMedium tile lane x.contender
          (x.openedAt + 35840 * (window + 1) + cwMax window * 25600))
      else
        let s1 := s.claim tile lane k
        ok (if k = window then s1.setLane tile lane { s1.lane tile lane with heard := some window } else s1)
    | none =>
      ok ((s.setLane tile lane { x with heard := some window }).holdMedium tile lane x.contender
        (x.openedAt + 35840 * (window + 1) + cwMax window * 25600))

/-- The beacon payload (R249) at a preamble start now. -/
def State.beaconPayload (s : State) (t l : Nat) : Octets :=
  let x := s.lane t l
  let m := s.mains t
  let rs := profileRanges s.line.profile s.line.table
  let body := be 4 Config.unitId.toNat ++ be 1 t ++ be 1 l ++ be 2 x.beaconSeq ++ be 4 m.number ++ be 4 (s.tbNs - m.last) ++
    be 4 m.period ++ be 4 (m.offset 1 % (max 1 m.period : Nat)).toNat ++ be 4 (m.offset 2 % (max 1 m.period : Nat)).toNat ++
    be 1 (bit01 (m.state = 0) * 128 + bit01 (m.state = 1) * 64 + bit01 (s.threePhase t l) * 32 + bit01 m.rotationACB * 16) ++
    be 1 rs.length ++ be 2 0 ++
    padTo 64 (rs.flatMap fun r => be 2 r.1 ++ be 2 r.2) ++ be 4 s.tbSeconds ++ be 4 s.tbNs ++ List.replicate 16 0
  body ++ (cmac (s.beaconKey t l) body).take 8

/-- The beacon starts, in robust mode on all three channels, with the new notch set where it is the first under it (R243, R249, R263,
R264). -/
def State.sendBeacon (s : State) (t l : Nat) : State :=
  let s0 := if s.notchAt (s.lane t l) then s.applyNotch else s
  let x := s0.lane t l
  let seq := x.nextSeq 0xFFFF
  let run := x.sentRun + 1
  let s1 := (s0.signal t l 3 0 (makeFc 0 0 1 0 0 0xFFFF 0 128 0 seq ++ (payloadBlocks 133 (s0.beaconPayload t l)).flatten)).lineCount t l 11
  let s2 := s1.setLane t l { x with
    beaconSeq := (x.beaconSeq + 1) % 65536, beacon := none, firstBeacon := true, skipped := 0, sentRun := run
    seqs := Tab.set x.seqs 0xFFFF seq, impaired := x.impaired && decide (run < 8)
    transmitting := true, sentFrom := s.elapsed, beaconOnLine := true, window := false }
  (s2.endStarting t l).restate t l

/-- A send procedure under the tone map that holds now: a first try takes the map toward its destination; a later one whose map has become
invalid sends the whole frame in robust mode, under a new FrameSeq (R253, R259). -/
def State.refit (s : State) (t l : Nat) (e : LineSend) : LineSend :=
  if e.tries = 0 then { e with map := s.mapFor t l e.frame }
  else if e.map = 0 ∨ e.map = s.mapFor t l e.frame then e
  else { e with map := 0, retry := false, blocks := 0, seq := (s.lane t l).nextSeq e.frame.dst }

/-- The blocks of a frame under the map of its send procedure: all of them, or those that failed (R237, R259). -/
def State.sendBlocks (s : State) (t l : Nat) (e : LineSend) : Octets :=
  let image := ((Tab.find? (s.lane t l).maps (e.frame.dst * 4 + e.frame.phase)).map (·.image)).getD []
  let bs := payloadBlocks (blockBytes (if e.map = 0 then 0 else mapRateCode image)) e.frame.payload
  (bs.zipIdx.filter fun b => !e.retry || bitAt e.blocks b.2).flatMap (·.1)

/-- The frame goes on the line (R244, R259). The Length of a selective retransmission is the whole payload's (DESIGN CHOICE, log 89). -/
def State.transmit (s : State) (t l : Nat) (e0 : LineSend) : State :=
  let x := s.lane t l
  let e := s.refit t l e0
  let f := e.frame
  let fc := makeFc f.kind f.cls (bit01 (f.phase = 3)) (bit01 e.retry) 0 f.dst e.map f.payload.length f.kindField e.seq
  let s1 := (s.signal t l f.phase f.kind (fc ++ s.sendBlocks t l e)).lineCount t l 6
  let s2 := if e.retry then s1.countN t (13 + l) 7 (popCount 8 e.blocks) else s1
  s2.setLane t l { x with
    transmitting := true, sentFrom := s.elapsed, window := false, seqs := Tab.set x.seqs f.dst e.seq
    sending := some { e with step := 4 } }

/-- Two other lanes of a derated tile transmit: a third frame waits for the next window cycle (R743). -/
def State.laneWaits (s : State) (t l : Nat) : Bool :=
  s.derated t && decide (2 ≤ ((List.range 4).filter fun k => k != l && (s.lane t k).transmitting).length)

/-- A frame waits for the next window cycle with what is left of its backoff. -/
def State.waitCycle (s : State) (t l bc : Nat) : State :=
  let x := s.lane t l
  s.setLane t l { x with window := false, sending := x.sending.map fun e => if e.step ≤ 3 then { e with bc := bc, step := 0 } else e }

/-- A slot of a frame that contends (R259): the medium is sensed in slots 0 to bc - 1, and slot bc is the frame's. -/
def State.contendSlot (s : State) (t l n : Nat) (busy : Bool) (e : LineSend) : State :=
  if n < e.bc ∧ busy = true then (s.holdMedium t l e.frame.phase (s.elapsed + 184320)).waitCycle t l (e.bc - n)
  else if n = e.bc then s.transmit t l e
  else s.setLane t l { s.lane t l with sending := some { e with step := 3 } }

/-- CONTENTION_SLOT n, busy or idle: the lane's beacon in slot 0 after its claim, else the backoff of R259; the period ends after CW max
idle slots (R258). A frame has claimed by now, at the start of its window. The windows, tones and slots that the commands name are those of
the access domain of what the lane contends for (R230; log 24). A busy slot holds a frame of another station, of a receipt's length at
least (R233). -/
def execContentionSlot (tile lane n : Nat) (busy : Bool) (s : State) : Result :=
  let x := s.lane tile lane
  if !s.lineSends tile lane || s.lineBusy tile lane || !x.window then ok s
  else if s.laneWaits tile lane then
    ok (s.waitCycle tile lane ((x.sending.map (·.bc)).getD 0))
  else if x.claimed = some 0 then
    ok (if n = 0 ∧ s.beaconReady tile lane = true then s.sendBeacon tile lane else s.setLane tile lane { x with window := false })
  else match x.sending with
    | none => ok s
    | some e =>
      if (e.step ≠ 1 ∧ e.step ≠ 3) then ok s
      else if cwMax e.frame.cls ≤ n then ok (s.waitCycle tile lane e.bc)
      else ok ((s.claim tile lane e.frame.cls).contendSlot tile lane n busy e)

/-- LINE_TRANSMIT_END: blanking ends, and the exchange settles; a frame that solicits no receipt is sent (R231, R256, R259). -/
def execLineTransmitEnd (tile lane : Nat) (s : State) : Result :=
  let x := s.lane tile lane
  if !x.transmitting then ok s
  else
    let s1 := s.setLane tile lane { x with transmitting := false, sentTo := s.elapsed, beaconOnLine := false }
    if x.beaconOnLine then ok (s1.holdMedium tile lane 3 (s.elapsed + 40960))
    else match x.sending with
      | none => ok s1
      | some e =>
        if e.step ≠ 4 then ok s1
        else if e.frame.solicits then
          let s2 := s1.holdMedium tile lane e.frame.phase (s.elapsed + 199680)
          ok (s2.setLane tile lane { s2.lane tile lane with sending := some { e with step := 5, endedAt := s.elapsed } })
        else ok ((s1.holdMedium tile lane e.frame.phase (s.elapsed + 40960)).endSend tile lane)

/-- One try less; at LineRetryLimit the frame is dropped (R259, R262). -/
def State.retrySend (s : State) (t l : Nat) (e : LineSend) : State :=
  let x := s.lane t l
  if s.obj 0x3006 1 ≤ e.tries then
    ((s.endSend t l).lineCount t l 8).offerLimited 0xE38C t l [t * 4 + l, e.frame.dst, e.frame.cls]
  else
    (s.setLane t l { x with sending := some { e with step := 0, bc := Config.freeNat s.freeCount % e.cw } }).drew 1

/-- RESPONSE_WINDOW_EXPIRY: no receipt 158.72 µs after the frame (R254, R259). -/
def execResponseWindowExpiry (tile lane : Nat) (s : State) : Result :=
  match (s.lane tile lane).sending with
  | none => ok s
  | some e =>
    okIf (decide (e.step = 5) && s.due e.endedAt 158720) s
      ((s.lineCount tile lane 9).retrySend tile lane { e with cw := min (2 * e.cw) (cwMax e.frame.cls), tries := e.tries + 1 })

/-- LINE_RECEIPT_RECEIVED (R259): sent, or its failed blocks again, or the whole frame in robust mode. Its sender is heard (R246). -/
def execLineReceiptReceived (tile lane : Nat) (fc : Octets) (s0 : State) : Result :=
  let own := fcOk fc && decide (fcField fc 127 124 = 2) && decide (fcField fc 103 88 = 0) && decide (2 ≤ (s0.lane tile lane).state)
  let s := if own then s0.tagHeard tile lane (fcField fc 119 104) else s0
  let x := s.lane tile lane
  match x.sending with
  | none => ok s
  | some e =>
    if e.step ≠ 5 ∨ !own ∨ fcField fc 119 104 ≠ e.frame.dst ∨ fcField fc 31 24 ≠ e.seq then ok s
    else
      let unknown := fcField fc 63 63 == 1
      let failed := fcField fc 39 32
      let k := e.frame.dst * 4 + e.frame.phase
      let setFails (s : State) (n : Nat) : State :=
        let y := s.lane tile lane
        s.setLane tile lane { y with mapFails := Tab.set y.mapFails e.frame.dst n }
      let fails := Tab.getD x.mapFails e.frame.dst 0 + 1
      if !unknown ∧ failed = 0 then ok ((setFails s 0).endSend tile lane)
      else if unknown ∨ fails = 3 then
        let s1 := if Tab.has x.maps k then s.invalidateMap tile lane e.frame.dst e.frame.phase (if unknown then 2 else 3) else s
        let y := s1.lane tile lane
        let seq := y.nextSeq e.frame.dst
        ok ((s1.setLane tile lane { y with
          seqs := Tab.set y.seqs e.frame.dst seq, mapFails := Tab.set y.mapFails e.frame.dst fails }).retrySend tile lane
          { e with tries := e.tries + 1, map := 0, seq := seq, retry := false, blocks := 0 })
      else ok ((setFails s fails).retrySend tile lane { e with tries := e.tries + 1, retry := true, blocks := failed })

/-! ### Beacons (R263) -/

/-- BEACON_PLAN: BeaconPhase after the reference crossing of an even cycle. -/
def execBeaconPlan (tile lane : Nat) (s : State) : Result :=
  let x := s.lane tile lane
  let m := s.mains tile
  okIf (x.on && s.lineSends tile lane && decide (m.number % 2 = 0) && decide (m.last + s.obj 0x3007 1 * 1000 ≤ s.tbNs) &&
      x.beacon.isNone && decide (x.planned ≠ some m.number)) s
    (s.setLane tile lane { x with beacon := some m.number, planned := some m.number, plannedAt := s.elapsed })

/-- Beacons planned and not started before the next reference crossing are skipped (R263, R283). -/
def State.skipBeacons (s : State) (t : Nat) : State :=
  (List.range 4).foldl (fun s l =>
    let x := s.lane t l
    if x.beacon.isSome then
      let n := x.skipped + 1
      (((s.setLane t l { x with beacon := none, skipped := n, sentRun := 0
                                impaired := x.impaired || decide (s.obj 0x3007 2 ≤ n) }).lineCount t l 12).offerLimited 0xE38A t l
        [t * 4 + l, x.beaconSeq]).restate t l
    else s) s

/-! ### Zero crossings (R265 to R272) -/

/-- Distance of two instants. -/
def gap (a b : Nat) : Nat := if a ≤ b then b - a else a - b

/-- An interval lies within 45 Hz to 65 Hz. -/
def mainsInterval (d : Nat) : Bool := decide (15384615 ≤ d ∧ d ≤ 22222222)

/-- Eight edges whose intervals are all in range and differ by no more than the window (R270). -/
def edgesInSync (es : List Nat) (window : Nat) : Bool :=
  let ds := (List.zipWith (fun a b => a - b) es (es.drop 1)).take 7
  decide (7 ≤ ds.length) && ds.all mainsInterval && ds.all fun a => ds.all fun b => decide (gap a b ≤ window)

/-- The inputs with one changed. -/
def Mains.setInput (x : Mains) (c : Nat) (i : ZcInput) : Mains := { x with inputs := modifyAt x.inputs c fun _ => i }

/-- ZC_EDGE: a rising edge of an input at a TB64 instant, taken with a resolution of 8 ns (R265, R266, R270). The counter of rejected edges
is a lane's, an input is the tile's: each of the tile's four lanes counts it (DESIGN CHOICE, log 89). -/
def execZcEdge (tile input t : Nat) (s : State) : Result :=
  if tile ≥ s.nTiles ∨ input ≥ 3 ∨ (2 ≤ s.power.pilot ∧ tile ≠ 0) then ok s
  else
    let s0 := s.count tile 30 3
    let x := s.mains tile
    let i := x.inputs.getD input {}
    let window := s.obj 0x3011 1 * 1000
    let t0 : Nat := (((t / 8 * 8 : Nat) : Int) - s.objI 0x3010 (tile * 3 + input + 1)).toNat
    let e := if i.reversed then t0 - x.period / 2 else t0
    if i.state = 1 ∨ i.state = 2 then
      let pred := i.last + x.period
      if gap e pred ≤ window ∧ i.accepted.isNone then ok (s0.setMains tile (x.setInput input { i with accepted := some e }))
      else ok (((List.range 4).foldl (fun s l => s.lineCount tile l 15) s0).offerLimited 0xE381 tile input
        [tile, input, gap e pred / 1000])
    else
      let es := (e :: i.edges).take 8
      if edgesInSync es window then
        ok (s0.setMains tile (x.setInput input { i with state := 1, edges := [], last := e, accepted := some e, misses := 0 }))
      else ok (s0.setMains tile (x.setInput input { i with edges := es }))

/-- The crossing nearest to the predicted one that an instant of the reference's wave stands for. -/
def Mains.nearest (x : Mains) (t : Int) : Nat :=
  let predicted : Int := (x.last + x.period : Nat)
  (predicted + withinHalf x.period (t - predicted)).toNat

/-- The reference crossing of a cycle (R267), and whether it is built from accepted edges. -/
def Mains.build (x : Mains) : Nat × Bool :=
  match (x.inputs.getD x.reference {}).accepted with
  | some e => (e, true)
  | none =>
    match (List.range 3).find? fun c => (x.inputs.getD c {}).accepted.isSome with
    | some c => (x.nearest (((x.inputs.getD c {}).accepted.getD 0 : Int) - x.offset c), true)
    | none => (x.last + x.period, false)

/-- The offset of an input from the reference with an input's polarity turned: half a period on the turned one; on every other one
where the turned input is the reference itself (R268). -/
def Mains.turned (x : Mains) (rev : Option Nat) (c : Nat) : Int :=
  let half : Int := (x.period / 2 : Nat)
  match rev with
  | none => x.offset c
  | some r =>
    if r = x.reference then (if c = r then 0 else x.offset c + half)
    else if c = r then x.offset c + half else x.offset c

/-- Rotation and the one reversed input under which every in-sync input lies within 20° of 0°, 120°, 240° from the reference
(R268). -/
def Mains.rotation (x : Mains) : Option (Bool × Option Nat) :=
  let p : Int := max 1 x.period
  let inSync := (List.range 3).filter fun c => decide ((x.inputs.getD c {}).state = 1)
  -- angles in 1/360 of a ns, so that ±20° is exact
  let okFor (acb : Bool) (rev : Option Nat) : Bool := inSync.all fun c =>
    let ahead : Int := ((c + 3 - x.reference) % 3 : Nat)
    let want : Int := if acb then (3 - ahead) % 3 * 120 else ahead * 120
    let d := (x.turned rev c * 360 - want * p) % (360 * p)
    decide (d ≤ 20 * p) || decide (340 * p ≤ d)
  [(false, none), (true, none), (false, some 0), (false, some 1), (false, some 2), (true, some 0), (true, some 1),
    (true, some 2)].find? fun e => okFor e.1 e.2

/-- The state an input takes at a reference crossing: its accepted edge enters its offsets, a missing one is synthesised. -/
def ZcInput.cycle (i : ZcInput) (crossing period holdover : Nat) : ZcInput :=
  if i.state = 0 ∨ i.state = 3 then i
  else match i.accepted with
    | some e => { i with state := 1, last := e, misses := 0, accepted := none
                         offsets := (withinHalf period ((e : Int) - crossing) :: i.offsets).take 64 }
    | none => { i with state := if holdover < i.misses + 1 then 3 else 2, last := i.last + period, misses := i.misses + 1
                       edges := [] }

/-- The lowest-numbered tile in LOCKED, else the last authority (R272). -/
def State.mainsAuthority (s : State) : Nat :=
  ((List.range s.nTiles).find? fun t => decide ((s.mains t).state = 0)).getD s.line.authority

/-- The number of a tile's crossing: that of the authority's crossing nearest to it (R272). -/
def State.numberAt (s : State) (crossing period : Nat) : Nat :=
  let d : Int := ((crossing : Int) - s.line.cycleAt + (period / 2 : Nat)) / (max 1 period : Nat)
  (((s.line.cycle : Int) + d) % 4294967296).toNat

/-- The tile's mains state at a crossing, with its event (R269, R270). -/
def State.mainsTransition (s : State) (t : Nat) (old new : Mains) : State :=
  if old.state = new.state then s
  else if new.state = 1 then s.offer 0xE382 t [t, new.number]
  else if new.state = 2 then s.offer 0xE383 t [t, new.number, new.period]
  else if old.state = 0 then s
  else s.offer 0xE384 t [t, new.number, (s.elapsed - old.lostAt) / 1000000]

/-- The mains estimates of a tile after its next crossing: period, state, number and inputs (R266 to R270). -/
def State.nextMains (s : State) (tile : Nat) : Mains :=
  let x := s.mains tile
  let (c, built) := x.build
  let ints := if built && x.built then ((c - x.last) :: x.intervals).take 8 else x.intervals
  let period := if ints.isEmpty then x.period else ints.sum / ints.length
  let hold := s.obj 0x3011 2
  let misses := if built then 0 else x.misses + 1
  let state := if !mainsInterval period ∨ hold < misses then 2 else if built then 0
    else if x.state = 2 then 2 else 1
  let num := if tile = s.line.authority ∧ s.line.cycleAt = x.last then (s.line.cycle + 1) % 4294967296 else s.numberAt c period
  { x with
    last := c, built := built, intervals := ints, period := period, misses := misses, state := state, number := num
    lostAt := if state = 0 then x.lostAt else if x.state = 0 then s.elapsed else x.lostAt
    inputs := x.inputs.map fun i => i.cycle c period hold }

/-- An input found reversed: half a period is taken from its crossings from now on, and from what is kept of them (R268). -/
def Mains.turn (y : Mains) (r : Nat) : Mains :=
  let i := y.inputs.getD r {}
  let half := y.period / 2
  let kept := if r = y.reference then i.offsets else i.offsets.map fun d => withinHalf y.period (d - (half : Nat))
  let z := y.setInput r { i with reversed := true, last := i.last - half, offsets := kept }
  if r = y.reference then
    { z with
      last := y.last - half
      inputs := z.inputs.zipIdx.map (fun e =>
        if e.2 = r then e.1 else { e.1 with offsets := e.1.offsets.map (fun d => withinHalf y.period (d + (half : Nat))) }) }
  else z

/-- The estimates with the rotation they show applied: its sense, and an input whose polarity is reversed (R268). -/
def Mains.rotated (y : Mains) : Mains := match y.rotation with
  | some (acb, some r) => { (y.turn r) with rotationACB := acb }
  | some (acb, none) => { y with rotationACB := acb }
  | none => y

/-- The event of an input found reversed (R268). -/
def State.offerReversal (s : State) (tile : Nat) (y : Mains) : State := match y.rotation with
  | some (_, some r) => s.offer 0xE388 tile [tile, r]
  | _ => s

/-- The mains authority chosen again, with its object and event (R272). -/
def State.chooseAuthority (s : State) (num : Nat) : State :=
  if s.mainsAuthority = s.line.authority then s
  else (({ s with line := { s.line with authority := s.mainsAuthority } } : State).setObj 0x3013 3 s.mainsAuthority).offer 0xE389
    packageWide [s.line.authority, s.mainsAuthority, num]

/-- The authority's crossing numbers the cycle and moves its snapshots (R272, R413); one that has its number already, from the
authority before, does so no second time. -/
def State.labelCycle (s : State) (y : Mains) : State :=
  let s1 := (({ s with line := { s.line with cycle := y.number, cycleAt := y.last } } : State).setObj 0x3013 1 y.number).setObj 0x3013 2
    y.period
  if y.number = s.line.cycle then s1 else s1.snapshotCrossing y.number y.state

/-- REFERENCE_CROSSING: the tile builds its crossing, updates its estimates and state, and labels it (R266 to R272). The crossing that
costs the authority its LOCKED is numbered all the same, before the next authority is chosen: the count has no gap. -/
def execReferenceCrossing (tile : Nat) (s : State) : Result :=
  if tile ≥ s.nTiles then ok s
  else
    let y := s.nextMains tile
    let s1 := ((s.setMains tile y.rotated).mainsTransition tile (s.mains tile) y).offerReversal tile y
    let s2 := if tile = s.line.authority then s1.labelCycle y.rotated else s1
    let s3 := s2.chooseAuthority y.number
    let s4 := if tile = s3.line.authority ∧ tile ≠ s.line.authority then s3.labelCycle y.rotated else s3
    ok ((s4.skipBeacons tile).restateTile tile)

/-- A step of the timebase shifts every stored crossing and edge (R271). -/
def State.shiftMains (s : State) (d : Int) : State :=
  let sh (n : Nat) : Nat := ((n : Int) + d).toNat
  { s with line := { s.line with
      cycleAt := sh s.line.cycleAt
      mains := s.line.mains.map fun e => (e.1, { e.2 with
        last := sh e.2.last
        inputs := e.2.inputs.map fun i => { i with last := sh i.last, edges := i.edges.map sh, accepted := i.accepted.map sh } }) } }

/-- 0x3012 of an input (R286). -/
def State.zcStatus (s : State) (t c : Nat) : Nat :=
  let x := s.mains t
  let i := x.inputs.getD c {}
  let a := ((x.offset c % (max 1 x.period : Nat)) * 36000 / (max 1 x.period : Nat)).toNat
  i.state * 2 ^ 30 + bit01 i.reversed * 2 ^ 29 + bit01 x.rotationACB * 2 ^ 28 + min 255 i.misses * 2 ^ 20 + a % 65536

/-! ### Port faults (R276 to R279) -/

/-- A channel goes out of service with a fault bit (R277). -/
def State.portFault (s : State) (t l c bits : Nat) : State :=
  let x := s.port t l c
  if x.out then s
  else
    let y : LinePort := { x with bits := x.bits ||| bits ||| 32, passes := 0, retestAt := s.elapsed, checked := true }
    let s1 := (s.setPort t l c y).offer 0xE385 t [t * 12 + l * 3 + c + 1, y.bits]
    -- every meter served on the channel takes a path-only move (R277)
    let s2 : State := { s1 with place := { s1.place with passDue := true } }
    s2.restate t l

/-- LINE_BIAS_FAULT: a pin's bias in mV for 100 µs (R276). -/
def execLineBiasFault (tile lane channel mv : Nat) (s : State) : Result :=
  if tile < s.nTiles ∧ lane < 4 ∧ channel < 3 then
    (if mv < 150 then ok (s.portFault tile lane channel 1)
     else if 1650 < mv then ok (s.portFault tile lane channel 2) else ok s)
  else ok s

/-- LINE_PILOT_TEST of a coupling channel: its pilot tone at carrier 30, and the return in percent of calibrated with its sign, whether the
current limit is engaged, transmit current in mA, and whether the bias stands at the open level (R276, R279). -/
def execLinePilotTest (tile lane channel : Nat) (correlation : Int) (limit : Bool) (ma : Nat) (biasOpen : Bool) (s : State) :
    Result :=
  let x := s.port tile lane channel
  if decide (s.nTiles ≤ tile) || s.lineBusy tile lane || decide (3 ≤ channel) || decide (4 ≤ lane) || x.out ||
      (x.checked && !s.due x.pilotAt (s.obj 0x3021 1 * 1000000)) then ok s
  else
    let s0 := (if s.linesDrive then s.signal tile lane channel 17 (be 2 30) else s).setPort tile lane channel
      { x with checked := true, pilotAt := s.elapsed }
    let s1 :=
      if limit && decide (correlation.natAbs < 5) && !biasOpen then s0.portFault tile lane channel 4
      else if biasOpen || (decide (correlation.natAbs < 5) && decide (ma < 2)) then s0.portFault tile lane channel 8
      else if correlation ≤ -50 then
        (if bitAt x.bits 4 then s0
         else (s0.setPort tile lane channel { s0.port tile lane channel with bits := x.bits ||| 16 }).offer 0xE387 tile
           [tile * 12 + lane * 3 + channel + 1])
      else s0
    ok (s1.endStarting tile lane)

/-- LINE_PORT_RETEST: every 1 s; 10 passes bring the channel back (R278). -/
def execLinePortRetest (tile lane channel : Nat) (passed : Bool) (s : State) : Result :=
  let x := s.port tile lane channel
  if !x.out || !s.due x.retestAt 1000000000 then ok s
  else if !passed then ok (s.setPort tile lane channel { x with passes := 0, retestAt := s.elapsed })
  else if x.passes + 1 < 10 then ok (s.setPort tile lane channel { x with passes := x.passes + 1, retestAt := s.elapsed })
  else ok (((s.setPort tile lane channel { x with bits := x.bits &&& 16, passes := 0 }).offer 0xE386 tile
    [tile * 12 + lane * 3 + channel + 1]).restate tile lane)

/-! ### Calibration (R280 to R282) -/

/-- A write of LineCalibrationRequest. -/
def lineCalibrate (channel : Nat) (s : State) : Done :=
  if channel = 0 ∨ 96 < channel then Done.refuse s Status.outOfRange
  else
    let t := (channel - 1) / 12
    let l := (channel - 1) % 12 / 3
    let x := s.lane t l
    if s.nTiles ≤ t ∨ (x.state ≠ 2 ∧ x.state ≠ 3) ∨ x.calibration.isSome then Done.refuse s Status.refused
    else Done.ok ((s.setLane t l { x with calibration := some { channel := channel, startedAt := s.elapsed } }).setObj 0x3022 2 1)

/-- LINE_CALIBRATION_REQUEST. -/
def execLineCalibrationRequest (r : Req) (channel : Nat) (s : State) : Result :=
  ok (udxWrite s r 0x3022 1 0 (be 1 channel) fun s _ => lineCalibrate (channel % 256) s)

/-- A calibration step may go out now: inside P0 of a window cycle that follows one with no burst and in which nothing has claimed, at
least 1 ms after the step before (R281). -/
def State.stepMayGo (s : State) (t l : Nat) (c : Calibration) : Bool :=
  let x := s.lane t l
  s.lineSends t l && !s.lineBusy t l && x.window && x.quiet && x.heard.isNone && x.claimed.isNone &&
    decide (s.elapsed < x.openedAt + 35840) && (decide (c.step = 0) || s.due c.lastAt 1000000)

/-- CALIBRATION_STEP: the multitone of a step on carriers 50 + 48s to 97 + 48s for 27.31 µs, which stations take for a class 0 claim tone,
and its result; after 16 the results apply (R281, R282). -/
def execCalibrationStep (tile lane magnitude : Nat) (phase : Int) (s : State) : Result :=
  let x := s.lane tile lane
  match x.calibration with
  | none => ok s
  | some c =>
    if !s.stepMayGo tile lane c then ok s
    else
      let c' : Calibration := { c with step := c.step + 1, lastAt := s.elapsed
                                       result := c.result ++ be 2 magnitude ++ be 2 (ofSigned 16 phase) }
      let s1 := s.signal tile lane ((c.channel - 1) % 3) 18 (be 2 (50 + 48 * c.step) ++ be 2 (97 + 48 * c.step))
      let s2 := (s1.setLane tile lane { x with
        claimed := some 0, sentFrom := s.elapsed, sentTo := s.elapsed + 27310, calibration := if c'.step < 16 then some c' else none
        sending := x.sending.map fun e => if e.step = 1 then { e with step := 2 } else e }).holdMedium tile lane x.contender
        (x.openedAt + 61440)
      if c'.step < 16 then ok s2
      else ok (((s2.setVal 0x3023 c.channel (.oct c'.result)).setObj 0x3022 2 2).offer
        0xE38E tile [c.channel, (s.elapsed - c.startedAt) / 1000000])

/-- CALIBRATION_TIMEOUT: 10 s (R282). -/
def execCalibrationTimeout (tile lane : Nat) (s : State) : Result :=
  let x := s.lane tile lane
  match x.calibration with
  | none => ok s
  | some c => okIf (s.due c.startedAt 10000000000) s (s.dropCalibration tile lane)

end Sys2Proof.Machine
end

