-- ==== Sys2Proof/Machine/Loss.lean ====
section
/-! DEFINITION. The loss engine (11 R410 to R427, 09 R349): snapshots, balances, alarms, running power. -/

namespace Sys2Proof.Machine

/-! ### The SNAPSHOT command (R349) -/

/-- The ports that serve a meter of listed feeders, with the lane class of frames there; tag 0xFFFF lists every meter. -/
def State.snapshotPorts (s : State) (tags : List Nat) : List (Nat × Nat) :=
  ((s.meters.filter fun x => x.served && (tags.contains 0xFFFF || (s.feederOf x != 0 && tags.contains (s.feederOf x)))).map
    fun x => (x.port, s.meterClass x)).eraseDups

/-- SNAPSHOT, with RequestId, CommandCode and CommandFlags 0 (R330), broadcast on every port that serves a listed meter, when its cycle lies SnapshotLead ahead. -/
def State.sendSnapshot (s : State) (id cycle : Nat) (tags : List Nat) : State :=
  if toSigned 32 (wrapSub 32 cycle s.line.cycle) < s.obj 0x2401 1 then s
  else
    let p := be 4 0 ++ be 2 0 ++ be 2 0 ++ be 4 id ++ be 4 cycle ++ s.targetBytes cycle ++
      padTo 16 (tags.flatMap (be 2))
    (((s.snapshotPorts tags).foldl (fun (s : State) e =>
      (s.pushPacket (if e.1 / 64 = 2 then 0 else e.1 % 64 / 8) (0x20 + e.1 % 8) .management
        (payloadPacket 0 4294967295 5 e.1 (if e.1 / 64 = 0 then 3 else 0) e.2 p)).2) s).offer 0xE48C 0
      [id, cycle, (s.snapshotPorts tags).length])

/-- SNAPSHOT, for the loss engine. -/
def execSnapshot (id cycle : Nat) (tags : List Nat) (s : State) : Result := ok (s.sendSnapshot id cycle (tags.take 8))

/-! ### Swaps (R414) -/

/-- The sums of a feeder whose pipelines run snapshot slots (R92). -/
def State.liveSums (s : State) (tag : Nat) : List (Nat × Nat × Nat × FeederSum) :=
  (s.feederSums tag).filter fun e => s.pipeWorks e.1 e.2.1

/-- Every sum of a feeder to be swapped to a tag; a pipeline that is out runs no swap (R92; DESIGN CHOICE, log 88). -/
def State.swapFeeder (s0 : State) (tag next id : Nat) : State :=
  let s := s0.mgmt 6 [tag, next, id] []
  { s with loss := { s.loss with swaps := s.loss.swaps ++ (s.liveSums tag).map fun e =>
      (e.1, e.2.1, swapRequest e.2.2.1 next id tag e.2.2.2.group e.2.2.2.head) } }

/-- A packet of a loss engine queue taken in; the words of a close are kept. -/
def State.takeLoss (s : State) (tile pipe : Nat) (pk : List (Word × Byte)) : State :=
  let h := packetHead pk
  let f := s.sum tile pipe (field h 59 48)
  if field h 31 0 = 0 then s
  else { s with loss := { s.loss with
    returned := s.loss.returned ++ [(field h 31 0, f.feeder, f.group, bit01 f.head, ((pk.getD 1 (0, 0)).1).toNat)] } }

/-- The packets of a loss engine queue taken. -/
def State.drainLossQueue (s : State) (tile pipe : Nat) : State :=
  s.drainQueue tile (0x50 + pipe) Producer.management.code fun s pk => s.takeLoss tile pipe pk

/-- Every loss engine queue drained. -/
def State.drainLoss (s : State) : State :=
  s.eachTile fun s t => (List.range 8).foldl (fun s p => s.drainLossQueue t p) s

/-! ### Opening (R416) -/

/-- The next SnapshotId: its low 8 bits are neither 0 nor the previous tag of a listed feeder. -/
def nextSnapshotId (old : List Nat) : Nat → Nat → Nat
  | 0, n => n
  | f + 1, n => if n % 256 = 0 ∨ old.contains (n % 256) then nextSnapshotId old f (n + 1) else n

/-- Members flagged MISSING at an open: unserved, PARKED or SILENT (R417). -/
def State.flagMissing (s : State) (tag : Nat) : State :=
  (s.meters.filter fun x => s.feederOf x == tag && (!x.served || x.place.parked || x.silent)).foldl
    (fun s x => s.setIndicator x.number 3) s

/-- The mains cycle of a snapshot due at a cycle: at least SnapshotLead ahead (R414). -/
def State.snapshotCycle (s : State) (due : Nat) : Nat :=
  let per := max 1 (s.mains s.line.authority).period
  (s.line.cycle + max (s.obj 0x2401 1) (divUp (due - s.line.cycleAt) per)) % 4294967296

/-- The identifier of the next snapshot of feeders: its tag is none of their last tags. -/
def State.snapshotId (s : State) (tags : List Nat) : Nat :=
  nextSnapshotId (tags.map fun t => (s.feeder t).lastTag) 256 ((s.loss.lastId + 1) % 4294967296) % 4294967296

/-- A feeder's snapshot opened. -/
def State.openFeeder (s : State) (id cycle t : Nat) : State :=
  let f := s.feeder t
  let x : Snapshot :=
    { id := id, feeder := t, cycle := cycle, target := s.crossingAt cycle, generation := f.generation
      openedAt := s.elapsed, tag := id % 256 }
  let s' : State := { s with loss := { s.loss with openSnapshots := s.loss.openSnapshots ++ [x], lastId := id } }
  ((s'.setFeeder t { f with lastTag := id % 256, waiting := false }).swapFeeder t (id % 256) 0).flagMissing t

/-- The broadcasts of a snapshot, eight feeders each (R416). -/
def State.sendSnapshots (s : State) (tags : List Nat) (id cycle : Nat) : State :=
  (List.range (divUp tags.length 8)).foldl (fun s i => s.sendSnapshot id cycle ((tags.drop (8 * i)).take 8)) s

/-- Snapshots opened and sent under an identifier for a cycle. -/
def State.openAt (s : State) (tags : List Nat) (id cycle : Nat) : State :=
  let s1 := tags.foldl (fun s t => s.openFeeder id cycle t) s
  ((s1.bump 0x4850 1).pushSwaps).sendSnapshots tags id cycle

/-- A snapshot opened of listed feeders for a due instant in TB64 ns. -/
def State.openSnapshots (s : State) (tags : List Nat) (due : Nat) : State :=
  if tags.isEmpty then s else s.openAt tags (s.snapshotId tags) (s.snapshotCycle due)

/-- The loss engine runs on this unit: alone, or with the baton. -/
def State.lossRuns (s : State) : Bool := s.boot.phase == 9 && (s.pair.state == 0 || s.pair.baton)

/-- Enabled feeders. -/
def State.enabledFeeders (s : State) : List Nat := s.feederTags.filter fun t => feederEnabled (s.feederEntry t)

/-- SNAPSHOT_OPEN at the first heat boundary at or after a multiple of SnapshotInterval: every enabled feeder whose last snapshot is
closed; the others wait for its close, and those that wait, a requested one too, open once they may (R41, R416, R511). -/
def execSnapshotOpen (s : State) : Result :=
  let now := s.tbSeconds
  if !s.lossRuns || !s.onBoundary then ok s
  else
    let due : Bool := s.obj 0x4800 1 != 0 && s.clock.state != 0 && now % max 1 (s.obj 0x4801 1) == 0
    let s1 := if due then s.enabledFeeders.foldl (fun (s : State) t =>
        let f := s.feeder t
        if f.lastDue = now then s else s.setFeeder t { f with lastDue := now, waiting := true }) s
      else s
    ok (s1.openSnapshots
      (s1.enabledFeeders.filter fun t => (s1.feeder t).waiting && (s1.openSnapshot t).isNone) (now * 1000000000))

/-- SnapshotRequest submitted. -/
def snapshotRequest (tag : Nat) (s : State) : Done :=
  if tag ≠ 0xFFFF ∧ (tag = 0 ∨ 8192 < tag) then Done.refuse s Status.outOfRange
  else
    let listed := if tag = 0xFFFF then s.enabledFeeders else s.enabledFeeders.filter fun t => t == tag
    if listed.isEmpty then Done.refuse s Status.refused
    else
      let s1 := (listed.filter fun t => (s.openSnapshot t).isSome).foldl
        (fun (s : State) t => s.setFeeder t { s.feeder t with waiting := true }) s
      Done.ok (s1.openSnapshots (listed.filter fun t => (s.openSnapshot t).isNone) s.tbNs)

/-- SNAPSHOT_REQUEST: a submit of 0x4802 after its FeederTag. -/
def execSnapshotRequest (r : Req) (tag : Nat) (s : State) : Result :=
  ok (udxAct s r 0x4802 2 0 (be 1 1) [(0x4802, 1, .num tag)] fun s _ => snapshotRequest tag s)

/-! ### Balances (R419, R420) -/

/-- The result of a group or a head: replies and latch sum. -/
def Snapshot.result (x : Snapshot) (group : Nat) (head : Bool) : Nat × Nat :=
  match x.results.find? fun e => e.1 == (group, bit01 head) with
  | some e => e.2
  | none => (0, 0)

/-- D of a group or head between two snapshots: modulo 2^44, signed. -/
def latchDelta (k j : Snapshot) (group : Nat) (head : Bool) : Int :=
  toSigned 44 (wrapSub 44 (k.result group head).2 (j.result group head).2)

/-- Members of a group or a head. -/
def State.resultMembers (s : State) (tag group : Nat) (head : Bool) : Nat :=
  if head then bit01 (feederHead (s.feederEntry tag) group ≠ 0) else (s.childrenOf tag group).length

/-- A result is complete: every member replied, and the membership stands since the open (R417). -/
def State.complete (s : State) (x : Snapshot) (group : Nat) (head : Bool) : Bool :=
  decide ((x.result group head).1 = s.resultMembers x.feeder group head) && decide (x.generation = (s.feeder x.feeder).generation)

/-- Heads named by a feeder. -/
def State.heads (s : State) (tag : Nat) : List Nat := (List.range 3).filter fun g => feederHead (s.feederEntry tag) g != 0

/-- The results a balance uses: (group, head) pairs; balance 3 is the feeder's. -/
def State.balanceUses (s : State) (tag b : Nat) : List (Nat × Bool) :=
  if b < 3 then [(b, false), (b, true)]
  else (List.range 4).map (fun g => (g, false)) ++ (s.heads tag).map fun g => (g, true)

/-- A balance is computed for a feeder at all. -/
def State.balanced (s : State) (tag b : Nat) : Bool :=
  if b < 3 then feederPhases (s.feederEntry tag) && (s.heads tag).contains b && (s.childrenOf tag 3).isEmpty
  else (List.range 3).all fun g => (s.childrenOf tag g).isEmpty || (s.heads tag).contains g

/-- H and C of a balance between two snapshots. -/
def State.deltas (s : State) (k j : Snapshot) (b : Nat) : Int × Int :=
  let u := s.balanceUses k.feeder b
  (((u.filter (·.2)).map fun e => latchDelta k j e.1 true).sum, ((u.filter fun e => !e.2).map fun e => latchDelta k j e.1 false).sum)

/-- U of a balance in Wh, rounded up (R420): the terms over the common denominator 3.6 × 10^12. -/
def State.uncertainty (s : State) (tag b : Nat) (h c : Int) : Nat :=
  let e := s.feederEntry tag
  let kids := if b < 3 then s.childrenOf tag b else s.children tag
  let n := kids.length + (if b < 3 then 1 else (s.heads tag).length)
  let r := feederRated e * (if b < 3 then 1 else 3)
  let theta := if kids.any (·.forerunner) then s.obj 0x3013 2 else 0
  divUp ((s.obj 0x4801 4 * h.natAbs + s.obj 0x4801 5 * c.natAbs) * 360000000 + 2 * n * 3600000000000 +
    2 * r * (s.obj 0x4801 3 * 1000 + theta)) 3600000000000

/-- The span of two snapshots in ns: cycles between them at the period (R419). -/
def State.spanNs (s : State) (k j : Snapshot) : Nat := wrapSub 32 k.cycle j.cycle * s.obj 0x3013 2

/-- The base of a balance at snapshot k, where one is near enough and of the same membership. -/
def State.baseOf (s : State) (k : Snapshot) (b : Nat) : Option Snapshot :=
  match Tab.find? (s.feeder k.feeder).bases b with
  | some j => if j.generation = k.generation ∧ s.spanNs k j ≤ s.obj 0x4801 8 * 1000000000 then some j else none
  | none => none

/-- A balance of a feeder, and the balance stored. -/
def State.balanceOf (s : State) (tag b : Nat) : Balance := (s.feeder tag).balances.getD b {}
def State.setBalance (s : State) (tag b : Nat) (x : Balance) : State :=
  let f := s.feeder tag
  (s.setFeeder tag { f with balances := (List.range 4).map fun i => if i = b then x else f.balances.getD i {} }).mgmt 7
    [tag, b, ofSigned 64 x.loss, x.uncertainty, ofSigned 64 x.headDelta, x.run, bit01 x.exceeding, x.clearRun, x.state,
      x.raisedAt] []

/-- The number of balances in alarm, in 0x4840. -/
def State.countAlarms (s : State) : State :=
  s.setObj 0x4840 1 (s.loss.feeders.map fun e => e.2.balances.countP fun b => decide (3 ≤ b.state)).sum

/-! ### Alarms (R423, R424) -/

/-- A balance's run, its alarm raised after K, cleared after K without (R423, R424). -/
def State.judge (s : State) (tag b : Nat) (h c : Int) : State :=
  let e := s.feederEntry tag
  let x := s.balanceOf tag b
  let u := s.uncertainty tag b h c
  let l := h - c
  let t : Int := max (feederThreshold e * 10000) (feederFraction e * h.natAbs)
  let exceeds : Bool := decide (t < (l - u) * 10000)
  let negative : Bool := decide (t < (-l - u) * 10000)
  let k := if feederAlarmRuns e = 0 then s.obj 0x4801 2 else feederAlarmRuns e
  let run := if exceeds || negative then (if x.exceeding = exceeds then x.run + 1 else 1) else 0
  let clr := if exceeds || negative then 0 else x.clearRun + 1
  let y : Balance := { x with loss := l, uncertainty := u, headDelta := h, run := run, clearRun := clr, exceeding := exceeds }
  if k ≤ run ∧ x.state ≠ (if exceeds then 3 else 4) then
    let s1 := s.setBalance tag b { y with state := if exceeds then 3 else 4, raisedAt := s.tbSeconds }
    ((if exceeds then s1.offer 0xE582 0 [tag, b, ofSigned 64 l, u] else s1.offer 0xE584 0 [tag, b, ofSigned 64 (-l)]).bump
      0x4850 6).countAlarms
  else if 3 ≤ x.state then
    (if k ≤ clr then
      (((s.setBalance tag b { y with state := 1 }).offer 0xE583 0 [tag, b, s.tbSeconds - x.raisedAt]).bump 0x4850 7).countAlarms
     else s.setBalance tag b y)
  else s.setBalance tag b { y with state := 1 }

/-- A balance at the close of snapshot k: computed against its base where complete, which k then becomes; an incomplete
one is skipped (R419). -/
def State.closeBalance (s : State) (k : Snapshot) (b : Nat) : State :=
  if !s.balanced k.feeder b then s
  else if !((s.balanceUses k.feeder b).all fun e => s.complete k e.1 e.2) then
    let x := s.balanceOf k.feeder b
    (if 3 ≤ x.state then s else s.setBalance k.feeder b { x with state := 2 })
  else
    let s1 := match s.baseOf k b with
      | none => s
      | some j => s.judge k.feeder b (s.deltas k j b).1 (s.deltas k j b).2
    let f := s1.feeder k.feeder
    s1.setFeeder k.feeder { f with bases := Tab.set f.bases b k }

/-! ### LossState of the members (R421, R422) -/

/-- The mean head power of a group's balance at snapshot k is at least ZeroLoadThreshold. -/
def State.headLoaded (s : State) (k : Snapshot) (group : Nat) : Bool :=
  if !s.balanced k.feeder group then false
  else match s.baseOf k group with
    | none => false
    | some j =>
      decide ((s.obj 0x4801 7 : Int) * s.spanNs k j ≤ (s.deltas k j group).1 * 3600000000000) &&
        (s.balanceUses k.feeder group).all fun e => s.complete k e.1 e.2

/-- Import active cold registers of a meter over all tariffs, modulo 2^48. -/
def Meter.importCold (x : Meter) : Nat := ((List.range 16).map fun t => (x.cold.getD (4 * t) 0).toNat).sum % 2 ^ 48

/-- A child's word 15 at a complete snapshot of its group. `loaded` is taken before the balances move their bases. -/
def State.zeroRule (s : State) (m : Nat) (loaded : Bool) : State :=
  match s.meter? m with
  | none => s
  | some x =>
    let w := x.word 15
    let i := x.importCold
    if i ≠ field w 63 16 then s.writeHot m [(15, putBit (putField (putField w 63 16 i) 15 8 0) 5 false)]
    else if !x.silent && loaded then
      let run := min 255 (field w 15 8 + 1)
      let s1 := s.writeHot m [(15, putField w 15 8 run)]
      if s.obj 0x4801 6 ≤ run then s1.setIndicator m 5 else s1
    else s

/-- ImportAtSnapshot of a head meter at a complete snapshot of its sum (R421). -/
def State.noteImport (s : State) (m : Nat) : State :=
  match s.meter? m with
  | none => s
  | some x => s.writeHot m [(15, putField (x.word 15) 63 16 x.importCold)]

/-- The members' LossState at a close. -/
def State.closeMembers (s : State) (k : Snapshot) : State :=
  let loads := (List.range 4).map fun g => s.headLoaded k g
  (List.range 4).foldl (fun (s : State) g =>
    if s.complete k g false then
      (s.childrenOf k.feeder g).foldl (fun s x => s.zeroRule x.number (loads.getD g false)) s
    else s) ((s.heads k.feeder).foldl (fun (s : State) g =>
      if s.complete k g true then s.noteImport (feederHead (s.feederEntry k.feeder) g) else s) s)

/-! ### Closing (R417) -/

/-- Every sum of a feeder holds its expected replies. -/
def State.allReplied (s : State) (x : Snapshot) : Bool :=
  (s.liveSums x.feeder).all fun e =>
    decide (field e.2.2.2.snapshot.toNat 63 56 = x.tag) && decide (field e.2.2.2.snapshot.toNat 55 44 = s.sumMembers e.1 e.2.1 e.2.2.1)

/-- An open snapshot stored in the place of that of its feeder. -/
def State.setOpen (s : State) (x : Snapshot) : State :=
  { s with loss := { s.loss with openSnapshots := s.loss.openSnapshots.map fun y => if y.feeder = x.feeder then x else y } }

/-- Results of a snapshot gathered from the returned words: replies and latch sums of a group or head, over every tile. -/
def State.gather (s : State) (x : Snapshot) : Snapshot :=
  let mine := s.loss.returned.filter fun e => e.1 == x.id && e.2.1 == x.feeder
  { x with results := [(0, 0), (1, 0), (2, 0), (3, 0), (0, 1), (1, 1), (2, 1)].map fun (g, h) =>
      let ws := (mine.filter fun e => e.2.2.1 == g && e.2.2.2.1 == h).map (·.2.2.2.2)
      ((g, h), (ws.map fun w => field w 55 44).sum, (ws.map fun w => field w 43 0).sum % 2 ^ 44) }

/-- The groups and heads of a snapshot that are incomplete, with the replies short. -/
def State.shortResults (s : State) (x : Snapshot) : List (Nat × Nat) :=
  ((List.range 4).map (fun g => (g, false)) ++ (s.heads x.feeder).map (fun g => (g, true))).filterMap fun (g, h) =>
    if s.complete x g h then none else some (g, s.resultMembers x.feeder g h - (x.result g h).1)

/-- The close completed: results, LossState, balances, events (R417 to R423). -/
def State.finishSnapshot (s : State) (x : Snapshot) : State :=
  let k := s.gather x
  let short := s.shortResults k
  let s1 : State := { s with loss := { s.loss with
      openSnapshots := s.loss.openSnapshots.filter fun y => y.feeder != x.feeder
      returned := s.loss.returned.filter fun e => !(e.1 == x.id && e.2.1 == x.feeder) } }
  let s2 := (List.range 4).foldl (fun s b => s.closeBalance k b) (s1.closeMembers k)
  let s3 := (s2.bump 0x4850 (if short.isEmpty then 2 else 3)).offer 0xE580 0 [x.id, 1, bit01 !short.isEmpty]
  short.foldl (fun s e => s.offerLimited 0xE581 0 x.feeder [x.feeder, e.1, e.2]) s3

/-- The end of a snapshot's window: its sums are swapped to tag 0 at the first heat boundary at or after its last reply or the end
of its reply window; once their words are back the balances are drawn (R41, R417). -/
def State.closeSnapshot (s : State) (feeder : Nat) : State :=
  match s.openSnapshot feeder with
  | none => s
  | some x =>
    if x.closing then
      if x.awaited ≤ s.loss.returned.countP fun e => e.1 == x.id && e.2.1 == feeder then s.finishSnapshot x else s
    else if s.onBoundary && (s.allReplied x || decide (x.target + s.obj 0x2401 2 * 1000000000 ≤ s.tbNs)) then
      ((s.setOpen { x with closing := true, awaited := (s.liveSums feeder).length }).swapFeeder feeder 0 x.id).pushSwaps
    else s

/-- SNAPSHOT_CLOSE of a feeder: at its last reply or the end of its reply window its sums are swapped to tag 0; once their
words are back the balances are drawn. -/
def execSnapshotClose (feeder : Nat) (s : State) : Result := ok ((s.drainLoss.pushSwaps).closeSnapshot feeder)

/-! ### Running power (R415) and the objects of R426 -/

/-- Net import of a group's running words, modulo 2^32. -/
def State.runningNet (s : State) (tag group : Nat) : Nat :=
  (((s.feederSums tag).filter fun e => e.2.2.2.group == group && !e.2.2.2.head).map fun e =>
    wrapSub 32 (field e.2.2.2.running.toNat 63 32) (field e.2.2.2.running.toNat 31 0)).sum % 2 ^ 32

/-- FEEDER_RUNNING_POWER: the running words read again after 1 s. -/
def execFeederRunningPower (feeder : Nat) (s : State) : Result :=
  let f := s.feeder feeder
  let ws := (List.range 4).map fun g => s.runningNet feeder g
  let dt := s.elapsed - f.wordsAt
  okIf (s.lossRuns && decide (1000000000 ≤ dt)) s (s.setFeeder feeder { f with
    words := ws, wordsAt := s.elapsed
    power := (List.range 4).map fun g =>
      Int.tdiv (toSigned 32 (wrapSub 32 (ws.getD g 0) (f.words.getD g 0)) * 3600000000000) dt })

/-- 0x4820 FeederStatus: 4 records of 16 bytes a feeder. -/
def State.feederStatusImage (s : State) : Octets :=
  (List.range 8192).flatMap fun i => (List.range 4).flatMap fun b =>
    let x := s.balanceOf (i + 1) b
    be 4 (ofSigned 32 x.loss) ++ be 4 x.uncertainty ++ be 4 (ofSigned 32 x.headDelta) ++ be 1 x.run ++ be 1 x.state ++
      be 2 (s.feeder (i + 1)).generation

/-- 0x4822 FeederRunningPower. -/
def State.runningPowerImage (s : State) : Octets :=
  (List.range 8192).flatMap fun i => (List.range 4).flatMap fun g => be 4 (ofSigned 32 ((s.feeder (i + 1)).power.getD g 0))

/-- The suspects of a balance: children with an indicator, by count of indicators, then by number (R425). -/
def State.suspects (s : State) (tag b : Nat) : List Nat :=
  let kids := if b < 3 then s.childrenOf tag b else s.children tag
  let score (x : Meter) : Nat := popCount 5 (field (x.word 15) 7 3)
  (((kids.filter fun x => score x != 0).mergeSort fun x y =>
    score y < score x || (score x == score y && x.number ≤ y.number)).take 16).map (·.number)

/-- 0x4841 LossAlarmList (R425). -/
def State.alarmList (s : State) : Octets :=
  s.loss.feeders.flatMap fun e => (List.range 4).flatMap fun b =>
    let x := e.2.balances.getD b {}
    if x.state < 3 then []
    else padTo 96 (be 2 e.1 ++ be 1 b ++ be 1 (x.state - 2) ++ be 4 x.raisedAt ++ be 4 (ofSigned 32 x.loss) ++
      be 4 x.uncertainty ++ be 16 0 ++ (s.suspects e.1 b).flatMap (be 4))

end Sys2Proof.Machine
end

