-- ==== Sys2Proof/Machine/Radio.lean ====
section
/-! DEFINITION. The radio lanes (08 R288 to R319): geometry, superframes, replies, reception, association, link keys. -/

namespace Sys2Proof.Machine

/-! ### Lanes -/

/-- A radio lane. -/
def State.radioLane (s : State) (t l : Nat) : RadioLane := if l < 8 then Tab.getD s.radio.lanes (t * 8 + l) {} else {}

/-- A radio lane stored; a tile has eight (R9). -/
def State.setRadio (s : State) (t l : Nat) (x : RadioLane) : State :=
  { s with radio := { s.radio with lanes := if l < 8 then Tab.set s.radio.lanes (t * 8 + l) x else s.radio.lanes } }

/-- The sub-index of a radio lane (R320). -/
def radioSub (t l : Nat) : Nat := t * 8 + l + 1

/-- A counter of a radio lane, in the order of 0x380A (R320, R663). -/
def State.radioCount (s : State) (t l i : Nat) : State := s.count t (17 + l) i

/-- The state of R316. -/
def RadioLane.stateNow (x : RadioLane) : Nat := if !x.on then 0 else if x.impaired then 3 else if x.starting then 1 else 2

/-- The reported state follows the lane's conditions (R316). -/
def State.restateRadio (s : State) (t l : Nat) : State :=
  let x := s.radioLane t l
  let n := x.stateNow
  if n = x.state then s
  else
    ((((s.setRadio t l { x with state := n }).setObj 0x3801 (radioSub t l) n).offer 0xE400 t [t * 8 + l, x.state, n]).laneUsable
      (portCode 1 t l) (decide (1 ≤ n ∧ n ≤ 2)))

/-! ### Geometry (R289, R290) -/

/-- FSK rate of a mode in kbit/s, and MR-OFDM rates (R291; MCS rates of options 3 and 4 from IEEE 802.15.4g, PRESUMED,
log 26). -/
def phyRate (mode : Nat) : Nat :=
  match mode with
  | 0 => 50 | 1 => 100 | 2 => 150 | 3 => 200 | 4 => 300
  | 16 => 200 | 17 => 400 | 18 => 600 | 19 => 800 | 20 => 1200
  | 21 => 100 | 22 => 200 | 23 => 300 | 24 => 400 | 25 => 600
  | 26 => 100 | 27 => 150 | 28 => 200 | 29 => 300
  | _ => 0

/-- A mode is one of the table. -/
def phyModeOk (mode : Nat) : Bool := decide (phyRate mode ≠ 0)

/-- Airtime of a PSDU in ns (R290). -/
def State.airtime (s : State) (mode octets : Nat) : Nat :=
  let rate := max 1 (phyRate mode)
  if mode < 16 then divUp ((s.obj 0x3803 1 + 4 + octets) * 8 * 1000000) rate
  else s.obj 0x3803 2 * 1000 + divUp (octets * 8 * 1000) (rate * 120) * 120000

/-- MIC octets of a level (R304). -/
def micLen (level : Nat) : Nat := if level = 2 then 8 else if level = 5 then 4 else if level = 6 then 8 else if level = 7 then 16 else 0

/-- The data security level and the mode of a lane. -/
def State.dataLevel (s : State) : Nat := s.obj 0x3803 3
def State.phyMode (s : State) (t l : Nat) : Nat := s.obj 0x3802 (radioSub t l)

/-- Guard G, reply delay D and the slot, ns. -/
def State.guardNs (s : State) : Nat := s.obj 0x3804 1 * 1000
def State.replyNs (s : State) : Nat := s.obj 0x3804 2 * 1000
def slotNs : Nat := 4000000

/-- A lane with the geometry of the objects in force. -/
def State.withGeometry (s : State) (t l : Nat) (x : RadioLane) : RadioLane :=
  let mode := s.phyMode t l
  let u := s.airtime mode (122 + micLen s.dataLevel)
  let lt := s.airtime mode 90
  let ls := divUp (2 * s.guardNs + lt) slotNs
  let ss := max 1 (divUp (2 * s.guardNs + 2 * u + s.replyNs) slotNs)
  let spans := (256 - ls) / ss
  { x with lanternSlots := ls, spanSlots := ss, spans := spans, contention := divUp (spans * s.obj 0x3804 3) 100
           dataTime := u, lanternTime := lt }

/-- Assigned spans A. -/
def RadioLane.assigned (x : RadioLane) : Nat := x.spans - x.contention

/-! ### Keys (R306) -/

/-- The link key of a lane at an epoch (R455). -/
def State.deriveLink (s : State) (t l epoch : Nat) : Octets :=
  kdf (s.root (s.laneClass 1 t l)) (labelOf 0x4C494E4B) (be 1 t ++ be 1 l ++ be 2 epoch) 128

/-- The two slots of a link key written: encrypt-only, then decrypt-only. -/
def State.installLink (s : State) (t l n epoch : Nat) : State :=
  let k (use : Nat) : KeySlot :=
    { use := use, type := 1, generation := epoch, parent := 16 + s.laneClass 1 t l, label := 0x4C494E4B, material := s.deriveLink t l epoch
      context := be 1 t ++ be 1 l ++ be 2 epoch }
  (s.setSlot (tileSlotKey t n) (k 0)).setSlot (tileSlotKey t (n + 1)) (k 1)

/-- A pair of tile slots destroyed. -/
def State.destroyLink (s : State) (t : Nat) (n : Option Nat) : State :=
  match n with
  | none => s
  | some n => { s with keys := { s.keys with
      slots := Tab.erase (Tab.erase s.keys.slots (tileSlotKey t n)) (tileSlotKey t (n + 1)) } }

/-- The material of a pair of slots: 0 to transmit, 1 to receive. -/
def State.linkKey (s : State) (t : Nat) (n : Option Nat) (copy : Nat) : Octets :=
  match n with
  | none => []
  | some n => s.keyMaterial (tileSlotKey t (n + copy))

/-- The epoch of a lane's link key in force: that of its slot, else 0x380C.01. -/
def State.laneEpoch (s : State) (t : Nat) (x : RadioLane) : Nat :=
  match x.keySlot.bind fun n => Tab.find? s.keys.slots (tileSlotKey t n) with
  | some k => k.generation
  | none => s.obj 0x380C 1

/-! ### The transceiver port (R312) -/

/-- The transceiver channel of a list index. -/
def State.channelNumber (s : State) (idx : Nat) : Nat := fieldAt (s.domain 0x3806 2) (2 * idx) 2

/-- The MCS of an MR-OFDM mode (R291). -/
def ofdmMcs (mode : Nat) : Nat := if mode < 21 then mode - 14 else if mode < 26 then mode - 19 else mode - 23

/-- The PHR of a PSDU (R307): the field order is IEEE 802.15.4g's, PRESUMED, and the scrambler's seed a free value (log 26). -/
def State.phr (s : State) (mode len : Nat) : Octets :=
  if mode < 16 then be 2 (s.obj 0x3803 4 * 2 ^ 11 + len)
  else be 3 (ofdmMcs mode * 2 ^ 19 + len * 2 ^ 7 + Config.ofdmScrambler.toNat * 2 ^ 3)

/-- A template with its fields put in: 0xFE and a field code insert the field, 0xFE 0xFF sends 0xFE (R312). -/
def expandTemplate (field : Byte → Octets) : Octets → Octets
  | [] => []
  | [b] => [b]
  | b :: c :: r => if b = 0xFE then (if c = 0xFF then [0xFE] else field c) ++ expandTemplate field r
    else b :: expandTemplate field (c :: r)

/-- The fields of R312 for a PSDU on a lane's channel; a code without a field inserts nothing. -/
def State.templateField (s : State) (t l : Nat) (psdu : Octets) (c : Byte) : Octets :=
  match c.toNat with
  | 0 => be 2 (s.channelNumber (s.radioLane t l).channel)
  | 1 => s.phr (s.phyMode t l) psdu.length
  | 2 => psdu
  | 3 => be 2 psdu.length
  | _ => []

/-- The template of an operation sent to a lane's transceiver: 0 reset, 1 configure, 2 set channel, 3 load transmit, 4 receive
on, 5 read frame, 6 read status (R312). -/
def State.transceive (s : State) (t l op : Nat) (psdu : Octets) : State :=
  s.send (.radio t l) (expandTemplate (s.templateField t l psdu) (padTo 64 (slice (s.domain 0x3808 5) (64 * op) 64)))

/-- The transceiver reset, configured and set to receive (R315, R316). -/
def State.resetTransceiver (s : State) (t l : Nat) : State :=
  (((s.setRadio t l { s.radioLane t l with tuned := none }).transceive t l 0 []).transceive t l 1 []).transceive t l 4 []

/-- The transceiver set to the superframe's channel if that changes (R313). -/
def State.tune (s : State) (t l : Nat) : State :=
  let x := s.radioLane t l
  if x.channel = 255 ∨ x.tuned = some x.channel then s
  else (s.setRadio t l { x with tuned := some x.channel }).transceive t l 2 []

/-! ### Enabling and disabling (R316, R96) -/

/-- The link key of a lane that is enabled: its slots, derived at the epoch in force or, in a roll, the next one (R306). -/
def State.keyLane (s : State) (t l : Nat) : State :=
  let x := s.radioLane t l
  let epoch := s.radio.rolling.getD (s.obj 0x380C 1)
  match x.keySlot with
  | some n => if x.newKeySlot.isSome then s else s.installLink t l n epoch
  | none =>
    (match s.freeTileSlots t with
     | none => s.offer 0xE60B t [t]
     | some n => (s.installLink t l n epoch).setRadio t l { x with keySlot := some n })

/-- A lane enabled by a swap, or at a wake: reset, configure, receive on (R316, R319). -/
def State.startRadio (s : State) (t l : Nat) : State :=
  let s1 := (s.setRadio t l (s.withGeometry t l (s.radioLane t l))).keyLane t l
  let y := s1.radioLane t l
  (((s1.setRadio t l { y with
      on := true, starting := true, sfn := none, fixed := [], missed := 0, sentRun := 0, impaired := false }).setObj 0x380B
    (radioSub t l) (y.spanSlots * 2 ^ 24 + y.lanternSlots * 2 ^ 16 + y.spans * 2 ^ 8 + y.contention)).resetTransceiver t l).restateRadio
    t l

/-- A lane reaches DISABLED, or pilot light turns it off (R316, R319). -/
def State.stopRadio (s : State) (t l : Nat) : State :=
  let x := s.radioLane t l
  ((s.setRadio t l { x with on := false, starting := false, impaired := false, sfn := none, fixed := [], transmitting := 0
                            prepared := false, uplink := none }).setObj 0x380B (radioSub t l) 0).restateRadio t l

/-- The cipher core of a lane is FAULTED (R468). -/
def State.radioCoreFaulted (s : State) (t l : Nat) : Bool := (Tab.getD s.keys.kats (t * 16 + 8 + l) {}).faulted

/-- The lane transmits at all: not on a standby, nor on an active whose LANE_OWN reads back low, not after a tamper or in
thermal shutdown (R318, R465, R468, R712, R744). -/
def State.radioSends (s : State) (t l : Nat) : Bool :=
  (s.radioLane t l).on && (decide (s.pair.state = 0) || (s.pair.baton && !bitAt (s.obj 0x1061 1) 1)) && !s.fabric.keysCleared &&
    !s.radioCoreFaulted t l && !Tab.has s.heat.halts 6 && !(s.linkKey t (s.radioLane t l).keySlot 0).isEmpty

/-! ### Hopping and dwell (R300 to R302) -/

/-- The lane's index g. -/
def laneIndex (t l : Nat) : Nat := t * 8 + l

/-- h(n). -/
def State.baseIndex (s : State) (t l n : Nat) : Nat :=
  (s.obj 0x3806 3 + laneIndex t l + n * s.obj 0x3806 4) % max 1 (s.obj 0x3806 1)

/-- The start of superframe n of a lane, TB64 ns (R288). -/
def State.superframeStart (s : State) (t l n : Nat) : Nat := n * 1024000000 + s.obj 0x3805 (radioSub t l)

/-- Airtime on the channel of a list index in the dwell window that ends at an instant, ns. -/
def State.dwell (s : State) (x : RadioLane) (idx end_ : Nat) : Nat :=
  ((x.airtime.filter fun e => e.1 == s.channelNumber idx && decide (end_ < e.2.1 + s.obj 0x3807 2 * 1000000000)).map (·.2.2)).sum

/-- A channel-list index is eligible for superframe n (R301). -/
def State.eligible (s : State) (t l : Nat) (x : RadioLane) (n idx : Nat) : Bool :=
  decide (s.dwell x idx (s.superframeStart t l n) + x.lanternTime + s.obj 0x3807 3 * 1000000 ≤ s.obj 0x3807 1 * 1000000)

/-- Another radio lane has fixed the index for the same superframe. -/
def State.fixedElsewhere (s : State) (t l n idx : Nat) : Bool :=
  s.radio.lanes.any fun e => e.1 != t * 8 + l && e.2.on && Tab.find? e.2.fixed n == some idx

/-- A unit of a pair that does not hold the baton takes channels, assignments and rolls from its peer (R318, R549). -/
def State.follows (s : State) : Bool := decide (s.pair.state ≠ 0) && !s.pair.baton

/-- The channel indices of a superframe in order, and the eligible ones among them (R300). -/
def State.channelOrder (s : State) (t l n : Nat) : List Nat :=
  (List.range (s.obj 0x3806 1)).map fun i => (s.baseIndex t l n + i) % max 1 (s.obj 0x3806 1)
def State.goodChannels (s : State) (t l n : Nat) : List Nat :=
  (s.channelOrder t l n).filter fun i => s.eligible t l (s.radioLane t l) n i

/-- The first eligible index that no other lane has, else the first eligible one, 255 for none (R300, R301). -/
def State.pickChannel (s : State) (t l n : Nat) : Nat :=
  ((s.goodChannels t l n).find? fun i => !s.fixedElsewhere t l n i).getD ((s.goodChannels t l n).headD 255)

/-- The event of an ineligible index passed over (R301). -/
def State.skipChannel (s : State) (t l n i : Nat) : State := s.offerLimited 0xE402 t (t * 8 + l) [t * 8 + l, i, n % 4294967296]

/-- The ineligible indices before the pick, each a skip. -/
def State.skipChannels (s : State) (t l n pick : Nat) : State :=
  (((s.channelOrder t l n).takeWhile fun i => i != pick).filter fun i => !(s.goodChannels t l n).contains i).foldl
    (fun s i => s.skipChannel t l n i) s

/-- The channel kept for a superframe; those more than three superframes past go. -/
def State.takeChannel (s : State) (t l n pick : Nat) : State :=
  let x := s.radioLane t l
  s.setRadio t l { x with fixed := (Tab.set x.fixed n pick).filter fun e => n ≤ e.1 + 3 }

/-- The channel fixed for superframe n, 255 for none; an ineligible index passed over is a skip (R300, R301). On a unit that
follows the active it is the active's (R318). -/
def State.fixChannel (s : State) (t l n : Nat) : State :=
  if Tab.has (s.radioLane t l).fixed n || s.follows then s
  else
    let pick := s.pickChannel t l n
    ((s.skipChannels t l n pick).takeChannel t l n pick).mgmt 11 [t, l, n, pick] []

/-! ### Transmission (R303 to R307, R313) -/

/-- A frame under CCM*: header, protected body, MIC and FCS (R303, R304). -/
def radioPsdu (key hdr nonce body : Octets) (level : Nat) : Octets :=
  let mic := if level = 0 then [] else ccmMic key nonce hdr body (micLen level)
  let text := if level < 5 then body else ccmText key nonce body
  let m := hdr ++ text ++ mic
  m ++ be 4 (crc32 m)

/-- The MAC header (R303). -/
def radioHeader (kind : Nat) (pending : Bool) (level seq src dst counter : Nat) : Octets :=
  be 1 (kind * 16 + bit01 pending * 8 + level) ++ be 1 seq ++ be 4 src ++ be 4 dst ++ be 4 counter

/-- The CCM* nonce (R305). -/
def radioNonce (src dst counter level : Nat) : Octets := be 4 src ++ be 4 dst ++ be 4 counter ++ be 1 level

/-- RFn_TXON of a lane driven, from a TB64 instant (R313; pulse 43, log 9). -/
def State.txOn (s : State) (t l : Nat) (on : Bool) (at_ : Nat) : State := s.send (.pulse 43 t) (be 1 l ++ be 1 (bit01 on) ++ be 8 at_)

/-- A frame loaded into the transceiver, tuned to the superframe's channel, whose preamble starts at an instant; RFn_TXON rises TxLatency
before, and its airtime is counted (R301, R313). -/
def State.radioSend (s : State) (t l kind : Nat) (pending : Bool) (level dst start : Nat) (body : Octets) : State :=
  let x := s.radioLane t l
  let mode := s.phyMode t l
  let p := radioPsdu (s.linkKey t x.keySlot 0) (radioHeader kind pending level x.macSeq 0 dst x.counter)
    (radioNonce 0 dst x.counter level) body level
  let a := s.airtime mode p.length
  ((s.transceive t l 3 p).txOn t l true (start - s.obj 0x3808 2 * 1000)).setRadio t l { x with
    macSeq := (x.macSeq + 1) % 256, counter := (x.counter + 1) % 2 ^ 32, transmitting := if kind = 0 then 1 else 2
    airtime := ((s.channelNumber x.channel, start + a, a) :: x.airtime).filter fun e => decide (s.tbNs < e.2.1 + 3600000000000) }

/-- A reply of an octet count that starts at an instant would take its channel over DwellLimit in the window that ends with it
(R301). -/
def State.overDwell (s : State) (t l octets start : Nat) : Bool :=
  let x := s.radioLane t l
  let a := s.airtime (s.phyMode t l) octets
  decide (s.obj 0x3807 1 * 1000000 < s.dwell x x.channel (start + a) + a)

/-! ### Link-key rolls (R306) -/

/-- The parameters of LANE_JOIN: the link key wrapped under the meter wrap key, epoch, assignment, SFN (R330, R458). -/
def State.joinParams (s : State) (x : Meter) (t l epoch : Nat) (key : Octets) (c : Option Cells) (sfn : Nat) : Octets :=
  let mk := meterKey (s.root (s.laneClass 1 t l)) x.number x.incarnation x.epoch
  let kek := kdf mk (labelOf 0x4D575250) (be 1 0) 128
  let h := labelOf 0x4C494E4B ++ be 1 1 ++ be 1 0 ++ be 2 epoch ++ be 1 t ++ be 1 l ++ be 6 0
  wrapKey kek h key ++ be 2 epoch ++
    (match c with
     | some c => be 1 c.span ++ be 1 c.phase ++ be 1 c.logP
     | none => be 1 255 ++ be 1 0 ++ be 1 0) ++ be 4 sfn

/-- LANE_JOIN sent to a meter on a lane, outside its serving path where it is not served (R310). -/
def State.sendJoin (s : State) (m t l epoch : Nat) (key : Octets) (c : Option Cells) (sfn : Nat) : State :=
  match s.meter? m with
  | none => s
  | some x =>
    match s.submitCommand m Cmd.laneJoin 0 (s.joinParams x t l epoch key c sfn) 2 with
    | (none, s1) => s1
    | (some id, s1) =>
      (match s1.requestOf id with
       | some (rt, n, r) => s1.setRequest rt n { r with port := some (portCode 1 t l) }
       | none => s1)

/-- The superframe number of now on a lane. -/
def State.sfnNow (s : State) (t l : Nat) : Nat := (s.tbNs - s.obj 0x3805 (radioSub t l)) / 1024000000

/-- The next link key of a lane sent to its associated meters, those without an assignment among them (R306, R320). -/
def State.sendNewKey (s : State) (t l n epoch sw : Nat) : State :=
  ((s.radioLane t l).assocs.filter fun e => e.2.state != 0).foldl
    (fun s e => s.sendJoin e.1 t l epoch (s.linkKey t (some n) 0) e.2.cells sw) s

/-- A lane's part of a roll: a new slot, the key sent to every associated meter, SwitchSfn announced. -/
def State.rollLane (s : State) (t l epoch : Nat) : State :=
  let x := s.radioLane t l
  if !x.on then s
  else match s.freeTileSlots t with
    | none => s.offer 0xE60B t [t]
    | some n =>
      let sw := s.sfnNow t l + 129
      ((s.installLink t l n epoch).setRadio t l { x with newKeySlot := some n, switchSfn := sw }).sendNewKey t l n epoch sw

/-- A roll is over when no lane holds a next or an old key (R306). -/
def State.endRoll (s : State) (sw : Nat) : State :=
  match s.radio.rolling with
  | some e =>
    if s.radio.lanes.any fun x => x.2.newKeySlot.isSome || x.2.oldKeySlot.isSome then s
    else (({ s with radio := { s.radio with rolling := none } } : State).setObj 0x380C 1 e).offer 0xE40A packageWide [e, sw]
  | none => s

/-- A roll starts: new slots on every lane, the key sent to every associated meter, SwitchSfn announced. -/
def State.startRoll (s : State) : State :=
  if s.radio.rolling.isSome then s
  else
    let epoch := (s.obj 0x380C 1 + 1) % 65536
    let s0 : State := ({ s with radio := { s.radio with rolling := some epoch } } : State).mgmt 22 [epoch] []
    (s0.eachTile fun s t => (List.range 8).foldl (fun s l => s.rollLane t l epoch) s).endRoll 0

/-- A roll by itself when the lane's counter reaches 0xFF000000. -/
def State.rollAtLimit (s : State) (t l : Nat) : State := if 0xFF000000 ≤ (s.radioLane t l).counter && !s.follows then s.startRoll else s

/-- LinkKeyRoll written 1. -/
def linkKeyRoll (s : State) : Done :=
  if s.radio.rolling.isSome then Done.refuse s Status.refused else Done.ok s.startRoll

/-- LINK_KEY_ROLL. -/
def execLinkKeyRoll (r : Req) (s : State) : Result := ok (udxWrite s r 0x380C 2 0 (be 1 1) fun s _ => linkKeyRoll s)

/-- LINK_KEY_SWITCH of a lane at its SwitchSfn. -/
def execLinkKeySwitch (tile lane : Nat) (s : State) : Result :=
  if !s.awake then ok s else
  let x := s.radioLane tile lane
  match s.radio.rolling, x.newKeySlot with
  | some e, some n =>
    okIf (decide (x.switchSfn ≤ s.sfnNow tile lane)) s
      ((s.setRadio tile lane { x with keySlot := some n, oldKeySlot := x.keySlot, newKeySlot := none, counter := 0 }).setObj
        0x380C 1 e)
  | _, _ => ok s

/-- LINK_KEY_OLD_DESTROY 64 superframes later; the roll ends with the last lane. -/
def execLinkKeyOldDestroy (tile lane : Nat) (s : State) : Result :=
  if !s.awake then ok s else
  let x := s.radioLane tile lane
  if x.oldKeySlot.isSome ∧ x.switchSfn + 64 ≤ s.sfnNow tile lane then
    ok (((s.destroyLink tile x.oldKeySlot).setRadio tile lane { x with oldKeySlot := none }).endRoll x.switchSfn)
  else ok s

/-! ### The lantern (R308, R316) -/

/-- Meters a lane serves. -/
def State.lanesServed (s : State) (port : Nat) : Nat := s.meters.countP fun x => x.served && x.port == port

/-- Assignments held on a lane, by meter. -/
def RadioLane.placed (x : RadioLane) : List (Nat × Cells) := x.assocs.filterMap fun e => e.2.cells.map fun c => (e.1, c)

/-- log2 of a meter's period P: the largest power of two to 64 within its reporting interval (R211). -/
def periodLog (interval : Nat) : Nat := ((List.range 7).filter fun k => decide (2 ^ k * 1024 ≤ interval * 1000)).getLastD 0

/-- A meter's slot demand in 64ths of a slot per superframe (R211). -/
def Meter.demand (x : Meter) : Nat := 64 / 2 ^ periodLog x.reportInterval

/-- A lane's slot demand in 64ths: the sum over the meters it serves (R211). -/
def State.slotDemand (s : State) (port : Nat) : Nat :=
  ((s.meters.filter fun x => x.served && x.port == port).map (·.demand)).sum

/-- A lane's demand with a meter served by it (R210). -/
def State.demandWith (s : State) (port : Nat) (x : Meter) : Nat :=
  s.slotDemand port + (if x.served && x.port == port then 0 else x.demand)

/-- The lane accepts joins: it is below the limits of R210 (DEDUCED, log 78). -/
def State.joinsAccepted (s : State) (t l : Nat) : Bool :=
  decide (s.lanesServed (portCode 1 t l) < 4096) && decide (s.slotDemand (portCode 1 t l) < (s.radioLane t l).assigned * 64)

/-- The ns from a frame's preamble start to its SFD: the preamble octets in FSK modes (R290); of MR-OFDM it is not stated (log 25). -/
def State.sfdOffset (s : State) (mode : Nat) : Nat :=
  if mode < 16 then divUp (s.obj 0x3803 1 * 8 * 1000000) (max 1 (phyRate mode)) else Config.sfdInstant mode (s.obj 0x3803 1)

/-- The lantern's body at a superframe; its crossing is the last at or before the SFD, which lies ahead: where the next one falls before it,
the predicted one (R266, R308). -/
def State.lanternBody (s : State) (t l n : Nat) : Octets :=
  let x := s.radioLane t l
  let mode := s.phyMode t l
  let sfd := s.superframeStart t l n + s.guardNs + s.sfdOffset mode
  let m := s.mains t
  let ahead := (sfd - m.last) / max 1 m.period
  let count := s.obj 0x3806 1
  be 4 Config.unitId.toNat ++ be 1 t ++ be 1 l ++ be 4 n ++ be 1 (Tab.getD x.fixed (n + 1) 255) ++
    be 1 (Tab.getD x.fixed (n + 2) 255) ++ be 1 count ++ be 1 (s.obj 0x3806 4) ++
    be 1 ((s.obj 0x3806 3 + laneIndex t l) % max 1 count) ++ be 1 mode ++ be 1 x.spanSlots ++ be 1 x.lanternSlots ++
    be 1 x.spans ++ be 1 x.contention ++ be 1 x.broadcast ++
    be 1 (bit01 x.newKeySlot.isSome * 128 + bit01 (s.joinsAccepted t l) * 64) ++ be 2 (s.laneEpoch t x) ++
    be 4 (if x.newKeySlot.isSome then x.switchSfn else 0) ++ be 4 (sfd / 1000000000) ++ be 4 sfd ++ be 4 ((m.number + ahead) % 4294967296) ++
    be 4 (sfd - m.last - ahead * m.period) ++ be 4 m.period ++ be 2 (s.obj 0x3804 1) ++ be 2 (s.obj 0x3804 2) ++ be 2 (x.dataTime / 1000) ++
    be 1 s.dataLevel ++ be 1 (s.obj 0x3803 1) ++ be 8 0

/-- A superframe that counts toward IMPAIRED: the third in a row brings it (R316, R318). -/
def State.lanternFails (s : State) (t l : Nat) : State :=
  let x := s.radioLane t l
  (s.setRadio t l { x with missed := x.missed + 1, sentRun := 0, impaired := x.impaired || decide (3 ≤ x.missed + 1) }).restateRadio
    t l

/-- A superframe whose lantern succeeds: IN_SERVICE after the first, out of IMPAIRED after 8 in a row (R316). -/
def State.lanternHolds (s : State) (t l : Nat) : State :=
  let x := s.radioLane t l
  let run := x.sentRun + 1
  (s.setRadio t l { x with missed := 0, sentRun := run, starting := false, impaired := x.impaired && decide (run < 8) }).restateRadio
    t l

/-- A superframe passes without a lantern: counted, and toward IMPAIRED unless a step is the reason (R316). -/
def State.lanternMissed (s : State) (t l n reason : Nat) : State :=
  let s1 := (s.radioCount t l 11).offerLimited 0xE401 t (t * 8 + l) [t * 8 + l, n % 4294967296, reason]
  if reason = 2 then s1 else s1.lanternFails t l

/-- A lantern was sent (R316). -/
def State.lanternDone (s : State) (t l : Nat) : State :=
  ((s.radioCount t l 10).setRadio t l { s.radioLane t l with lanternSent := true }).lanternHolds t l

/-- The assignment in force: the one before until the SFN of the next (R298). -/
def Assoc.inForce (a : Assoc) : Option Cells := match a.old with
  | some (o, _) => o
  | none => a.cells

/-- Assignments whose SFN has come are in force alone (R298). -/
def Assoc.settle (a : Assoc) (n : Nat) : Assoc :=
  match a.old with
  | some (_, e) => if e ≤ n then { a with old := none } else a
  | none => a

/-- A superframe n of a lane opens: its channel from those fixed, its broadcast spans, and the channel of superframe n + 2
(R288, R300). Acknowledgements whose window was let pass go (R294). -/
def State.openSuperframe (s : State) (t l n start : Nat) : State :=
  let y := s.radioLane t l
  let b := min (min (s.obj 0x3804 4) (y.store.countP fun d => d.meter == 4294967295)) y.contention
  ((s.setRadio t l { y with
      sfn := some n, startTb := start, channel := Tab.getD y.fixed n 255, broadcast := b, nextSpan := 0, uplink := none
      lanternSent := false, transmitting := 0, prepared := false, store := y.store.filter fun d => !d.ack
      assocs := y.assocs.map fun e => (e.1, e.2.settle n) }).tune t l).fixChannel t l (n + 2)

/-- Every 64 superframes the core's CCM* vector is checked (R467). -/
def State.radioKat (s : State) (t l n : Nat) : State :=
  if n % 64 = 0 then
    { s with keys := { s.keys with kats := Tab.modify s.keys.kats (t * 16 + 8 + l) {} fun k => { k with lastAt := s.elapsed } } }
  else s

/-- The lantern of a superframe, or the reason none is sent (R308, R316): 0 no channel, else 1, which stands too for a lane that may not
transmit, as R316 has no other reason (DESIGN CHOICE, log 90). A unit that follows the active prepares it and sends none (R318). -/
def State.lantern (s : State) (t l n : Nat) : State :=
  if s.follows then
    (if (s.radioLane t l).channel = 255 then s else s.setRadio t l { s.radioLane t l with prepared := true })
  else if (s.radioLane t l).channel = 255 then s.lanternMissed t l n 0
  else if s.radioSends t l then
    (s.radioSend t l 0 false 2 4294967295 (s.superframeStart t l n + s.guardNs) (s.lanternBody t l n)).rollAtLimit t l
  else s.lanternMissed t l n 1

/-- SUPERFRAME_START of a lane: channel, lantern, the channel of superframe n + 2 (R288, R300, R308). A superframe that starts
within 4 ms after a step is silent for that reason (R317). -/
def execSuperframeStart (tile lane : Nat) (s : State) : Result :=
  let x := s.radioLane tile lane
  let n := s.sfnNow tile lane
  let start := s.superframeStart tile lane n
  if tile < s.nTiles ∧ lane < 8 ∧ x.on = true ∧ x.sfn ≠ some n ∧ start ≤ s.tbNs ∧ x.resumeTb ≤ start then
    let s1 := ((s.fixChannel tile lane n).fixChannel tile lane (n + 1)).openSuperframe tile lane n start
    ok ((s1.radioKat tile lane n).lantern tile lane n)
  else if tile < s.nTiles ∧ lane < 8 ∧ x.on = true ∧ x.sfn ≠ some n ∧ start ≤ s.tbNs ∧ x.resumeTb ≤ start + 4000000 then
    ok ((s.setRadio tile lane { x with
      sfn := some n, startTb := start, channel := 255, uplink := none, lanternSent := false, transmitting := 0 }).lanternMissed
      tile lane n 2)
  else ok s

/-- A step of the timebase abandons a lane's superframe in progress (R317). -/
def State.abandonSuperframe (s : State) (t l : Nat) : State :=
  let x := s.radioLane t l
  let s1 := s.setRadio t l { x with
    sfn := none, uplink := none, transmitting := 0, prepared := false, fixed := [], resumeTb := s.tbNs + 4000000 }
  if !x.on then s
  else match x.sfn with
    | some n => if x.lanternSent || s.follows then s1 else s1.lanternMissed t l n 2
    | none => s1

/-- A step of the timebase abandons the superframes in progress (R317). -/
def State.stepRadio (s : State) : State :=
  s.eachTile fun s t => (List.range 8).foldl (fun s l => s.abandonSuperframe t l) s

/-- A transceiver fault: the transmission is lost, the transceiver is reset by RFn_RST_N (R315; pulse 44, log 9). -/
def State.transceiverFault (s : State) (t l op : Nat) : State :=
  let x := s.radioLane t l
  let s1 := ((((s.setRadio t l { x with transmitting := 0, prepared := false }).offer 0xE407 t
    [t * 8 + l, op, x.sfn.getD 0 % 4294967296]).txOn t l false s.tbNs).send (.pulse 44 t) (be 1 l)).resetTransceiver t l
  if x.transmitting = 1 then s1.lanternMissed t l (x.sfn.getD 0) 1
  else if x.prepared then s1.lanternFails t l
  else s1

/-- TRANSCEIVER_FAULT of an operation: a template late, or RFn_SFD missing. -/
def execTransceiverFault (tile lane op : Nat) (s : State) : Result :=
  okIf ((s.radioLane tile lane).on) s (s.transceiverFault tile lane op)

/-- RADIO_TX_DONE with the verdict of read-status (operation 6 of R312), then RFn_TXON lowered and receive-on; on a standby, the status check of a
lantern prepared (R313, R318). -/
def execRadioTxDone (tile lane : Nat) (good : Bool) (s : State) : Result :=
  let x := s.radioLane tile lane
  if x.transmitting = 0 && !x.prepared then ok s
  else
    let s0 := s.transceive tile lane 6 []
    if !good then ok (s0.transceiverFault tile lane 6)
    else
      let s1 := ((s0.setRadio tile lane { x with transmitting := 0, prepared := false }).txOn tile lane false s.tbNs).transceive tile lane 4 []
      ok (if x.transmitting = 1 then s1.lanternDone tile lane else if x.prepared then s1.lanternHolds tile lane else s1)

/-! ### Assignments (R211, R297, R298) -/

/-- The phase cells an assignment takes in its span. -/
def Cells.list (c : Cells) : List Nat := (List.range (64 / 2 ^ c.logP)).map fun i => c.phase + i * 2 ^ c.logP

/-- Two assignments share a cell. -/
def Cells.meets (a b : Cells) : Bool := a.span == b.span && a.list.any fun c => b.list.contains c

/-- The lowest span, and in it the lowest phase, whose cells are all free (R297). -/
def placeCells (taken : List Cells) (spans logP : Nat) : Option Cells :=
  (((List.range spans).flatMap fun j => (List.range (2 ^ logP)).map fun p => ({ span := j, phase := p, logP := logP } : Cells))).find?
    fun c => !taken.any c.meets

/-- A frame held for a meter. -/
def State.holdDownlink (s : State) (t l : Nat) (d : Downlink) : State :=
  let x := s.radioLane t l
  s.setRadio t l { x with store := x.store ++ [d] }

/-- SlotAssign frames that wait enter the store while it has room (R295). -/
def State.fillStore (s : State) (t l : Nat) : State :=
  ((s.radioLane t l).assocs.filter fun e => e.2.waits).foldl (fun s e =>
    let x := s.radioLane t l
    if x.store.length < 512 then
      (s.setRadio t l { x with assocs := Tab.set x.assocs e.1 { e.2 with waits := false } }).holdDownlink t l
        { kind := 5, meter := e.1, at_ := s.elapsed }
    else s) s

/-- A changed assignment goes to its meter in a SlotAssign frame, whose SFN is named when it is sent; the one in force stands until
then (R298). A table of 8,192 entries takes no other (R311). -/
def State.reassign (s : State) (t l m : Nat) (c : Cells) : State :=
  let x := s.radioLane t l
  let a := Tab.getD x.assocs m {}
  if a.cells = some c ∨ (Tab.has x.assocs m = false ∧ 8192 ≤ x.assocs.length) then s
  else
    let a' : Assoc := { a with
      cells := some c, old := some (a.inForce, 2 ^ 64), state := if a.state = 2 then 1 else a.state
      waits := !(x.store.any fun d => d.kind == 5 && d.meter == m) }
    ((s.setRadio t l { x with assocs := Tab.set x.assocs m a' }).fillStore t l).mgmt 13 [t, l, m, c.span, c.phase, c.logP] []

/-- Every assignment of a lane packed anew, ascending P, then meter number (R298). -/
def State.repack (s : State) (t l : Nat) (extra : Option (Nat × Nat)) : State :=
  let x := s.radioLane t l
  let all := (x.placed.map fun e => (e.1, e.2.logP)) ++ extra.toList
  let order := all.mergeSort fun a b => a.2 < b.2 || (a.2 == b.2 && a.1 ≤ b.1)
  let packed := order.foldl (fun (acc : List (Nat × Cells)) e =>
    match placeCells (acc.map (·.2)) x.assigned e.2 with
    | some c => acc ++ [(e.1, c)]
    | none => acc) []
  let changed := packed.filter fun e => (Tab.getD x.assocs e.1 {}).cells != some e.2
  (changed.foldl (fun s e => s.reassign t l e.1 e.2) s).offer 0xE409 t [t * 8 + l, changed.length]

/-- A meter given an assignment on a lane within its demand limit (R210, R297, R298). -/
def State.assignCells (s : State) (t l m : Nat) : State :=
  match s.meter? m with
  | none => s
  | some y =>
    let x := s.radioLane t l
    let k := periodLog y.reportInterval
    if (Tab.getD x.assocs m {}).cells.isSome || s.follows then s
    else if x.assigned * 64 < s.demandWith (portCode 1 t l) y then s.offerLimited 0xE306 t (64 + l) [t * 8 + l, 3]
    else match placeCells (x.placed.map (·.2)) x.assigned k with
      | some c => s.reassign t l m c
      | none => s.repack t l (some (m, k))

/-- A meter's cells freed: contention only (R298). -/
def State.freeCells (s : State) (t l m : Nat) : State :=
  let x := s.radioLane t l
  match Tab.find? x.assocs m with
  | none => s
  | some a => s.setRadio t l { x with assocs := Tab.set x.assocs m { a with
      cells := none, old := none, waits := false, state := if a.state = 1 then 2 else a.state } }

/-! ### Association (R310, R311) -/

/-- A meter is heard on a lane: an authenticated frame of it came through it. -/
def Meter.heardOnLane (x : Meter) (t l : Nat) : Bool := x.place.paths.any fun e => e.1 % 1024 / 4 == portCode 1 t l && e.1 / 1024 == 0

/-- Why a join is refused (R210): 2 the lane's meters, 3 its demand, 0 not refused. -/
def State.joinLimit (s : State) (tile lane : Nat) (y : Meter) : Nat :=
  let x := s.radioLane tile lane
  if !(y.served && y.port == portCode 1 tile lane) && decide (4096 ≤ s.lanesServed (portCode 1 tile lane)) then 2
  else if !Tab.has x.assocs y.number && decide (8192 ≤ x.assocs.length) then 2
  else if x.assigned * 64 < s.demandWith (portCode 1 tile lane) y then 3
  else 0

/-- LANE_JOIN of an associated meter with the key in force, and with the next one in a roll (R306, R310). -/
def State.sendJoins (s : State) (tile lane meter : Nat) : State :=
  let z := s.radioLane tile lane
  let c := (Tab.getD z.assocs meter {}).cells
  let s1 := s.sendJoin meter tile lane (s.laneEpoch tile z) (s.linkKey tile z.keySlot 0) c (s.sfnNow tile lane + 2)
  match z.newKeySlot, s.radio.rolling with
  | some n, some e => s1.sendJoin meter tile lane e (s1.linkKey tile (some n) 0) c z.switchSfn
  | _, _ => s1

/-- A meter associated on a lane: its cells, which hold from the SFN that its join response names, its SlotAssign frames dropped, its joins
sent (R298, R310). -/
def State.associate (s : State) (tile lane meter : Nat) : State :=
  let x := s.radioLane tile lane
  let s0 := s.setRadio tile lane { x with
    assocs := Tab.set x.assocs meter { Tab.getD x.assocs meter {} with state := 0, heardAt := s.elapsed } }
  let s1 := s0.assignCells tile lane meter
  let z := s1.radioLane tile lane
  let b := Tab.getD z.assocs meter {}
  (s1.setRadio tile lane { z with
    store := z.store.filter fun d => !(d.kind == 5 && d.meter == meter)
    assocs := Tab.set z.assocs meter { b with
      waits := false, old := b.old.map fun o => (o.1, s.sfnNow tile lane + 2) } }).sendJoins tile lane meter

/-- A meter whose join event has been booked through a lane joins it within the limits of R210. -/
def State.radioJoin (s : State) (tile lane meter : Nat) : State :=
  match s.meter? meter with
  | none => s
  | some y =>
    if !(s.radioLane tile lane).on || !y.heardOnLane tile lane then s
    else if s.joinLimit tile lane y ≠ 0 then
      s.offerLimited 0xE306 tile (64 + lane) [tile * 8 + lane, s.joinLimit tile lane y]
    else s.associate tile lane meter

/-- RADIO_JOIN: a meter whose join event has been booked through the lane gets its LANE_JOIN within the limits of R210. -/
def execRadioJoin (tile lane meter : Nat) (s : State) : Result := ok (s.radioJoin tile lane meter)

/-- ASSOCIATION_EXPIRY: 24 h unheard (R311). -/
def execAssociationExpiry (tile lane meter : Nat) (s : State) : Result :=
  if !s.awake then ok s else
  let x := s.radioLane tile lane
  match Tab.find? x.assocs meter with
  | none => ok s
  | some a => okIf (s.due a.heardAt 86400000000000) s (s.setRadio tile lane { x with
      assocs := Tab.erase x.assocs meter, store := x.store.filter fun d => d.meter != meter })

/-! ### The downlink store (R294, R295) -/

/-- The instant at which span k's uplink preamble starts: span start + G, TB64 ns (R292). -/
def State.spanStart (s : State) (x : RadioLane) (k : Nat) : Nat := x.startTb + (x.lanternSlots + k * x.spanSlots) * slotNs + s.guardNs

/-- An acknowledgement of a meter now is TxLead ahead of the reply window of the span it was heard in (R294). -/
def State.ackTimely (s : State) (x : RadioLane) (m : Nat) : Bool :=
  match x.uplink with
  | some (k, u, _) => u == m && decide (s.tbNs + s.obj 0x3808 1 * 1000 ≤ s.spanStart x k + x.dataTime + s.replyNs)
  | none => false

/-- DOWNLINK_STORE: a packet of the transmit queue enters the store while it has room. An acknowledgement too late for its
reply window is discarded, but in relay mode it is held like any other frame (R294, R359). A frame for a meter that is not
associated is a join response (DEDUCED, log 78). -/
def execDownlinkStore (tile lane : Nat) (s0 : State) : Result :=
  let s := s0.fillStore tile lane
  let x := s.radioLane tile lane
  if x.store.length < 512 then
    match s.drainPacket tile (0x70 + lane) Producer.radioLane.code with
    | (none, s1) => ok s1
    | (some pk, s1) =>
      let f := packetBytes pk
      let m := frMeter f
      let ack : Bool := frType f == 6
      let timely := s.ackTimely x m
      if ack && !timely && !s.tunnel.relayMode then ok (((s1.radioCount tile lane 6)).offerLimited 0xE405 tile (tile * 8 + lane) [tile * 8 + lane, m])
      else
        let joining := decide ((Tab.getD x.assocs m {}).state = 0) && decide (m ≠ 4294967295) && !ack
        ok (s1.holdDownlink tile lane { kind := if joining then 3 else 1, meter := m, body := f, at_ := s.elapsed, ack := ack && timely })
  else ok s

/-- DOWNLINK_EXPIRY: frames held for DownlinkHoldLimit are discarded. -/
def execDownlinkExpiry (tile lane : Nat) (s : State) : Result :=
  if !s.awake then ok s else
  let x := s.radioLane tile lane
  let lim := s.obj 0x3809 1 * 1000000000
  let gone := x.store.filter fun d => s.due d.at_ lim
  ok ((gone.foldl (fun s d => (s.radioCount tile lane 8).offerLimited 0xE40B tile (tile * 8 + lane) [tile * 8 + lane, d.meter])
    (s.setRadio tile lane { x with store := x.store.filter fun d => !s.due d.at_ lim })).fillStore tile lane)

/-! ### Spans (R293, R296) -/

/-- The reply of a span: the acknowledgement of its frame; in relay mode, the oldest frame held for the meter heard; the oldest
frame held for the span's meter; or, after a poll, for the polling one (R293, R359). -/
def RadioLane.reply (x : RadioLane) (k n : Nat) (relay : Bool) : Option Downlink :=
  let up := x.uplink.filter fun u => u.1 == k
  let ackOf := up.bind fun u => x.store.find? fun d => d.ack && d.meter == u.2.1
  let owner := if k < x.contention then none
    else ((List.find? (fun e => match e.2.inForce with
      | some c => e.2.state == 1 && c.span == k - x.contention && n % 2 ^ c.logP == c.phase
      | none => false) x.assocs) : Option (Nat × Assoc)).map (·.1)
  let held (m : Nat) : Option Downlink := x.store.find? fun d => d.meter == m && !d.ack
  ackOf <|> (up.bind fun u => if relay then held u.2.1 else none) <|> (owner.bind held) <|>
    (up.bind fun u => if u.2.2 = 4 then held u.2.1 else none)

/-- The store without one frame. -/
def RadioLane.without (x : RadioLane) (d : Downlink) : RadioLane := { x with store := x.store.erase d }

/-- The body of a held frame as sent: a SlotAssign names its SFN now (R298). -/
def RadioLane.bodyOf (x : RadioLane) (d : Downlink) (n : Nat) : Octets × RadioLane :=
  if d.kind = 5 then
    let a := Tab.getD x.assocs d.meter {}
    match a.cells with
    | some c =>
      let e := n + 2 * 2 ^ c.logP + 1
      (be 1 c.span ++ be 1 c.phase ++ be 1 c.logP ++ be 4 e,
        { x with assocs := Tab.set x.assocs d.meter { a with old := a.old.map fun o => (o.1, e) } })
    | none => ([], x)
  else (d.body, x)

/-- SPAN_REPLY of span k at the transmit deadline, TxLead before span start + G + U + D. The acknowledgement of a join request
bears Pending, since a join response is to follow (R293, R310). -/
def execSpanReply (tile lane k : Nat) (s : State) : Result :=
  let x := s.radioLane tile lane
  let at_ := s.spanStart x k + x.dataTime + s.replyNs
  match x.sfn with
  | none => ok s
  | some n =>
    if k < x.broadcast ∨ k < x.nextSpan ∨ x.spans ≤ k ∨ x.channel = 255 ∨ s.tbNs + s.obj 0x3808 1 * 1000 < at_ ∨ at_ < s.tbNs ∨
        s.radioSends tile lane = false then ok s
    else
      let s0 := s.setRadio tile lane { x with uplink := x.uplink.filter fun u => u.1 != k, nextSpan := k + 1 }
      let joins : Bool := x.uplink.any fun u => u.1 == k && u.2.2 == 2
      match x.reply k n s.tunnel.relayMode with
      | none => ok s0
      | some d =>
        let y := (s0.radioLane tile lane).without d
        let (body, z) := y.bodyOf d n
        let level := if d.kind = 3 ∨ (Tab.getD x.assocs d.meter {}).state = 0 then 0 else s.dataLevel
        let pending := (z.store.any fun e => e.meter == d.meter && !e.ack) || (d.ack && joins)
        if s.overDwell tile lane (18 + body.length + micLen level) at_ then
          ok (((s0.setRadio tile lane (if d.ack then y else s0.radioLane tile lane)).radioCount tile lane 9).offerLimited 0xE406 tile
            (tile * 8 + lane) [tile * 8 + lane, x.channel])
        else
          ok (((((s0.setRadio tile lane z).radioSend tile lane d.kind pending level d.meter at_ body).radioCount tile lane
            (if d.ack then 5 else 7)).rollAtLimit tile lane).fillStore tile lane)

/-- BROADCAST_SPAN k: the oldest broadcast frame. -/
def execBroadcastSpan (tile lane k : Nat) (s : State) : Result :=
  let x := s.radioLane tile lane
  if k < x.broadcast ∧ x.nextSpan ≤ k ∧ x.sfn.isSome = true ∧ x.channel ≠ 255 ∧ s.radioSends tile lane = true ∧ s.spanStart x k ≤ s.tbNs + s.obj 0x3808 1 * 1000 then
    match x.store.find? fun d => d.meter == 4294967295 with
    | none => ok s
    | some d =>
      if s.overDwell tile lane (18 + d.body.length + micLen s.dataLevel) (s.spanStart x k) then
        ok ((s.radioCount tile lane 9).offerLimited 0xE406 tile (tile * 8 + lane) [tile * 8 + lane, x.channel])
      else
        ok (((((s.setRadio tile lane { x.without d with nextSpan := k + 1 }).radioSend tile lane 1 false s.dataLevel 4294967295
          (s.spanStart x k) d.body).radioCount tile lane 7).rollAtLimit tile lane).fillStore tile lane)
  else ok s

/-! ### Reception (R292, R303 to R305, R313, R314) -/

/-- The body of a received frame where its MIC passes under a key. -/
def openRadio (key f : Octets) : Option Octets :=
  let level := fieldAt f 0 1 % 8
  let nonce := radioNonce (fieldAt f 2 4) (fieldAt f 6 4) (fieldAt f 10 4) level
  let n := f.length - 18 - micLen level
  let text := slice f 14 n
  let body := if level < 5 then text else ccmText key nonce text
  if level = 0 ∨ slice f (14 + n) (micLen level) = ccmMic key nonce (f.take 14) body (micLen level) then some body else none

/-- The body of a received frame under the key in force or, for 64 superframes after a switch, the old one (R306). -/
def State.openOnLane (s : State) (t : Nat) (x : RadioLane) (f : Octets) : Option Octets :=
  (if (s.linkKey t x.keySlot 1).isEmpty then none else openRadio (s.linkKey t x.keySlot 1) f) <|>
    (if (s.linkKey t x.oldKeySlot 1).isEmpty then none else openRadio (s.linkKey t x.oldKeySlot 1) f)

/-- The level a frame of a meter may bear (R304): association, kind and level. -/
def radioLevelOk (associated : Bool) (kind level lane : Nat) : Bool :=
  if kind = 1 ∨ kind = 5 then level == lane
  else if kind = 2 ∨ kind = 3 then !associated && level == 0
  else if kind = 4 then (if associated then level == lane else level == 0 || level == lane)
  else false

/-- A valid lantern of the part's active or of the peer (R318, R565). -/
def State.lanternHeard (s : State) (t l : Nat) (body : Octets) : State :=
  let tag := fieldAt body 0 4
  let s1 := if s.pair.state ≠ 0 ∧ s.pair.baton = false ∧ tag = s.pair.peer then
      s.setObj 0x380D (radioSub t l) ((s.obj 0x380D (radioSub t l) + 1) % 2 ^ 32)
    else s
  s1.peerHeard tag

/-- A data frame or join request written to the receive queue with its ingress descriptor (R314). -/
def State.queueRadio (s : State) (t l sfd : Nat) (body : Octets) : State :=
  let rx := ((sfd : Int) - s.objI 0x3808 3) % 4294967296
  let desc := portCode 1 t l * 2 ^ 56 + s.laneClass 1 t l * 2 ^ 50 + body.length * 2 ^ 40 + rx.toNat
  let (took, s1) := s.pushPacket t (0x68 + l) .radioLane (packetOf (BitVec.ofNat 64 desc) body)
  if took then s1.radioCount t l 1 else s1

/-- The span whose uplink window holds an instant: from its start up to its reply (R292, R293). -/
def State.spanAt (s : State) (x : RadioLane) (tb : Nat) : Option Nat :=
  (List.range x.spans).find? fun k =>
    decide (s.spanStart x k ≤ tb + s.guardNs) && decide (tb < s.spanStart x k + x.dataTime + s.replyNs)

/-- A frame of a meter that passed its checks: association, span, queue (R293, R310, R313). A meter without an entry whose frame
passes at the lane's level takes one (DEDUCED, log 78). A lane completes one frame in a
heat (R114; DEDUCED, log 75). -/
def State.takeRadio (s0 : State) (t l m kind sfd : Nat) (f body : Octets) : State :=
  let s := s0.laneCompletes (portCode 1 t l * 4)
  if s0.heat.laneDone.contains (portCode 1 t l * 4) then s0 else
  let x := s.radioLane t l
  let sealed_ : Bool := decide (fieldAt f 0 1 % 8 ≠ 0)
  let a := Tab.find? x.assocs m <|> (if sealed_ && decide (x.assocs.length < 8192) then some ({} : Assoc) else none)
  let joins : Bool := sealed_ && (match a with
    | some a => a.state == 0
    | none => false)
  let y : RadioLane := { x with
    uplink := match s.spanAt x sfd with
      | some k => some (k, m, kind)
      | none => x.uplink
    assocs := match a with
      | some a => Tab.set x.assocs m { a with
          counter := if sealed_ then fieldAt f 10 4 else a.counter, heardAt := s.elapsed
          state := if joins then (if a.cells.isSome then 1 else 2) else a.state }
      | none => x.assocs }
  let s1 := s.setRadio t l y
  let s2 := if joins then s1.offerLimited 0xE408 t (t * 8 + l) [t * 8 + l, m] else s1
  if kind = 4 then s2 else s2.queueRadio t l sfd body

/-- RADIO_FRAME_RECEIVED: a PSDU with the TB64 instant captured at its SFD, read by read-frame whatever its FCS (R313). A frame at a level
that R304 does not list, or with Kind 0 from a meter, is counted whoever it is for; one for another station is dropped. A tile that is LOST
takes none (R649). -/
def execRadioFrameReceived (tile lane : Nat) (psdu : Octets) (sfd : Nat) (s : State) : Result :=
  let x := s.radioLane tile lane
  let n := psdu.length
  let kind := fieldAt psdu 0 1 / 16
  let level := fieldAt psdu 0 1 % 8
  let src := fieldAt psdu 2 4
  if tile < s.nTiles ∧ lane < 8 ∧ x.on = true ∧ s.healthOf tile = 0 ∧ x.transmitting = 0 then
    let s0 := s.transceive tile lane 5 []
    if n < 18 + micLen level ∨ fieldAt psdu (n - 4) 4 ≠ crc32 (psdu.take (n - 4)) then ok s0
    else
      let s1 := s0.radioCount tile lane 0
      if kind = 0 ∧ src = 0 then
        (if level ≠ 2 then ok (s1.radioCount tile lane 4)
         else match s1.openOnLane tile x psdu with
           | some b => ok (s1.lanternHeard tile lane b)
           | none => ok ((s1.radioCount tile lane 2).offerLimited 0xE403 tile (tile * 8 + lane) [tile * 8 + lane, src]))
      else
        let assoc : Bool := match Tab.find? x.assocs src with
          | some a => a.state != 0
          | none => false
        if !radioLevelOk assoc kind level s.dataLevel then ok (s1.radioCount tile lane 4)
        else if kind = 3 ∨ kind = 5 ∨ fieldAt psdu 6 4 ≠ 0 then ok s1
        else if assoc && decide (fieldAt psdu 10 4 ≤ (Tab.getD x.assocs src {}).counter) then
          ok ((s1.radioCount tile lane 3).offerLimited 0xE404 tile (tile * 8 + lane) [tile * 8 + lane, src])
        else if level = 0 then ok (s1.takeRadio tile lane src kind sfd psdu (slice psdu 14 (n - 18)))
        else match s1.openOnLane tile x psdu with
          | some b => ok (s1.takeRadio tile lane src kind sfd psdu b)
          | none => ok ((s1.radioCount tile lane 2).offerLimited 0xE403 tile (tile * 8 + lane) [tile * 8 + lane, src])
  else ok s

/-- LANE_JOIN submitted by the host: wrapped link key, epoch, assignment and SFN (R330, R458). -/
def execLaneJoin (r : Req) (meter : Nat) (link : Octets) (epoch span phase logP sfn : Nat) (s : State) : Result :=
  ok (hostSubmit r meter 10 (padTo 24 (link.take 24) ++ be 2 epoch ++ be 1 span ++ be 1 phase ++ be 1 logP ++ be 4 sfn) s)

end Sys2Proof.Machine
end

