-- ==== Sys2Proof/Machine/Traffic.lean ====
section
/-! DEFINITION. What moves packets: the queue block's writers (04 R150 to R157), the forwarder (R138 to R140, 06 R200 to R204),
the ring (01 R28 to R32, 18 R642) and the clock monitors (01 R35, R36). -/

namespace Sys2Proof.Machine

/-! ### Opening and writing packets (R150 to R157) -/

/-- A producer by its code. -/
def producerOf (n : Nat) : Option Producer :=
  [Producer.pipeline, .ringRouter, .forwarder, .replay, .lineLane, .radioLane, .tunnelPort, .management, .dma].find? fun p =>
    p.code == n

/-- QUEUE_OPEN with a word reservation. -/
def execQueueOpen (tile q producer words : Nat) (s : State) : Result :=
  if !s.awake then ok s else
  let x := s.queue tile q
  match producerOf producer with
  | none => ok s
  | some p =>
    if s.nTiles ≤ tile ∨ 256 ≤ q then ok s
    else if !isProducer q p then ok (s.refuseStranger tile q)
    else if packetLimit q < words then ok (s.setQueue tile q { x with openAnswer := 3 })
    else if x.openBy.isSome || !x.waiters.isEmpty then ok (s.waitOpen tile q p words [])
    else ok (s.tryOpen tile q p words)

/-- The waiting opens that are granted once no packet is open (R151): packets in hand are written in their order, up to and
with the first open of a producer that writes word by word. -/
def execQueueOpenGrant (tile q : Nat) (s : State) : Result :=
  if !s.awake then ok s else
  let s1 := s.writeWaiting (s.queue tile q).waiters.length tile q
  let x := s1.queue tile q
  match x.openBy, x.waiters with
  | none, w :: r => ok ((s1.setQueue tile q { x with waiters := r }).tryOpen tile q w.producer w.words)
  | _, _ => ok s1

/-- A write counted as late (R152). -/
def State.lateWrite (s : State) (tile : Nat) : State := s.count tile 9 4

/-- A written tag: VALID set, the reserved bits 0, BYTES 7 but in an END word (R142). -/
def writtenTag (tag : Byte) : Byte :=
  if tag.getLsbD 6 then (tag &&& 0xE7#8) ||| 0x80#8 else (tag &&& 0xE7#8) ||| 0x87#8

/-- A word written to a packet being written; its END completes the packet (R142, R150). -/
def State.writeWord (s : State) (tile q word tag : Nat) : State :=
  let x := s.queue tile q
  let t := writtenTag (BitVec.ofNat 8 tag)
  let y : Queue := { x with writePos := x.writePos + 1, words := x.words ++ [(BitVec.ofNat 64 word, t)] }
  if t.getLsbD 6 then
    (((s.setQueue tile q { y with
      completePos := y.writePos, openPos := y.writePos, waiting := y.waiting + 1, openBy := none }).wordsWritten tile q x.writePos
        1).highWater tile q).count tile 9 0
  else ((s.setQueue tile q y).wordsWritten tile q x.writePos 1).highWater tile q

/-- The access of a producer to the word it writes next: of a management core or of DMA, which every producer's write but the
fabric's is (R170, R176). -/
def State.writeAccess (s : State) (tile q : Nat) (p : Producer) : Bool × State :=
  if p = .pipeline then (true, s) else s.access tile (s.queueWord tile q (s.queue tile q).writePos) p.code

/-- QUEUE_WRITE of a word under a ticket. With no packet open a write is late even where its ticket carries the generation in
force: no packet is there to take it (DESIGN CHOICE, log 64). -/
def execQueueWrite (tile q ticket word tag : Nat) (s : State) : Result :=
  if !s.awake then ok s else
  let x := s.queue tile q
  match x.openBy with
  | none => ok (s.lateWrite tile)
  | some (p, reserved) =>
    if ticket ≠ x.generation.toNat then ok (s.lateWrite tile)
    else if reserved ≤ (x.writePos - x.openPos).toNat then ok ((s.lateWrite tile).dropOpen tile q 1)
    else
      let a := s.writeAccess tile q p
      ok (if a.1 then a.2.writeWord tile q word tag else a.2)

/-- QUEUE_PACKET_TIMEOUT (R156), later than the instant at which an END word still completes the packet (R157). -/
def execQueuePacketTimeout (tile q : Nat) (s : State) : Result :=
  if !s.awake then ok s else
  let x := s.queue tile q
  okIf (x.openBy.isSome && decide (x.openedAt + s.packetTimeout < s.elapsed)) s (s.dropOpen tile q 0)

/-! ### Routes (R200, R204) -/

/-- The key of a route. -/
def routeKey (tile m : Nat) : Nat := tile * 4294967296 + m

/-- The route of a meter on a tile. -/
def State.route? (s : State) (tile m : Nat) : Option Route := Tab.find? s.place.routes (routeKey tile m)

/-- A route stored. -/
def State.setRoute (s : State) (tile m : Nat) (r : Route) : State :=
  { s with place := { s.place with routes := Tab.set s.place.routes (routeKey tile m) r } }

/-- The part directory's entry of a meter (R201): home, group and state as its placement and fence leave them. -/
def State.directory (s : State) (m : Nat) : Option Route :=
  match s.meter? m with
  | none => none
  | some x =>
    if x.unindexed then none
    else match s.fenceOf m with
      | some f => some (if f.kind ≤ 2 then { home := x.home, group := x.group, state := 1, fenceTag := f.id % 256 }
          else { home := x.home, group := x.group })
      | none => some { home := x.home, group := x.group, state := if x.place.parked then 2 else 0 }

/-- Routes of a tile. -/
def State.routesOf (s : State) (tile : Nat) : List (Nat × Route) := s.place.routes.filter fun e => e.1 / 4294967296 == tile

/-- The unserved LIVE entry of a tile unheard for longest (R204). -/
def State.evictable (s : State) (tile : Nat) : Option (Nat × Route) :=
  match (s.routesOf tile).filter fun e => !e.2.served && e.2.state == 0 with
  | [] => none
  | e :: r => some (r.foldl (fun a b => if b.2.heardAt < a.2.heardAt then b else a) e)

/-- An entry installed in a tile's route table of 65,536 entries: a full table evicts one, and where every entry is served or
fenced none is installed (R200, R204). -/
def State.installRoute (s : State) (tile m : Nat) (r : Route) : State :=
  if (s.route? tile m).isSome || decide ((s.routesOf tile).length < 65536) then s.setRoute tile m r
  else
    let s1 : State := match s.evictable tile with
      | some v => ({ s with place := { s.place with routes := Tab.erase s.place.routes v.1 } } : State).setRoute tile m r
      | none => s
    s1.offerLimited 0xE307 tile 0 [tile, bit01 (s.evictable tile).isSome]

/-! ### The forwarder -/

/-- A packet written to a meter's inbound queue on its home tile, or to the staging queue of that tile from `tile`, whose
producers are the forwarder and the tunnel ports (R135); a replayed one has its bit [49] set (R138, R143). -/
def State.routeFrame (s : State) (tile home group : Nat) (pk : List (Word × Byte)) (p : Producer) (replayed : Bool) : Bool × State :=
  let pk' := match pk with
    | (w, t) :: r => if replayed then (w ||| 0x2000000000000#64, t) :: r else pk
    | [] => []
  if home = tile then s.pushPacket tile group p pk'
  else
    let (took, s1) := s.pushPacket tile (0x78 + home) (if p = .tunnelPort then p else .forwarder) pk'
    if took then
      (true, { s1 with heat := { s1.heat with stagedGroups := Tab.modify s1.heat.stagedGroups (tile * 8 + home) [] (· ++ [group]) } })
    else (false, s1)

/-- The head packet of a source queue read and released, and counted as forwarded where it moved. -/
def State.forwarded (s : State) (tile q : Nat) (moved : Bool) : State :=
  let s1 := (s.drainPacket tile q Producer.forwarder.code).2
  let s2 : State := { s1 with queues := { s1.queues with retry := s1.queues.retry.filter (· != queueKey tile q) } }
  if moved then s2.count tile 9 7 else s2

/-- The source queue is retried later (R154). -/
def State.retryLater (s : State) (tile q : Nat) : State :=
  let k := queueKey tile q
  { s with queues := { s.queues with retry := if s.queues.retry.contains k then s.queues.retry else s.queues.retry ++ [k] } }

/-- Moved, or to be retried. -/
def moveOr (r : Bool × State) (tile q : Nat) : State := if r.1 then r.2.forwarded tile q true else r.2.retryLater tile q

/-- The meter number a received frame names. -/
def packetMeter (pk : List (Word × Byte)) : Nat := frMeter (packetBytes pk)

/-- A frame moved into a tile's hold queue with its FenceTag; where the queue has no room the frame is released and counted
(R202, R218). The first result tells whether the frame is dealt with. -/
def State.holdInQueue (s : State) (tile tag : Nat) (pk : List (Word × Byte)) : Bool × State :=
  let x := s.queue tile 0xA0
  if x.fits (s.capacity tile 0xA0) pk.length then
    let (took, s1) := s.pushPacket tile 0xA0 .forwarder pk
    (took, if took then { s1 with queues := { s1.queues with holdTags := Tab.modify s1.queues.holdTags tile [] (· ++ [tag]) } }
           else s1)
  else (true, (s.bump 0x2306 5).offerLimited 0xE304 tile 0 [tile, packetMeter pk])

/-- The frames of a tile's hold queue with their FenceTags. -/
def State.heldFrames (s : State) (tile : Nat) : List (List (Word × Byte) × Nat) :=
  let ps := packetsOf 4096 (s.queue tile 0xA0).unread
  ps.zip (Tab.getD s.queues.holdTags tile [] ++ List.replicate ps.length 0)

/-- A frame of a meter is left in a tile's hold queue: it is replayed before any later frame of the meter moves (R213, R221). -/
def State.holdsLeft (s : State) (tile m : Nat) : Bool := (s.heldFrames tile).any fun e => packetMeter e.1 == m

/-- A received frame moved by its route entry (R202, R218). One of a meter with frames left in the hold queue waits at the head of
its queue for their replay (R213). -/
def State.forwardFrame (s : State) (tile q : Nat) (pk : List (Word × Byte)) : State :=
  let m := packetMeter pk
  match s.route? tile m with
  | none =>
    let (took, s1) := s.pushPacket tile 0xA1 .forwarder pk
    if took then
      ({ s1 with queues := { s1.queues with unroutedAt := s1.queues.unroutedAt ++ [(tile, s.elapsed)] } } : State).forwarded tile q true
    else s1.retryLater tile q
  | some r =>
    let s0 := s.setRoute tile m { r with heardAt := s.elapsed }
    if r.state = 0 then
      (if s.holdsLeft tile m then s0.retryLater tile q else moveOr (s0.routeFrame tile r.home r.group pk .forwarder false) tile q)
    else if r.state = 1 then moveOr (s0.holdInQueue tile r.fenceTag pk) tile q
    else (s0.bump 0x2306 5).forwarded tile q false

/-- The function of an egress port is disabled: a lane from the swap that disables it, a tunnel port by its object in force
(R96, R98). -/
def State.portDisabled (s : State) (port : Nat) : Bool :=
  Tab.has s.fabric.disabling port ||
    (if portKind port = 0 then !(s.lane (portTile port) (portNumber port)).on
     else if portKind port = 1 then !(s.radioLane (portTile port) (portNumber port)).on
     else s.obj 0x3C00 (portNumber port + 1) != 1)

/-- The transmit queue of an egress port on its tile. -/
def transmitQueue (port : Nat) : Nat :=
  if portKind port = 0 then 0x64 + portNumber port else if portKind port = 1 then 0x70 + portNumber port else 0x88 + portNumber port

/-- An emission for a disabled lane: a command is returned WITHDRAWN, an acknowledgement discarded and counted (R98). -/
def State.dropEmission (s : State) (pk : List (Word × Byte)) : State :=
  if frType (packetBytes pk) = 6 then
    { s with fabric := { s.fabric with
      discarded := Tab.modify s.fabric.discarded (field (packetHead pk) 63 56) 0 (· + 1) } }
  else match s.requestOf (field (packetHead pk) 31 0) with
    | some (rt, n, r) => if r.busy then s.withdraw rt n else s
    | none => s

/-- An emission moved to the transmit queue of its port, or staged to its tile; one for a disabled lane is dropped as R98 says, and a
unit without the baton drops every emission (R98, R138, R140, R547). -/
def State.forwardEmission (s : State) (tile q : Nat) (pk : List (Word × Byte)) : State :=
  let d := packetHead pk
  let port := field d 63 56
  if s.pair.state ≠ 0 ∧ s.pair.baton = false then s.forwarded tile q false
  else if s.portDisabled port then (s.dropEmission pk).forwarded tile q false
  else
    let t := if portKind port = 2 then 0 else portTile port
    if t = tile then moveOr (s.pushPacket tile (transmitQueue port) .forwarder pk) tile q
    else moveOr (s.pushPacket tile (0x80 + t) .forwarder pk) tile q

/-- The source queues of the forwarder. -/
def forwarderSource (q : Nat) : Bool := (0x28 ≤ q && q < 0x30) || (0x58 ≤ q && q < 0x64) || (0x68 ≤ q && q < 0x70)

/-- Relay mode: a lane frame becomes an uplink record (R353, R358). The signal quality is the lane's measurement, a free
value. At 12 records it waits for the datagram to leave. -/
def State.relayFrame (s : State) (tile q : Nat) (pk : List (Word × Byte)) : State :=
  if 12 ≤ s.tunnel.uplink.length then s.retryLater tile q
  else
    let d := packetHead pk
    let port := field d 63 56
    let f := packetBytes pk
    let line := decide (portKind port = 0)
    let zs := Tab.getD s.tunnel.zcDeltas (queueKey tile q) []
    let rx := s.rxInstant d
    let rec_ := be 1 (bit01 (!line)) ++ be 1 (portTile port * 32 + portNumber port * 4 + field d 55 54) ++ be 1 192 ++
      be 1 f.length ++ be 4 (rx / 1000000000) ++ be 4 rx ++ be 2 (if line then zs.headD 0 else 0xFFFF) ++
      [Config.freeByte s.freeCount] ++ be 1 0 ++ padTo (divUp f.length 8 * 8) f
    let s1 : State := { s with tunnel := { s.tunnel with
      zcDeltas := Tab.set s.tunnel.zcDeltas (queueKey tile q) (zs.drop 1)
      uplinkAt := if s.tunnel.uplink.isEmpty then s.elapsed else s.tunnel.uplinkAt
      uplink := s.tunnel.uplink ++ [rec_], heardOn := Tab.set s.tunnel.heardOn (frMeter f) (port * 4 + field d 55 54) } }
    (s1.drew 1).forwarded tile q true

/-- The forwarder's move of the head packet of a source queue. -/
def State.forwardHead (s : State) (tile q : Nat) : State :=
  match s.readHead tile q Producer.forwarder.code with
  | (none, s1) => s1
  | (some pk, _) =>
    if q < 0x30 then s.forwardEmission tile q pk
    else if s.tunnel.relayMode then s.relayFrame tile q pk
    else s.forwardFrame tile q pk

/-- FORWARD_PACKET: in a pair, received frames wait for the heat boundary (R546). -/
def execForwardPacket (tile q : Nat) (s : State) : Result :=
  if !s.awake then ok s else
  okIf (decide (tile < s.nTiles) && forwarderSource q && (decide (s.pair.state = 0) || decide (q < 0x30))) s (s.forwardHead tile q)

/-- The receive queues of a tile. -/
def receiveQueues : List Nat := (List.range 12).map (· + 0x58) ++ (List.range 8).map (· + 0x68)

/-- The order of frames in a pair: extended RxTimeNs, then descriptor bits [63:54] (R546). -/
def State.pairOrder (s : State) (pk : List (Word × Byte)) : Nat × Nat :=
  (s.rxInstant (packetHead pk), field (packetHead pk) 63 54)

/-- A tile's received frames moved at a heat boundary of a pair, in their order (R546). -/
def State.forwardInOrder (s : State) (tile : Nat) : State :=
  let all := receiveQueues.flatMap fun q => (packetsOf 4096 (s.queue tile q).unread).map fun pk => (s.pairOrder pk, q)
  let order := all.mergeSort fun a b => a.1.1 < b.1.1 || (a.1.1 == b.1.1 && a.1.2 ≤ b.1.2)
  if s.pair.paused then s else order.foldl (fun s e => s.forwardHead tile e.2) s

/-! ### The ring (R28 to R32, R54, R642) -/

/-- A link pair. -/
def State.link (s : State) (n : Nat) : RingLink := Tab.getD s.heat.links n {}

/-- A link pair stored; its word of 0x2040 follows from it (R752). -/
def State.setLink (s : State) (n : Nat) (x : RingLink) : State :=
  { s with heat := { s.heat with links := Tab.set s.heat.links n x } }

/-- The link pairs on the shorter arc, the ascending one when equal (R29, R54). -/
def State.routeLinks (s : State) (src dst : Nat) : List Nat :=
  let up := (dst + s.nTiles - src) % s.nTiles
  if 2 * up ≤ s.nTiles then (List.range up).map fun i => (src + i) % s.nTiles + 1
  else (List.range (s.nTiles - up)).map fun i => (src + 2 * s.nTiles - 1 - i) % s.nTiles + 1

/-- Ring slots of a link direction in a heat: all, the spare, management and digest slots; the rest carry frames (R113). -/
def ringSlots : Nat := 448
def spareSlots : Nat := 1
def managementSlots : Nat := 16
def digestSlots : Nat := 8
def frameSlots : Nat := ringSlots - spareSlots - managementSlots - digestSlots

/-- Frame slots that a sheet reserves in a heat for an ordered pair of tiles, inbound or outbound, under a TunnelRingBudget
(R116). -/
def reservedSlots (budget src dst : Nat) (inbound : Bool) : Nat :=
  if inbound then 20 + (if src = 0 then budget else 0) else 8 + (if dst = 0 then budget else 0)

/-- Frame slots used in this heat. -/
def State.slotsUsed (s : State) (src dst : Nat) (inbound : Bool) : Nat :=
  Tab.getD s.heat.ringSent ((src * 8 + dst) * 2 + bit01 inbound) 0

/-- The link pairs of the next slot of a pair: on two tiles the first half of the reservation runs over link pair 1, the rest
over link pair 2 (R116). -/
def State.slotRoute (s : State) (src dst : Nat) (inbound : Bool) : List Nat :=
  if s.nTiles = 2 then
    [if s.slotsUsed src dst inbound < divUp (reservedSlots (s.obj 0x2104 1) src dst inbound) 2 then 1 else 2]
  else s.routeLinks src dst

/-- Every link of a route is up. -/
def State.routeUp (s : State) (route : List Nat) : Bool := route.all fun n => (s.link n).state == 3

/-- A tile's management transfers to tile 0 and back, in the ring's management slots, find every link of their route up; while one is
down or retrains they wait at their source (R26, R29, R32, R113). -/
def State.managed (s : State) (tile : Nat) : Bool := tile == 0 || s.routeUp (s.routeLinks tile 0)

/-- The link pairs of the ascending arc from a tile to another; on two tiles link pair 1 is the one arc, 2 the other (R28, R54). -/
def State.arcLinks (s : State) (src dst : Nat) : List Nat :=
  (List.range ((dst + s.nTiles - src) % s.nTiles)).map fun i => (src + i) % s.nTiles + 1

/-- A heartbeat gets through on one arc of the ring or the other (R648). -/
def State.arcUp (s : State) (src dst : Nat) : Bool := s.routeUp (s.arcLinks src dst) || s.routeUp (s.arcLinks dst src)

/-- A slot that the sheet in force reserves for the pair is left in this heat (R29, R45, R116). -/
def State.slotLeft (s : State) (src dst : Nat) (inbound : Bool) : Bool :=
  s.partRuns && s.compiler.sheet.isSome &&
    decide (s.slotsUsed src dst inbound < reservedSlots (s.obj 0x2104 1) src dst inbound)

/-- A frame slot takes the oldest packet staged for a tile that is not yet sent; it stays in its staging queue until it is
taken at its destination (R29, R138, R141). -/
def State.sendStaged (s : State) (src dst : Nat) (inbound : Bool) : State :=
  let q := (if inbound then 0x78 else 0x80) + dst
  let x := s.queue src q
  match s.readHead src q Producer.ringRouter.code with
  | (none, s1) => s1
  | (some pk, s1) =>
    let group := (Tab.getD s.heat.stagedGroups (src * 8 + dst) []).getD x.held.toNat 0
    let queue := if inbound then group else transmitQueue (field (packetHead pk) 63 56)
    let y : Queue := { x with
      readPos := x.readPos + BitVec.ofNat 32 pk.length, waiting := x.waiting - 1, held := x.held + 1 }
    let k := (src * 8 + dst) * 2 + bit01 inbound
    let h : HeatState := { s1.heat with
      transfers := s.heat.transfers ++
        [{ src := src, dst := dst, queue := queue, staging := q, start := x.readPos, route := s.slotRoute src dst inbound
           words := pk }]
      ringSent := Tab.modify s.heat.ringSent k 0 (· + 1) }
    (({ s1.setQueue src q y with heat := h } : State).count src 9 1).count src 10 0

/-- RING_SLOT_TRANSFER: a slot that the sheet in force reserves, inbound or outbound, over links that are up. -/
def execRingSlotTransfer (src dst : Nat) (inbound : Bool) (s : State) : Result :=
  okIf (decide (src < s.nTiles ∧ dst < s.nTiles ∧ src ≠ dst) && s.slotLeft src dst inbound &&
      s.routeUp (s.slotRoute src dst inbound) && decide ((Tab.getD s.recorder.health dst {}).state = 0)) s
    (s.sendStaged src dst inbound)

/-- The oldest transfer between two tiles, and the others. -/
def takeTransfer (src dst : Nat) : List Transfer → Option (Transfer × List Transfer)
  | [] => none
  | x :: r =>
    if x.src = src ∧ x.dst = dst then some (x, r)
    else match takeTransfer src dst r with
      | some (y, l) => some (y, x :: l)
      | none => none

/-- The staging queue of a transfer that has ended is released up to its oldest packet still under way (R141, R148). -/
def State.releaseSent (s : State) (src q : Nat) : State :=
  let x := s.queue src q
  let left := (s.heat.transfers.filter fun y => y.src == src && y.staging == q).map fun y => (y.start - x.freePos).toNat
  let n := left.foldl min (x.readPos - x.freePos).toNat
  if n = 0 then s
  else
    let s1 := s.releaseTo src q (x.freePos + BitVec.ofNat 32 n)
    if q < 0x80 then
      let gs := Tab.modify s1.heat.stagedGroups (src * 8 + (q - 0x78)) [] (·.drop (endWords (x.words.take n)))
      { s1 with heat := { s1.heat with stagedGroups := gs } }
    else s1

/-- A command's frame written to the transmit queue of a lane that is disabled is withdrawn, and an acknowledgement dropped
(R98); any other packet of the ring is written to its destination queue (R141). -/
def State.ringArrives (s : State) (x : Transfer) : State :=
  let d := packetHead x.words
  if 0x60 < x.queue ∧ s.portDisabled (field d 63 56) = true then s.dropEmission x.words
  else (s.pushPacket x.dst x.queue .ringRouter x.words).2

/-- RING_TRANSFER_RECEIVED with the verdict of its CRC (R31, R141): a failed transfer is sent once more, then dropped. -/
def execRingTransferReceived (src dst : Nat) (crcOk : Bool) (s : State) : Result :=
  if !s.awake then ok s else
  match takeTransfer src dst s.heat.transfers with
  | none => ok s
  | some (x, r) =>
    let s0 : State := ({ s with heat := { s.heat with transfers := r } } : State).releaseSent src x.staging
    if crcOk then ok ((s0.count dst 10 1).ringArrives x)
    else if x.failures = 0 then
      ok ((({ s with heat := { s.heat with transfers := { x with failures := 1 } :: r } } : State).count dst 10 2).count src 10 3)
    else
      let n := x.route.getLastD 1
      ok ((((s0.count dst 10 2).count dst 10 4).setLink n { s.link n with dropped := (s.link n).dropped + 1 }).offer 0xE081 dst
        [src, dst, x.queue])

/-- The transfers of a staging queue that a retrain cuts: they are read again from the queue, and sent in the first slot after
the retrain (R32, R141). -/
def State.unsend (s : State) (x : Transfer) : State :=
  let q := s.queue x.src x.staging
  s.setQueue x.src x.staging ({ q with markPos := q.freePos } : Queue).rewind

/-- Transfers that run over a link pair are cut. -/
def State.cutTransfers (s : State) (n : Nat) : State :=
  let cut := s.heat.transfers.filter fun x => x.route.contains n
  let again (x : Transfer) : Bool := cut.any fun y => y.src == x.src && y.staging == x.staging
  (cut.foldl State.unsend { s with heat := { s.heat with transfers := s.heat.transfers.filter fun x => !again x } })

/-- A retrain of a link pair starts. -/
def State.retrainLink (s : State) (n : Nat) : State :=
  (((s.cutTransfers n).setLink n
    { s.link n with state := 2, retrains := (s.link n).retrains + 1, retrainAt := s.elapsed }).count (n - 1) 10 6)

/-- RING_CREDIT_TIMEOUT: a sender of the pair had a transfer ready and no credit for RingCreditTimeout. Direction 0
ascending, 1 descending (R642). -/
def execRingCreditTimeout (link direction : Nat) (s : State) : Result :=
  if !s.awake then ok s else
  okIf (decide ((s.link link).state = 3)) s
    (((s.retrainLink link).count (link - 1) 10 5).offer 0xE080 (link - 1) [min (link - 1) (link % s.nTiles), direction])

/-- RING_RETRAIN_DONE, at most 10 µs after its start: up, or down after a failure. -/
def execRingRetrainDone (link : Nat) (good : Bool) (s : State) : Result :=
  if !s.awake then ok s else
  okIf (decide ((s.link link).state = 2)) s
    (s.setLink link { s.link link with state := if good then 3 else 1, retrainAt := s.elapsed })

/-- RING_RETRAIN_RETRY: every 1 ms while the link is down. -/
def execRingRetrainRetry (link : Nat) (s : State) : Result :=
  if !s.awake then ok s else
  okIf (decide ((s.link link).state = 1) && s.due (s.link link).retrainAt 1000000) s (s.retrainLink link)

/-! ### Clock monitors (R35, R36) -/

/-- A monitor. -/
def State.monitor (s : State) (tile d : Nat) : ClockMonitor := Tab.getD s.heat.monitors (tile * 16 + d) {}

/-- A monitor stored; a fault in a tile's word since bring-up is remembered (R753). -/
def State.setMonitor (s : State) (tile d : Nat) (x : ClockMonitor) : State :=
  { s with heat := { s.heat with
      monitors := Tab.set s.heat.monitors (tile * 16 + d) x
      faultSeen := if x.fault && !s.heat.faultSeen.contains tile then s.heat.faultSeen ++ [tile] else s.heat.faultSeen } }

/-- A mean frequency, in hundredths of a percent of nominal, in range: the spread domains 0 pace and 1 management have the
wider one. -/
def inRange (d mean : Nat) : Bool := decide ((if d ≤ 1 then 9850 else 9950) ≤ mean ∧ mean ≤ 10050)

/-- A clock monitor fault. -/
def State.clockFault (s : State) (tile d : Nat) : State :=
  if (s.monitor tile d).fault then s.setMonitor tile d { fault := true }
  else ((s.setMonitor tile d { fault := true }).offer 0xE082 tile [tile, d]).failCheck 3

/-- A domain runs and is measured on a tile: not before ready, not in pilot light, the SerDes of tile 0 alone, and the mirror
link's in a pair (R753). -/
def State.clockRuns (s : State) (tile d : Nat) : Bool :=
  decide (tile < s.nTiles ∧ d ≤ 10 ∧ s.boot.phase = 9 ∧ s.power.pilot < 2 ∧ (d < 8 ∨ tile = 0) ∧ (d ≠ 10 ∨ s.pair.state ≠ 0))

/-- The number REFCLK25 has in commands and events; it has no field of R753 but bit [30]. It is no domain of a tile: a loss is
one fault of the part, recorded once with the package-wide tile byte (DESIGN CHOICE, log 61). -/
def refclkDomain : Nat := 15

/-- REFCLK25 measured against the internal oscillator: a lost one that is in range again, or out of it again (R35). -/
def State.measureRefclk (s : State) (mean : Nat) : State :=
  if !s.heat.refclkLost then s
  else if !inRange refclkDomain mean then { s with heat := { s.heat with refclkSince := none } }
  else if s.heat.refclkSince.isSome then s
  else { s with heat := { s.heat with refclkSince := some s.elapsed } }

/-- CLOCK_MONITOR_MEASURE of a domain over 1 ms. -/
def execClockMonitorMeasure (tile domain mean : Nat) (s : State) : Result :=
  let x := s.monitor tile domain
  if domain = refclkDomain then ok (s.measureRefclk mean)
  else if !s.clockRuns tile domain then ok s
  else if !inRange domain mean then ok (s.clockFault tile domain)
  else if x.fault ∧ x.inRangeSince = none then ok (s.setMonitor tile domain { x with inRangeSince := some s.elapsed })
  else ok s

/-- REFCLK_LOSS: recorded at the loss (log 61); a second loss before the return counts the millisecond in range anew. -/
def execRefclkLoss (s : State) : Result :=
  let s1 : State := { s with heat := { s.heat with refclkLost := true, refclkSince := none } }
  ok (if s.heat.refclkLost then s1 else (s1.offer 0xE082 packageWide [packageWide, refclkDomain]).failCheck 3)

/-- A faulted monitor has been in range for 1 ms (R36). -/
def State.monitorCalm (s : State) (tile d : Nat) : Bool :=
  (s.monitor tile d).fault && (match (s.monitor tile d).inRangeSince with
    | some t => s.due t 1000000
    | none => false)

/-- REFCLK25 has been in range again for 1 ms (R36). -/
def State.refclkCalm (s : State) : Bool :=
  s.heat.refclkLost && (match s.heat.refclkSince with
    | some t => s.due t 1000000
    | none => false)

/-- A monitor cleared at a heat boundary (R36). -/
def State.clearMonitor (s : State) (tile d : Nat) : State :=
  if s.monitorCalm tile d then (s.setMonitor tile d {}).offer 0xE083 tile [tile, d] else s

/-- REFCLK25's fault cleared at a heat boundary (R36). -/
def State.clearRefclk (s : State) : State :=
  if s.refclkCalm then
    ({ s with heat := { s.heat with refclkLost := false, refclkSince := none } } : State).offer 0xE083 packageWide
      [packageWide, refclkDomain]
  else s

/-- The clock monitors at a heat boundary: admissions resume where a domain has stayed in range for 1 ms (R36). -/
def State.clockStep (s : State) : State :=
  s.clearRefclk.eachTile fun s t => (List.range 11).foldl (fun s d => s.clearMonitor t d) s

/-- CLOCK_MONITOR_CLEAR at a heat boundary after 1 ms in range; domain 15 is REFCLK25. -/
def execClockMonitorClear (tile domain : Nat) (s : State) : Result :=
  okIf s.onBoundary s (if domain = refclkDomain then s.clearRefclk else s.clearMonitor tile domain)

/-- A 2-bit field of R753. -/
def State.monitorField (s : State) (tile d : Nat) : Nat :=
  let x := s.monitor tile d
  if !s.clockRuns tile d then 3
  else if !x.fault then 0
  else if x.inRangeSince.isSome then 2 else 1

/-- The word of 0x2041 of a tile (R753). -/
def State.monitorWord (s : State) (tile : Nat) : Nat :=
  bit01 (s.heat.faultSeen.contains tile) * 2 ^ 31 + bit01 (s.heat.refclkLost && s.heat.refclkSince.isNone) * 2 ^ 30 +
    ((List.range 11).map fun d => s.monitorField tile d * 4 ^ d).sum

end Sys2Proof.Machine
end

