-- ==== Sys2Proof/Machine/Placement.lean ====
section
/-! DEFINITION. Placement (06 R198 to R227, R759): the pass, moves and their fences, forced moves, unrouted frames. -/

namespace Sys2Proof.Machine

/-! ### Candidate paths (R205, R206, R759) -/

/-- The path score of R759: distinct Sequences of the last 64 frames against the span they cover. -/
def pathScore (x : Meter) (seqs : List Nat) : Nat :=
  match seqs with
  | [] => 0
  | q :: r => 1000 * seqs.eraseDups.length / max 64 (x.seqTop + 1 - r.foldl min q)

/-- A candidate: port, phase, relay, score. -/
structure Candidate where
  port : Nat
  phase : Nat
  relay : Nat
  score : Nat
  deriving DecidableEq, Repr

/-- The phase a path serves with (R206 rule 1). -/
def State.pathPhase (s : State) (x : Meter) (port phase : Nat) : Nat :=
  if portKind port = 0 then
    (if s.threePhase (portTile port) (portNumber port) then 3 else if x.line.phase ≤ 2 then x.line.phase else phase)
  else 0

/-- A lane is disabled, or is being disabled by a commit (R96, R223). -/
def State.portLeaves (s : State) (port : Nat) : Bool := s.portDisabled port || Tab.has s.fabric.disabling port

/-- A path may serve: its lane in service, and the channel of a single-phase path too, or its relay LIVE on an enabled tunnel
port (R205, R223, R277). -/
def State.pathUsable (s : State) (port phase relay : Nat) : Bool :=
  if portKind port = 2 then decide ((Tab.getD s.tunnel.relays relay {}).state = 1) && !s.portLeaves port
  else !s.place.impaired.contains port && !s.portLeaves port &&
    !(decide (portKind port = 0 ∧ phase < 3) && (s.port (portTile port) (portNumber port) phase).out)

/-- The candidates of a meter: paths heard in the last 24 h. -/
def State.candidates (s : State) (x : Meter) : List Candidate :=
  (x.place.paths.filter fun e => !s.due e.2.2 86400000000000 && !e.2.1.isEmpty).map fun e =>
    let port := e.1 % 1024 / 4
    { port := port, phase := s.pathPhase x port (e.1 % 4), relay := e.1 / 1024, score := pathScore x e.2.1 }

/-- The order of equal scores: line three-phase, line single-phase, radio, tunnel, then the lowest port code. -/
def State.pathOrder (s : State) (c : Candidate) : Nat :=
  (if portKind c.port = 0 then (if s.threePhase (portTile c.port) (portNumber c.port) then 0 else 1) else portKind c.port + 1) * 256 +
    c.port

/-- Meters served by a tile's lanes. -/
def State.tileServed (s : State) (tile : Nat) : Nat := s.meters.countP fun x => x.served && portKind x.port < 2 && portTile x.port == tile

/-- The other meters that moves planned or open bring to a lane: those it does not serve yet (R210). -/
def State.coming (s : State) (x : Meter) (port : Nat) : List Meter :=
  s.moveTargets.filterMap fun f => match f.path, s.meter? f.meter with
    | some p, some y => if p.1 = port ∧ f.meter ≠ x.number ∧ ¬(y.served = true ∧ y.port = port) then some y else none
    | _, _ => none

/-- The other meters that moves planned or open bring to a tile's lanes. -/
def State.comingTile (s : State) (x : Meter) (tile : Nat) : Nat :=
  s.moveTargets.countP fun f => match f.path, s.meter? f.meter with
    | some p, some y => decide (portKind p.1 < 2 ∧ portTile p.1 = tile ∧ f.meter ≠ x.number) &&
        !(y.served && decide (portKind y.port < 2) && portTile y.port == tile)
    | _, _ => false

/-- The limit of R210 a lane would pass with a meter and `others`, and its tile with `tiles`, that come to it: 0 none, 1 line meters, 2
radio meters, 3 radio demand, 4 the tile's meters. -/
def State.limitWith (s : State) (x : Meter) (port : Nat) (others : List Meter) (tiles : Nat) : Nat :=
  let full : Bool := decide (4096 ≤ s.lanesServed port + others.length)
  let tileFull : Bool := decide (49152 ≤ s.tileServed (portTile port) + tiles) &&
    !(x.served && decide (portKind x.port < 2) && portTile x.port == portTile port)
  if x.served ∧ x.port = port then 0
  else if portKind port = 0 then (if full then 1 else if tileFull then 4 else 0)
  else if portKind port = 1 then
    (if full then 2
     else if (s.radioLane (portTile port) (portNumber port)).assigned * 64 < s.demandWith port x + (others.map (·.demand)).sum then 3
     else if tileFull then 4 else 0)
  else 0

/-- The limit of R210 a lane would pass, the moves planned and open counted. -/
def State.laneLimit (s : State) (x : Meter) (port : Nat) : Nat :=
  s.limitWith x port (s.coming x port) (s.comingTile x (portTile port))

/-- A move's path is within the limits of R210 at its commit. -/
def State.withinLimits (s : State) (x : Meter) (f : Fence) : Bool :=
  match f.path with
  | some (port, _, _) => s.limitWith x port [] 0 == 0
  | none => true

/-- The better of two candidates. -/
def State.betterPath (s : State) (a b : Candidate) : Candidate :=
  if a.score < b.score || (a.score == b.score && decide (s.pathOrder b < s.pathOrder a)) then b else a

/-- The best usable candidate within limits. -/
def State.bestPath (s : State) (x : Meter) : Option Candidate :=
  match (s.candidates x).filter fun c => s.pathUsable c.port c.phase c.relay && s.laneLimit x c.port == 0 with
  | [] => none
  | c :: r => some (r.foldl s.betterPath c)

/-- A candidate is the current path. -/
def Candidate.isPath (c : Candidate) (x : Meter) : Bool := x.served && samePath (pathKey c.port c.phase c.relay) (pathKey x.port x.phase x.relay)

/-- The score of the current path. -/
def State.currentScore (s : State) (x : Meter) : Nat :=
  ((s.candidates x).filter fun c => c.isPath x).foldl (fun n c => max n c.score) 0

/-- Candidates left out for a limit are recorded. -/
def State.noteLimits (s : State) (x : Meter) : State :=
  (s.candidates x).foldl (fun s c =>
    let n := s.laneLimit x c.port
    if n = 0 then s else s.offerLimited 0xE306 (portTile c.port) c.port [c.port, n]) s

/-! ### Targets (R206) -/

/-- Ring hops between two tiles. -/
def State.hops (s : State) (a b : Nat) : Nat := (s.routeLinks a b).length

/-- A tile has a free record in an allocation that the meter may join, within the sums of its pipeline (R206, R117). -/
def State.mayHome (s : State) (x : Meter) (tile : Nat) : Bool := (s.chooseGroup tile (s.feederOf x) (s.lossGroup x) none).isSome

/-- The tile with the most free records among those the meter may join; equal counts go to the lower number. -/
def State.emptiestFor (s : State) (x : Meter) : Nat :=
  match (List.range s.nTiles).filter fun a => s.mayHome x a with
  | [] => x.home
  | t :: r => r.foldl (fun b a => if s.freeRecords b < s.freeRecords a then a else b) t

/-- The home tile by rule 2 for a serving path: its lane's tile where the meter may join that, else the nearest; none or a tunnel
gives the emptiest. -/
def State.homeFor (s : State) (x : Meter) (path : Option (Nat × Nat × Nat)) : Nat :=
  match path with
  | none => s.emptiestFor x
  | some (port, _, _) =>
    if portKind port = 2 then s.emptiestFor x
    else
      let t := portTile port
      let ok := (List.range s.nTiles).filter fun a => a == x.home || s.mayHome x a
      ok.foldl (fun b a => if s.hops t a < s.hops t b then a else b) (if ok.contains t then t else ok.headD x.home)

/-- DRAM tier slots of a tile: 8,192 on a 4 GiB device, 65,024 on an 8 GiB device (R484). -/
def State.tierSlotsPerTile (s : State) : Nat := if s.fit.dramManaged = 4 then 8192 else 65024

/-- Free DRAM tier slots of a tile (R484, 0x6011). -/
def State.tierSlotsFree (s : State) (tile : Nat) : Nat := s.tierSlotsPerTile - s.meters.countP fun x => x.home == tile && x.tier == 0

/-- Rule 4 gives the meter tier 0. -/
def State.wantsTier0 (s : State) (x : Meter) : Bool :=
  decide (s.obj 0x2300 7 < x.place.readouts.countP fun t => !s.due t 86400000000000)

/-- The storage tier of rule 4; without a free slot tier 1 in the place of tier 0 (R484). -/
def State.tierFor (s : State) (x : Meter) : Nat :=
  if s.wantsTier0 x then (if x.tier = 0 ∨ 0 < s.tierSlotsFree x.home then 0 else 1)
  else if x.place.readouts.all fun t => s.due t 2592000000000000 then 2 else 1

/-- The kind of a held move to a home, group and record (R212). -/
def moveKind (x : Meter) (home group record : Nat) : Nat :=
  if x.home ≠ home then 0 else if recordArea x.record ≠ recordArea record then 1 else if x.group ≠ group then 2 else 3

/-! ### The pass (R206 to R208, R223, R224) -/

/-- The first boundary at which a fence decided now may open (R213, R226). -/
def State.firstBoundary (s : State) : Nat := s.heat.count + (if s.pair.state = 0 then 1 else 4)

/-- A move planned. -/
def State.plan (s0 : State) (f : Fence) : State :=
  let s := s0.mgmtHeats 8 ([f.meter, f.kind, bit01 f.forced, f.home, f.group, f.record, f.tier] ++ (match f.path with
    | some p => [p.1, p.2.1, p.2.2]
    | none => []))
  { s with place := { s.place with planned := s.place.planned ++ [{ f with shared := f.shared || s.mirrors }] } }

/-- A move planned by this unit alone: one of R224, which no record carries to the peer (R227). -/
def State.planLocal (s : State) (f : Fence) : State := { s with place := { s.place with planned := s.place.planned ++ [f] } }

/-- A meter is settled: no fence, no planned move, no freeze. -/
def State.settled (s : State) (x : Meter) : Bool :=
  (s.fenceOf x.number).isNone && !(s.place.planned.any fun f => f.meter == x.number) && decide (x.freezeStep ≤ 1) &&
    !x.retiring && !x.unindexed

/-- The path rule: the new path and whether the move is forced, or none to keep the present one. A lane that has changed its
coupling, or a phase detected since, changes the phase of the current path at once (R206 rule 1). -/
def State.pathRule (s : State) (x : Meter) : Option (Option (Nat × Nat × Nat) × Bool) :=
  let best := s.bestPath x
  let path := best.map fun c => (c.port, c.phase, c.relay)
  if !x.served then
    (match path with
     | some p => some (some p, true)
     | none => none)
  else if !s.pathUsable x.port x.phase x.relay then some (path, true)
  else match best with
    | none => none
    | some c =>
      if c.isPath x then none
      else if c.port = x.port ∧ c.relay = x.relay ∧ s.pathPhase x x.port x.phase ≠ x.phase then some (path, false)
      else if s.currentScore x + s.obj 0x2300 6 ≤ c.score ∧ x.place.challenger = some (pathKey c.port c.phase c.relay) then some (path, false)
      else none

/-- The challenger remembered for the next pass. -/
def State.noteChallenger (s : State) (x : Meter) : State :=
  let ch := match s.bestPath x with
    | some c => if s.currentScore x + s.obj 0x2300 6 ≤ c.score ∧ c.isPath x = false then
        some (pathKey c.port c.phase c.relay) else none
    | none => none
  s.modMeter x.number fun x => { x with place := { x.place with challenger := ch } }

/-- A voluntary move is allowed by MoveHoldOff (R207). -/
def State.mayMove (s : State) (x : Meter) : Bool :=
  match x.place.lastVoluntary with
  | some t => s.due t (s.obj 0x2300 2 * 1000000000)
  | none => true

/-- A parked meter's way back: its own record once its pipeline serves, else another; each unit plans it for its own pipelines (R224,
R227). -/
def State.unparkPlan (s : State) (x : Meter) : State :=
  let f : Fence := { id := 0, meter := x.number, kind := 2, forced := true, openHeat := s.heat.count + 1, home := x.home
                     group := x.group, record := x.record, path := x.path, tier := x.tier }
  if s.pipeWorks x.home x.group then s.planLocal { f with stays := true }
  else match s.chooseGroup x.home (s.feederOf x) (s.lossGroup x) (some (recordArea x.record)) with
    | some (g, r) => s.planLocal { f with kind := min 2 (moveKind x x.home g r), group := g, record := r }
    | none =>
      let t := s.emptiestFor x
      (match s.chooseGroup t (s.feederOf x) (s.lossGroup x) none with
       | some (g, r) => s.planLocal { f with kind := min 2 (moveKind x t g r), home := t, group := g, record := r }
       | none => s)

/-- A better group on the meter's own tile: another one holds its feeder-phase and its own does not, or its own keeps more than
4,096 sums (R206 rule 3). -/
def State.betterGroup (s : State) (x : Meter) : Option (Nat × Nat) :=
  let f := s.feederOf x
  let p := s.lossGroup x
  if f = 0 ∨ s.holdsSum x.home x.group f p = true ∧ (s.pipeSums x.home x.group).length ≤ 4096 then none
  else match s.chooseGroup x.home f p (some (recordArea x.record)) with
    | some (g, r) => if s.holdsSum x.home g f p || decide (4096 < (s.pipeSums x.home x.group).length) then some (g, r) else none
    | none => none

/-- The unit that decides moves and path and tier changes: a part alone, or the active of a pair (R226). -/
def State.decidesMoves (s : State) : Bool := decide (s.pair.state = 0) || s.pair.baton

/-- A parked meter whose serving path has gone takes a path-only move as any other (R223); then, or where its path stands, its way
back is planned (R224). -/
def State.decideParked (s : State) (x : Meter) : State :=
  match (if s.decidesMoves then s.pathRule x else none) with
  | some (path, true) =>
    (s.noteLimits x).plan { id := 0, meter := x.number, kind := 3, forced := true, openHeat := s.firstBoundary, home := x.home
                            group := x.group, record := x.record, path := path, tier := x.tier }
  | _ => s.unparkPlan x

/-- The decisions of a pass for one meter; a unit that does not decide moves makes those of R224 alone (R226, R227). -/
def State.decideMeter (s : State) (m : Nat) : State :=
  match s.meter? m with
  | none => s
  | some x =>
    if !s.settled x then s
    else if x.place.parked then s.decideParked x
    else if !s.decidesMoves then s
    else
      let rule := s.pathRule x
      let s1 := (s.noteLimits x).noteChallenger x
      let path := match rule with
        | some (p, _) => p
        | none => x.path
      let forced := match rule with
        | some (_, f) => f
        | none => false
      let tier := s.tierFor x
      let home := s.homeFor x path
      let f : Fence := { id := 0, meter := m, kind := 3, forced := forced, openHeat := s.firstBoundary, home := x.home
                         group := x.group, record := x.record, path := path, tier := tier }
      if !forced && !s.mayMove x then s1
      else if home ≠ x.home && !forced then
        (match s.chooseGroup home (s.feederOf x) (s.lossGroup x) none with
         | some (g, r) => s1.plan { f with kind := 0, home := home, group := g, record := r }
         | none => if rule.isSome then s1.plan f else s1)
      else if (s.betterGroup x).isSome && !forced then
        (match s.betterGroup x with
         | some (g, r) => s1.plan { f with kind := min 2 (moveKind x x.home g r), group := g, record := r }
         | none => s1)
      else if rule.isSome then s1.plan f
      else if tier ≠ x.tier then s1.plan { f with kind := 4 }
      else if tier = 1 && s.wantsTier0 x then (s1.count x.home 12 9).offerLimited 0xE68C x.home 0 [x.home, m]
      else s1

/-- Lanes whose meters the pass rehomes (R223). -/
def State.startRehoming (s : State) : State :=
  (s.place.impaired ++ (s.fabric.disabling.map (·.1)).filter (· < 128)).foldl (fun s p =>
    if (s.place.rehoming.any fun e => e.1 == p) || s.lanesServed p = 0 then s
    else { s with place := { s.place with rehoming := s.place.rehoming ++ [(p, 0, 0, s.elapsed)] } }) s

/-- A pass is due at once: a lane was declared impaired or disabled, or a pipeline changed its state (R206). -/
def State.passNow (s : State) : State := { s with place := { s.place with passDue := true } }

/-- A pass is due: every PlacementPassInterval, or at once (R206). -/
def State.passIsDue (s : State) : Bool :=
  s.partRuns && (s.place.passDue || s.due s.place.lastPass (s.obj 0x2300 1 * 1000000))

/-- A placement pass over every meter (R206). -/
def State.placementPass (s : State) : State :=
  let s1 : State := { s with place := { s.place with lastPass := s.elapsed, passDue := false } }
  (s.meters.map (·.number)).foldl (fun s m => s.decideMeter m) (if s.decidesMoves then s1.startRehoming else s1)

/-! ### Lane home maps (R209, R758) -/

/-- The place of a lane in the order of 0x5011: line lane t.l at t × 4 + l, radio lane t.l at 32 + t × 8 + l. -/
def laneOrder (port : Nat) : Nat := laneSub (portKind port) (portTile port) (portNumber port) - 1

/-- The (lane, home) pairs that meters, open moves and planned moves need. -/
def State.homePairs (s : State) : List (Nat × Nat) :=
  let of (path : Option (Nat × Nat × Nat)) (home : Nat) : List (Nat × Nat) :=
    match path with
    | some (port, _, _) => if portKind port < 2 then [(laneOrder port, home)] else []
    | none => []
  s.meters.flatMap (fun x => of x.path x.home) ++ (s.place.fences ++ s.place.planned).flatMap fun f => of f.path f.home

/-- The lane home maps: bit d of a lane's byte where a meter homed on tile d needs the lane. -/
def State.homeMaps (s : State) : Octets :=
  let ps := s.homePairs
  (List.range 96).map fun i => BitVec.ofNat 8 (((List.range 8).filter fun d => ps.contains (i, d)).map (2 ^ ·)).sum

/-- A move's lane home map is in the sheet in force; one that is not waits for a build (R209). -/
def State.mapAllows (s : State) (f : Fence) : Bool :=
  match f.path, s.compiler.sheet with
  | some (port, _, _), some x => !decide (portKind port < 2) || bitAt (fieldAt x.homeMaps (laneOrder port) 1) f.home
  | _, _ => true

/-! ### Opening a fence (R213, R216) -/

/-- The position just after a meter's last request in a queue, if it has one there. -/
def requestMark (x : Queue) (m : Nat) : Option Nat :=
  let step (a : Nat × Option Nat) (pk : List (Word × Byte)) : Nat × Option Nat :=
    let e := a.1 + pk.length
    (e, if packetHead pk % 4294967296 = m then some e else a.2)
  ((packetsOf 4096 (x.words.take (x.completePos - x.freePos).toNat)).foldl step (x.freePos.toNat, none)).2

/-- The marks of a meter in the request queues of its group, of the kinds given. -/
def State.marksOf (s : State) (x : Meter) (kinds : List Nat) : List (Nat × Nat) :=
  kinds.filterMap fun k =>
    (requestMark (s.queue x.home (requestQueue k x.group)) x.number).map fun p => (queueKey x.home (requestQueue k x.group), p % 2 ^ 32)

/-- Every mark of a fence is reached by its queue's FreePos, modulo 2^32 (R145). -/
def State.marksReached (s : State) (f : Fence) : Bool :=
  f.marks.all fun e => decide (wrapSub 32 (s.queue (e.1 / 256) (e.1 % 256)).freePos.toNat e.2 < 2 ^ 31)

/-- A fence stored in the place of the one with its meter. -/
def State.setFence (s : State) (f : Fence) : State :=
  { s with place := { s.place with fences := s.place.fences.map fun g => if g.meter = f.meter then f else g } }

/-- The routes of a meter changed, on every tile. -/
def State.modRoutes (s : State) (m : Nat) (f : Nat → Route → Route) : State :=
  { s with place := { s.place with routes := s.place.routes.map fun e =>
      if e.1 % 4294967296 = m then (e.1, f (e.1 / 4294967296) e.2) else e } }

/-- The target record of a planned move is still free. -/
def State.targetFree (s : State) (f : Fence) : Bool :=
  decide (3 ≤ f.kind) || !((s.meters.any fun x => x.number != f.meter && x.home == f.home && x.record == f.record) ||
    s.place.fences.any fun g => g.meter != f.meter && g.home == f.home && g.record == f.record)

/-- A planned move opened at its boundary. In a parked meter's way back the unit flags the meter (R227). -/
def State.openFence (s : State) (x : Meter) (f : Fence) : State :=
  let id := s.place.lastFenceId + 1
  let g : Fence := { f with
    id := id, openHeat := s.heat.count, step := 0, marks := s.marksOf x (if f.kind ≤ 2 then [0, 1, 2, 3] else [0]) }
  let s1 : State := { s with place := { s.place with
      lastFenceId := id, fences := s.place.fences ++ [g], planned := s.place.planned.filter fun h => h.meter != f.meter } }
  let s2 := if f.kind ≤ 2 then s1.modRoutes x.number fun _ r => { r with state := 1, fenceTag := id % 256 } else s1
  if x.place.parked ∧ f.kind ≤ 2 then s2.localFence x.number true else s2

/-- FENCE_OPEN of a meter's planned move at a heat boundary, within MaxOpenFences of its home tile; a move whose target record has
gone is planned anew by the next pass. -/
def execFenceOpen (meter : Nat) (s : State) : Result :=
  if !s.awake then ok s else
  match s.meter? meter, s.place.planned.find? fun f => f.meter == meter with
  | some x, some f =>
    let open_ := s.place.fences.countP fun g => match s.meter? g.meter with
      | some y => y.home == x.home
      | none => false
    okIf (s.onBoundary && decide (f.openHeat ≤ s.heat.count) && (s.fenceOf meter).isNone && decide (x.freezeStep ≤ 1) &&
      s.mapAllows f && decide (open_ < s.obj 0x2300 4)) s
      (if s.targetFree f then s.openFence x f
       else { s with place := { s.place with planned := s.place.planned.filter fun h => h.meter != meter } })
  | _, _ => ok s

/-- A move of a feeder's member takes it to another pipeline: its feeder, group and role there. -/
def State.sumNeed (s : State) (x : Meter) (f : Fence) : Option (Nat × Nat × Bool) :=
  if s.feederOf x = 0 ∨ (x.home = f.home ∧ x.group = f.group) then none
  else some (s.feederOf x, s.lossGroup x, s.lossRole x == 2)

/-- The sum that a move needs on its target, asked for (R415). -/
def State.askSum (s : State) (x : Meter) (f : Fence) : State :=
  match s.sumNeed x f with
  | some (tag, g, h) => (s.sumFor f.home f.group tag g h).2
  | none => s

/-- The sum that a move needs on its target has been written by a swap (R415). -/
def State.sumReady (s : State) (f : Fence) : Bool :=
  match s.meter? f.meter with
  | none => true
  | some x =>
    match s.sumNeed x f with
    | some (tag, g, h) => s.sumStands f.home f.group tag g h
    | none => true

/-- FENCE_INBOUND_MARK, one boundary later: the old group's inbound CompletePos. The sum that the target lacks is asked for
(R213, R415). -/
def execFenceInboundMark (meter : Nat) (s : State) : Result :=
  if !s.awake then ok s else
  match s.meter? meter, s.fenceOf meter with
  | some x, some f =>
    okIf (s.onBoundary && decide (f.kind ≤ 2) && decide (f.step = 0) && decide (f.openHeat < s.heat.count)) s
      ((s.askSum x f).setFence { f with
        step := 1, marks := f.marks ++ [(queueKey x.home x.group, (s.queue x.home x.group).completePos.toNat)] })
  | _, _ => ok s

/-- FENCE_FREEZE: the first boundary from b + 2 at which every mark is reached; the quarantine bit is set from then. -/
def execFenceFreeze (meter : Nat) (s : State) : Result :=
  if !s.awake then ok s else
  match s.fenceOf meter with
  | some f =>
    okIf (s.onBoundary && decide (f.step = 1) && decide (f.openHeat + 2 ≤ s.heat.count) && s.marksReached f) s
      (s.setFence { f with step := 2, freezeHeat := s.heat.count })
  | none => ok s

/-- A MOVE entry: move-out 0, move-in 1 or a return 2, the other home, the group and record on this home, and the move (R213, R378;
the entry's items are the model's, log 19). -/
def journalMove (m dir tile group rec_ id : Nat) : JournalEntry := { kind := 5, meter := m, body := [dir, tile, group, rec_, id] }

/-- A home move journalled by both homes (R213). -/
def State.journalHomes (s : State) (x : Meter) (f : Fence) : State :=
  if x.home = f.home then s
  else (s.journal x.home (journalMove x.number 0 f.home x.group x.record f.id)).journal f.home
    (journalMove x.number 1 x.home f.group f.record f.id)

/-- The ring route a home move copies over is up (R215, R225). -/
def State.copyRoute (s : State) (x : Meter) (f : Fence) : Bool := x.home == f.home || s.routeUp (s.routeLinks x.home f.home)

/-- Once both units have reported their copies, the active names the commit boundary, 4 heats ahead (R226). -/
def State.announceCommit (s : State) (m : Nat) : State :=
  match s.fenceOf m with
  | none => s
  | some f =>
    if s.mirrors && f.shared && f.peerCopied && decide (f.step = 3) && f.commitHeat.isNone then
      (s.setFence { f with commitHeat := some (s.heat.count + 4) }).mgmtHeats 24 [m]
    else s

/-- A unit's own copy of a move is done: the standby reports it. -/
def State.copiesDone (s : State) (m : Nat) : State :=
  match s.fenceOf m with
  | none => s
  | some f => if f.shared && s.follows then s.mgmtReport 23 [m] [] else s.announceCommit m

/-- The standby's report that its copy of a move is done. -/
def State.peerCopied (s : State) (m : Nat) : State :=
  match s.fenceOf m with
  | none => s
  | some f => (s.setFence { f with peerCopied := true }).announceCommit m

/-- FENCE_COPY_DONE: the records are in the target, both homes have journalled the move. -/
def execFenceCopyDone (meter : Nat) (s : State) : Result :=
  if !s.awake then ok s else
  match s.meter? meter, s.fenceOf meter with
  | some x, some f =>
    let s1 := s.setFence { f with step := 3 }
    okIf (decide (f.step = 2) && s.copyRoute x f) s
      ((s1.journalHomes x f).copiesDone meter)
  | _, _ => ok s

/-! ### Commit and abandonment (R213, R214, R216, R219, R225) -/

/-- The target of a fence stands: its pipeline works, its tile is not LOST, and its path's lane is not disabled (R225). -/
def State.targetStands (s : State) (f : Fence) : Bool :=
  (3 ≤ f.kind || (s.pipeWorks f.home f.group && decide ((Tab.getD s.recorder.health f.home {}).state = 0))) &&
    (match f.path with
     | some (port, _, _) => !s.portLeaves port
     | none => true)

/-- The head frame of a tile's hold queue taken with its FenceTag. -/
def State.takeHeld (s : State) (tile : Nat) : State :=
  let s1 := (s.drainPacket tile 0xA0 Producer.forwarder.code).2
  { s1 with queues := { s1.queues with holdTags := Tab.modify s1.queues.holdTags tile [] (·.drop 1) } }

/-- A frame written back into the hold queue, behind the others (R136). -/
def State.holdAgain (s : State) (tile tag : Nat) (pk : List (Word × Byte)) : State := (s.holdInQueue tile tag pk).2

/-- The hold queue of a tile can be read through and written back: no packet is open in it, and the 32 banks its words lie in
are on (R163, R176). -/
def State.holdReady (s : State) (tile : Nat) : Bool :=
  (s.queue tile 0xA0).openBy.isNone && (s.queue tile 0xA0).waiters.isEmpty &&
    (s.barred tile Producer.forwarder.code ((List.range 32).map fun i => s.queueBase tile 0xA0 + i)).isNone

/-- One frame of a pass over the hold queue: replayed where it has a target and no frame before it was refused, else written back
behind the others (R136). The result tells whether a target has refused a frame, which then keeps its place before the later
ones, as all after it do (R97, R154). -/
def State.replayOne (a : Bool × State) (tile : Nat) (e : List (Word × Byte) × Nat) (target : Option (Nat × Nat)) : Bool × State :=
  let pk := (a.2.readHead tile 0xA0 Producer.forwarder.code).1.getD e.1
  let s1 := a.2.takeHeld tile
  match (if a.1 then none else target) with
  | none => (a.1, s1.holdAgain tile e.2 pk)
  | some (home, group) =>
    let r := s1.routeFrame tile home group pk .replay true
    if r.1 then (false, r.2.bump 0x2306 4) else (true, (r.2.holdAgain tile e.2 pk).retryLater tile 0xA0)

/-- A pass over a tile's hold queue: the frames that have a target are replayed, in order and up to one that is refused; the others are
written back in order (R136, R154, R213). -/
def State.replayPass (s : State) (tile : Nat) (target : List (Word × Byte) × Nat → Option (Nat × Nat)) : State :=
  let all := s.heldFrames tile
  if s.holdReady tile && all.any (fun e => (target e).isSome) then
    (all.foldl (fun a e => State.replayOne a tile e (target e)) (false, s)).2
  else s

/-- Held frames of a fence on a tile replayed by its meter's route (R136, R213). -/
def State.replayTile (s : State) (m tag home group tile : Nat) : State :=
  s.replayPass tile fun e => if packetMeter e.1 == m && e.2 == tag then some (home, group) else none

/-- Held frames of a fence replayed on every tile. -/
def State.replayHeld (s : State) (m tag home group : Nat) : State := s.eachTile fun s t => s.replayTile m tag home group t

/-- Where a frame left in a tile's hold queue belongs: its meter's entry holds no frames any more. -/
def State.leftTarget (s : State) (tile m : Nat) : Option (Nat × Nat) :=
  match (s.route? tile m).orElse fun _ => s.directory m with
  | some d => if d.state = 0 then some (d.home, d.group) else none
  | none => none

/-- Frames that their target refused at a replay are tried again (R154). -/
def State.replayLeft (s : State) (tile : Nat) : State := s.replayPass tile fun e => s.leftTarget tile (packetMeter e.1)

/-- The hold queue of a tile has no frame left that waits for a replay. -/
def State.replayEnded (s : State) (tile : Nat) : State :=
  if (s.heldFrames tile).any fun e => (s.leftTarget tile (packetMeter e.1)).isSome then s
  else { s with queues := { s.queues with retry := s.queues.retry.filter (· != queueKey tile 0xA0) } }

/-- FORWARDER_RETRY: a refused move, or a refused replay of the hold queue, is tried again at the following issue interval
(R154). -/
def execForwarderRetry (tile q : Nat) (s : State) : Result :=
  if !s.awake then ok s else
  okIf (s.queues.retry.contains (queueKey tile q)) s
    (if q = 0xA0 then (s.replayLeft tile).replayEnded tile else s.forwardHead tile q)

/-- The Served bits of a meter's routes after a path is set (R216). -/
def State.servedBits (s : State) (m : Nat) (path : Option (Nat × Nat × Nat)) : State :=
  s.modRoutes m fun t r => { r with served := match path with
    | some (port, _, _) => portKind port < 2 && portTile port == t
    | none => false }

/-- The radio cells of a meter that changes its path (R298). -/
def State.moveCells (s : State) (x : Meter) (path : Option (Nat × Nat × Nat)) : State :=
  let old := if x.served ∧ portKind x.port = 1 then some x.port else none
  let new := match path with
    | some (port, _, _) => if portKind port = 1 then some port else none
    | none => none
  if old = new then s
  else
    let s1 := match old with
      | some p => s.freeCells (portTile p) (portNumber p) x.number
      | none => s
    match new with
    | some p => s1.assignCells (portTile p) (portNumber p) x.number
    | none => s1

/-- A rehomed meter counted; the lane's event when its last meter has gone (R223). -/
def State.countRehomed (s : State) (port : Nat) (served : Bool) : State :=
  match s.place.rehoming.find? fun e => e.1 == port with
  | none => s
  | some e =>
    let e' := (e.1, e.2.1 + bit01 served, e.2.2.1 + bit01 !served, e.2.2.2)
    let rest := s.place.rehoming.filter fun e => e.1 != port
    if s.lanesServed port = 0 then
      ({ s with place := { s.place with rehoming := rest } } : State).offer 0xE305 (portTile port)
        [port, e'.2.1, e'.2.2.1, (s.elapsed - e'.2.2.2) / 1000000]
    else { s with place := { s.place with rehoming := rest ++ [e'] } }

/-- Commands of a meter that is unserved now are withdrawn (R223). -/
def State.withdrawQueued (s : State) (m : Nat) : State :=
  (s.requestsOf fun r => r.meter == m && r.busy && r.state == 0).foldl (fun s e => s.withdraw e.1 e.2) s

/-- The tone map of a line meter's old channel becomes invalid as its channel changes (R253). -/
def State.leaveChannel (s : State) (x : Meter) (path : Option (Nat × Nat × Nat)) : State :=
  let t := portTile x.port
  let l := portNumber x.port
  if x.served ∧ portKind x.port = 0 ∧ path ≠ x.path then
    match (s.lane t l).tagOf x.number with
    | some g => if Tab.has (s.lane t l).maps (g * 4 + x.phase) then s.invalidateMap t l g x.phase 4 else s
    | none => s
  else s

/-- The DRAM tier slots of a meter freed, but the one on its home where it stays in tier 0 (R484). -/
def State.freeTierSlots (s : State) (m home tier : Nat) : State :=
  let keep (e : Nat × TierSlot) : Bool :=
    decide (e.1 % 4294967296 ≠ m) || (decide (tier = 0) && decide (e.1 / 4294967296 = home))
  { s with store := { s.store with tierSlots := s.store.tierSlots.filter keep } }

/-- The placement word written at a commit, with what follows from a new path (R198, R216, R484, R760). -/
def State.writePath (s : State) (x : Meter) (f : Fence) : State :=
  let s1 := ((s.freeTierSlots x.number f.home f.tier).writeHot x.number [(3, placementWord f.path f.tier (x.moveCount + 1))]).modMeter x.number fun x =>
    { x with place := { x.place with
        lastCommit := s.tbSeconds, lastVoluntary := if f.forced then x.place.lastVoluntary else some s.elapsed, challenger := none } }
  if f.path = x.path then s1
  else
    let s2 := ((s1.leaveChannel x f.path).servedBits x.number f.path).moveCells x f.path
    let s3 := if x.served && !s.pathUsable x.port x.phase x.relay then s2.countRehomed x.port f.path.isSome else s2
    if f.path.isNone then s3.withdrawQueued x.number
    else if x.served then s3 else s3.releasePrepay x.number

/-- A commit counted: voluntary or forced. -/
def State.countCommit (s : State) (f : Fence) : State :=
  let sec := s.elapsed / 1000000000
  if f.forced then s.bump 0x2306 2
  else ({ s with place := { s.place with
      rateSecond := sec, rateCount := (if s.place.rateSecond = sec then s.place.rateCount else 0) + 1 } } : State).bump 0x2306 1

/-- The rate of voluntary commits leaves room (R207). -/
def State.rateAllows (s : State) (f : Fence) : Bool :=
  f.forced || s.place.rateSecond != s.elapsed / 1000000000 || decide (s.place.rateCount < s.obj 0x2300 3)

/-- A fence gone. -/
def State.dropFence (s : State) (m : Nat) : State :=
  { s with place := { s.place with fences := s.place.fences.filter fun f => f.meter != m } }

/-- The hot record moved to its target: home, group, record, and the sum of its feeder there (R213, R410, R415). -/
def State.moveRecord (s : State) (x : Meter) (f : Fence) : State :=
  let s1 := s.modMeter x.number fun x => { x with
    home := f.home, group := f.group, record := f.record, place := { x.place with parked := false } }
  match s.sumNeed x f with
  | none => s1
  | some (tag, g, h) =>
    let (n, s2) := s1.sumFor f.home f.group tag g h
    s2.writeHot x.number [(4, putField (x.word 4) 45 34 n)]

/-- A held move committed at a boundary. -/
def State.commitMove (s : State) (x : Meter) (f : Fence) : State :=
  let s1 := ((s.moveRecord x f).writePath x f).dropFence x.number
  let s2 := s1.modRoutes x.number fun _ r => { r with home := f.home, group := f.group, state := 0, fenceTag := 0 }
  let s3 := ((s2.replayHeld x.number (f.id % 256) f.home f.group).releaseHeld x.number).countCommit f
  let s4 := s3.offerLimited 0xE300 f.home 0 [x.number, f.kind, x.home, x.group, f.home, f.group]
  if x.place.parked then (s4.localFence x.number false).offer 0xE303 f.home [x.number, f.home, f.group] else s4

/-- The commit boundary of a move decided for both units has been announced and has come; a move of this unit alone has none
(R226). -/
def State.announced (s : State) (f : Fence) : Bool :=
  !f.shared || (!s.mirrors && !s.follows) || (match f.commitHeat with
    | some h => decide (h ≤ s.heat.count)
    | none => false)

/-- A fence has not passed FenceLimit heats of its open (R219). -/
def State.inTime (s : State) (f : Fence) : Bool := decide (s.heat.count ≤ f.openHeat + s.obj 0x2300 5)

/-- The held move of a meter may commit now. -/
def State.mayCommit (s : State) (x : Meter) (f : Fence) : Bool :=
  decide (f.kind ≤ 2) && decide (f.step = 3) && decide (f.freezeHeat < s.heat.count) && s.targetStands f && s.rateAllows f &&
    s.sumReady f && s.withinLimits x f && s.announced f && s.inTime f

/-- FENCE_ABANDON's effect; reasons: 0 fence limit, 1 target lost, 2 power fail, 3 baton handover. Where the copy was journalled, the
old home journals that the meter is back, so that R220 finds it there (DESIGN CHOICE, log 88). -/
def State.abandonMove (s : State) (x : Meter) (f : Fence) (reason : Nat) : State :=
  let s1 := (s.dropFence x.number).modRoutes x.number fun _ r =>
    { r with home := x.home, group := x.group, state := if x.place.parked then 2 else 0, fenceTag := 0 }
  let s2 := if f.kind ≤ 2 ∧ reason ≠ 2 then s1.replayHeld x.number (f.id % 256) x.home x.group else s1
  let s2 := if f.step = 3 ∧ x.home ≠ f.home then s2.journal x.home (journalMove x.number 2 f.home x.group x.record f.id) else s2
  let s2 := if x.place.parked ∧ f.kind ≤ 2 then s2.localFence x.number false else s2
  ((s2.releaseHeld x.number).bump 0x2306 3).offer 0xE301 x.home [x.number, reason]

/-- A fence is abandoned at the next boundary: past FenceLimit, or its target is lost. -/
def State.abandonReason (s : State) (f : Fence) : Option Nat :=
  if !s.inTime f then some 0 else if !s.targetStands f then some 1 else none

/-- A fence abandoned; one of a meter that is gone is dropped. -/
def State.abandonFence (s : State) (f : Fence) (reason : Nat) : State :=
  match s.meter? f.meter with
  | some x => s.abandonMove x f reason
  | none => s.dropFence f.meter

/-- Fences abandoned together: by a power-fail warning, whose held frames are released, or a handover (R225, R227). -/
def State.abandonAll (s : State) (reason : Nat) : State :=
  let s1 := s.place.fences.foldl (fun s f => s.abandonFence f reason) s
  let s2 : State := { s1 with place := { s1.place with planned := [] } }
  if reason = 2 then
    s2.eachTile fun s t => (s.heldFrames t).foldl (fun s _ => (s.takeHeld t).bump 0x2306 5) s
  else s2

/-- Path-only commits of a tile in this heat. -/
def State.pathCommitsNow (s : State) (tile : Nat) : Nat :=
  if s.place.commitHeat = s.heat.count then Tab.getD s.place.pathCommits tile 0 else 0

/-- A path-only or tier-only move committed. -/
def State.commitPath (s : State) (x : Meter) (f : Fence) : State :=
  let n := s.pathCommitsNow x.home
  let s0 : State := { s with place := { s.place with
      pathCommits := Tab.set (if s.place.commitHeat = s.heat.count then s.place.pathCommits else []) x.home (n + 1)
      commitHeat := s.heat.count } }
  ((((s0.dropFence x.number).writePath x f).releaseHeld x.number).countCommit f).offerLimited 0xE300 x.home 0
    [x.number, f.kind, x.home, x.group, x.home, x.group]

/-- The path move of a meter may commit now (R210, R216). -/
def State.mayCommitPath (s : State) (x : Meter) (f : Fence) : Bool :=
  decide (3 ≤ f.kind) && decide (f.openHeat < s.heat.count) && s.marksReached f && s.targetStands f && s.rateAllows f &&
    decide (s.pathCommitsNow x.home < 256) && s.withinLimits x f && s.announced f && s.inTime f

/-- A path-only or tier-only move of a pair whose marks are reached is ready: it waits for the commit boundary of both units (R216,
R226). -/
def State.pathReady (s : State) (m : Nat) : State :=
  match s.fenceOf m with
  | some f =>
    if f.shared && decide (3 ≤ f.kind ∧ f.step = 0 ∧ f.openHeat < s.heat.count) && s.marksReached f then
      (s.setFence { f with step := 3 }).copiesDone m
    else s
  | none => s

/-! ### Faulted pipelines (R104, R224) -/

/-- A record for a meter of a faulted pipeline: its area on its tile, its tile's other areas, other tiles by distance. -/
def State.refuge (s : State) (x : Meter) : Option (Nat × Nat × Nat) :=
  let tiles := (List.range s.nTiles).mergeSort fun a b =>
    s.hops x.home a < s.hops x.home b || (s.hops x.home a == s.hops x.home b && a ≤ b)
  let f := s.feederOf x
  let p := s.lossGroup x
  let near := (s.openGroups x.home f p).filter fun e => recordArea e.2 == recordArea x.record
  match s.preferGroup x.home f p none near with
  | some e => some (x.home, e.1, e.2)
  | none => tiles.findSome? fun t => (s.chooseGroup t f p none).map fun e => (t, e.1, e.2)

/-- A meter moved or parked at the swap of a pipeline's fault: no hold, no drain; a home move is journalled as any other, and a meter
that is parked already stays so (R213, R224). -/
def State.evacuate (s : State) (m : Nat) : State :=
  match s.meter? m with
  | none => s
  | some x =>
    if x.place.parked then s else
    let f0 : Fence := match s.fenceOf m with
      | some f => f
      | none => { id := s.place.lastFenceId + 1, meter := m, kind := 3, openHeat := s.heat.count, home := x.home, group := x.group, record := x.record
                  path := x.path, tier := x.tier }
    let own : Bool := decide (f0.kind ≤ 2) && s.targetStands f0
    let s0 := ({ s with place := { s.place with planned := s.place.planned.filter fun h => h.meter != m } } : State).localFence m true
    let s0 : State := { s0 with place := { s0.place with lastFenceId := max f0.id s0.place.lastFenceId } }
    (match (if own then some (f0.home, f0.group, f0.record) else s0.refuge x) with
    | some (t, g, r) =>
      let f := { f0 with kind := moveKind x t g r, forced := true, home := t, group := g, record := r }
      ((if own && f0.step == 3 then s0 else s0.journalHomes x f).commitMove x f).localFence m false
    | none =>
      ((((s0.dropFence m).modMeter m fun x => { x with place := { x.place with parked := true } }).modRoutes m
        (fun _ r => { r with state := 2 })).offer 0xE302 x.home [m, x.home, x.group])).localFence m false

/-- The head packet of a group queue replayed into the group of its meter; one that has no other group, or whose meter is not
enrolled, is released and counted (R97, R100). The first result tells whether the packet has left: it stays where its target
refuses it. -/
def State.replayPacket (s : State) (tile pipe : Nat) (pk : List (Word × Byte)) : Bool × State :=
  match s.meter? (packetMeter pk) with
  | some x =>
    if x.place.parked || (x.home == tile && x.group == pipe) then
      (true, (s.drainPacket tile pipe Producer.replay.code).2.bump 0x2306 5)
    else
      let r := s.routeFrame tile x.home x.group pk .replay true
      (r.1, if r.1 then (r.2.drainPacket tile pipe Producer.replay.code).2 else r.2)
  | none => (true, (s.drainPacket tile pipe Producer.replay.code).2.bump 0x2306 5)

/-- The inbound frames of a pipeline replayed into the groups of their meters, up to one that has to wait (R97, R104). -/
def State.replayInbound (s : State) (tile pipe : Nat) : State :=
  s.passQueue tile pipe Producer.replay.code fun s pk => s.replayPacket tile pipe pk

/-- The command of a request taken from an outbound queue withdrawn. -/
def State.withdrawPacket (s : State) (pk : List (Word × Byte)) : State :=
  match s.requestOf (packetHead pk / 4294967296) with
  | some (rt, n, _) => s.withdraw rt n
  | none => s

/-- The head request of a pipeline's queue of a kind queued to the new group of its meter; one whose meter is gone is released. The
first result tells whether it has left: it stays where its target refuses it (R104, R154). -/
def State.moveRequest (s : State) (tile pipe k : Nat) (pk : List (Word × Byte)) : Bool × State :=
  let m := packetHead pk % 4294967296
  let r : Bool × State := if (s.meter? m).isSome then s.enqueue m k pk else (true, s)
  (r.1, if r.1 then (r.2.drainPacket tile (requestQueue k pipe) Producer.management.code).2 else r.2)

/-- The requests of a kind, in order, up to one that its target refuses. -/
def State.moveKindRequests (s : State) (tile pipe k : Nat) : State :=
  s.passQueue tile (requestQueue k pipe) Producer.management.code fun s pk => s.moveRequest tile pipe k pk

/-- A pipeline that works, on a tile where it has one, else on the first that has. -/
def State.anyPipe (s : State) (tile : Nat) : Option (Nat × Nat) :=
  ((tile :: List.range s.nTiles).flatMap fun t => (List.range 8).map fun p => (t, p)).find? fun e => s.pipeWorks e.1 e.2

/-- A swap request of a pipeline that is out put again for a sum of the same group that a working pipeline holds; where there is none
its word counts as one without replies (R104; DESIGN CHOICE, log 88). -/
def State.moveSwap (s : State) (v : Nat) : State :=
  let id := field v 95 64
  let tag := field v 63 48
  match (s.liveSums tag).find? fun e => e.2.2.2.group == field v 47 46 && e.2.2.2.head == bitAt v 45 with
  | some (t, p, n, f) =>
    { s with loss := { s.loss with
      swaps := s.loss.swaps ++ [(t, p, swapRequest n (field v 111 104) id tag f.group f.head)] } }
  | none =>
    if id = 0 then s
    else { s with loss := { s.loss with returned := s.loss.returned ++ [(id, tag, field v 47 46, bit01 (bitAt v 45), 0)] } }

/-- A snapshot request of a pipeline that is out: a swap moved, a broadcast to seal queued to a pipeline that works. The first result
tells whether it is dealt with (R104, R154). -/
def State.moveSnapshot (s : State) (tile : Nat) (pk : List (Word × Byte)) : Bool × State :=
  if pk.length = 2 then (true, s.moveSwap (recordNat (pk.map (·.1))))
  else match s.anyPipe tile with
    | some (t, p) => s.pushPacket t (requestQueue 3 p) .management pk
    | none => (false, s)

/-- The head of a pipeline's snapshot requests dealt with and released, or left where it has to wait. -/
def State.passSnapshot (s : State) (tile pipe : Nat) (pk : List (Word × Byte)) : Bool × State :=
  let r := s.moveSnapshot tile pk
  (r.1, if r.1 then (r.2.drainPacket tile (requestQueue 3 pipe) Producer.management.code).2 else r.2)

/-- The snapshot requests of a pipeline, in order, up to one that has to wait. -/
def State.moveSnapshots (s : State) (tile pipe : Nat) : State :=
  (s.passQueue tile (requestQueue 3 pipe) Producer.management.code fun s pk => s.passSnapshot tile pipe pk).pushSwaps

/-- The requests of a pipeline: commands withdrawn, the others queued to pipelines of the new issue groups (R104). -/
def State.moveRequests (s : State) (tile pipe : Nat) : State :=
  let s1 := s.drainQueue tile (0x08 + pipe) Producer.management.code fun s pk => s.withdrawPacket pk
  ([1, 2].foldl (fun s k => s.moveKindRequests tile pipe k) s1).moveSnapshots tile pipe

/-- The meters of a pipeline assigned to other groups, or parked (R104, R224). -/
def State.evacuateMeters (s : State) (tile pipe : Nat) : State :=
  ((s.meters.filter fun x => x.home == tile && x.group == pipe && !x.unindexed).map (·.number)).foldl (fun s m => s.evacuate m) s

/-- A pipeline taken out at the swap of its fault. -/
def State.evacuatePipe (s : State) (tile pipe : Nat) : State :=
  ((s.evacuateMeters tile pipe).replayInbound tile pipe).moveRequests tile pipe

/-! ### Unrouted frames (R203) -/

/-- The head of the unrouted queue gone. -/
def State.dropUnrouted (s : State) (tile : Nat) : State :=
  let s1 := (s.drainPacket tile 0xA1 Producer.management.code).2
  let l := s1.queues.unroutedAt
  let rest := match l.find? fun e => e.1 == tile with
    | some e => l.erase e
    | none => l
  { s1 with queues := { s1.queues with unroutedAt := rest } }

/-- A frame as the management cores inject it: PortKind 3 in its ingress descriptor (R135, R143, R203; log 65). -/
def injected : List (Word × Byte) → List (Word × Byte)
  | (w, t) :: r => (w ||| 0xC000000000000000#64, t) :: r
  | [] => []

/-- UNROUTED_RESOLVE. A frame whose target refuses it stays in the unrouted queue, with the refusal counted. -/
def execUnroutedResolve (tile : Nat) (s : State) : Result :=
  if !s.awake then ok s else
  match s.readHead tile 0xA1 Producer.management.code with
  | (none, s1) => ok s1
  | (some pk, _) =>
    let m := packetMeter pk
    match s.directory m with
    | none => ok (((s.dropUnrouted tile).bump 0x2306 8).offerLimited 0xE308 tile 0 [field (packetHead pk) 63 56, m])
    | some d =>
      let s2 := s.installRoute tile m { d with heardAt := s.elapsed }
      if d.state = 2 then ok ((s2.dropUnrouted tile).bump 0x2306 5)
      else
        let r := if d.state = 0 then s2.routeFrame tile d.home d.group (injected pk) (if d.home = tile then .management else .forwarder) true
          else s2.holdInQueue tile d.fenceTag pk
        ok (if r.1 then r.2.dropUnrouted tile else r.2)

/-- UNROUTED_TIMEOUT: 10 ms in the queue. -/
def execUnroutedTimeout (tile : Nat) (s : State) : Result :=
  if !s.awake then ok s else
  match s.queues.unroutedAt.find? (fun e => e.1 == tile) with
  | none => ok s
  | some e => okIf (s.due e.2 10000000) s ((s.dropUnrouted tile).bump 0x2306 5)

end Sys2Proof.Machine
end

