-- ==== Sys2Proof/Machine/Keys.lean ====
section
/-! DEFINITION. The key store: derivation at bring-up and swaps, destruction, export, import, generations, owner tokens,
self-tests and the tamper clear (12 R443 to R470). -/

namespace Sys2Proof.Machine

/-! ### Slots (R443 to R448) -/

/-- The key-store entry of a slot number as a host names it: part slots, and tile 0's tile slots (log 27). -/
def slotKey (n : Nat) : Nat := if n < 768 then n else tileSlotKey 0 n

/-- A slot. -/
def State.keySlot (s : State) (n : Nat) : Option KeySlot := Tab.find? s.keys.slots (slotKey n)

/-- KeyCheck of a slot's 32-byte material field (R445). -/
def keyCheck (material : Octets) : Nat := fieldAt (sha256 (be 4 0x4B435631 ++ padTo 32 material)) 0 4

/-- An operation that a slot's attribute does not permit (R447). Operations: 0 seal, 1 open, 2 wrap, 3 derive. -/
def State.useViolation (s : State) (slot op requester : Nat) : State := (s.count 0 25 4).offer 0xE601 0 [slot, op, requester]

/-! ### Derivation (R449 to R457) -/

/-- A key of the table derived from a parent's material (R453). Type 3 is a P-256 scalar of a 320-bit output. -/
def derived (parent : Octets) (parentSlot label : Nat) (context : Octets) (type use : Nat) (fabric : Bool) (gen : Nat) : KeySlot :=
  let m := if type = 3 then be 32 (scalarOf (kdf parent (labelOf label) context 320))
    else kdf parent (labelOf label) context (if type = 1 then 128 else 256)
  { use := use, type := type, fabric := fabric, generation := gen, parent := parentSlot, label := label, material := m
    context := context }

/-- The fuse value a life-cycle state derives its root from (R450). -/
def State.rootParent (s : State) : Octets :=
  if s.boot.lifeCycle = 0 ∨ s.boot.lifeCycle = 4 then Config.deviceSecret else s.keys.ownerSeed.getD []

/-- UnitId as a context. -/
def unitContext : Octets := be 8 Config.unitId.toNat

/-- A lane class in use: class 0's root always exists; another's where a lane or a relay of the class does (R455). -/
def State.classInUse (s : State) (c : Nat) : Bool :=
  c == 0 ||
  ((List.range s.nTiles).any fun t =>
    ((List.range 4).any fun l => s.lineEnabled t l && s.laneClass 0 t l == c) ||
    ((List.range 8).any fun l => s.radioEnabled t l && s.laneClass 1 t l == c)) ||
  ((List.range ((s.domain 0x3C03 1).length / 32)).any fun i =>
    let e := s.relayEntry i
    i != 0 && fieldAt e 4 1 == 1 && (fieldAt e 5 1 == c || fieldAt e 6 1 == c))

/-- A lane-class root (R455). -/
def State.laneRoot (s : State) (c : Nat) : KeySlot :=
  let g := s.obj 0x5010 (c + 1)
  derived (s.keyMaterial 0) 0 0x4C414E45 (be 1 c ++ be 2 g) 2 3 true g

/-- A readout class key (R455). -/
def State.readoutKey (s : State) (c : Nat) : KeySlot :=
  let g := s.obj 0x5010 (c + 16)
  derived (s.keyMaterial 0) 0 0x5244434B (be 1 c ++ be 2 g) 2 0 true g

/-- The readout signing key, the update decryption key and the tunnel root at their generations (R455). -/
def State.signingKey (s : State) : KeySlot :=
  derived (s.keyMaterial 1) 1 0x52445347 (be 2 (s.obj 0x5010 24)) 3 0 false (s.obj 0x5010 24)
def State.updateKey (s : State) : KeySlot :=
  derived (s.keyMaterial 1) 1 0x5550444B (be 2 (s.obj 0x5010 25)) 2 1 false (s.obj 0x5010 25)
def State.tunnelRoot (s : State) : KeySlot :=
  derived (s.keyMaterial 0) 0 0x54554E52 (be 2 (s.obj 0x5010 26)) 2 3 false (s.obj 0x5010 26)

/-- The identity key (R455). -/
def identityKey : KeySlot := derived Config.deviceSecret 0x3FF 0x49444E54 unitContext 3 0 false 0

/-- The pacer root (R455). -/
def pacerRoot : KeySlot :=
  { use := 3, type := 2, fabric := true, material := (List.range 32).map fun i => BitVec.ofNat 8 i }

/-- The part slots derived at bring-up, in the life-cycle state's tree (R450, R455). In VOID only the identity key. -/
def State.deriveKeys (s : State) : State :=
  let s0 := ({ s with keys := { s.keys with slots := [] } } : State).setSlot 2 identityKey
  if s.boot.lifeCycle = 4 then s0
  else
    let s1 := s0.setSlot 0 (derived s.rootParent 0x3FF 0x524F4F54 (be 1 s.boot.lifeCycle) 2 3 false 0)
    let s2 := s1.setSlot 1 (derived (s1.keyMaterial 0) 0 0x4D454153 s.boot.measurement 2 3 false 0)
    let r0 := s2.keyMaterial 0
    let r1 := s2.keyMaterial 1
    let s3 := (((s2.setSlot 3 (derived r0 0 0x53485453 unitContext 3 0 false 0)).setSlot 4 s2.signingKey).setSlot 5
      s2.updateKey).setSlot 6 (derived r1 1 0x4F574E4C (be 1 0) 2 1 false 0)
    -- the partition number of the one customer partition is not stated: 0 (log 27)
    let s4 := s3.setSlot 7 (derived r1 1 0x43555354 (be 1 0) 2 3 false 0)
    let s5 := (List.range 4).foldl (fun (s : State) i =>
      s.setSlot (8 + i) (derived r0 0 0x55445852 (be 1 i) 2 3 false 0)) s4
    let s6 := (s5.setSlot 12 s2.tunnelRoot).setSlot 13 pacerRoot
    let s7 := (List.range 2).foldl (fun (s : State) i =>
      s.setSlot (14 + i) (derived r0 0 0x58505254 (be 1 i) 2 2 false 0)) s6
    let s8 := ((List.range 15).filter s.classInUse).foldl (fun (s : State) c => s.setSlot (16 + c) (s2.laneRoot c)) s7
    (List.range 8).foldl (fun (s : State) c => s.setSlot (32 + c) (s2.readoutKey c)) s8

/-- The slots whose derivation follows compiler inputs, brought to the inputs in force at a swap: lane-class roots of the
classes in use and readout class keys at their generations (R455, R457). -/
def State.swapKeys (s : State) : State :=
  if (s.keySlot 0).isNone then s
  else
    let s1 := (List.range 15).foldl (fun (s : State) c =>
      if s.classInUse c then s.setSlot (16 + c) (s.laneRoot c)
      else { s with keys := { s.keys with slots := Tab.erase s.keys.slots (16 + c) } }) s
    (List.range 8).foldl (fun (s : State) c =>
      if (match s.keySlot (32 + c) with
          | some x => x.generation == s.obj 0x5010 (c + 16)
          | none => true) then s
      else s.setSlot (32 + c) (s.readoutKey c)) s1

/-- A key held nowhere: the tunnel key of a relay (R455). -/
def State.derivedTunnelKey (s : State) (relay : Nat) : Octets := kdf (s.keyMaterial 12) (labelOf 0x54554E4B) (be 4 relay) 128

/-! ### Destruction (R464) -/

/-- A slot that a root file in force holds, or that a ticket in use names. -/
def State.slotBusy (s : State) (n : Nat) : Bool :=
  (match s.compiler.sheet with
   | some x => x.rootMap.any fun e => e.2 == n
   | none => false) || s.keys.tickets.any fun t => t.slot == n

/-- KeyDestroy submitted. -/
def keyDestroy (n : Nat) (s : State) : Done :=
  if 1023 < n then Done.refuse s Status.outOfRange
  else if s.slotBusy n then Done.refuse s Status.refused
  else
    let x := (s.keySlot n).getD {}
    Done.ok (({ s with keys := { s.keys with
      slots := Tab.erase s.keys.slots (slotKey n), copies := Tab.erase s.keys.copies n } } : State).offer 0xE600 0
      [n, x.label, keyCheck x.material])

/-- KEY_DESTROY. -/
def execKeyDestroy (r : Req) (slot : Nat) (s : State) : Result :=
  ok (udxWrite s r 0x5003 2 0 (be 1 1) fun s _ => keyDestroy slot s)

/-- Tickets that satisfy a condition voided (R439). Reasons: 0 write, 1 key destroyed, 2 restart, 3 tamper. -/
def State.voidTickets (s : State) (p : Ticket → Bool) (reason : Nat) : State :=
  ((s.keys.tickets.zipIdx.filter fun e => p e.1).foldl (fun (s : State) e =>
    (s.count e.1.tile 25 6).offer 0xE60D e.1.tile [e.1.tile, e.2, reason])
    { s with keys := { s.keys with tickets := s.keys.tickets.filter fun t => !p t } })

/-! ### Export and import (R458 to R460) -/

/-- The wrap header and the key of an export: kind 0 a per-meter key, 1 a broadcast key, 2 a tunnel key. The label, type
and first context bytes are those of the key's own derivation; Use is written 0 (log 28). -/
def State.exportKey (s : State) (kind target incarnation epoch : Nat) : Option (Octets × Octets) :=
  if kind = 0 then
    let cls := match s.meter? target with
      | some x => s.meterClass x
      | none => 0
    match s.keySlot (16 + cls) with
    | none => none
    | some root =>
      some (be 4 0x4D54524B ++ be 1 1 ++ be 1 0 ++ be 2 epoch ++ be 4 target ++ be 2 incarnation ++ be 2 epoch,
        meterKey root.material target incarnation epoch)
  else if kind = 1 then
    match s.keySlot (16 + target) with
    | none => none
    | some root =>
      let e := s.obj 0x5012 (target + 1)
      some (be 4 0x4D54524B ++ be 1 1 ++ be 1 0 ++ be 2 e ++ be 4 0xFFFFFFFF ++ be 2 0 ++ be 2 e,
        meterKey root.material 0xFFFFFFFF 0 e)
  else
    match s.keySlot 12 with
    | none => none
    | some _ =>
      some (be 4 0x54554E4B ++ be 1 1 ++ be 1 0 ++ be 2 (s.obj 0x5010 26) ++ be 4 target ++ be 4 0, s.derivedTunnelKey target)

/-- The key-encryption key of a wrap-only slot (R446, R447). -/
def State.wrapSlot (s : State) (n : Nat) : Option Octets :=
  match s.keySlot n with
  | some x => if x.use = 2 then some x.material else none
  | none => none

/-- KeyExport submitted. -/
def keyExport (kind wrap target incarnation epoch : Nat) (s : State) (x : Session) : Done :=
  if 2 < kind ∨ (kind = 1 ∧ 14 < target) then Done.refuse s Status.outOfRange
  else if s.boot.lifeCycle ≠ 1 ∧ s.boot.lifeCycle ≠ 2 then Done.refuse s Status.refused
  else if (Tab.getD s.keys.kats 0 {}).faulted then Done.refuse s Status.refused
  else match s.wrapSlot wrap with
    | none => Done.refuse (s.useViolation wrap 2 x.id) Status.refused
    | some kek =>
      match s.exportKey kind target incarnation epoch with
      | none => Done.refuse s Status.refused
      | some (hdr, k) =>
        Done.ok ((s.setSessionVal x.id 0 0x5031 7 (.oct (padTo 40 (wrapKey kek hdr k)))).offerLimited 0xE603 0 0
          [kind, target, wrap])

/-- KEY_EXPORT. -/
def execKeyExport (r : Req) (kind wrap target incarnation epoch : Nat) (s : State) : Result :=
  ok (udxWrite s r 0x5031 6 0 (be 1 1) (keyExport kind wrap target incarnation epoch))

/-- Slots that take imported keys: 64 to 767 and the tile slots (R455). -/
def importRange (n : Nat) : Bool := decide (64 ≤ n ∧ n ≤ 1023)

/-- No slot of the range of a slot that takes imported keys is empty (R443). -/
def State.rangeFull (s : State) (n : Nat) : Bool :=
  importRange n && (List.range (if n < 768 then 704 else 256)).all fun i => (s.keySlot ((if n < 768 then 64 else 768) + i)).isSome

/-- KeyImport submitted. -/
def keyImport (target wrap : Nat) (hdr blob : Octets) (s : State) (x : Session) : Done :=
  let type := fieldAt hdr 4 1
  let use := fieldAt hdr 5 1
  if 1023 < target then Done.refuse s Status.outOfRange
  else if s.rangeFull target then Done.refuse (s.offer 0xE60B 0 [0, bit01 (decide (768 ≤ target))]) Status.refused
  else if !importRange target || (s.keySlot target).isSome || type = 0 || 3 < type || 3 < use then
    Done.refuse s Status.refused
  else if (Tab.getD s.keys.kats 0 {}).faulted then Done.refuse s Status.refused
  else match s.wrapSlot wrap with
    | none => Done.refuse (s.useViolation wrap 2 x.id) Status.refused
    | some kek =>
      match unwrapKey kek (slice hdr 0 16) (slice blob 0 (if type = 1 then 24 else 40)) with
      | none => Done.refuse ((s.count 0 25 5).offer 0xE604 0 [wrap, target]) Status.refused
      | some k =>
        let y : KeySlot :=
          { use := use, type := type, origin := 1, generation := fieldAt hdr 6 2, parent := 0x3FF, material := k }
        let s1 := s.setSlot (slotKey target) y
        let s2 : State := if target < 768 then
          { s1 with keys := { s1.keys with copies := Tab.set s1.keys.copies target y } } else s1
        Done.ok (s2.offer 0xE602 0 [target, fieldAt hdr 0 4, keyCheck k])

/-- KEY_IMPORT. -/
def execKeyImport (r : Req) (target wrap : Nat) (header blob : Octets) (s : State) : Result :=
  ok (udxWrite s r 0x5030 5 0 (be 1 1) (keyImport target wrap header blob))

/-! ### The customer partition (R463): its calls, which no command of the table carries -/

/-- A call of user-mode code that derives a key: only from slot 7, into a tile slot that it then owns. Another parent is a use
violation; the first result is the slot. -/
def State.partitionDerive (s : State) (tile parent label : Nat) (context : Octets) (type use requester : Nat) :
    Option Nat × State :=
  if parent ≠ 7 ∨ (s.keySlot 7).isNone then (none, s.useViolation parent 3 requester)
  else match (List.range 256).find? fun i => !Tab.has s.keys.slots (tileSlotKey tile (768 + i)) with
    | none => (none, s.offer 0xE60B tile [tile, 1])
    | some i =>
      (some (768 + i), s.setSlot (tileSlotKey tile (768 + i))
        { derived (s.keyMaterial 7) 7 label context type use false 0 with origin := 2 })

/-- A call of user-mode code that uses a slot: only one it owns, by its attribute, and never for an export. Operations: 0 seal, 1
open, 2 wrap, 3 derive. -/
def State.partitionUse (s : State) (tile n op requester : Nat) : Bool × State :=
  match Tab.find? s.keys.slots (tileSlotKey tile n) with
  | some x => if x.origin = 2 ∧ x.use = op ∧ op ≠ 2 then (true, s) else (false, s.useViolation n op requester)
  | none => (false, s.useViolation n op requester)

/-- The partition's slots destroyed, when it is disabled. -/
def State.partitionDisable (s : State) : State :=
  { s with keys := { s.keys with slots := s.keys.slots.filter fun e => e.2.origin != 2 } }

/-! ### Generations (R457) -/

/-- A generation raised and in force: the attestation's sequence and the event follow (R457, R462). -/
def State.generationRaised (s : State) (sub value : Nat) : State :=
  (({ s with keys := { s.keys with attestSeq := s.keys.attestSeq + 1 } } : State).count 0 25 1).offer 0xE605 0 [sub, value]

/-- A pending value of a compiler input (R576). -/
def State.pendVal (s : State) (index sub : Nat) : Val :=
  match Tab.find? s.dict.pend (objKey index sub) with
  | some v => v
  | none => s.objVal index sub

/-- A pending value's number. -/
def State.pendNum (s : State) (index sub : Nat) : Nat :=
  match s.pendVal index sub with
  | .num i => i.toNat
  | .oct _ => 0

/-- A compiler input written: pending until a build succeeds (R108). -/
def State.setPend (s : State) (index sub : Nat) (v : Val) : State :=
  { s with dict := { s.dict with pend := Tab.set s.dict.pend (objKey index sub) v } }

/-- A pending DOMAIN image stored, by its key. -/
def State.setPendDomain (s : State) (key : Nat) (image : Octets) : State :=
  { s with dict := { s.dict with pendDomains := Tab.set s.dict.pendDomains key image } }

/-- A key generation in force; the slot whose derivation names it is derived again, and a ticket that names the old update key is
void (R439, R457). -/
def State.putGeneration (s : State) (sub value : Nat) : State :=
  let s1 := s.setObj 0x5010 sub value
  if sub < 24 ∨ (s1.keySlot (if sub = 26 then 0 else 1)).isNone = true then s1
  else if sub = 24 then s1.setSlot 4 s1.signingKey
  else if sub = 25 then (s1.voidTickets (fun t => t.tile == 0 && t.slot == 5) 1).setSlot 5 s1.updateKey
  else s1.setSlot 12 s1.tunnelRoot

/-- A write of a generation: only upward. Lane and readout classes wait for a swap, the others hold at once and their
slot is derived anew (R457). -/
def generationRaise (sub value : Nat) (s : State) : Done :=
  if value ≤ s.pendNum 0x5010 sub then Done.refuse s Status.refused
  else if sub ≤ 23 then Done.ok (s.setPend 0x5010 sub (.num value))
  else Done.ok ((s.putGeneration sub value).generationRaised sub value)

/-- KEY_GENERATION_RAISE: a write of a sub-index of 0x5010. -/
def execKeyGenerationRaise (r : Req) (sub value : Nat) (s : State) : Result :=
  ok (udxWrite s r 0x5010 sub 0 (be 2 value) fun s _ => generationRaise sub value s)

/-! ### Owner tokens (R461) -/

/-- 0x5040.01 OwnerAuthChallenge. -/
def State.challenge (s : State) : Nat := s.boot.powerCycles % 16777216 * 1099511627776 + s.keys.tokens % 1099511627776

/-- The tag a token must bear. -/
def State.tokenTag (s : State) (action : Nat) (params : Octets) : Octets :=
  cmac (s.keyMaterial 6) (unitContext ++ be 8 s.challenge ++ be 2 action ++ slice params 0 14)

/-- A token is valid: the owner lock key exists, tile 0's service cipher is not FAULTED and the CMAC matches (R461, R468). -/
def State.tokenValid (s : State) (action : Nat) (params tag : Octets) : Bool :=
  (s.keySlot 6).isSome && !(Tab.getD s.keys.kats 0 {}).faulted && tag == s.tokenTag action params

/-- The end of a token's submission: the challenge moves on, the result and its event. The reply is OK with result 0, or
REFUSED with result 1. -/
def tokenDone (s : State) (x : Session) (action : Nat) (accepted : Bool) (t : State) : Done :=
  let c := s.challenge
  let u : State := if accepted then t else s
  let s1 : State := { u with keys := { u.keys with tokens := s.keys.tokens + 1 } }
  let s2 := s1.setSessionVal x.id 0 0x5040 6 (.num (bit01 (!accepted)))
  if accepted then Done.ok (s2.offer 0xE606 0 [action, c])
  else Done.refuse ((s2.count 0 25 7).offer 0xE607 0 [action, c]) Status.refused

/-- A token of an action: valid, with zero parameters, and allowed, it takes effect; otherwise it is refused. The actions
defined take zero parameters. -/
def ownerAction (action : Nat) (params tag : Octets) (allowed : State → Bool) (effect : State → State) (s : State)
    (x : Session) : Done :=
  let good := s.tokenValid action params tag && params.all (· == 0) && allowed s
  tokenDone s x action good (effect s)

/-- OwnerAuth submitted with a token. -/
def ownerWrite (s : State) (r : Req) (action : Nat) (params tag : Octets) (allowed : State → Bool) (effect : State → State) :
    Result :=
  ok (udxWrite s r 0x5040 5 0 (be 1 1) (ownerAction action params tag allowed effect))

/-! ### Known-answer tests (R467, R468) -/

/-- A unit of a tile: 0 service cipher, 1 hash unit, 2 public-key engine, 8 to 15 radio cores. -/
def State.kat (s : State) (tile unit_ : Nat) : KatState := if unit_ < 16 then Tab.getD s.keys.kats (tile * 16 + unit_) {} else {}

/-- A unit's test state stored, with its bit of 0x5050. -/
def State.setKat (s : State) (tile unit_ : Nat) (x : KatState) : State :=
  if unit_ < 16 then
    ({ s with keys := { s.keys with kats := Tab.set s.keys.kats (tile * 16 + unit_) x } } : State).setObj 0x5050 (tile + 1)
      (putBit (s.obj 0x5050 (tile + 1)) unit_ x.faulted)
  else s

/-- A failed check that no longer stands (R559, R560). -/
def State.passCheck (s : State) (check : Nat) : State :=
  { s with pair := { s.pair with failures := s.pair.failures.filter (· != check) } }

/-- The vectors of a unit run through it and compared (R467): the service cipher's blocks, GCM, CMAC, KDF and wrap, the hash unit's
digests, the public-key engine's signature and verifications, a radio core's CCM*. PRESUMED: the spec names no vectors; those with a
published answer are of FIPS 197 and 180-4, the GCM specification, RFC 4493 and RFC 6979, the KDF is held to its definition by CMAC,
and the wrap and CCM* to their inverses (log 71). -/
def vectorsHold (unit_ : Nat) : Bool :=
  let k := be 16 0x000102030405060708090A0B0C0D0E0F
  let m := be 16 0x00112233445566778899AABBCCDDEEFF
  if unit_ = 0 then
    (katAes.all fun v => aesBlock v.1 v.2.1 == v.2.2) &&
      gcmText zeroBlock (List.replicate 12 0) zeroBlock == be 16 0x0388DACE60B6A392F328C2B971B2FE78 &&
      gcmTag zeroBlock (List.replicate 12 0) [] (be 16 0x0388DACE60B6A392F328C2B971B2FE78) == be 16 0xAB6E47D42CEC13BDF53A67B21257BDDF &&
      cmac (be 16 0x2B7E151628AED2A6ABF7158809CF4F3C) (be 16 0x6BC1BEE22E409F96E93D7E117393172A) ==
        be 16 0x070A16B46B4D4144F79BDD9DD04A287C &&
      kdf k (labelOf 0x4D54524B) m 128 == cmac k (be 1 1 ++ be 4 0x4D54524B ++ be 1 0 ++ m ++ be 2 128) &&
      unwrapKey k m (wrapKey k m zeroBlock) == some zeroBlock
  else if unit_ = 1 then
    sha256 (be 3 0x616263) == be 32 0xBA7816BF8F01CFEA414140DE5DAE2223B00361A396177A9CB410FF61F20015AD &&
      sha384 (be 3 0x616263) ==
        be 48 0xCB00753F45A35E8BB5A03D699AC65007272C32AB0EDED1631A8B605A43FF5BED8086072BA1E7CC2358BAECA134C825A7
  else if unit_ = 2 then
    let h := sha256 (be 6 0x73616D706C65)
    let sig := be 32 0xEFD48B2AACB6A8FD1140DD9CD45E81D69D2C877B56AAF991C34D0EA84EAF3716 ++
      be 32 0xF7CB1C942D657C41D436C7A1B6E29F65F3E900DBB9AFF4064DC4AB2F843ACDA8
    let d := 0xC9AFA9D845BA75166B5C215767B1D6934E50C3DB36E89B127B8A622B120F6721
    ecdsaSign d h == sig && ecdsaVerify curveP256 (ecPublic curveP256 d) h sig &&
      ecdsaVerify curveP384
        (be 48 0xEC3A4E415B4E19A4568618029F427FA5DA9A8BC4AE92E02E06AAE5286B300C64DEF8F0EA9055866064A254515480BC13 ++
          be 48 0x8015D9B72D7D57244EA8EF9AC0C621896708A59367F9DFB9F54CA84B3F1C9DB1288B231C3AE0D4FE7344FD2533264720)
        (sha384 (be 6 0x73616D706C65))
        (be 48 0x94EDBB92A5ECB8AAD4736E56C691916B3F88140666CE9FA73D64C4EA95AD133C81A648152E44ACF96E36DD1E80FABE46 ++
          be 48 0x99EF4AEB15F178CEA1FE40DB2603138F130E740A19624526203B6351D0A3A94FA329C145786E679E7B82C71A38628AC8)
  else ccmText k (m.take 13) (ccmText k (m.take 13) m) == m && (ccmMic k (m.take 13) m m 16).length == 16

/-- No cryptographic unit is FAULTED. -/
def State.katsPass (s : State) : Bool := s.keys.kats.all fun e => !e.2.faulted

/-- CRYPTO_KAT of a unit in service: every 1 s, and once every 64 superframes for a radio core. `good` is false where the circuit
itself erred (log 71). -/
def execCryptoKat (tile unit_ : Nat) (good : Bool) (vector : Nat) (s : State) : Result :=
  if !s.awake then ok s else
  let x := s.kat tile unit_
  if s.nTiles ≤ tile ∨ x.faulted = true then ok s
  else if good && vectorsHold unit_ then ok (s.setKat tile unit_ { x with lastAt := s.elapsed })
  else ok ((((s.setKat tile unit_ { faulted := true, lastAt := s.elapsed }).count tile 25 8).offer 0xE608 tile
    [tile, unit_, vector]).failCheck 1)

/-- CRYPTO_RETEST of a FAULTED unit, every 100 ms; three consecutive passes return it to service. -/
def execCryptoRetest (tile unit_ : Nat) (good : Bool) (s : State) : Result :=
  let x := s.kat tile unit_
  if x.faulted = true ∧ s.due x.lastAt 100000000 = true then
    if !good || !vectorsHold unit_ then ok (s.setKat tile unit_ { x with passes := 0, lastAt := s.elapsed })
    else if x.passes + 1 < 3 then ok (s.setKat tile unit_ { x with passes := x.passes + 1, lastAt := s.elapsed })
    else
      let s1 := (s.setKat tile unit_ { lastAt := s.elapsed }).offer 0xE609 tile [tile, unit_]
      ok (if s1.katsPass then s1.passCheck 1 else s1)
  else ok s

/-! ### Tamper (R465) -/

/-- The registers cleared after a tamper event, and the issue slots that stop from the next heat boundary. -/
def State.clearKeys (s : State) (input : Nat) : State :=
  (({ s with
      fabric := { s.fabric with roots := [], oldRoots := [], chains := [], keysCleared := true }
      heat := { s.heat with halts := Tab.set s.heat.halts 5 (s.heat.count + 1) } } : State).voidTickets (fun _ => true) 3).offer 0xE60A 0
    [input, s.heat.count]

/-! ### Objects computed on reading (R445, R462, R469) -/

/-- A slot's record in 0x5001: header, label, KeyCheck, ContextTag. -/
def slotRecord (x : KeySlot) : Octets :=
  let h := x.use * 2 ^ 62 + x.type * 2 ^ 59 + bit01 x.fabric * 2 ^ 58 + x.origin * 2 ^ 56 + x.generation % 65536 * 2 ^ 40 +
    x.parent % 1024 * 2 ^ 30
  be 8 h ++ be 4 x.label ++ be 4 (keyCheck x.material) ++
    (if x.context.isEmpty then List.replicate 16 0 else (sha256 x.context).take 16)

/-- The slot a tile holds under a number: the part's, or its own. -/
def State.tileSlot (s : State) (tile n : Nat) : Option KeySlot :=
  Tab.find? s.keys.slots (if n < 768 then n else tileSlotKey tile n)

/-- 0x5001 KeySlotTable of a tile. -/
def State.keySlotTable (s : State) (tile : Nat) : Octets :=
  (List.range 1024).flatMap fun n => match s.tileSlot tile n with
    | some x => slotRecord x
    | none => List.replicate 32 0

/-- 0x5002 KeyStoreFree of a tile. -/
def State.keyStoreFree (s : State) (tile : Nat) : Nat := (List.range 1024).countP fun n => (s.tileSlot tile n).isNone

/-- The public key of a part slot. -/
def State.publicKey (s : State) (n : Nat) : Octets :=
  match s.keySlot n with
  | some x => ecPublic curveP256 (ofBe x.material)
  | none => List.replicate 64 0

/-- 0x5021.01 KeyAttestation. -/
def State.attestation (s : State) : Octets :=
  let body := unitContext ++ be 1 s.boot.lifeCycle ++ be 1 0 ++ be 2 (s.obj 0x5010 24) ++ be 4 s.keys.attestSeq ++
    slice s.boot.measurement 0 48 ++ s.publicKey 4
  body ++ ecdsaSign (ofBe identityKey.material) (sha256 body)

end Sys2Proof.Machine
end

