-- ==== Sys2Proof/Machine/Sheet.lean ====
section
/-! DEFINITION. The heat-sheet image: its slot, window, root, bank and region tables, its ring section and its claims
(03 R110, R113, R116, R121 to R123). -/

namespace Sys2Proof.Machine

/-! ### Slot table (R62, R104, R122) -/

/-- A slot entry (R122). -/
structure SlotEntry where
  kind : Nat
  source : Nat := 0
  destA : Nat := 0
  destB : Nat := 0
  destC : Nat := 0
  root : Nat := 0
  pattern : Nat := 0
  region : Nat := 0
  test : Nat := 0
  deriving DecidableEq, Repr

/-- Bits [127:16] of an entry. -/
def SlotEntry.bits (e : SlotEntry) : Nat :=
  e.kind * 2 ^ 108 + e.source * 2 ^ 100 + e.destA * 2 ^ 92 + e.destB * 2 ^ 84 + e.destC * 2 ^ 76 + e.root * 2 ^ 72 +
    e.pattern * 2 ^ 64 + e.region * 2 ^ 56 + e.test * 2 ^ 48

/-- The 16 bytes of an entry. -/
def SlotEntry.image (e : SlotEntry) : Octets :=
  be 16 (e.bits * 65536 + (Config.entryCheck (BitVec.ofNat 112 e.bits)).toNat)

/-- The entry of slot k of pipeline p: its kind by R62, or off for a pipeline out of service except in its pacer and test
slots (R104); its queues by R87 and R135. The loss engine's queue, for which R122 names no field, stands in DestQueueB of a snapshot
slot (DESIGN CHOICE, log 86). A test slot names the cipher test, its target whenever R90 gives it no march step, which a static
entry cannot tell heat by heat (DESIGN CHOICE, log 14). -/
def sheetSlot (off : Bool) (p k : Nat) : SlotEntry :=
  let x : SlotEntry := { kind := slotKind k, root := (Config.slotRoot p k).val, pattern := (Config.slotPattern p k).val
                         region := (Config.slotRegion p k).val, destC := 0x38 + p }
  match slotKind k with
  | 5 => { x with root := 0, destC := 0, test := 0 }
  | 6 => { x with root := 15, destC := 0 }
  | n =>
    if off then { kind := 7 }
    else match n with
      | 0 => { x with source := p, destA := 0x28 + p, destB := 0x30 + p }
      | 1 => { x with source := 0x08 + p, destA := 0x28 + p }
      | 2 => { x with source := 0x10 + p, destB := 0x48 + p }
      | 3 => { x with source := 0x18 + p, destA := 0x40 + p, root := 0 }
      | _ => { x with source := 0x20 + p, destA := 0x28 + p, destB := 0x50 + p }

/-! ### Windows, roots, banks, regions (R83, R122, R165 to R167) -/

/-- The residues of a management window: two, 8 pace cycles apart (R83). -/
def windowMask (tile bank : Nat) : Nat := 2 ^ (Config.windowResidue tile bank).val + 2 ^ ((Config.windowResidue tile bank).val + 8)

/-- The residues kept free for DMA: one in every bank, outside its window, 32 bank-cycles in every 16 pace cycles (R110,
log 14). -/
def floorMask (tile bank : Nat) : Nat :=
  let f := (Config.floorResidue tile bank).val
  2 ^ (((Config.windowResidue tile bank).val + 1 + f % 7 + 8 * (f / 7)) % 16)

/-- The RegionMap entries in order: hot records, the two index tables and the sums of each issue group, the rule rows, the
slot maps and the lane tables of a table half, the queues, the test area, the two halves of the heat-sheet region and the secure part
(R50, R165); (base, stride in words). -/
def regionList (half : Nat) : List (Nat × Nat) :=
  ((List.range 8).flatMap fun g =>
    [(hotAddress (groupRecord g 0) 0, if g < 2 then 32 else 16), (zoneT (18 + g % 8) 0, 12), (zoneT (18 + (g + 1) % 8) 32768, 12),
     (sumAddress g 0 0, 32)]) ++
  [(ruleAddress half 0 0, 12), (ruleAddress half 0 1, 12), (slotMapAddress half 0, 12), (laneTables half, 12), (0, 1),
   (testWord 0, 1), (sheetBase 0, 12), (sheetBase 1, 12), (0x5C0000, 1)]

/-- The RegionMap of a table half: 64 entries of 16 B. -/
def regionMap (half : Nat) : Octets :=
  ((regionList half).flatMap fun e => be 16 (Config.regionEntry e.1 e.2 (bankRow e.1).1).toNat) ++
    ((List.range (64 - (regionList half).length)).flatMap fun _ => be 16 (Config.regionEntry 0 0 0).toNat)

/-! ### Ring section (R110, R113, R116) -/

/-- The link directions in the order of their detail: lowest pair, ascending first. -/
def State.linkDirections (s : State) : List (Nat × Bool) := (List.range s.nTiles).flatMap fun n => [(n + 1, true), (n + 1, false)]

/-- The terms of a pair's reservation in order: inbound lane frames, outbound frames, tunnel frames, tunnel replies (R116). -/
def termSlots (budget src dst term : Nat) : Nat :=
  if term = 0 then 20 else if term = 1 then 8
  else if term = 2 then (if src = 0 then budget else 0)
  else if dst = 0 then budget else 0

/-- Frame slots that a term of a pair takes on a link direction: all on every link of its route; on two tiles split between the
link pairs (R116). -/
def State.termShare (s : State) (budget term src dst link : Nat) (ascending : Bool) : Nat :=
  let r := termSlots budget src dst term
  if s.nTiles = 2 then
    (if link = 1 then (if (decide (src = 0) == ascending) = true then divUp r 2 else 0)
     else if (decide (src = 1) == ascending) = true then r / 2 else 0)
  else if (decide (2 * ((dst + s.nTiles - src) % s.nTiles) ≤ s.nTiles) == ascending) = true ∧
      (s.routeLinks src dst).contains link = true then r
  else 0

/-- The ordered pairs of distinct tiles. -/
def State.tilePairs (s : State) : List (Nat × Nat) :=
  ((List.range s.nTiles).flatMap fun a => (List.range s.nTiles).map fun b => (a, b)).filter fun e => e.1 != e.2

/-- Frame slots that a link direction needs (R116). -/
def State.linkClaim (s : State) (budget link : Nat) (ascending : Bool) : Nat :=
  (s.tilePairs.map fun e => ((List.range 4).map fun k => s.termShare budget k e.1 e.2 link ascending).sum).sum

/-- The links a pair's transfers pass before a link. -/
def State.hopAt (s : State) (src dst link : Nat) : Nat := if s.nTiles = 2 then 0 else (s.routeLinks src dst).idxOf link

/-- The frame slots of a term of a pair on a link direction: inbound ones from the staging queue of the home tile to its inbound
queues, whose issue group the ring header names, outbound ones from the staging queue of the lane tile to its transmit queues; the
queues of a class are named by the first (log 14). -/
def State.termEntries (s : State) (budget term link : Nat) (ascending : Bool) (e : Nat × Nat) : List RingEntry :=
  List.replicate (s.termShare budget term e.1 e.2 link ascending)
    { kind := 0, src := e.1, dst := e.2, source := (if term = 0 ∨ term = 2 then 0x78 else 0x80) + e.2
      dest := if term = 0 ∨ term = 2 then 0 else if term = 1 then 0x64 else 0x88 }

/-- The frame slots of a link direction in their order in the heat. Inbound slots stand by the number of links passed before, in
blocks that lie alike on every link, and a tunnel frame's slots one ring slot later on each further link, the farthest homes first: a
transfer that starts in its first slot is complete at its destination before the heat ends (R116; the order is the model's,
log 14). -/
def State.frameEntries (s : State) (budget link : Nat) (ascending : Bool) : List RingEntry :=
  let put (k : Nat) (l : List (Nat × Nat)) : List RingEntry := l.flatMap fun e => s.termEntries budget k link ascending e
  let inbound := (List.range 4).flatMap fun h => put 0 (s.tilePairs.filter fun e => s.hopAt e.1 e.2 link == h)
  let far := (List.range 5).reverse.flatMap fun n => s.tilePairs.filter fun e => (s.routeLinks e.1 e.2).length == n
  let hops := ((far.filter fun e => e.1 == 0 && decide (0 < s.termShare budget 2 e.1 e.2 link ascending)).map fun e =>
    s.hopAt e.1 e.2 link).headD 0
  let out := put 1 s.tilePairs
  inbound ++ out.take hops ++ put 2 far ++ out.drop hops ++ put 3 s.tilePairs

/-- The ring slots of a link direction: the frame slots, those that no pair claims without one, then the spare, management and digest
slots (R113). -/
def State.ringItems (s : State) (budget link : Nat) (ascending : Bool) : List RingEntry :=
  let frames := s.frameEntries budget link ascending
  frames ++ List.replicate (frameSlots - frames.length) { kind := 0 } ++ List.replicate spareSlots { kind := 1 } ++
    List.replicate managementSlots { kind := 2 } ++ List.replicate digestSlots { kind := 3 }

/-- The entries of every link direction. -/
def State.ringTable (s : State) (budget : Nat) : List (List RingEntry) := s.linkDirections.map fun d => s.ringItems budget d.1 d.2

/-- The 8 bytes of an entry. -/
def RingEntry.image (e : RingEntry) : Octets := be 8 (Config.ringEntry e.kind e.src e.dst e.source e.dest).toNat

/-- The ring section: 448 entries of 8 B for each link direction. -/
def ringSection (ring : List (List RingEntry)) : Octets := ring.flatMap fun l => l.flatMap RingEntry.image

/-! ### Claims (R122, R125) -/

/-- The fabric accesses to a bank of a tile in a residue class: none in its management window nor in its DMA floor (R83,
R110). -/
def accessClaim (tile bank residue : Nat) : Nat :=
  if bitAt (windowMask tile bank) residue || bitAt (floorMask tile bank) residue then 0
  else (Config.bankAccesses tile bank residue).val

/-- The access counts of a tile, bank by bank and residue by residue. -/
def accessClaims (tile : Nat) : List Nat := (List.range 32).flatMap fun b => (List.range 16).map fun r => accessClaim tile b r

/-- The bank-cycles of every 16 pace cycles that a tile keeps free of fabric and windows (R110). -/
def floorClaim (tile : Nat) : Nat :=
  ((List.range 32).map fun b => (List.range 16).countP fun r => bitAt (floorMask tile b) r && !bitAt (windowMask tile b) r).sum

/-- The ring slots of a link direction by kind. -/
def ringCounts (l : List RingEntry) : List Nat := (List.range 4).map fun k => l.countP fun e => e.kind == k

/-- The counts that a sheet's claims section states: of each tile the accesses and the floor, of each link direction the ring
slots that are claimed by kind (R122). -/
def State.claimCounts (s : State) (budget : Nat) : List Nat :=
  ((List.range s.nTiles).flatMap fun t => accessClaims t ++ [floorClaim t]) ++
    s.linkDirections.flatMap fun d => [s.linkClaim budget d.1 d.2, spareSlots, managementSlots, digestSlots]

/-- The claims of the k-th link direction. -/
def State.ringClaims (s : State) (claims : List Nat) (k : Nat) : List Nat := (claims.drop (513 * s.nTiles + 4 * k)).take 4

/-- The loader's recount of the ring entries against the claims and the limits: in each link direction 448 entries, 1 spare, 16
management and 8 digest, and as many frame slots for pairs as it claims, within the 423 (R113, R125). -/
def State.ringCountsHold (s : State) (ring : List (List RingEntry)) (claims : List Nat) : Bool :=
  ring.length == s.linkDirections.length && ring.zipIdx.all fun e =>
    let claim := s.ringClaims claims e.2
    e.1.length == ringSlots && (ringCounts e.1).drop 1 == claim.drop 1 && claim.drop 1 == [spareSlots, managementSlots, digestSlots] &&
      (e.1.countP fun x => x.kind == 0 && x.src != x.dst) == claim.headD 0 && decide (claim.headD 0 ≤ frameSlots)

/-- A tile's recount of the bank and residue counts against the claims and the limits: at most one access a cycle of a class, none in
a window, the floor at 16 (R83, R84, R110, R125). -/
def bankCountsHold (claims : List Nat) (tile : Nat) : Bool :=
  (claims.drop (513 * tile)).take 513 == accessClaims tile ++ [floorClaim tile] &&
    (accessClaims tile).all (fun n => decide (n ≤ 375)) && decide (16 ≤ floorClaim tile)

/-! ### The image (R121 to R123) -/

/-- A tile section, 57,600 B. -/
def tileSection (tile : Nat) (off : List Nat) (roots : Tab Nat) (half : Nat) (inputDigest : Octets) : Octets :=
  let map := (List.range 8).foldl (fun a p => a + 2 ^ p * bit01 (off.contains (tile * 8 + p))) 0
  be 64 (Config.tileHeader tile map (ruleAddress half 0 0)).toNat ++
    ((List.range 8).flatMap fun p => (List.range 375).flatMap fun k => (sheetSlot (off.contains (tile * 8 + p)) p k).image) ++
    ((List.range 8192).map Config.patternByte) ++
    ((List.range 32).flatMap fun b => be 2 (windowMask tile b) ++ be 2 (floorMask tile b)) ++
    ((List.range 16).flatMap fun e => be 4 (match Tab.find? roots e with
      | some n => n
      | none => Config.emptyRoot.toNat)) ++
    ((List.range 32).flatMap fun b => be 4 (Config.bankPlanEntry (Config.bankPlanClear inputDigest (tile * 32 + b))).toNat) ++
    regionMap half

/-- The claims section that states given counts. -/
def claimsSection (claims : List Nat) : Octets := (List.range (Config.claimsLength claims).val).map (Config.claimsByte claims)

/-- The parts of a sheet that its header names. -/
structure SheetHeader where
  version : Nat
  pair : Nat
  generation : Nat
  sequence : Nat
  trigger : Nat
  inputDigest : Octets
  deriving DecidableEq, Repr

/-- A sheet's header and sections: bytes 0 to DigestOffset − 1 (R121, R122). -/
def State.sheetImage (s : State) (h : SheetHeader) (off : List Nat) (roots : Tab Nat) (ringTable : List (List RingEntry))
    (counts : List Nat) : Octets :=
  let ring := 128 + 57600 * s.nTiles
  let claims := ring + 7168 * s.nTiles
  let dig := claims + (Config.claimsLength counts).val
  be 4 0x48534854 ++ be 2 1 ++ be 2 128 ++ be 4 h.version ++ be 1 s.nTiles ++ be 1 h.pair ++ be 2 h.generation ++
    be 4 h.sequence ++ be 2 h.trigger ++ be 2 0 ++ h.inputDigest ++ be 4 (dig + 96) ++ be 2 s.nTiles ++ be 2 0 ++
    ((List.range 8).flatMap fun t => be 4 (if t < s.nTiles then 128 + 57600 * t else 0)) ++ be 4 ring ++ be 4 claims ++ be 4 dig ++
    List.replicate 20 0 ++
    ((List.range s.nTiles).flatMap fun t => tileSection t off roots (h.generation % 2) h.inputDigest) ++ ringSection ringTable ++
    claimsSection counts

end Sys2Proof.Machine
end

