-- ==== Sys2Proof/Machine/Compiler.lean ====
section
/-! DEFINITION. The heat compiler: its inputs, limits, builds, load and swap (03 R103 to R134, 22 R751, R758). -/

namespace Sys2Proof.Machine

/-! ### Inputs (R108, R109, R751, R758) -/

/-- The type codes of R758. -/
def ObjTy.code : ObjTy → Nat
  | .bool => 1
  | .u n => if n = 1 then 2 else if n = 2 then 3 else if n = 4 then 4 else 5
  | .i n => if n = 1 then 6 else if n = 2 then 7 else if n = 4 then 8 else 9
  | .oct _ => 11
  | .vstr _ => 12
  | .domain => 13

/-- The blocks of sub-indices of the compiler inputs, in ascending order: (index, first, last) (R751). -/
def inputBlocks : List (Nat × Nat × Nat) :=
  [(0x2010, 1, 64), (0x2104, 1, 1), (0x2301, 1, 8), (0x2400, 1, 1), (0x3000, 1, 32), (0x3800, 1, 64), (0x3C00, 1, 3),
   (0x4010, 1, 255), (0x4140, 1, 8), (0x4801, 3, 3), (0x4810, 1, 1), (0x5010, 1, 23), (0x5011, 1, 96), (0x5012, 1, 15),
   (0x8000, 1, 1)]

/-- A sub-index is a compiler input that the host writes (R751). -/
def isInput (index sub : Nat) : Bool :=
  index != 0x2010 && index != 0x2301 && inputBlocks.any fun b => b.1 == index && decide (b.2.1 ≤ sub ∧ sub ≤ b.2.2)

/-- The inputs a build works from: pending values and DOMAIN images over those in force. -/
structure Inputs where
  vals : Tab Val := []
  doms : Tab Octets := []

/-- An input's value. -/
def Inputs.val (i : Inputs) (s : State) (index sub : Nat) : Val :=
  match Tab.find? i.vals (objKey index sub) with
  | some v => v
  | none => s.objVal index sub

/-- An input's number. -/
def Inputs.num (i : Inputs) (s : State) (index sub : Nat) : Nat :=
  match i.val s index sub with
  | .num n => n.toNat
  | .oct _ => 0

/-- An input's DOMAIN image. -/
def Inputs.dom (i : Inputs) (s : State) (index sub : Nat) : Octets :=
  match Tab.find? i.doms (objKey index sub) with
  | some b => b
  | none => s.domain index sub

/-- An input's octets. -/
def Inputs.oct (i : Inputs) (s : State) (index sub : Nat) : Octets :=
  match i.val s index sub with
  | .num _ => []
  | .oct b => b

/-- The pending inputs, those in force, and the factory defaults with every field lane and tunnel port disabled. -/
def State.pendingInputs (s : State) : Inputs := { vals := s.dict.pend, doms := s.dict.pendDomains }
def inForce : Inputs := {}

/-- The state with the given inputs in force. -/
def State.withInputs (s : State) (i : Inputs) : State :=
  { s with dict := { s.dict with
      objs := i.vals.foldl (fun t e => Tab.set t e.1 e.2) s.dict.objs
      domains := i.doms.foldl (fun t e => Tab.set t e.1 e.2) s.dict.domains
      pend := s.dict.pend.filter fun e => !(Tab.find? i.vals e.1 == some e.2)
      pendDomains := s.dict.pendDomains.filter fun e => !(Tab.find? i.doms e.1 == some e.2) } }

/-- Meters placed in an issue group. -/
def State.metersPlaced (s : State) (tile g : Nat) : Nat := s.meters.countP fun x => x.home == tile && x.group == g && !x.place.parked

/-- 0x2301 IssueGroupAllocation of a tile: eight records of area, allocated records, meters placed and sums, U16 each
(the widths are not stated, log 30). -/
def State.allocationImage (s : State) (tile : Nat) : Octets :=
  if s.nTiles ≤ tile then List.replicate 64 0
  else (List.range 8).flatMap fun g =>
    be 2 (if g < 2 then g else g / 2 + 1) ++ be 2 (s.groupRecords tile g) ++ be 2 (s.metersPlaced tile g) ++
      be 2 (s.pipeSums tile g).length

/-- A record of the image. -/
def imageRecord (index sub type : Nat) (value : Octets) : Octets :=
  be 2 index ++ be 1 sub ++ be 1 type ++ be 4 value.length ++ padTo (divUp value.length 8 * 8) value

/-- The record of an input. -/
def Inputs.record (i : Inputs) (s : State) (index sub : Nat) : Octets :=
  match findRow index sub with
  | none => []
  | some r =>
    if r.ty = .domain then
      imageRecord index sub 13 (if index = 0x2301 then s.allocationImage (sub - 1)
        else padTo ((domainLength index sub).getD 0) (i.dom s index sub))
    else if s.beyondPart index sub then imageRecord index sub r.ty.code (r.ty.wire (.num 0))
    else imageRecord index sub r.ty.code (r.ty.wire (i.val s index sub))

/-- Sub-indices of the inputs in order. -/
def inputSubs : List (Nat × Nat) :=
  inputBlocks.flatMap fun b => (List.range (b.2.2 + 1 - b.2.1)).map fun k => (b.1, b.2.1 + k)

/-- The canonical input image (R758). -/
def Inputs.image (i : Inputs) (s : State) : Octets :=
  let recs := imageRecord 0 1 13 s.homeMaps ++ inputSubs.flatMap fun e => i.record s e.1 e.2
  be 4 0x43494D47 ++ be 2 1 ++ be 2 0 ++ be 4 (inputSubs.length + 1) ++ be 4 (16 + recs.length) ++ recs

/-! ### Limits (R116 to R118) -/

/-- Lane classes that need a root under the inputs: those of enabled lanes (R456). The classes of relays are no compiler input
(R108; log 30). -/
def Inputs.laneClasses (i : Inputs) (s : State) : List Nat :=
  let line := (List.range (4 * s.nTiles)).filterMap fun k => if i.num s 0x3000 (k + 1) = 1 then some (i.num s 0x5011 (k + 1)) else none
  let radio := (List.range (8 * s.nTiles)).filterMap fun k => if i.num s 0x3800 (k + 1) = 1 then some (i.num s 0x5011 (k + 33)) else none
  (List.range 15).filter fun c => (line ++ radio).contains c

/-- Readout classes that are not off. -/
def Inputs.classesOn (i : Inputs) (s : State) : Nat := (List.range 8).countP fun c => i.num s 0x4140 (c + 1) != 0

/-- Readout classes in authenticated mode. -/
def Inputs.readoutClasses (i : Inputs) (s : State) : List Nat := (List.range 8).filter fun c => i.num s 0x4140 (c + 1) == 1

/-- The root map: entry to key-store slot. Lane class c takes entry c; the readout classes the lowest entries left (R456). -/
def Inputs.rootMap (i : Inputs) (s : State) : Tab Nat :=
  let lanes := i.laneClasses s
  let free := (List.range 15).filter fun e => !lanes.contains e
  (lanes.map fun c => (c, 16 + c)) ++ ((free.zip (i.readoutClasses s)).map fun e => (e.1, 32 + e.2)) ++ [(15, 13)]

/-- Pipelines of kind off: those not IN_SERVICE (R104). -/
def State.offPipes (s : State) : List Nat := (List.range (8 * s.nTiles)).filter fun k => (s.pipe (k / 8) (k % 8)).state != 0

/-- A rule set entry of a kind that no rule has (R344). -/
def badRules (table : Octets) : Bool := (List.range (table.length / 4)).any fun k =>
  decide (9 ≤ fieldAt table (4 * k) 1 / 8 ∧ fieldAt table (4 * k) 1 / 8 ≤ 31)

/-- Sums a pipeline's table needs: one for each feeder group and head of its meters (R410). -/
def State.sumsNeeded (s : State) (tile pipe : Nat) : Nat :=
  (((s.meters.filter fun x => x.home == tile && x.group == pipe && s.lossRole x != 0).map fun x =>
    (s.feederOf x, s.lossGroup x, s.lossRole x)).eraseDups).length

/-- KiB of rule and map tables: two words for each of the 1,024 rule sets and one for each of the 255 slot maps (R117, R344, R381). -/
def tableKib : Nat := divUp (1024 * 16 + 255 * 8) 1024

/-- The placement that the built sheet brings: the meters of the pipelines it takes out assigned to other groups (R104). -/
def State.reassigned (s : State) (off : List Nat) : State :=
  off.foldl (fun s k => s.evacuateMeters (k / 8) (k % 8)) s

/-- The first limit a build passes, with its detail; (0, 0) where it keeps them all (R118). Of `v` the meters are placed as the
sheet will have them and the inputs in force (R104). A tile has 255 slot maps, 1,024 rule sets, one table region and 256 queues
whatever the inputs, and the bank layout is fixed, so codes 6, 7, 9 and 10 name limits that no object values pass but code 6's
table length (log 30). -/
def Inputs.verdict (i : Inputs) (s v : State) (off : List Nat) : Nat × Nat :=
  let tiles := List.range s.nTiles
  let homed (t : Nat) : Nat := v.meters.countP fun x => x.home == t
  match tiles.find? fun t => decide (262144 < homed t) with
  | some t => (1, t * 2 ^ 24 + homed t / 16)
  | none =>
  match tiles.find? fun t => decide (0 < homed t) && (List.range 8).all fun p => off.contains (t * 8 + p) with
  | some t => (2, t * 2 ^ 24)
  | none =>
  let b := i.num s 0x2104 1
  match s.linkDirections.find? fun d => decide (frameSlots < s.linkClaim b d.1 d.2) with
  | some d => (3, d.1 * 2 ^ 24 + bit01 d.2 * 2 ^ 23 + s.linkClaim b d.1 d.2 % 65536)
  | none =>
  let roots := (i.laneClasses s).length + (i.readoutClasses s).length
  if roots = 0 ∨ 15 < roots then (4, roots)
  else match (List.range 255).find? fun k => !entryOk (padTo 32 (i.oct s 0x4010 (k + 1))) with
  | some k => (5, 0x4010 * 65536 + (k + 1) * 256)
  | none =>
  let rules := i.dom s 0x2400 1
  if 16384 < rules.length then (6, divUp rules.length 16 % 65536)
  else if 512 < tableKib then (7, tableKib)
  else if i.classesOn s = 0 then (8, 0)
  else if badRules rules then (11, 0x2400 * 65536 + 256)
  else match tiles.find? fun t => (List.range 8).any fun p => decide (4096 < v.sumsNeeded t p) with
  | some t => (12, t * 2 ^ 24 + ((List.range 8).map fun p => v.sumsNeeded t p).foldl max 0 % 65536)
  | none => (0, 0)

/-- The generation after one in force (R118). -/
def nextGeneration (g : Nat) : Nat := if g = 65535 then 1 else g + 1

/-- Generation of the sheet in force. -/
def State.sheetGeneration (s : State) : Nat := match s.compiler.sheet with
  | some x => x.generation
  | none => 0

/-- The commit that the sheet in force was built for (R121). -/
def State.sheetSequence (s : State) : Nat := match s.compiler.sheet with
  | some x => x.sequence
  | none => 0

/-- The canonical image of the pending inputs, with the placement that a build from them brings (R104, R109). -/
def State.inputImage (s : State) : Octets :=
  s.pendingInputs.image ((s.reassigned s.offPipes).withInputs s.pendingInputs)

/-- The outcome of a build of inputs: 0 and 0, or the result code and its detail, over the groups as the build moves them (R104, R118). -/
def State.buildVerdict (s : State) (i : Inputs) (off : List Nat) : Nat × Nat := i.verdict s ((s.reassigned off).withInputs i) off

/-- The image of a build with its digest and signature, from the inputs `i`: its input image is that of the active's commit
where it came with one (R121, R123, R130). -/
def State.built (s : State) (b : Build) (i : Inputs) (generation : Nat) : Build :=
  let v := (s.reassigned b.off).withInputs i
  let input := if b.mirrored.isEmpty then i.image v else b.mirrored
  let roots := i.rootMap s
  let h : SheetHeader := { version := s.compilerVersion, pair := i.num s 0x8000 1, generation := generation, sequence := b.sequence
                           trigger := b.trigger, inputDigest := sha256 input }
  let ring := s.ringTable (i.num s 0x2104 1)
  let claims := s.claimCounts (i.num s 0x2104 1)
  let img := s.sheetImage h b.off roots ring claims
  let d := sha256 img
  { b with rootMap := roots, homeMaps := v.homeMaps, inputDigest := sha256 input, image := img, digest := d
           ring := ring, claims := claims
           signature := ecdsaSign (ofBe (s.keyMaterial 3)) d }

/-! ### Builds (R103 to R107, R118 to R120, R129) -/

/-- 0x2100.02 CompileState follows the build. -/
def State.setRun (s : State) (b : Option Build) : State :=
  ({ s with compiler := { s.compiler with run := b } } : State).setObj 0x2100 2 (match b with
    | some x => x.phase
    | none => 0)

/-- The end of a build for its commit: reason code, detail, duration. -/
def State.buildResult (s : State) (reason detail started : Nat) : State :=
  ((s.setObj 0x2100 3 reason).setObj 0x2100 4 detail).setObj 0x2100 9 ((s.elapsed - started) / 1000000)

/-- A build starts: BUILDING from its inputs as they stand. -/
def State.startBuild (s : State) (b : Build) : State :=
  let i : Inputs := if b.kind ≠ 2 ∨ b.combined = true then s.pendingInputs else inForce
  s.setRun (some { b with phase := 1, startedAt := s.elapsed, inputs := i.vals, inputDomains := i.doms, reports := []
                          peerDigest := [] })

/-- The build that waits starts once none runs (R105). -/
def State.startWaiting (s : State) : State :=
  match s.compiler.run, s.compiler.waiting with
  | none, some w => ({ s with compiler := { s.compiler with waiting := none } } : State).startBuild w
  | _, _ => s

/-- A build has ended without a swap: an internal one is retried after 1 s, a waiting one starts (R105, R107). -/
def State.endBuild (s : State) (b : Build) : State :=
  let s1 := s.setRun none
  (if b.kind = 2 then
    { s1 with compiler := { s1.compiler with retry := s1.compiler.retry ++ [(b.trigger, b.tile, s1.elapsed)] } } else s1).startWaiting

/-- A build of a host commit's inputs: the commit's own, or combined with an internal change (R105); of the active's, on a standby
(R130). -/
def Build.hosts (b : Build) : Bool := b.kind == 0 || b.combined
def Build.forActive (b : Build) : Bool := b.hosts && !b.mirrored.isEmpty

/-- A build ends with a reason (R118, R119): a combined one gives its reason to the commit and goes on with the inputs in
force and the internal change (R105); a standby's is reported to the active (R130). -/
def State.failBuild (s : State) (b : Build) (reason detail : Nat) : State :=
  let s1 := s.buildResult reason detail b.startedAt
  let s2 := if reason = 13 then s1.offer 0xE182 0 [b.trigger]
    else if reason = 15 then s1.offer 0xE183 0 [detail / 2 ^ 24, detail % 256]
    else s1.offer 0xE181 0 [reason, detail, b.trigger]
  let s3 := if b.trigger = 6 then s2.offer 0xE98A 0 [reason] else s2
  let s4 := if b.forActive && decide (s.pair.state = 4) then s3.mgmtReport 17 [0, reason] [] else s3
  if b.combined then
    (s4.offer 0xE185 b.tile [b.trigger, b.tile]).startBuild { b with combined := false, sequence := s4.sheetSequence, mirrored := [] }
  else s4.endBuild b

/-- A commit that a newer one takes the place of (R106). -/
def State.supersede (s : State) (b : Build) (sequence : Nat) : State := s.buildResult 14 sequence b.startedAt

/-- A host commit accepted: it supersedes an earlier host build that has not reached ARMED, or waits for an internal build
or an armed swap (R105, R106, R129). `mirrored` is the input image that a standby builds from (R130). Of a commit that arrives during a
combined build, both an internal one and a host's, R105 and R106 say different things: it waits for that build's end (DESIGN
CHOICE, log 86). -/
def State.acceptCommit (s : State) (kind : Nat) (mirrored : Octets) : State :=
  let n := s.obj 0x2100 5 + 1
  let s0 := s.setObj 0x2100 5 n
  let s1 : State := { s0 with dict := { s0.dict with committed := s0.dict.committed || kind == 0 } }
  let b : Build := { kind := kind, trigger := 1, sequence := n, startedAt := s.elapsed, mirrored := mirrored }
  match s1.compiler.run with
  | none => s1.startBuild b
  | some r =>
    if r.kind ≠ 2 ∧ r.phase < 3 then (s1.supersede r n).startBuild b
    else
      let s2 := match s1.compiler.waiting with
        | some w => s1.supersede w n
        | none => s1
      { s2 with compiler := { s2.compiler with waiting := some b } }

/-- A pending value sent to the standby. -/
def State.sendPending (s : State) (e : Nat × Val) : State := match e.2 with
  | .num i => s.mgmt 14 [e.1, ofSigned 64 i] []
  | .oct b => s.mgmt 15 [e.1] b

/-- The input image of a host commit sent to the standby: each pending value, then the commit with the whole image (R130,
R549). -/
def State.mirrorInputs (s : State) (sequence : Nat) : State :=
  if s.mirrors then
    let s1 := s.dict.pend.foldl State.sendPending s
    (s1.dict.pendDomains.foldl (fun s e => s.mgmt 15 [e.1] e.2) s1).mgmt 16 [sequence] s.inputImage
  else s

/-- CommitRequest written 1 or 2. -/
def commitRequest (kind : Nat) (s : State) : Done :=
  if s.pair.plan.isSome || s.update.activating then Done.refuse s Status.refused
  else
    let s1 := s.acceptCommit kind []
    Done.ok (if kind = 0 then s1.mirrorInputs (s1.obj 0x2100 5) else s1)

/-- COMMIT_BUILD. -/
def execCommitBuild (r : Req) (s : State) : Result := ok (udxWrite s r 0x2100 1 0 (be 1 1) fun s _ => commitRequest 0 s)

/-- COMMIT_CHECK. -/
def execCommitCheck (r : Req) (s : State) : Result := ok (udxWrite s r 0x2100 1 0 (be 1 2) fun s _ => commitRequest 1 s)

/-- An internal build starts, or its trigger waits for an armed swap. It takes a host build's inputs with it, in a
pair with the image it builds from sent anew; a check-only build waits for its end (R103, R105, R130; log 74). The spec is silent on a
trigger that arrives while an internal build runs: it starts that build anew, which ends with no reason of its own (DESIGN CHOICE,
log 86). -/
def State.internalBuild (s : State) (trigger tile : Nat) : State :=
  let b : Build := { kind := 2, trigger := trigger, tile := tile, sequence := s.sheetSequence }
  let started := s.offer 0xE185 tile [trigger, tile]
  match s.compiler.run with
  | none => started.startBuild b
  | some r =>
    if r.phase = 3 then
      { s with compiler := { s.compiler with retry := s.compiler.retry ++ [(trigger, tile, s.elapsed - 1000000000)] } }
    else if r.kind = 1 then ({ started with compiler := { started.compiler with waiting := some r } } : State).startBuild b
    else if r.hosts then
      (started.startBuild { b with combined := true, sequence := r.sequence, mirrored := r.mirrored }).mirrorInputs r.sequence
    else started.startBuild b

/-- An internal build may start now: none runs, or a host build not yet ARMED that it takes the place of (R105). -/
def State.internalMayStart (s : State) : Bool :=
  match s.compiler.run with
  | none => true
  | some r => decide (r.kind < 2 ∧ r.phase < 3)

/-- What an internal trigger names has come about: the pipelines out of service are not those of the sheet in force; a planned
move needs a wider lane home map; the sheet in force was built by another compiler version (R103, R209, R681). A function that
becomes DISABLED starts its build with FUNCTION_DISABLED, and bring-up with SHEET_LOAD_DONE. -/
def State.triggerHolds (s : State) (trigger : Nat) : Bool :=
  match s.compiler.sheet with
  | none => false
  | some x =>
    if trigger = 2 then x.off != s.offPipes
    else if trigger = 4 then s.place.planned.any fun f => !s.mapAllows f
    else if trigger = 6 then x.version != s.compilerVersion
    else false

/-- INTERNAL_BUILD of a trigger (R103). -/
def execInternalBuild (trigger tile : Nat) (s : State) : Result :=
  okIf (s.partRuns && s.internalMayStart && s.triggerHolds trigger) s (s.internalBuild trigger tile)

/-- The inputs a build works from. -/
def Build.from (b : Build) : Inputs := { vals := b.inputs, doms := b.inputDomains }

/-- BUILD_DONE: the limits checked, then the image, its digest and signature (R118, R123, R124). -/
def execBuildDone (s : State) : Result :=
  if !s.awake then ok s else
  match s.compiler.run with
  | none => ok s
  | some b =>
    if b.phase ≠ 1 then ok s
    else
      let off := s.offPipes
      let r := s.buildVerdict b.from off
      if r.1 ≠ 0 then ok (s.failBuild b r.1 r.2)
      else
        let b1 := s.built { b with off := off, phase := 2 } b.from (nextGeneration s.sheetGeneration)
        ok (((s.setRun (some b1)).setVal 0x2101 2 (.oct b1.digest)).count 0 25 1)

/-- The standby's build is awaited by a host commit of a pair in sync, combined with an internal change or not, until the standby has
reported its InputDigest (R130). -/
def State.awaitsPeer (s : State) (b : Build) : Bool :=
  b.hosts && decide (s.pair.state = 2) && s.pair.peerSync && b.peerDigest != b.inputDigest

/-- Every tile has reported: the swap is armed 16 heats ahead, or a check ends (R124, R128). In a pair in sync the
active names an instant 2 ms ahead (R552), 200 heats, and a standby's host build waits for that instant. -/
def State.tryArm (s : State) : State :=
  match s.compiler.run with
  | none => s
  | some b =>
    if b.phase ≠ 2 ∨ ((List.range s.nTiles).all fun t => b.reports.contains t) = false then s
    else if b.kind = 1 then
      (s.buildResult 0 (nextGeneration s.sheetGeneration) b.startedAt).endBuild b
    else if s.awaitsPeer b then s
    else if b.forActive && decide (s.pair.state = 4) then (s.setRun (some { b with phase := 3, swapHeat := 2 ^ 64 })).mgmtReport 17 [1] b.inputDigest
    else if b.hosts && decide (s.pair.state = 2) && s.pair.peerSync then
      (s.setRun (some { b with phase := 3, swapHeat := s.heat.count + 201 })).mgmt 18 [b.sequence] []
    else s.setRun (some { b with phase := 3, swapHeat := s.heat.count + 16 })

/-- The root file loaded from the key store: entry e holds the material of its slot, where the slot may enter a root file
(R456). -/
def State.loadRoots (s : State) (map : Tab Nat) : Tab Octets :=
  map.filterMap fun e => match s.keySlot e.2 with
    | some k => if k.fabric then some (e.1, k.material) else none
    | none => none

/-- The mode of the issues that use a root-file entry: CHAIN under AES-256, to derive a meter's key under a lane class or the pacer
root (R454), to generate the MAC of a readout class (R88). -/
def rootMode (entry slot : Nat) : Mode :=
  { op := 3, entry := entry, aes256 := true, use := if 32 ≤ slot then 3 else 2 }

/-- The keys that a sheet's root file names have the size and permit the use of its patterns' modes (R431, R446). -/
def State.rootsHold (s : State) (b : Build) : Bool :=
  b.rootMap.all fun e => match s.keySlot e.2 with
    | some k => (k.type == 2) == (rootMode e.1 e.2).aes256 && usePermitted k.use (rootMode e.1 e.2).use
    | none => true

/-- What a tile's loader checks of a received sheet: digest, signature, the bank, residue and ring counts against the claims and
the limits, and the keys of its root file (R124 step 3, R125, R431). -/
def State.loaderHolds (s : State) (b : Build) (tile : Nat) : Bool :=
  sha256 b.image == b.digest && ecdsaVerify curveP256 (s.publicKey 3) b.digest b.signature &&
    s.ringCountsHold b.ring b.claims && bankCountsHold b.claims tile && s.rootsHold b

/-- The idle root bank of the engines written, with the keys that the swap brings (R124 step 3, R127); a check writes none
(R128). -/
def State.writeIdleRoots (s : State) (b : Build) : State :=
  if b.kind = 1 then s
  else { s with fabric := { s.fabric with idleRoots := (s.withInputs b.from).swapKeys.loadRoots b.rootMap } }

/-- LOADER_CHECK_REPORT of a tile, which reaches tile 0 in a management slot: passed, or the claim that failed (R26, R124,
R125). -/
def execLoaderCheckReport (tile : Nat) (pass : Bool) (claim : Nat) (s : State) : Result :=
  match s.compiler.run with
  | none => ok s
  | some b =>
    if b.phase ≠ 2 ∨ s.nTiles ≤ tile ∨ s.managed tile = false then ok s
    else
    let s := s.count tile 25 2
    if pass && s.loaderHolds b tile then
      ok (((s.writeIdleRoots b).setRun
        (some { b with reports := if b.reports.contains tile then b.reports else b.reports ++ [tile] })).tryArm)
    else ok (s.failBuild b 15 (tile * 2 ^ 24 + claim % 256))

/-- COMPILE_TIMEOUT: CompileTimeout from the build's start, before ARMED (R120). -/
def execCompileTimeout (s : State) : Result :=
  match s.compiler.run with
  | none => ok s
  | some b =>
    okIf (decide (b.phase < 3) && s.due b.startedAt (s.obj 0x2102 1 * 1000000)) s
      (s.failBuild b 13 ((s.elapsed - b.startedAt) / 1000000))

/-- BUILD_RETRY: 1 s after an internal build failed, the oldest such trigger; an armed swap goes first (R105, R107). -/
def execBuildRetry (s : State) : Result :=
  if !s.awake then ok s else
  match s.compiler.retry with
  | [] => ok s
  | (trigger, tile, at_) :: rest =>
    okIf (s.internalMayStart && s.due at_ 1000000000) s
      (({ s with compiler := { s.compiler with retry := rest } } : State).internalBuild trigger tile)

/-! ### Swap (R104, R126, R127) -/

/-- The beacon key of line lane k, if it has one, installed again (R127, R452). -/
def State.rekeyLine (s : State) (k : Nat) : State :=
  match (s.lane (k / 4) (k % 4)).on, (s.lane (k / 4) (k % 4)).keySlot with
  | true, some n => s.installBeacon (k / 4) (k % 4) n
  | _, _ => s

/-- The link key of radio lane k in force installed again. -/
def State.rekeyLink (s : State) (k : Nat) : State :=
  match (s.radioLane (k / 8) (k % 8)).keySlot with
  | some n => s.installLink (k / 8) (k % 8) n (s.laneEpoch (k / 8) (s.radioLane (k / 8) (k % 8)))
  | none => s

/-- The link keys of radio lane k, in force and new, installed again. -/
def State.rekeyRadio (s : State) (k : Nat) : State :=
  match (s.radioLane (k / 8) (k % 8)).newKeySlot, s.radio.rolling with
  | some n, some e => (s.rekeyLink k).installLink (k / 8) (k % 8) n e
  | _, _ => s.rekeyLink k

/-- The beacon and link keys of lanes that are on follow the class generations and broadcast epochs brought in (12 R457, R459). -/
def State.rekeyLanes (s : State) : State :=
  if s.fabric.keysCleared then s
  else (List.range (8 * s.nTiles)).foldl State.rekeyRadio ((List.range (4 * s.nTiles)).foldl State.rekeyLine s)

/-- Lanes and ports enabled or disabled between two states: functions that come on start, those that go off are
disabling (R96, R99, R283, R316). -/
def State.laneChanges (s : State) (old : State) : State :=
  let was (index sub : Nat) : Bool := old.obj index sub == 1 && !old.fieldOff
  let is_ (index sub : Nat) : Bool := s.obj index sub == 1 && !s.fieldOff
  let mark (s : State) (f : Nat) : State :=
    { s with fabric := { s.fabric with disabling := Tab.set s.fabric.disabling f s.heat.count }
             place := { s.place with passDue := true } }
  let unmark (s : State) (f : Nat) : State := { s with fabric := { s.fabric with disabling := Tab.erase s.fabric.disabling f } }
  let s1 := (List.range (4 * s.nTiles)).foldl (fun s k =>
    let on := is_ 0x3000 (k + 1)
    if on && !(s.lane (k / 4) (k % 4)).on then (unmark s (portCode 0 (k / 4) (k % 4))).startLine (k / 4) (k % 4)
    else if on then unmark s (portCode 0 (k / 4) (k % 4))
    else if was 0x3000 (k + 1) then mark s (portCode 0 (k / 4) (k % 4)) else s) s
  let s2 := (List.range (8 * s.nTiles)).foldl (fun s k =>
    let on := is_ 0x3800 (k + 1)
    if on && !(s.radioLane (k / 8) (k % 8)).on then (unmark s (portCode 1 (k / 8) (k % 8))).startRadio (k / 8) (k % 8)
    else if on then unmark s (portCode 1 (k / 8) (k % 8))
    else if was 0x3800 (k + 1) then mark s (portCode 1 (k / 8) (k % 8)) else s) s1
  let s3 := (List.range 3).foldl (fun s p =>
    if was 0x3C00 (p + 1) && !is_ 0x3C00 (p + 1) then mark s (portCode 2 0 p)
    else if is_ 0x3C00 (p + 1) then unmark s (portCode 2 0 p) else s) s2
  (List.range 8).foldl (fun s c =>
    if old.obj 0x4140 (c + 1) != 0 && s.obj 0x4140 (c + 1) == 0 then mark s (256 + c)
    else if s.obj 0x4140 (c + 1) == 0 then s else unmark s (256 + c)) s3

/-- A meter's feeder under a feeder table: that it heads, else that of its FeederTag (R407). -/
def Meter.feederIn (x : Meter) (table : Octets) : Nat :=
  match (headsIn table x.number).head? with
  | some (f, _) => f
  | none => x.loss.feederTag

/-- Feeders whose head meters differ between two tables, or that lose or gain a member by it, change their membership; a meter whose
feeder changes is told its FEEDER_TAG, and those that are or were heads get their sums again (R407, R409). -/
def State.feederChanges (s : State) (old : Octets) : State :=
  let new := s.domain 0x4810 1
  if old = new then s
  else
    let heads := (List.range (max (old.length / 32) (new.length / 32))).filter fun k =>
      slice old (32 * k + 12) 12 != slice new (32 * k + 12) 12
    let ms := s.meters.filter fun x => !(headsIn old x.number).isEmpty || !(headsIn new x.number).isEmpty
    let moved := ms.filter fun x => x.feederIn old != x.feederIn new
    let s1 := (heads.map (· + 1) ++ moved.flatMap fun (x : Meter) => [x.feederIn old, x.feederIn new]).eraseDups.foldl
      (fun s f => s.memberChanged f) s
    let s2 := moved.foldl (fun s x => s.sendCommand x.number Cmd.feederTag 0 (be 2 (x.feederIn new))) s1
    ms.foldl (fun s x => s.bindSum x.number) s2

/-- The bank plan of a sheet that has just swapped, after the placement moves (R38, R122, R127). Every bank is on in it: each holds
words of the packet queues of zone F, which a reading of any pipeline may read (R40, R168; DEDUCED, log 14). -/
def State.applyBankPlan (s : State) : State :=
  match s.compiler.sheet with
  | some x =>
    if s.compiler.swapped && s.compiler.swapHeat == s.heat.count then
      s.eachTile fun s t => (List.range 32).foldl (fun s b =>
        s.changeBank t b 0 (Config.bankPlanClear x.inputDigest (t * 32 + b))) s
    else s
  | none => s

/-- Ring slots claimed, in 0x2105 (R133). -/
def State.claimObjects (s : State) : State :=
  s.linkDirections.foldl (fun s d => s.setObj 0x2105 (2 * d.1 - bit01 d.2) (s.linkClaim (s.obj 0x2104 1) d.1 d.2)) s

/-- Generations raised between two states (R457). -/
def State.generationsRaised (s : State) (old : State) : State :=
  (List.range 23).foldl (fun s k =>
    if s.obj 0x5010 (k + 1) ≠ old.obj 0x5010 (k + 1) then s.generationRaised (k + 1) (s.obj 0x5010 (k + 1)) else s) s

/-- A sheet in force from now: root file, lanes, pipelines, feeders, bank plan, objects (R104, R126, R127). `i` are the
inputs it brings into force; its roots are in the idle bank, or come from the key store at bring-up. -/
def State.putSheet (s : State) (x : Sheet) (i : Inputs) (hostCommit idle : Bool) : State :=
  let old := s
  let offBefore : List Nat := match s.compiler.sheet with
    | some y => y.off
    | none => []
  let s1 := (s.withInputs i).swapKeys
  let s2 : State := { s1 with
    fabric := { s1.fabric with
      oldRoots := s1.fabric.roots, idleRoots := []
      roots := if s1.fabric.keysCleared then [] else if idle then s1.fabric.idleRoots else s1.loadRoots x.rootMap }
    compiler := { s1.compiler with
      sheet := some x, stored := some x, swapHeat := s1.heat.count, swapped := true, oldHeld := true }
    dict := { s1.dict with committed := s1.dict.committed || hostCommit } }
  let s3 := ((s2.generationsRaised old).rekeyLanes.laneChanges old).feederChanges (old.domain 0x4810 1)
  let s4 := (x.off.filter fun k => !offBefore.contains k).foldl (fun s k => s.evacuatePipe (k / 8) (k % 8)) s3
  let s5 : State := if offBefore.any (fun k => !x.off.contains k) then
      { s4 with place := { s4.place with passDue := true } } else s4
  (((s5.copyEntries.claimObjects.setObj 0x2100 6 x.generation).setObj 0x2100 7 s.heat.count).setVal 0x2101 1
    (.oct x.digest)).offer 0xE180 0 [x.generation, x.trigger, x.sequence]

/-- The sheet a build makes. -/
def Build.sheet (b : Build) (generation version : Nat) : Sheet :=
  { generation := generation, trigger := b.trigger, sequence := b.sequence, inputDigest := b.inputDigest, digest := b.digest
    signature := b.signature, rootMap := b.rootMap, off := b.off, homeMaps := b.homeMaps, image := b.image
    version := version }

/-- The armed swap at its heat (R124, R126). -/
def State.swapSheet (s : State) (b : Build) : State :=
  let g := nextGeneration s.sheetGeneration
  let host := b.kind == 0 || b.combined
  let s1 := s.putSheet (b.sheet g s.compilerVersion) b.from host true
  let s2 := s1.buildResult 0 g b.startedAt
  let s2 := if b.trigger = 6 then s2.offer 0xE98A 0 [0] else s2
  (s2.setRun none).startWaiting

/-- The armed build whose swap heat has come. -/
def State.swapDue (s : State) : Option Build :=
  match s.compiler.run with
  | some b => if b.phase = 3 ∧ b.swapHeat ≤ s.heat.count then some b else none
  | none => none

/-- SHEET_SWAP at the swap heat. -/
def execSheetSwap (s : State) : Result :=
  match s.swapDue with
  | some b => okIf s.onBoundary s (s.swapSheet b)
  | none => ok s

/-- The old sheet's roots are dropped at the first boundary after the swap heat (R127). -/
def State.releaseOld (s : State) : State :=
  if s.compiler.oldHeld && decide (s.compiler.swapHeat < s.heat.count) then
    { s with compiler := { s.compiler with oldHeld := false }, fabric := { s.fabric with oldRoots := [] } }
  else s

/-- OLD_SHEET_RELEASE (R127). -/
def execOldSheetRelease (s : State) : Result := okIf s.onBoundary s s.releaseOld

/-- A placement pass; a planned move that needs a wider lane home map starts a build (R103, R209). -/
def State.passAndBuild (s : State) : State :=
  let s1 := s.placementPass
  if s1.triggerHolds 4 && s1.internalMayStart && !(s1.compiler.retry.any fun e => e.1 == 4) then
    s1.internalBuild 4 0
  else s1

/-- PLACEMENT_PASS. -/
def execPlacementPass (s : State) : Result := okIf s.passIsDue s s.passAndBuild

end Sys2Proof.Machine
end

