-- ==== Sys2Proof/Machine/Fabric.lean ====
section
/-! DEFINITION. The reading fabric beside its slots: pacer and test slots, pipeline faults, diagnosis, quarantine and
rebuild, disabled functions (02 R80 to R102). -/

namespace Sys2Proof.Machine

/-! ### Pacer and test slots (R89 to R94) -/

/-- A pipeline's heat counts once both its pacer reading and its cipher test have passed in it; the heats counted are
consecutive (R94). -/
def Pipeline.countHeat (p : Pipeline) (heat : Nat) : Pipeline :=
  if p.pacerHeat = heat + 1 ∧ p.katHeat = heat + 1 ∧ p.countedHeat ≠ heat + 1 then
    { p with passes := if p.countedHeat = heat then p.passes + 1 else 1, countedHeat := heat + 1 }
  else p

/-- Pacer and test slots run: the part is ready with a sheet, clocks in range, no clear of the key registers; a diagnosis
does not stop them. -/
def State.testRuns (s : State) (tile pipe : Nat) : Bool :=
  s.partRuns && s.compiler.sheet.isSome && decide (tile < s.nTiles ∧ pipe < 8) && !s.clockStopped tile &&
    !s.fabric.keysCleared

/-- A failure that makes a pipeline FAULTED at the next heat boundary (R92), and a failed self-diagnosis (R93). -/
def State.pipeFails (s : State) (tile pipe check : Nat) : State :=
  (s.setPipe tile pipe { s.pipe tile pipe with failed := true, failedHeat := s.heat.count, passes := 0 }).failCheck check

/-- A pipeline's pacer record as its index stage resolves meter number 0 (R89). -/
def pacerMeter (record : List Word) : Meter := { number := 0, hot := record }

/-- The pacer root (R455). -/
def pacerKey : Octets := (List.range 32).map (BitVec.ofNat 8)

/-- The fixed pacer frame: a reading of meter 0, sealed under the pacer root (R89, R323). -/
def pacerFrame : Octets :=
  let x := pacerMeter pacerRecord
  let key := meterKey pacerKey 0 x.incarnation x.epoch
  let h := be 1 0x11 ++ be 1 0 ++ be 2 x.incarnation ++ be 4 0 ++ be 2 x.epoch ++ be 4 (x.seqTop + 1) ++ be 1 48 ++ be 1 0
  let c := gcmText key (frIv h) ((List.range 48).map Config.pacerByte)
  h ++ c ++ (gcmTag key (frIv h) h c).take 12

/-- The words a slot writes back (R73). -/
def writtenWords : List Nat := [1, 2, 8, 9, 10, 11, 12, 13]

/-- The pacer frame booked in the pacer record, its acknowledgement and its interval record as those of any reading (R75, R89, R333,
R373). -/
def pacerBooked (x : Meter) (f tag : Octets) : PacerReading × Meter :=
  let q := readingReport (frPlain (meterKey pacerKey 0 x.incarnation x.epoch) f)
  let b := bookAhead x q 0
  let w := acceptSeq (frSequence f) x.seqTop x.seqMask
  let x1 := (b.meter.setWord 1 (w.1 * 2 ^ 32 + q.time)).setWord 2 w.2
  ({ outcome := Outcome.booked.code, authenticator := slice (ackFrame x f tag) 16 4
     words := writtenWords.map fun i => BitVec.ofNat 64 (x1.word i)
     record := readingRecord 0 q.time 0 0 (frSequence f) b }, x1)

/-- The inbound program run on the pacer frame under a root key with a pacer record: header, tag, payload, sequence class, the four
empty rule rows of the record, booking, acknowledgement and interval record, as for any reading (R69, R76, R89, R337, R345). -/
def pacerRun (root : Octets) (x : Meter) : PacerReading × Meter :=
  let f := pacerFrame
  let key := meterKey root 0 x.incarnation x.epoch
  let tag := frTag key f
  let ends (o : Outcome) : PacerReading × Meter := ({ outcome := o.code }, x)
  if !headerShape f f.length then ends .malformed
  else if tag.take 12 ≠ slice f 64 12 then ends .authFail
  else if !payloadOk 1 (frPlain key f) then ends .malformed
  else match classifySeq (frSequence f) x.seqTop x.seqMask with
    | .stale => ends .stale
    | .duplicate => ({ outcome := Outcome.duplicate.code, authenticator := slice (ackFrame x f tag) 16 4 }, x)
    | _ =>
      let q := readingReport (frPlain key f)
      if [0, 0, 0, 0].any fun e => ruleFails e x q true q.time then ends .rejectedRule else pacerBooked x f tag

/-- The known answers of the pacer reading (R89). -/
def pacerAnswer : PacerReading := (pacerRun pacerKey (pacerMeter pacerRecord)).1

/-- The words of a pipeline's pacer record. -/
def pacerWords (pipe : Nat) : List (Nat × Nat) := (List.range 16).map fun w => (0, pacerAddress pipe w)

/-- The program of a pacer slot: the record is read from State, and a word of it that reads uncorrectable aborts the slot (R85,
R89). -/
def State.pacerReading (s : State) (tile pipe : Nat) : PacerReading × Meter :=
  let x := pacerMeter (s.pipe tile pipe).record
  match s.firstBad tile (pacerWords pipe) with
  | some _ => ({ outcome := Outcome.eccAbort.code }, x)
  | none => pacerRun (s.root 15) x

/-- What a pacer slot writes and reports: the written words of its record, and an abort as any slot does. -/
def State.pacerWrites (s : State) (tile pipe : Nat) : State :=
  let r := s.pacerReading tile pipe
  let s1 := match s.firstBad tile (pacerWords pipe) with
    | some bad => s.slotAbort tile pipe 0 bad
    | none => s.readCorrected tile (pacerWords pipe)
  let s2 := if r.1.outcome = Outcome.booked.code then
      writtenWords.foldl (fun s w => s.wordWritten 0 tile (pacerAddress pipe w)) s1 else s1
  s2.setPipe tile pipe { s2.pipe tile pipe with record := r.2.words, pacer := r.1 }

/-- The management cores lay the pacer record down again after its slot, since the fixed frame is booked anew in each heat (DESIGN
CHOICE, log 71). -/
def Pipeline.renewed (p : Pipeline) : Pipeline := { p with record := pacerRecord }

/-- The first item that differs from the known answers: 0 outcome, 1 authenticator, 2 words, 3 record. -/
def PacerReading.differs (a b : PacerReading) : Option Nat :=
  if a.outcome ≠ b.outcome then some 0
  else if a.authenticator ≠ b.authenticator then some 1
  else if a.words ≠ b.words then some 2
  else if a.record ≠ b.record then some 3
  else none

/-- PACER_SLOT: the pacer frame runs under root-file entry 15 and its results are compared with the known answers. `good` is false
where the circuit itself erred, in the item given (log 71). -/
def execPacerSlot (tile pipe : Nat) (good : Bool) (item : Nat) (s : State) : Result :=
  if !s.testRuns tile pipe then ok s
  else
    let s0 := s.pacerWrites tile pipe
    let s1 := s0.setPipe tile pipe (s0.pipe tile pipe).renewed
    match (if good then (s.pacerReading tile pipe).1.differs pacerAnswer else some item) with
    | none =>
      ok ((s1.setPipe tile pipe (({ s1.pipe tile pipe with pacerHeat := s.heat.count + 1 } : Pipeline).countHeat s.heat.count)).count
        tile pipe 15)
    | some i => ok ((s1.offer 0xE100 tile [tile, pipe, i]).pipeFails tile pipe 0)

/-- The vectors run through the engine and the multiplier, and compared (R90). -/
def katHolds : Bool :=
  (katAes.all fun v => aesBlock v.1 v.2.1 == v.2.2) && katGhash.all fun v => ghashMul v.2.1 v.1 == v.2.2

/-- The pipeline whose test slot runs the cipher known-answer test in a heat: h mod 8, and every FAULTED or HELD one
(R90, R92). -/
def State.katPipe (s : State) (tile pipe : Nat) : Bool :=
  s.heat.count % 8 == pipe || (s.pipe tile pipe).state != 0

/-- CIPHER_KAT_SLOT: the vectors through the engine and the multiplier, compared with their answers. `good` is false where the
circuit itself erred (log 71). -/
def execCipherKatSlot (tile pipe : Nat) (good : Bool) (s : State) : Result :=
  if !s.testRuns tile pipe || !s.katPipe tile pipe then ok s
  else if good && katHolds then
    ok (s.setPipe tile pipe (({ s.pipe tile pipe with katHeat := s.heat.count + 1 } : Pipeline).countHeat s.heat.count))
  else ok ((s.offer 0xE101 tile [tile, pipe]).pipeFails tile pipe 1)

/-- A march lap's end on a tile: 0x2012.01 is the slowest tile's last lap. -/
def State.marchLap (s : State) (tile start : Nat) : State :=
  let laps := Tab.set s.fabric.marchLaps tile ((s.elapsed - start) / 1000000)
  ({ s with fabric := { s.fabric with marchLaps := laps, marchStart := Tab.set s.fabric.marchStart tile s.elapsed } } :
    State).setObj 0x2012 1 ((laps.map (·.2)).foldl max 0)

/-- The test slot of pipeline (h + 4) mod 8 takes the march step of heat h, once; a pipeline that is FAULTED or HELD tests its
cipher there instead (R90, R92). -/
def State.marchDue (s : State) (tile : Nat) : Bool :=
  decide ((s.pipe tile ((s.heat.count + 4) % 8)).state = 0) && decide (Tab.getD s.fabric.marchHeat tile 0 ≠ s.heat.count + 1)

/-- The word a march step reads and restores, corrected by ECC (R91): an error in it, or contents lost with its bank, are met as by any
read (R177, R181). A bank that is not on is not marched. -/
def State.marchWord (s : State) (tile a : Nat) : State :=
  if s.bankIsOn tile a && s.scrubFinds 0 tile a then s.scrubScratch tile 0 a else s

/-- MARCH_STEP of a tile with the verdict of its patterns: the test slot of pipeline (h + 4) mod 8 takes the next word. A lap begins
with its first step. -/
def execMarchStep (tile : Nat) (good : Bool) (s : State) : Result :=
  if !s.testRuns tile 0 || !s.marchDue tile then ok s
  else
    let a := Tab.getD s.fabric.marchAt tile 0
    let start := Tab.getD s.fabric.marchStart tile s.elapsed
    let s1 := (s.marchWord tile a).count tile 8 7
    let s2 := if good then s1 else (s1.bump 0x2012 3).offer 0xE102 tile [tile, (bankRow a).1, (bankRow a).2]
    let next := if a + 1 < scratchWords then a + 1 else 0
    let s3 : State := { s2 with fabric := { s2.fabric with
      marchAt := Tab.set s2.fabric.marchAt tile next, marchStart := Tab.set s2.fabric.marchStart tile start
      marchHeat := Tab.set s2.fabric.marchHeat tile (s.heat.count + 1) } }
    let s4 := if tile = 0 then s3.setObj 0x2012 2 next else s3
    ok (if next = 0 then s4.marchLap tile start else s4)

/-! ### Pipeline states (R92 to R94) -/

/-- Faults of a pipeline within the last 24 h. -/
def recentFaults (p : Pipeline) (now : Nat) : List Nat := p.faultTimes.filter fun t => decide (now < t + 86400000000000)

/-- A pipeline becomes FAULTED, or HELD at its third fault in 24 h; a build takes it out (R92, R94, R104). A failure of one already
FAULTED or HELD is no further fault toward the third (DESIGN CHOICE, log 72). -/
def State.faultPipe (s : State) (tile pipe : Nat) : State :=
  let p := s.pipe tile pipe
  if p.state = 0 then
    let times := recentFaults p s.elapsed ++ [s.elapsed]
    let st := if 3 ≤ times.length then 2 else 1
    let s1 := (s.setPipe tile pipe { p with state := st, failed := false, passes := 0, faultTimes := times, released := false }).setObj
      0x2010 (tile * 8 + pipe + 1) st
    (s1.passNow.offer 0xE103 tile [tile, pipe, st]).internalBuild 2 tile
  else s.setPipe tile pipe { p with failed := false, passes := 0 }

/-- A failure of an earlier heat makes the pipeline FAULTED, at a heat boundary (R92). -/
def State.faultDue (s : State) (tile pipe : Nat) : Bool :=
  (s.pipe tile pipe).failed && decide ((s.pipe tile pipe).failedHeat < s.heat.count)

/-- PIPELINE_FAULT at a heat boundary. -/
def execPipelineFault (tile pipe : Nat) (s : State) : Result :=
  okIf (decide (tile < s.nTiles) && s.onBoundary && s.faultDue tile pipe) s (s.faultPipe tile pipe)

/-- The pipelines that failed in the heat that ends become FAULTED (R92). -/
def State.faultStep (s : State) : State :=
  s.eachTile fun s t => (List.range 8).foldl (fun s p => if s.faultDue t p then s.faultPipe t p else s) s

/-- A pipeline may return: 1,000 passing heats, and a release where it is HELD (R94). -/
def Pipeline.mayReturn (p : Pipeline) : Bool :=
  !p.failed && decide (1000 ≤ p.passes) && (decide (p.state = 1) || (decide (p.state = 2) && p.released))

/-- A pipeline back in service; a build takes it in (R94, R103). -/
def State.restorePipe (s : State) (tile pipe : Nat) : State :=
  let s1 := (s.setPipe tile pipe { s.pipe tile pipe with state := 0, passes := 0, released := false }).setObj 0x2010
    (tile * 8 + pipe + 1) 0
  (s1.passNow.offer 0xE104 tile [tile, pipe]).internalBuild 2 tile

/-- PIPELINE_RESTORE. -/
def execPipelineRestore (tile pipe : Nat) (s : State) : Result :=
  okIf (decide (tile < s.nTiles) && (s.pipe tile pipe).mayReturn) s (s.restorePipe tile pipe)

/-- Every HELD pipeline released to the 1,000-heat condition. -/
def pipelineRelease (s : State) : Done :=
  Done.ok { s with fabric := { s.fabric with
    pipes := s.fabric.pipes.map fun e => (e.1, if e.2.state = 2 then { e.2 with released := true } else e.2) } }

/-- PIPELINE_RELEASE. -/
def execPipelineRelease (r : Req) (s : State) : Result := ok (udxWrite s r 0x2013 1 0 (be 1 1) fun s _ => pipelineRelease s)

/-! ### Diagnosis (R95) -/

/-- A full-package diagnosis starts on a standby or in SERVICE (R95). Its slots stop from the next heat boundary, and a standby
becomes DIAGNOSING. -/
def State.startDiagnosis (s : State) : State :=
  let s1 : State := { s with
    fabric := { s.fabric with diagnosis := some { startedAt := s.elapsed } }
    heat := { s.heat with halts := Tab.set s.heat.halts 1 (s.heat.count + 1) }
    pair := { s.pair with state := if s.isStandby then 6 else s.pair.state } }
  s1.setObj 0x2018 2 (s1.obj 0x2018 2 / 256 * 256 + s1.obj 0x2018 2 % 128)

/-- DiagnosisRequest written 1: otherwise BUSY with the longest hint, and so while a diagnosis runs (DESIGN CHOICE, log 73). -/
def diagnosisRequest (s : State) : Done :=
  if (s.isStandby = true ∨ s.boot.lifeCycle = 3) ∧ s.fabric.diagnosis.isNone = true then Done.ok s.startDiagnosis
  else { reply := replyHint Status.busy 60000, state := s }

/-- DIAGNOSIS_REQUEST. -/
def execDiagnosisRequest (r : Req) (s : State) : Result := ok (udxWrite s r 0x2018 1 0 (be 1 1) fun s _ => diagnosisRequest s)

/-- The result of a diagnosis: the tiles that failed and the kinds of check (R95). -/
def diagnosisWord (tiles : Nat) (ring pacer cipher march : Bool) : Nat :=
  tiles % 256 * 2 ^ 24 + 128 + 8 * bit01 ring + 4 * bit01 pacer + 2 * bit01 cipher + bit01 march

/-! ### Quarantine and rebuild (R86, R380) -/

/-- The DRAM copy of a word of the index, the tables or the sums: in the management working memory, in the order of the
scratchpad's addresses (R86, R496, log 14). -/
def tableCopy (a : Nat) : Nat := 392 * 1048576 + 8 * a

/-- An uncorrectable word taken by the management cores: the meter whose hot record holds it is quarantined; an index, rule, map or
sum word is rewritten from its copy (R86). -/
def State.wordFound (s : State) (tile a : Nat) : State :=
  if regionOf a = 0 then
    ({ s with meters := s.meters.map fun x =>
        if x.home = tile ∧ x.record = (a - 0x100000) / 16 then { x with eccQuarantine := true } else x } : State).failCheck 2
  else if 2 ≤ regionOf a ∧ regionOf a ≤ 4 then s.dramToScratch tile (tableCopy a) [a]
  else s

/-- The pipelines of a tile whose event queue has a descriptor of an uncorrectable word at its head. -/
def State.eccPipe (s : State) (tile : Nat) : Option Nat :=
  (List.range 8).find? fun p => match s.eventPacket tile p with
    | some pk => field (packetHead pk) 15 8 == 3
    | none => false

/-- QUARANTINE_ON_ECC: a 0xE105 descriptor of a tile, recorded, or the oldest word found from LastEccFault (R85, R86). -/
def execQuarantineOnEcc (tile : Nat) (s0 : State) : Result :=
  if !s0.awake then ok s0 else
  let s := (List.range 8).foldl (fun s p => s.events tile p) s0
  match s.eccPipe tile with
  | some p =>
    (match s.eventHead tile p 3 with
     | some (d, b) =>
       ok (((s.takeEvent tile p).offer 0xE105 tile [tile, p, d % 256, field d 63 32]).wordFound tile (fieldAt b 0 4))
     | none => ok s)
  | none => match s.fabric.eccSeen.find? fun e => e.1 == tile with
    | none => ok s
    | some e =>
      ok (({ s with fabric := { s.fabric with eccSeen := s.fabric.eccSeen.erase e } } : State).wordFound tile e.2.1)

/-- The journal entries of a meter after its checkpoint, oldest first: those in pages past its page's position, then the
open ones (R380, R494). -/
def State.entriesAfter (s : State) (x : Meter) : List JournalEntry :=
  let pos := match Tab.find? s.store.checkpoints x.number with
    | some c => c.position
    | none => 0
  (((s.billing.pages.filter fun p => decide (pos ≤ p.number)).flatMap (·.entries)) ++ Tab.getD s.billing.openEntries x.home []).filter fun e => e.meter == x.number

/-- The words of a hot record rebuilt from the last BOOK entry after the checkpoint, or from the billing record (R380).
`seq` is the sequence and `time` the meter time where no BOOK entry follows. -/
def State.rebuiltHot (s : State) (x : Meter) (seq time : Nat) : List (Nat × Nat) :=
  let book := ((s.entriesAfter x).filter fun e => e.kind == 1).getLast?
  let body : List Nat := match book with
    | some e => e.body
    | none => []
  let total (r : Nat) : Nat := match book with
    | some _ => body.getD (4 + r) unsetTotal
    | none => if x.billing.base r = unsetBase then unsetTotal else x.billing.base r
  let charge := match book with
    | some _ => body.getD 12 0
    | none => x.billing.chargeBase
  let t := s.tariffNow x.slotMap
  let session := match book with
    | some _ => body.getD 2 0 * 4294967296 + body.getD 3 0
    | none => seq * 4294967296 + time
  [(1, session), (2, 1), (8, total 0 * 65536), (9, total 1 * 65536), (10, total 2 * 65536), (11, total 3 * 65536),
    (12, charge), (13, t * 2 ^ 60 + t * 2 ^ 56)]

/-- A word of a hot record reads correctable. -/
def State.wordReads (s : State) (x : Meter) (w : Nat) : Bool :=
  s.eccAt 0 x.home (hotAddress x.record w) != 2

/-- A quarantined hot record rebuilt and its bit cleared (R86, R380). -/
def State.rebuild (s : State) (x : Meter) : State :=
  let reads := s.wordReads x 1
  let ws := s.rebuiltHot x (if reads then x.seqTop else 0) (if reads then x.lastTime else 0)
  let s1 := (s.hotClean x).writeHot x.number ws
  let s2 := s1.modMeter x.number fun y =>
    { y.rebased with
      eccQuarantine := false, billing := { y.rebased.billing with periodFlags := y.billing.periodFlags ||| flagIncomplete } }
  s2.offer 0xE106 x.home [x.number]

/-- HOT_RECORD_REBUILD. -/
def execHotRecordRebuild (meter : Nat) (s : State) : Result :=
  if !s.awake then ok s else
  match s.meter? meter with
  | none => ok s
  | some x => okIf x.eccQuarantine s (s.rebuild x)

/-! ### Disabled functions (R96 to R99) -/

/-- The receive queues of a lane. -/
def laneReceive (port : Nat) : List Nat :=
  if portKind port = 0 then (List.range 3).map fun c => 0x58 + 3 * portNumber port + c else [0x68 + portNumber port]

/-- The head frame of a disabled lane's receive queue replayed where another path serves its meter, else dropped. The results:
whether the frame has left the queue (a full or open target makes it wait, R151, R154), the state, and the number dropped. -/
def State.replayReceived (s : State) (port q : Nat) (pk : List (Word × Byte)) (n : Nat) : Bool × State × Nat :=
  let t := portTile port
  let path : Option Meter := (s.meter? (packetMeter pk)).filter fun x => x.served && x.port != port
  match path with
  | some x =>
    let r := s.routeFrame t x.home x.group pk .replay true
    (r.1, if r.1 then (r.2.drainPacket t q Producer.replay.code).2 else r.2, n)
  | none => (true, (s.drainPacket t q Producer.replay.code).2, n + 1)

/-- The frames of a disabled lane's receive queue replayed into their meters' groups where a new path serves them; the
others are dropped (R97). -/
def State.replayLane (s : State) (port q n : Nat) : Bool × State × Nat :=
  (packetsOf 4096 (s.queue (portTile port) q).unread).foldl (fun a _ =>
    if a.1 then
      (match a.2.1.readHead (portTile port) q Producer.replay.code with
       | (some pk, _) => a.2.1.replayReceived port q pk a.2.2
       | (none, s1) => (false, s1, a.2.2))
    else a) (true, s, n)

/-- Commands waiting for a disabled lane withdrawn, acknowledgements discarded (R98). -/
def State.withdrawLane (s : State) (port : Nat) : State :=
  s.drainQueue (portTile port) (transmitQueue port) Producer.forwarder.code fun s pk => s.dropEmission pk

/-- Queues of a function reset (R158). -/
def State.resetQueues (s : State) (tile : Nat) (qs : List Nat) : State :=
  qs.foldl (fun s q => s.setQueue tile q (s.queue tile q).reset) s

/-- A frame that has only partly arrived is dropped to its END, as R156 provides (R97). -/
def State.dropPartly (s : State) (tile q : Nat) : State := if (s.queue tile q).openBy.isSome then s.dropOpen tile q 0 else s

/-- The frames a disabled lane has received replayed, with the number dropped. -/
def State.replayLanes (s : State) (f : Nat) : Bool × State × Nat :=
  (laneReceive f).foldl (fun a q =>
    let r := (a.2.1.dropPartly (portTile f) q).replayLane f q a.2.2
    (a.1 && r.1, r.2)) (true, s, 0)

/-- A lane or tunnel port drained: received frames replayed, commands withdrawn; once nothing waits its queues are reset (R96
to R98, R158). The first result tells whether it is drained. -/
def State.drainPort (s : State) (f : Nat) : Bool × State :=
  let a := if f < 128 then s.replayLanes f else (true, s, 0)
  let b := if a.2.2 = 0 then a.2.1 else a.2.1.offer 0xE10B (portTile f) [f, a.2.2]
  let c := b.withdrawLane f
  let d := c.resetQueues (portTile f) (transmitQueue f :: (if f < 128 then laneReceive f else []))
  (a.1, if !a.1 then c
        else if f < 64 then d.stopLine (portTile f) (portNumber f)
        else if f < 128 then d.stopRadio (portTile f) (portNumber f) else d)

/-- A disabled function's queues drained and reset, the function DISABLED (R96 to R99). A readout class has no queue of its own, since
its readouts share the pipelines' queues with other classes: it is DISABLED without waiting for those asked for before (DESIGN
CHOICE, log 86). -/
def State.disableFunction (s : State) (f : Nat) : State :=
  let r := if f < 256 then s.drainPort f else (true, s)
  if !r.1 then r.2
  else
    let s1 : State := { r.2 with fabric := { r.2.fabric with disabling := Tab.erase r.2.fabric.disabling f } }
    (s1.offer 0xE10C (if f < 128 then portTile f else 0) [f]).internalBuild 3 (if f < 128 then portTile f else 0)

/-- FUNCTION_DISABLED: once placement has moved the function's meters. -/
def execFunctionDisabled (f : Nat) (s : State) : Result :=
  okIf (Tab.has s.fabric.disabling f && !(decide (f < 256) && s.meters.any fun x => x.served && x.port == f)) s
    (s.disableFunction f)

/-! ### Rate limits (R80) -/

/-- EVENT_RATE_INTERVAL: an interval over without suppressed occurrences is forgotten; one with them gives their count to
the next occurrence. -/
def execEventRateInterval (code tile sub : Nat) (s : State) : Result :=
  let k := limiterKey code tile sub
  match Tab.find? s.fabric.limiters k with
  | none => ok s
  | some l =>
    okIf (decide (l.since + s.obj 0x2014 1 ≤ s.heat.count) && decide (l.suppressed = 0)) s
      { s with fabric := { s.fabric with limiters := Tab.erase s.fabric.limiters k } }

end Sys2Proof.Machine
end

