-- ==== Sys2Proof/Machine/Storage.lean ====
section
/-! DEFINITION. The flash translation: pools, the interval ring, segments, folding, garbage collection, checkpoints and
restore (13 R471 to R502), with the drain of cold-store records (R386, R481). -/

namespace Sys2Proof.Machine

/-- The flash of a tile. -/
def State.flash (s : State) (t : Nat) : TileStore := Tab.getD s.store.tiles t {}

/-- The flash of a tile stored. -/
def State.setFlash (s : State) (t : Nat) (x : TileStore) : State :=
  { s with store := { s.store with tiles := Tab.set s.store.tiles t x } }

/-! ### Pools and format (R472, R478 to R480) -/

/-- Blocks fitted per tile. -/
def nandBlocks : Nat := Config.nandDies * Config.nandBlocksPerDie

/-- The integrator has loaded the SLC feature bytes (R472). -/
def State.nandUsable (s : State) : Bool := (s.objOct 0x6001 1).any (· != 0)

/-- Spares of a zone of n blocks (R478). -/
def zoneSpares (n : Nat) : Nat := divUp (n * 5) 100

/-- SLC pages of a block (R471). -/
def slcPages : Nat := Config.nandPagesPerBlock / 3

/-- Pages of a per-meter area: 21 records a page for the meter capacity (R480). -/
def meterPages : Nat := divUp 262144 21

/-- Pages left for the journal ring of a zone of n blocks (R480). -/
def journalPages (tile zone periods : Nat) : Nat :=
  (zone - zoneSpares zone - 2) * slcPages - 2 * meterPages - periods * meterPages - (if tile = 0 then 116 * 64 else 0)

/-- The zone of a number of good blocks keeps the journal ring at 1 GiB or more (R479). -/
def State.zoneLargeEnough (s : State) (tile good periods : Nat) : Bool :=
  decide (65536 ≤ journalPages tile (good * s.obj 0x6002 1 / 1000) periods)

/-- Good blocks of a tile. -/
def State.goodBlocks (s : State) (t : Nat) : Nat := nandBlocks - (s.flash t).retired.length

/-- A tile's record zone erased: its journal, checkpoints and period records (R479, R480). The configuration store, boot images and
events of tile 0 are written again from what the part holds (DEDUCED, log 79). -/
def State.eraseZone (s : State) (t : Nat) : State :=
  let here := (s.meters.filter fun x => x.home == t).map (·.number)
  { s with
    store := { s.store with
      segments := s.store.segments.filter fun g => g.tile != t
      checkpoints := s.store.checkpoints.filter fun e => !here.contains e.1
      oldCheckpoints := s.store.oldCheckpoints.filter fun e => !here.contains e.1 }
    billing := { s.billing with
      pages := s.billing.pages.filter fun p => p.tile != t
      periods := s.billing.periods.filter fun p => !here.contains p.meter } }

/-- A tile formatted (R478, R479). -/
def State.formatTile (s : State) (t : Nat) : State :=
  let good := s.goodBlocks t
  let zone := good * s.obj 0x6002 1 / 1000
  let slc := good * s.obj 0x6002 2 / 1000
  let shared := divUp (good * 20) 1000
  let tlc := good - zone - slc - shared
  let x := s.flash t
  let s1 := s.setFlash t
    { formatted := true, good := good, zone := zone, slc := slc, shared := shared, tlc := tlc, zoneSpares := zoneSpares zone
      erases := x.erases, formats := x.formats + 1, retired := x.retired, diesGone := x.diesGone, timeouts := x.timeouts
      hour := x.hour, hourCount := x.hourCount, lastHourCount := x.lastHourCount, ringAt := x.ringAt
      ring := x.ring.map fun r => { r with logged := false, saved := false }
      zoneWrites := x.zoneWrites, zoneDays := x.zoneDays, writeSeq := x.writeSeq }
  ((((s1.eraseZone t).setObj 0x6005 (t + 1) 0).setObj 0x6006 (t + 1) 0).setObj 0x600B (t + 1) 0).offer 0xE68A t [t, zone, slc, shared, tlc]

/-- FormatRequest written. -/
def formatRequest (tile : Nat) (s : State) : Done :=
  if tile ≠ 255 ∧ s.nTiles ≤ tile then Done.refuse s Status.outOfRange
  else
    let ts := if tile = 255 then List.range s.nTiles else [tile]
    if s.boot.lifeCycle = 2 ∨ s.boot.lifeCycle = 4 then Done.refuse s Status.refused
    else if !s.nandUsable || ts.any fun t => !s.zoneLargeEnough t (s.goodBlocks t) (s.obj 0x6004 4) then
      Done.refuse s Status.refused
    else Done.ok (ts.foldl (fun s t => s.formatTile t) s)

/-- FORMAT_REQUEST. -/
def execFormatRequest (r : Req) (tile : Nat) (s : State) : Result :=
  ok (udxWrite s r 0x600A 1 0 (be 1 tile) fun s _ => formatRequest tile s)

/-- A channel of a tile that runs SDR timing mode 5 (R473). -/
def State.sdrChannel (s : State) (t c : Nat) : Bool := s.fit.sdrChannels.contains (2 * t + c)

/-- The NAND of a tile at bring-up: not fitted without its feature bytes; its channels trained; formatted where it holds no zone
directory (R472, R473, R479). -/
def State.mountNand (s0 : State) (t : Nat) : State :=
  let s := if s0.nandUsable then ((List.range 2).filter (s0.sdrChannel t)).foldl (fun s c => s.offer 0xE689 t [t, c]) s0 else s0
  if !s.nandUsable then s.setObj 0x6005 (t + 1) 2
  else if !(s.flash t).formatted then s.formatTile t
  else if s.obj 0x6005 (t + 1) = 1 then s else s.setObj 0x6005 (t + 1) 0

/-- A tile's buffer and pool take writes: fitted and NORMAL (R472, R498). -/
def State.nandWrites (s : State) (t : Nat) : Bool := decide (t < s.nTiles) && s.awake && s.nandUsable && decide (s.obj 0x6005 (t + 1) = 0) && (s.flash t).formatted

/-! ### Blocks (R478, R486, R498) -/

/-- Size of a pool, pages of a block, blocks in use and free. -/
def TileStore.poolSize (x : TileStore) (tlc : Bool) : Nat := if tlc then x.tlc else x.slc
def poolPages (tlc : Bool) : Nat := if tlc then Config.nandPagesPerBlock else slcPages
def TileStore.used (x : TileStore) (tlc : Bool) : Nat := x.blocks.countP fun b => b.2.tlc == tlc
def TileStore.free (x : TileStore) (tlc : Bool) : Nat := x.poolSize tlc - x.used tlc

/-- Valid pages of a block. -/
def Block.valid (b : Block) : Nat := b.pages.countP (·.valid)

/-- A block every page of which is programmed (R491). -/
def Block.closed (b : Block) : Bool := decide (poolPages b.tlc ≤ b.pages.length)

/-! ### Pages (R474) -/

/-- The 16 bytes of metadata of code word j of a page: pool, logical page number, write sequence and CRC (R474). Their order and widths
are not stated (PRESUMED, log 79). -/
def NandPage.metadata (p : NandPage) (tlc : Bool) (j : Nat) : Octets :=
  be 1 (if tlc then 2 else 1) ++ be 4 p.logical ++ be 6 p.seq ++ be 2 (p.crc.getD j 0) ++ be 3 0

/-- The pages that records take, 512 each, the last padded with zero records (R482, R483). -/
def recordPages (owner logical : Nat) (rs : List RingRecord) : List NandPage :=
  (List.range (divUp rs.length 512)).map fun i =>
    let data := padTo 16384 (((rs.drop (512 * i)).take 512).flatMap fun r => unpackWords r.words)
    { owner := owner, index := i, logical := (logical + i) % 2 ^ 32
      crc := (List.range 4).map fun j => (Config.nandCrc (slice data (4096 * j) 4096)).toNat }

/-- The lowest block number not in use and not retired. -/
def TileStore.freeNumber (x : TileStore) : Nat :=
  ((List.range nandBlocks).find? fun n => !Tab.has x.blocks n && !x.retired.contains n).getD 0

/-- A page programmed in a pool's open block, or in a free one, with the next write sequence; none without room (R474). -/
def TileStore.program (x : TileStore) (tlc : Bool) (now : Nat) (p : NandPage) : Option TileStore :=
  let q := { p with seq := x.writeSeq, valid := true }
  let y := { x with writeSeq := (x.writeSeq + 1) % 2 ^ 48 }
  match List.find? (fun e : Nat × Block => e.2.tlc == tlc && !e.2.closed) x.blocks with
  | some (k, b) => some { y with blocks := Tab.set x.blocks k { b with pages := b.pages ++ [q], programmedAt := now } }
  | none =>
    if x.free tlc = 0 then none
    else some { y with blocks := Tab.set x.blocks x.freeNumber { tlc := tlc, pages := [q], programmedAt := now } }

/-- Pages programmed in a pool one after the other; the second part is the pages that found no block. -/
def TileStore.write (x : TileStore) (tlc : Bool) (now : Nat) : List NandPage → TileStore × List NandPage
  | [] => (x, [])
  | p :: ps => match x.program tlc now p with
    | some y => TileStore.write y tlc now ps
    | none => (x, p :: ps)

/-- Erases of a block counted. -/
def TileStore.erased (x : TileStore) (tlc : Bool) (ks : List Nat) : TileStore :=
  { x with erases := ks.foldl (fun t k => Tab.modify t (2 * k + bit01 tlc) 0 (· + 1)) x.erases }

/-- The pages of an owner in a pool invalid: blocks left without a valid page are erased. -/
def TileStore.drop (x : TileStore) (tlc : Bool) (owner : Nat) : TileStore :=
  let mark (p : NandPage) : NandPage := if p.owner = owner then { p with valid := false } else p
  let bs := x.blocks.map fun e => (e.1, if e.2.tlc = tlc then { e.2 with pages := e.2.pages.map mark } else e.2)
  let gone := (bs.filter fun e => e.2.tlc == tlc && decide (e.2.valid = 0)).map (·.1)
  ({ x with blocks := bs.filter fun e => !gone.contains e.1 } : TileStore).erased tlc gone

/-- A segment deleted. -/
def State.deleteSegment (s : State) (g : Segment) : State :=
  let s1 : State := { s with store := { s.store with segments := s.store.segments.filter fun h => h.id != g.id } }
  s1.setFlash g.tile ((s1.flash g.tile).drop g.tlc g.id)

/-- The oldest segment of a tile's pool older than HistoryMinDays (R486). -/
def State.oldSegment (s : State) (t : Nat) (tlc : Bool) : Option Segment :=
  s.store.segments.find? fun g => g.tile == t && g.tlc == tlc && decide ((g.hour + 1) * 3600 + s.obj 0x6004 2 * 86400 < s.tbSeconds)

/-- The tile's NAND exhausted: READ_ONLY (R498). `write` names the write refused: 1 ring log, 2 segment, 3 fold (log 79). -/
def State.exhausted (s : State) (t pool write : Nat) : State :=
  ((s.setObj 0x6005 (t + 1) 1).setObj 0x600B (t + 1) (putBit (s.obj 0x600B (t + 1)) 0 true)).offer 0xE680 t [t, pool, write]

/-- A block moved from the shared blocks to a pool (R478). -/
def State.takeShared (s : State) (t : Nat) (tlc : Bool) : State :=
  let y := s.flash t
  s.setFlash t (if tlc then { y with shared := y.shared - 1, tlc := y.tlc + 1 }
    else { y with shared := y.shared - 1, slc := y.slc + 1 })

/-- Erases of a block since the part was made. -/
def TileStore.eraseCount (x : TileStore) (tlc : Bool) (k : Nat) : Nat := x.formats + Tab.getD x.erases (2 * k + bit01 tlc) 0

/-- The score of a block in thousandths (R491). -/
def State.gcScore (s : State) (x : TileStore) (k : Nat) (b : Block) : Int :=
  let cap := poolPages b.tlc
  let age := min (s.elapsed - b.programmedAt) 2592000000000000
  (s.obj 0x6003 1 * (cap - b.valid) / cap : Nat) + (s.obj 0x6003 2 * age / 2592000000000000 : Nat) -
    (s.obj 0x6003 3 * x.eraseCount b.tlc k / (if b.tlc then 3000 else 100000) : Nat)

/-- The best of some blocks: the highest score, then the lowest number (R491). -/
def State.gcBest (s : State) (x : TileStore) (bs : List (Nat × Block)) : Option (Nat × Block) :=
  bs.foldl (fun best e => match best with
    | none => some e
    | some f => if s.gcScore x f.1 f.2 < s.gcScore x e.1 e.2 then some e else best) none

/-- The block garbage collection takes next: one marked for refresh, then a closed one by score (R476, R491). -/
def State.gcBlock (s : State) (t : Nat) (tlc : Bool) : Option (Nat × Block) :=
  let x := s.flash t
  let bs := x.blocks.filter fun e => e.2.tlc == tlc
  let refresh := bs.filter fun e => e.2.refresh
  s.gcBest x (if refresh.isEmpty then bs.filter fun e => e.2.closed else refresh)

/-- A block's valid pages relocated and the block erased. -/
def State.relocate (s : State) (t : Nat) (k : Nat) (b : Block) : State :=
  let x := s.flash t
  let y := ({ x with blocks := Tab.erase x.blocks k } : TileStore).erased b.tlc [k]
  let s1 := (s.setFlash t (y.write b.tlc s.elapsed (b.pages.filter (·.valid))).1).countN t 12 0 b.valid
  if b.refresh then s1.count t 12 6 else s1

/-- The block whose relocation reclaims pages: a closed one with an invalid page (R486, R498). -/
def State.reclaimable (s : State) (t : Nat) (tlc : Bool) : Option (Nat × Block) :=
  let x := s.flash t
  s.gcBest x (x.blocks.filter fun e => e.2.tlc == tlc && e.2.closed && decide (e.2.valid < e.2.pages.length))

/-- Pages written to a pool. Where no block is free, garbage collection reclaims one, else the oldest segment past HistoryMinDays is
deleted, else a shared spare is taken; the write that finds none makes the tile READ_ONLY (R486, R498). The Bool tells whether
they were written. -/
def State.writePages (s : State) (t : Nat) (tlc : Bool) (why fuel : Nat) (ps : List NandPage) : Bool × State :=
  match fuel with
  | 0 => (false, s.exhausted t (if tlc then 3 else 1) why)
  | f + 1 =>
    let w := (s.flash t).write tlc s.elapsed ps
    if w.2.isEmpty then
      (true, (s.setFlash t { w.1 with nextLogical := (w.1.nextLogical + ps.length) % 2 ^ 32 }).countN t 12 0 ps.length)
    else match s.reclaimable t tlc with
      | some (k, b) => State.writePages (s.relocate t k b) t tlc why f ps
      | none =>
        match s.oldSegment t tlc with
        | some g => State.writePages (s.deleteSegment g) t tlc why f ps
        | none =>
          if 0 < (s.flash t).shared then State.writePages (s.takeShared t tlc) t tlc why f ps
          else (false, s.exhausted t (if tlc then 3 else 1) why)

/-- Free blocks of a pool are below a share in thousandths. -/
def TileStore.below (x : TileStore) (tlc : Bool) (share : Nat) : Bool := decide (x.free tlc * 1000 < share * x.poolSize tlc)

/-- Garbage collection goes ahead of segment writes and folds while the free blocks are below half of GcStartFree (R491). -/
def State.gcAhead (s : State) (t : Nat) (tlc : Bool) : State :=
  let x := s.flash t
  if x.free tlc * 2000 < s.obj 0x6003 4 * x.poolSize tlc then
    (match s.reclaimable t tlc with
     | some (k, b) => s.relocate t k b
     | none => s)
  else s

/-! ### Page reads (R475, R476) -/

/-- An uncorrectable page of a block: the segment of that pool lacks it (R475, R489). Pools as in BLOCK_RETIRE. -/
def State.pageUncorrectable (s : State) (tile pool block page : Nat) : State :=
  let own : Option NandPage := (Tab.find? (s.flash tile).blocks block).bind fun b => b.pages[page]?
  (({ s with store := { s.store with segments := s.store.segments.map fun g => match own with
      | some p => if g.tile = tile ∧ g.tlc = decide (pool = 2) ∧ p.valid = true ∧ p.owner = g.id then { g with lostPages := g.lostPages ++ [p.index] } else g
      | none => g } } : State).count tile 12 4).offer 0xE682 tile [tile, pool, block * Config.nandPagesPerBlock + page]

/-- The number of a page of a block on its tile. -/
def pageNumber (block page : Nat) : Nat := block * Config.nandPagesPerBlock + page

/-- A page whose read has ended is no longer one to read again (R644). -/
def State.pageEnded (s : State) (t block page : Nat) : State :=
  s.setFlash t { s.flash t with rereads := (s.flash t).rereads.filter (· != pageNumber block page) }

/-- A block marked for refresh (R476). -/
def State.markRefresh (s : State) (t k : Nat) : State :=
  let x := s.flash t
  s.setFlash t { x with blocks := x.blocks.map fun e => if e.1 = k then (e.1, { e.2 with refresh := true }) else e }

/-- A page read. The stage at which its code words decode, and whether more than 48 bits were corrected, are free values: 0 to 2 the
stages in their order, 3 none (R475, R476; log 79). -/
def State.readPage (s : State) (t : Nat) (tlc : Bool) (block page : Nat) : State :=
  let v := Config.freeNat s.freeCount
  let s1 := ((s.drew 1).count t 12 1).pageEnded t block page
  if v % 4 = 3 then s1.pageUncorrectable t (if tlc then 2 else 1) block page
  else
    let s2 := if v % 4 = 1 then s1.count t 12 2 else if v % 4 = 2 then s1.count t 12 3 else s1
    if v % 4 ≠ 0 ∨ v / 4 % 2 = 1 then s2.markRefresh t block else s2

/-- The places of an owner's valid pages in a pool that satisfy a condition on their number. -/
def TileStore.pagesOf (x : TileStore) (tlc : Bool) (owner : Nat) (want : Nat → Bool) : List (Nat × Nat) :=
  (x.blocks.filter fun e => e.2.tlc == tlc).flatMap fun e =>
    (e.2.pages.zipIdx.filter fun p => p.1.valid && p.1.owner == owner && want p.1.index).map fun p => (e.1, p.2)

/-- Pages of a segment read, but those already found uncorrectable. -/
def State.readSegment (s : State) (g : Segment) (want : Nat → Bool) : State :=
  ((s.flash g.tile).pagesOf g.tlc g.id fun i => want i && !g.lostPages.contains i).foldl
    (fun s e => s.readPage g.tile g.tlc e.1 e.2) s

/-- An owner's pages of the TLC pool read back: whether each decodes at stage 1, a free value for each (R475, R490). -/
def State.readBack (s : State) (t owner : Nat) : Bool × State :=
  ((s.flash t).pagesOf true owner fun _ => true).foldl (fun r e =>
    (r.1 && decide (Config.freeNat r.2.freeCount % 4 = 0), r.2.readPage t true e.1 e.2)) (true, s)

/-- A written owner's pages kept where its pool is the SLC buffer or each read back; else they are dropped, and the source stays for
the next attempt (R490). -/
def State.verifyPages (s : State) (t : Nat) (tlc : Bool) (owner : Nat) : Bool × State :=
  if tlc then
    let r := s.readBack t owner
    (r.1, if r.1 then r.2 else r.2.setFlash t ((r.2.flash t).drop true owner))
  else (true, s)

/-! ### The interval ring (R481, R482, R487, R488) -/

/-- Records the interval ring holds (R481). -/
def ringCapacity : Nat := 75497472

/-- A record written to a tile's ring through window 0; the oldest goes when the ring is full, counted when it is saved nowhere (R481,
R487). -/
def State.ringPush (s : State) (t : Nat) (r : RingRecord) : State :=
  let x := s.flash t
  let y := { x with
    ringAt := (x.ringAt + 1) % ringCapacity
    ring := (if x.ring.length < ringCapacity then x.ring else x.ring.drop 1) ++ [r], hourCount := x.hourCount + 1
    pageAt := if x.ring.any fun e => !e.logged then x.pageAt else s.elapsed }
  let s1 := (s.setFlash t y).windowWrite t 0 (32 * x.ringAt) (unpackWords r.words)
  let lost := decide (ringCapacity ≤ x.ring.length) && (match x.ring.head? with
    | some e => !e.logged && !e.saved
    | none => false)
  if lost then
    ((s1.count t 12 8).setObj 0x600B (t + 1) (putBit (s1.obj 0x600B (t + 1)) 3 true)).offerLimited 0xE684 t 0 [t, 1]
  else s1

/-- The record of words drained now. -/
def State.ringRecord (s : State) (kind : Nat) (ws : List Word) : RingRecord :=
  let v := recordNat ws
  { words := ws, kind := kind, meter := field v 255 224, time := field v 223 192
    seq := if kind = 1 then field v 159 128 else field v 31 0, hour := s.tbSeconds / 3600, drainedAt := s.tbSeconds }

/-- The lowest slot number of a tile's DRAM tier history that no meter holds (R484). -/
def State.freeTierSlot (s : State) (t : Nat) : Nat :=
  let used := s.store.tierSlots.filterMap fun e => if e.1 / 4294967296 = t then some e.2.slot else none
  ((List.range (used.length + 1)).find? fun n => !used.contains n).getD 0

/-- The DRAM address of record n of a slot of the tier history (R484, R496). -/
def tierAddress (slot n : Nat) : Nat := 3048 * 1048576 + 65536 * slot + 32 * (n % 2048)

/-- A tier 0 meter's record copied into its DRAM slot, over the oldest where the slot is full (R484). -/
def State.tierCopy (s : State) (t : Nat) (r : RingRecord) : State :=
  match s.meter? r.meter with
  | some x =>
    if x.tier = 0 ∧ x.home = t then
      let k := routeKey t r.meter
      let h := Tab.getD s.store.tierSlots k { slot := s.freeTierSlot t }
      let h' : TierSlot := { h with written := h.written + 1, records := (r :: h.records).take 2048 }
      let s1 : State := { s with store := { s.store with tierSlots := Tab.set s.store.tierSlots k h' } }
      s1.dramWrite t (tierAddress h.slot h.written) (unpackWords r.words)
    else s
  | none => s

/-- One cold-store record drained: demand, the ring, the tier slot (R386, R481, R484). -/
def State.drainRecord (s : State) (t : Nat) (kind : Nat) (ws : List Word) : State :=
  let r := s.ringRecord kind ws
  (((s.drainDemand (recordNat ws) (kind == 1)).ringPush t r).tierCopy t r).modMeter r.meter fun x => { x with drained := true }

/-- COLD_STORE_DRAIN: the head record of a pipeline's cold-store queue; the transfer ends with a fence (R185). -/
def execColdStoreDrain (tile pipe : Nat) (s : State) : Result :=
  if s.dramHeld tile then ok s else
  match s.drainPacket tile (0x30 + pipe) Producer.dma.code with
  | (none, s1) => ok s1
  | (some pk, s1) =>
    let kinds := Tab.getD s1.billing.recordKinds (tile * 8 + pipe) []
    let s2 : State := { s1 with billing := { s1.billing with
      recordKinds := Tab.set s1.billing.recordKinds (tile * 8 + pipe) (kinds.drop 1) } }
    ok ((s2.drainRecord tile (kinds.headD 0) (pk.map (·.1))).mergeFence tile)

/-- A gap record of a fold's increase (R373, R488). -/
def gapRecord (m time seq : Nat) (inc : List Nat) : List Word :=
  [BitVec.ofNat 64 (m * 4294967296 + time),
   BitVec.ofNat 64 (inc.getD 0 0 % 4294967296 * 4294967296 + inc.getD 1 0 % 4294967296),
   BitVec.ofNat 64 (inc.getD 2 0 % 4294967296 * 4294967296 + inc.getD 3 0 % 4294967296),
   BitVec.ofNat 64 (3 * 2 ^ 60 + seq)]

/-- A fold's increase of each register kind: what it added to the cold registers of the kind (R377, R488). -/
def foldIncrease (old new : Meter) : List Nat := (List.range 4).map fun r =>
  ((List.range 16).map fun t => wrapSub 64 (new.coldAt t r) (old.coldAt t r)).sum

/-- A fold changed a meter (R377). -/
def foldChanged (old new : Billing) : Bool :=
  decide (old.bases ≠ new.bases ∨ old.extraBase ≠ new.extraBase ∨ old.chargeBase ≠ new.chargeBase)

/-- After the fold of a meter: a fold of the sweep that changed a meter no drained record named since its previous fold writes a gap
record (R488). -/
def State.gapAfter (s : State) (named : List Nat) (old : Meter) : State :=
  match s.meter? old.number with
  | none => s
  | some x =>
    let s1 := s.modMeter x.number fun x => { x with drained := false }
    if old.drained || named.contains x.number || !foldChanged old.billing x.billing then s1
    else
      let ws := gapRecord x.number s.tbSeconds x.seqTop (foldIncrease old x)
      ((s1.ringPush x.home (s1.ringRecord 3 ws)).count x.home 12 7).offerLimited 0xE685 x.home 0 [x.home, x.number]

/-- The meters a fold of a tile folds: those named and those of its sweep share, but those left out (R375). -/
def State.folded (s : State) (tile : Nat) : List Meter :=
  let ms := s.namedHere tile ++ s.metersFrom tile (Tab.getD s.billing.sweep tile 0) s.sweepShare
  s.meters.filter fun x => ms.contains x.number && !s.foldsOut x

/-- The fold of a tile with the gap records of its sweep. -/
def State.foldWithGaps (s : State) (tile : Nat) : State :=
  (s.folded tile).foldl (fun z x => z.gapAfter (s.namedHere tile) x) (s.fold tile)

/-- BILLING_FOLD: the fold a heat boundary started, after a step due at its millisecond (R41, R375, R518). -/
def execBillingFold (tile : Nat) (s : State) : Result :=
  okIf (s.heat.foldDue.contains tile && s.stepDue.isNone && !s.dramHeld tile) s
    (({ s with heat := { s.heat with foldDue := s.heat.foldDue.filter (· != tile) } } : State).foldWithGaps tile)

/-- The owner number of an hour's ring-log pages, apart from every segment's. -/
def ringLogOwner (hour : Nat) : Nat := 2 ^ 40 + hour

/-- The oldest 512 records not in a log page are in one (R482). -/
def State.markLogged (s : State) (t : Nat) : State :=
  let y := s.flash t
  let mark (st : Nat × List RingRecord) (e : RingRecord) : Nat × List RingRecord :=
    if st.1 < 512 && !e.logged then (st.1 + 1, { e with logged := true } :: st.2) else (st.1, e :: st.2)
  s.setFlash t { y with ring := (y.ring.foldl mark (0, [])).2.reverse, pageAt := s.elapsed }

/-- The oldest records not in a log page, at most 512, written as one ring-log page; its last record's hour owns it (R482, R483). -/
def State.logPage (s : State) (t : Nat) : State :=
  let rs := ((s.flash t).ring.filter fun r => !r.logged).take 512
  match rs.getLast? with
  | none => s
  | some r =>
    if s.nandWrites t then
      let w := s.writePages t false 1 65536 (recordPages (ringLogOwner r.hour) (s.flash t).nextLogical rs)
      if w.1 then w.2.markLogged t else w.2
    else s

/-- RING_LOG_WRITE: a whole page of records. -/
def execRingLogWrite (tile : Nat) (s : State) : Result :=
  okIf (s.nandWrites tile && decide (512 ≤ (s.flash tile).ring.countP fun r => !r.logged)) s (s.logPage tile)

/-! ### Segments (R483, R485, R486) -/

/-- The order of a segment: meter, time, sequence. -/
def RingRecord.before (a b : RingRecord) : Bool :=
  decide (a.meter < b.meter ∨ (a.meter = b.meter ∧ (a.time < b.time ∨ (a.time = b.time ∧ a.seq ≤ b.seq))))

/-- The tier of a record's meter: 2 in the TLC pool, else the SLC buffer. -/
def State.recordTier2 (s : State) (r : RingRecord) : Bool :=
  match s.meter? r.meter with
  | some x => x.tier == 2
  | none => false

/-- A written segment listed, with its page index. -/
def State.addSegment (s : State) (id t hour : Nat) (tlc : Bool) (rs : List RingRecord) : State :=
  { s with store := { s.store with
    nextSegment := id + 1
    segments := s.store.segments ++
      [{ id := id, tile := t, hour := hour, tlc := tlc, records := rs, sealedAt := s.elapsed
         index := (List.range (divUp rs.length 512)).map fun i => ((rs[512 * i]?).map (·.meter)).getD 0 }] } }

/-- A segment of records written to its pool, 512 records a page, and in the TLC pool verified (R483, R490). -/
def State.sealSegment (s : State) (t hour : Nat) (tlc : Bool) (rs : List RingRecord) : Bool × State :=
  if rs.isEmpty then (true, s)
  else
    let sorted := rs.mergeSort RingRecord.before
    let s0 := s.gcAhead t tlc
    let w := s0.writePages t tlc 2 65536 (recordPages s.store.nextSegment (s0.flash t).nextLogical sorted)
    let v := if w.1 then w.2.verifyPages t tlc s.store.nextSegment else w
    (v.1, if v.1 then v.2.addSegment s.store.nextSegment t hour tlc sorted else v.2)

/-- Some records of an hour sealed in a segment; the ring marks them once it is written. -/
def State.sealPart (s : State) (t hour : Nat) (tlc : Bool) (rs : List RingRecord) : State :=
  let w := s.sealSegment t hour tlc rs
  if w.1 then
    let x := w.2.flash t
    w.2.setFlash t { x with ring := x.ring.map fun r => if rs.contains r then { r with saved := true } else r }
  else w.2

/-- The records of an hour sealed, at most 1,048,576 of them; the span's ring-log pages go when all of it is saved. -/
def State.sealHour (s : State) (t hour : Nat) : State :=
  let rs := ((s.flash t).ring.filter fun r => r.hour == hour && !r.saved).take 1048576
  let s2 := (s.sealPart t hour false (rs.filter fun r => !s.recordTier2 r)).sealPart t hour true (rs.filter s.recordTier2)
  let x := s2.flash t
  if x.ring.any fun r => decide (r.hour ≤ hour) && !r.saved then s2 else s2.setFlash t (x.drop false (ringLogOwner hour))

/-- The hour of a tile to seal next: the oldest past one with records not yet sealed, or the one in progress with 1,048,576 of
them (R483). -/
def State.hourToSeal (s : State) (t : Nat) : Option Nat :=
  let r := (s.flash t).ring
  let h := s.tbSeconds / 3600
  match r.find? fun r => !r.saved && decide (r.hour < h) with
  | some r => some r.hour
  | none => if 1048576 ≤ r.countP (fun r => !r.saved && r.hour == h) then some h else none

/-- A whole hour counted: coverage of the ring at its record rate (R487). -/
def State.hourTurn (s : State) (t : Nat) : State :=
  let x := s.flash t
  let h := s.tbSeconds / 3600
  if x.hour = h then s
  else
    let n := x.hourCount
    (s.setFlash t { x with hour := h, hourCount := 0, lastHourCount := n }).setObj 0x6008 (t + 1)
      (if n = 0 then 65535 else min 65535 (ringCapacity * 10 / n))

/-- SEGMENT_SEAL of a tile. -/
def execSegmentSeal (tile : Nat) (s : State) : Result :=
  if tile < s.nTiles then
    let s1 := s.hourTurn tile
    match s1.hourToSeal tile with
    | some h => okIf (s1.nandWrites tile) s1 (s1.sealHour tile h)
    | none => ok s1
  else ok s

/-- SEGMENT_LATE: an hour's segments are not written 10 min after its end. -/
def execSegmentLate (tile : Nat) (s : State) : Result :=
  if !s.awake then ok s else
  match s.hourToSeal tile with
  | some h =>
    okIf (decide ((h + 1) * 3600 + 600 < s.tbSeconds) && (s.flash tile).lateHour != some h) s
      ((s.setFlash tile { s.flash tile with lateHour := some h }).offer 0xE68D tile
        [tile, h, (s.tbSeconds - (h + 1) * 3600) / 60])
  | none => ok s

/-- The oldest SLC segment of a tile. -/
def State.slcSegment (s : State) (t : Nat) : Option Segment := s.store.segments.find? fun g => g.tile == t && !g.tlc

/-- A segment folded into the TLC pool: its pages read and written; its SLC copy goes when they are verified (R485, R490). -/
def State.foldSegment (s0 : State) (g : Segment) : State :=
  let s := (s0.readSegment g fun _ => true).gcAhead g.tile true
  let w0 := s.writePages g.tile true 3 65536 (recordPages g.id (s.flash g.tile).nextLogical g.records)
  let w := if w0.1 then w0.2.verifyPages g.tile true g.id else w0
  if w.1 then
    let s2 : State := { w.2 with store := { w.2.store with
      segments := w.2.store.segments.map fun h => if h.id = g.id then { h with tlc := true } else h } }
    s2.setFlash g.tile ((s2.flash g.tile).drop false g.id)
  else w.2

/-- SLC_SEGMENT_FOLD: at SlcFoldAge, or while the SLC buffer's free blocks are below GcStartFree. -/
def execSlcSegmentFold (tile : Nat) (s : State) : Result :=
  match s.slcSegment tile with
  | some g =>
    okIf (s.nandWrites tile && (s.due g.sealedAt (s.obj 0x6004 1 * 1000000000) || (s.flash tile).below false (s.obj 0x6003 4))) s
      (s.foldSegment g)
  | none => ok s

/-- HISTORY_EXPIRY: the segments of a tile older than HistoryMaxDays. -/
def execHistoryExpiry (tile : Nat) (s : State) : Result :=
  if !s.awake then ok s else
  ok ((s.store.segments.filter fun g =>
    g.tile == tile && decide ((g.hour + 1) * 3600 + s.obj 0x6004 3 * 86400 < s.tbSeconds)).foldl (fun s g => s.deleteSegment g) s)

/-! ### Garbage collection and worn blocks (R476, R477, R491, R499, R500) -/

/-- Garbage collection's state in a pool: started below GcStartFree, stopped at GcStopFree. -/
def State.gcRuns (s : State) (t : Nat) (tlc : Bool) : Bool :=
  let x := s.flash t
  x.below tlc (s.obj 0x6003 4) || ((if tlc then x.gcTlc else x.gcSlc) && x.below tlc (s.obj 0x6003 5)) ||
    x.blocks.any fun e => e.2.tlc == tlc && e.2.refresh

/-- GARBAGE_COLLECTION of a pool: one block. -/
def execGarbageCollection (tile : Nat) (tlc : Bool) (s : State) : Result :=
  match s.gcBlock tile tlc with
  | some (k, b) =>
    if s.nandWrites tile && s.gcRuns tile tlc then
      let s1 := s.relocate tile k b
      let x := s1.flash tile
      let more := x.below tlc (s.obj 0x6003 5)
      ok (s1.setFlash tile (if tlc then { x with gcTlc := more } else { x with gcSlc := more }))
    else ok s
  | none => ok s

/-- Blocks of a zone that period records of 21 a page take (R480). -/
def periodBlocks (n : Nat) : Nat := n / (21 * slcPages)

/-- The record zone loses a spare; at 2 left it is low, without one it is exhausted: the tile's period records beyond the latest 2 a
meter go, the blocks that frees are spares again, and where it frees none folds go on without a journal (R477, R500). -/
def State.retireZone (s : State) (t : Nat) : State :=
  let x := s.flash t
  let s1 := s.setFlash t { x with zoneSpares := x.zoneSpares - 1 }
  if x.zoneSpares = 0 then
    let here := (s.meters.filter fun m => m.home == t).map (·.number)
    let keep := here.flatMap fun m => (s.billing.periods.filter fun p => p.meter == m).reverse.take 2
    let ps := s.billing.periods.filter fun p => !here.contains p.meter || keep.contains p
    let freed := periodBlocks (s.billing.periods.length - ps.length)
    let s2 := ({ s with billing := { s.billing with periods := ps } } : State).setFlash t
      { x with zoneSpares := freed - 1, noJournal := x.noJournal || decide (freed = 0) }
    ((((s2.setObj 0x6006 (t + 1) 2).setObj 0x600B (t + 1) (putBit (s2.obj 0x600B (t + 1)) 2 true))).offer 0xE687 t [t]).failCheck 7
  else if x.zoneSpares = 3 && decide (s.obj 0x6006 (t + 1) = 0) then
    ((s1.setObj 0x6006 (t + 1) 1).setObj 0x600B (t + 1) (putBit (s1.obj 0x600B (t + 1)) 1 true)).offer 0xE686 t [t, 2]
  else s1

/-- A block of a pool retired: its pages written again elsewhere, a shared spare in its place (R477). -/
def State.retirePool (s : State) (t block : Nat) (tlc : Bool) : State :=
  let x := s.flash t
  let y := if 0 < x.shared then { x with shared := x.shared - 1 }
    else if tlc then { x with tlc := x.tlc - 1 } else { x with slc := x.slc - 1 }
  match Tab.find? y.blocks block with
  | some b =>
    s.setFlash t (({ y with blocks := Tab.erase y.blocks block } : TileStore).write b.tlc s.elapsed (b.pages.filter (·.valid))).1
  | none => s.setFlash t y

/-- A block that failed retired from its pool (R477). -/
def State.retireBlock (s : State) (tile block pool reason : Nat) : State :=
  if tile < s.nTiles ∧ (s.flash tile).formatted = true ∧ (s.flash tile).retired.contains block = false then
    let x := s.flash tile
    let s1 := ((s.setFlash tile { x with retired := x.retired ++ [block] }).count tile 12 5).offerLimited 0xE681 tile 0
      [tile, block / Config.nandBlocksPerDie, block, reason]
    if pool = 0 then s1.retireZone tile else s1.retirePool tile block (pool == 2)
  else s

/-- BLOCK_RETIRE: a program (reason 0), erase (1) or read (2) that failed. Pools: 0 record zone, 1 SLC buffer, 2 TLC. -/
def execBlockRetire (tile block pool reason : Nat) (s : State) : Result := ok (s.retireBlock tile block pool reason)

/-- A READ_ONLY tile with free blocks again returns to NORMAL (R499). -/
def State.mediaRecovers (s : State) (t : Nat) : State :=
  let x := s.flash t
  if s.obj 0x6005 (t + 1) = 1 && !x.below false (s.obj 0x6003 5) && !x.below true (s.obj 0x6003 5) then
    (s.setObj 0x6005 (t + 1) 0).setObj 0x600B (t + 1) (putBit (s.obj 0x600B (t + 1)) 0 false)
  else s

/-- HistoryPurge submitted: every segment whose hour ends before an instant is deleted. -/
def historyPurge (before : Nat) (s : State) : Done :=
  let gs := s.store.segments.filter fun g => decide ((g.hour + 1) * 3600 < before)
  let s1 := gs.foldl (fun s g => s.deleteSegment g) s
  Done.ok ((s1.eachTile fun s t => s.mediaRecovers t).offer 0xE688 0 [before, gs.length])

/-- HISTORY_PURGE. -/
def execHistoryPurge (r : Req) (before : Nat) (s : State) : Result :=
  ok (udxWrite s r 0x6009 2 0 (be 1 1) fun s _ => historyPurge before s)

/-! ### Checkpoints and restore (R380, R493 to R495) -/

/-- A checkpoint page: the meters of 21 record indices, with the journal position at its write; the copies of the previous lap stay
(R493, R495). -/
def State.checkpointPage (s : State) (t : Nat) : State :=
  let x := s.flash t
  let at_ := x.checkpointNext
  let ms := s.meters.filter fun m => m.home == t && decide (at_ ≤ m.record ∧ m.record < at_ + 21)
  let keep (c : Tab Checkpoint) (m : Meter) : Tab Checkpoint := match Tab.find? s.store.checkpoints m.number with
    | some o => Tab.set c m.number o
    | none => c
  let s1 : State := { s with store := { s.store with
    oldCheckpoints := ms.foldl keep s.store.oldCheckpoints
    checkpoints := ms.foldl (fun c m => Tab.set c m.number
      { meter := m.number, position := s.billing.nextPage, page := at_ / 21, seq := x.writeSeq, cold := m.cold
        billing := m.billing }) s.store.checkpoints } }
  let s2 := s1.zoneWritten t 1
  s2.setFlash t { s2.flash t with checkpointNext := (if at_ + 21 < 262144 then at_ + 21 else 0), checkpointAt := s.elapsed }

/-- A tile's next checkpoint page is due: 12,484 pages make a lap in CheckpointLap (R493, R496). -/
def State.checkpointDue (s : State) (t : Nat) : Bool :=
  s.due (s.flash t).checkpointAt (s.obj 0x6004 5 * 1000000000 / meterPages)

/-- CHECKPOINT_PAGE of a tile. -/
def execCheckpointPage (tile : Nat) (s : State) : Result :=
  okIf (decide (tile < s.nTiles) && (s.flash tile).formatted && s.partRuns && s.checkpointDue tile) s (s.checkpointPage tile)

/-- A BOOK entry replayed on a meter's cold record and bases: as the fold that journalled it (R377, R380). -/
def replayBook (x : Meter) (body : List Nat) : Meter :=
  let g (i : Nat) : Nat := body.getD i 0
  let ws : List Nat := [0, 0, 0, 0, 0, 0, 0, 0, g 4 * 65536 + g 8, g 5 * 65536 + g 9, g 6 * 65536 + g 10, g 7 * 65536 + g 11,
    g 12, g 0 * 2 ^ 60 + g 1 * 2 ^ 56 + g 13 * 2 ^ 43 + g 14 * 2 ^ 30 + g 15 * 2 ^ 17 + g 16 * 2 ^ 4, 0, 0]
  let h : Meter := { x with hot := ws.map (BitVec.ofNat 64) }
  let (cold, bases, extra) := (List.range 4).foldl (foldRegister h)
    ((List.range 64).map fun i => x.cold.getD i 0, x.billing.bases, x.billing.extraBase)
  { x with cold := cold, billing := { x.billing with foldBase := bases, extraBase := extra, chargeBase := g 12 } }

/-- A journal entry replayed on a meter: bookings and top-ups (R380). -/
def replayEntry (x : Meter) (e : JournalEntry) : Meter :=
  if e.kind = 1 then replayBook x e.body
  else if e.kind = 3 then
    ({ x with billing := { x.billing with lastTopUpId := e.body.getD 0 0 } } : Meter).setWord 7 (e.body.getD 2 0)
  else x

/-- A meter's cold record and bases from its checkpoint and the entries after it; without a checkpoint, from those it was
enrolled with. -/
def State.replayed (s : State) (x : Meter) : Meter :=
  let from_ : Meter := match Tab.find? s.store.checkpoints x.number with
    | some c => { x with cold := c.cold, billing := { x.billing with
        foldBase := c.billing.foldBase, extraBase := c.billing.extraBase, chargeBase := c.billing.chargeBase } }
    | none => { x with cold := List.replicate 64 0, billing := { x.billing with
        foldBase := List.replicate 4 unsetBase, extraBase := 0, chargeBase := 0 } }
  (s.entriesAfter x).foldl replayEntry from_

/-- A meter of a tile restored: its records replayed, its hot record written by R380 with the bases equal to it. -/
def State.restoreMeter (s : State) (m : Nat) : State :=
  match s.meter? m with
  | none => s
  | some x0 =>
    let x := s.replayed x0
    let ws := s.rebuiltHot x 0 0
    s.setMeter (ws.foldl (fun (y : Meter) w => y.setWord w.1 w.2) x).rebased

/-- The end of an outage: the OUTAGE entry's restore instant, the flush and the marks reported (R378, R379, R395, R731). -/
def State.billingRestored (s : State) : State :=
  if s.billing.warnedAt = 0 then s
  else
    let s1 := s.journal 0 { kind := 7, body := [s.billing.warnedAt / 1000000000, s.tbSeconds] }
    let s2 := (s1.offer 0xE506 0 [s.power.entries, s.power.flushUs]).markOutage s.billing.warnedAt s.tbNs
    { s2 with billing := { s2.billing with warnedAt := 0 }, power := { s2.power with entries := 0, flushUs := 0 } }

/-- A checkpoint page of a tile uncorrectable: its meters' copies of the previous lap are taken (R475, R495). -/
def State.loseCheckpoint (s : State) (t page : Nat) : State :=
  let here := (s.meters.filter fun x => x.home == t && (match Tab.find? s.store.checkpoints x.number with
    | some c => c.page == page
    | none => false)).map (·.number)
  let back (c : Tab Checkpoint) (m : Nat) : Tab Checkpoint := match Tab.find? s.store.oldCheckpoints m with
    | some o => Tab.set c m o
    | none => Tab.erase c m
  (({ s with store := { s.store with checkpoints := here.foldl back s.store.checkpoints } } : State).count t 12 4).offer 0xE682 t [t, 0, page]

/-- Journal pages a restore of a tile replays: from the earliest position its checkpoint pages carry (R494). -/
def State.replayPages (s : State) (t : Nat) : List JournalPage :=
  let from_ := (s.meters.filter fun x => x.home == t).foldl (fun n x => min n (match Tab.find? s.store.checkpoints x.number with
    | some c => c.position
    | none => 0)) s.billing.nextPage
  s.billing.pages.filter fun p => p.tile == t && decide (from_ ≤ p.number)

/-- The pages that a restore found uncorrectable, of the operand that names both kinds: 2n journal page n, 2n + 1 checkpoint
page n (DESIGN CHOICE, log 55). -/
def lostJournal (lost : List Nat) : List Nat := (lost.filter (· % 2 == 0)).map (· / 2)
def lostCheckpoints (lost : List Nat) : List Nat := (lost.filter (· % 2 == 1)).map (· / 2)

/-- STORAGE_RESTORE of a tile, with the checkpoint pages and the journal pages found uncorrectable: of the first the previous lap's
copies are taken, the others are skipped and every meter of the tile is flagged (R494, R495). The ring keeps what its log pages
and segments hold. -/
def execStorageRestore (tile : Nat) (lost : List Nat) (ms : Nat) (s : State) : Result :=
  if s.boot.restoringTiles.contains tile then
    let s0 := (lostCheckpoints lost).foldl (fun s p => s.loseCheckpoint tile p) s
    let gone := (s0.replayPages tile).filter fun p => (lostJournal lost).contains p.number
    let replayed := (s0.replayPages tile).length - gone.length
    let s1 : State := { s0 with billing := { s0.billing with
      pages := s0.billing.pages.filter fun p => !gone.contains p, openEntries := Tab.erase s0.billing.openEntries tile } }
    let here := (s1.meters.filter fun x => x.home == tile).map (·.number)
    let s2 := (here.foldl (fun s m => s.restoreMeter m) s1).countN tile 12 1 (replayed + divUp here.length 21)
    let s3 := gone.foldl (fun s p => ((s.count tile 12 4).offer 0xE682 tile [tile, 0, p.number]).offer 0xE683 tile [tile, p.seconds]) s2
    let s4 := if gone.isEmpty then s3 else here.foldl (fun s m => s.modMeter m fun x =>
      { x with billing := { x.billing with periodFlags := x.billing.periodFlags ||| flagIncomplete } }) s3
    let x := s4.flash tile
    let s5 := s4.setFlash tile { x with ring := x.ring.filter fun r => r.logged || r.saved }
    let rest := s5.boot.restoringTiles.filter (· != tile)
    let s6 : State := { s5 with boot := { s5.boot with restoringTiles := rest, restored := rest.isEmpty } }
    let s7 := s6.offer 0xE68B tile [tile, replayed, ms]
    ok (if rest.isEmpty then s7.billingRestored else s7)
  else ok s

/-! ### Objects computed on reading (R473, R496, R501) -/

/-- 0x6000 NandGeometry of a tile, eight fields of 4 bytes (the widths are not stated, log 31). -/
def State.nandGeometry (s : State) (t : Nat) : Octets :=
  if s.nandUsable && decide (t < s.nTiles) then
    be 4 Config.nandDies ++ be 4 Config.nandEnables ++ be 4 Config.nandBlocksPerDie ++ be 4 Config.nandPagesPerBlock ++
      be 4 Config.nandSpareBytes ++ be 4 (bit01 !(s.sdrChannel t 0 || s.sdrChannel t 1)) ++
      be 4 (if s.sdrChannel t 0 || s.sdrChannel t 1 then Config.nandSdrRate else Config.nandRate) ++ be 4 nandBlocks
  else List.replicate 32 0

/-- The regions of R496 with sizes in MiB. -/
def State.dramRegions (s : State) : List Nat :=
  if s.fit.dramManaged = 4 then
    (if s.fit.part = .ck78e then [128, 64, 72, 64, 64, 256, 96, 2304, 512, 10, 14] else [128, 64, 72, 64, 64, 256, 96, 2304, 512, 24, 0])
  else [128, 64, 72, 64, 64, 256, 96, 2304, 4064, 28, 28]

/-- 0x6010 DramLayout: base and size of each region. -/
def State.dramLayout (s : State) : Octets :=
  (s.dramRegions.foldl (fun (at_, b) n => (at_ + n, b ++ be 4 at_ ++ be 4 n)) ((0, []) : Nat × Octets)).2

/-- Mean and maximum of a pool's erase counts; the zone's blocks wear evenly (R492). Pools: 0 zone, 1 SLC buffer, 2 TLC. -/
def TileStore.wear (x : TileStore) (pool : Nat) : Nat × Nat :=
  if pool = 0 then (x.formats + x.zoneWrites / max 1 (x.zone * slcPages), x.formats + divUp x.zoneWrites (max 1 (x.zone * slcPages)))
  else
    let es := (x.erases.filter fun e => e.1 % 2 == pool - 1).map (·.2)
    (x.formats + es.sum / max 1 (x.poolSize (pool == 2)), x.formats + es.foldl max 0)

/-- 0x6007 FlashWearReport of a tile, fields of 4 bytes: spares of the zone and shared, mean and maximum erase counts of the zone, SLC
buffer and TLC pool, blocks retired, record-zone writes per s over 30 days, life in 0.1 years (R497; the layout is not stated,
log 31). -/
def State.wearReport (s : State) (t : Nat) : Octets :=
  let x := s.flash t
  let secs := max 1 (min (s.elapsed / 1000000000) 2592000)
  let day := s.elapsed / 86400000000000
  let w := ((x.zoneDays.filter fun e => decide (day < e.1 + 30)).map (·.2)).sum
  let pages := (x.zone - zoneSpares x.zone) * slcPages
  let life := if w = 0 then 0 else 100000 * pages * secs * 10 / (w * 31557600)
  padTo 64 (be 4 x.zoneSpares ++ be 4 x.shared ++ ((List.range 3).flatMap fun p => be 4 (x.wear p).1 ++ be 4 (x.wear p).2) ++
    be 4 x.retired.length ++ be 4 (w / secs) ++ be 4 life)

/-- The stored records of a meter: DRAM tier history, segments, the ring; each once, in order of time and sequence; those
of the present incarnation (R489). -/
def State.storedRecords (s : State) (x : Meter) : List RingRecord :=
  let tier := s.store.tierSlots.flatMap fun e => if e.1 % 4294967296 = x.number then e.2.records else []
  let segs := s.store.segments.flatMap fun g =>
    (g.records.zipIdx.filter fun r => !g.lostPages.contains (r.2 / 512)).map (·.1)
  let ring := s.store.tiles.flatMap fun e => e.2.ring
  let all := ((tier ++ segs ++ ring).filter fun r => r.meter == x.number && decide (x.incarnationAt ≤ r.drainedAt)).mergeSort
    RingRecord.before
  all.foldr (fun r acc => match acc with
    | q :: _ => if q.time = r.time ∧ q.seq = r.seq ∧ q.words = r.words then acc else r :: acc
    | [] => [r]) []

end Sys2Proof.Machine
end

