-- ==== Sys2Proof/Machine/Tunnel.lean ====
section
/-! DEFINITION. Tunnels, relays and relay mode (09 R352 to R360, 03 R115). -/

namespace Sys2Proof.Machine

/-! ### Datagrams (R352 to R354) -/

/-- Fields of a datagram. -/
def dgKind (d : Octets) : Nat := fieldAt d 3 1
def dgRelay (d : Octets) : Nat := fieldAt d 4 4
def dgSeq (d : Octets) : Nat := fieldAt d 8 4
def dgCount (d : Octets) : Nat := fieldAt d 20 1

/-- The frame records of a datagram's body, `n` of them: (sub-header, frame); none where they do not fill it. -/
def dgRecords : Nat → Octets → Option (List (Octets × Octets))
  | 0, b => if b.isEmpty then some [] else none
  | n + 1, b =>
    let len := fieldAt b 3 1
    let size := 16 + divUp len 8 * 8
    if b.length < size then none
    else (dgRecords n (b.drop size)).map fun r => (b.take 16, (b.drop 16).take len) :: r

/-- The records of a datagram with a well-formed header (check 1). -/
def dgParse (d : Octets) : Option (List (Octets × Octets)) :=
  if fieldAt d 0 2 = 0x544E ∧ fieldAt d 2 1 = 1 ∧ fieldAt d 22 2 = d.length ∧ 40 ≤ d.length ∧ d.length ≤ 1384 ∧ dgCount d ≤ 12 then
    dgRecords (dgCount d) ((d.drop 32).take (d.length - 40))
  else none

/-- The TunnelTag of a datagram's bytes before it. -/
def dgTag (key body : Octets) : Octets := (cmac key body).take 8

/-- The index of an enabled relay in the table (R360). -/
def State.relayIndex (s : State) (id : Nat) : Option Nat :=
  (List.range ((s.domain 0x3C03 1).length / 32)).find? fun i => i != 0 && fieldAt (s.relayEntry i) 0 4 == id && fieldAt (s.relayEntry i) 4 1 == 1

/-- A relay's own tunnel key: one imported as an encrypt-only AES-128 key, else the derived one (R455, R460). -/
def State.ownTunnelKey (s : State) : Octets :=
  match (List.find? (fun e : Nat × KeySlot => e.2.origin == 1 && e.2.use == 0 && e.2.type == 1) s.keys.slots) with
  | some e => e.2.material
  | none => s.derivedTunnelKey (Config.unitId.toNat % 4294967296)

/-- A tunnel key can be derived or is held: after a tamper or a wipe the key-load path derives nothing, and no datagram is sealed or
passes its tag (R465). -/
def State.tunnelKeyed (s : State) : Bool :=
  (s.keySlot 12).isSome || s.keys.slots.any fun e : Nat × KeySlot => e.2.origin == 1 && e.2.use == 0 && e.2.type == 1

/-- A tunnel port takes datagrams: the part is ready and the port enabled (R108). -/
def State.tunnelOpen (s : State) (port : Nat) : Bool := decide (s.boot.phase = 9 ∧ port < 3) && s.tunnelEnabled port

/-- A datagram dropped at a check (R354). -/
def State.dropDatagram (s : State) (port relay check : Nat) : State :=
  (((s.heardOn port 6).bump 0x3C05 1).bump 0x3C05 2).offerLimited 0xE489 0 port [port, relay, check]

/-- In pilot light a tunnel datagram on the pilot port is dropped and counted, among those without a buffer (R737). -/
def State.pilotDatagram (s : State) (port : Nat) : State :=
  if port = s.obj 0xB001 2 then ((s.heardOn port 6).bump 0x3C05 1).bump 0x3C05 3 else s

/-- The checks of R354: the relay's index and the records, or the number of the check that fails. A downlink comes from the
head, kept at index 0. -/
def State.checkDatagram (s : State) (d : Octets) (kind : Nat) : Except Nat (Nat × List (Octets × Octets)) :=
  match dgParse d with
  | none => .error 1
  | some rs =>
    if dgKind d ≠ kind then .error 1
    else
      let i? := if kind = 1 then some 0 else s.relayIndex (dgRelay d)
      match i? with
      | none => .error 2
      | some i =>
        let key := if kind = 1 then s.ownTunnelKey else s.derivedTunnelKey (dgRelay d)
        let r := Tab.getD s.tunnel.relays i {}
        if s.tunnelKeyed = false ∨ d.drop (d.length - 8) ≠ dgTag key (d.take (d.length - 8)) then .error 3
        else match classifySeq (dgSeq d) r.seqTop r.seqMask with
          | .stale => .error 4
          | .duplicate => .error 4
          | _ => .ok (i, rs)

/-- A relay stored. -/
def State.setRelay (s : State) (i : Nat) (r : Relay) : State :=
  { s with tunnel := { s.tunnel with relays := Tab.set s.tunnel.relays i r } }

/-- A datagram of a relay heard: its window, and its way back from SILENT after three keep-alive intervals (R357). -/
def State.relayHeard (s : State) (i seq : Nat) : State :=
  let r := Tab.getD s.tunnel.relays i {}
  let w := acceptSeq seq r.seqTop r.seqMask
  let n := s.elapsed / (max 1 (s.obj 0x3C02 1) * 1000000)
  let run := if r.state ≠ 2 then 0 else if r.liveRun ≠ 0 ∧ n = r.liveInterval then r.liveRun
    else if r.liveRun ≠ 0 ∧ n = r.liveInterval + 1 then r.liveRun + 1 else 1
  let back := decide (r.state = 2 ∧ 3 ≤ run)
  let s1 := s.setRelay i { r with
    state := if r.state = 2 ∧ !back then 2 else 1, lastSeq := seq, seqTop := w.1, seqMask := w.2, heardAt := s.elapsed
    liveRun := if back then 0 else run, liveInterval := n }
  if back then s1.offer 0xE48B 0 [i, (s.elapsed - r.silentAt) / 1000000000] else s1

/-! ### Uplink (R355, R356) -/

/-- The packet of an uplink record with its ingress descriptor (R143, R356). -/
def State.tunnelPacket (s : State) (port i : Nat) (r : Octets × Octets) : List (Word × Byte) :=
  let line := decide (fieldAt r.1 0 1 = 0)
  let cls := fieldAt (s.relayEntry i) (if line then 5 else 6) 1
  packetOf (BitVec.ofNat 64 (portCode 2 0 port * 2 ^ 56 + (if line then fieldAt r.1 1 1 % 4 else 0) * 2 ^ 54 + cls % 16 * 2 ^ 50 +
    r.2.length * 2 ^ 40 + fieldAt r.1 8 4)) r.2

/-- The phase that a relay detected for a meter stands in for R274: membership and PHASE_MISMATCH follow it (R356, R408, R422). -/
def State.relayPhase (s : State) (m d : Nat) : State :=
  match s.meter? m with
  | none => s
  | some x =>
    if d / 64 = 3 then s
    else
      let s1 := s.setMeter { x with line := { x.line with
        phase := d / 64, reversed := bitAt d 5, agreeing := max x.line.agreeing (s.obj 0x3014 2) } }
      (if x.loss.declaredPhase = 4 ∧ x.loss.feederTag ≠ 0 ∧ x.line.phase ≠ d / 64 then s1.changeMembership m x.loss.feederTag
       else s1).checkPhase m

/-- What a tunnelled frame tells of its meter: the relay it came through and the phase detected there (R205, R356). -/
def State.tunnelHeard (s : State) (port i : Nat) (r : Octets × Octets) : State :=
  let key := portCode 2 0 port * 2 ^ 32 + fieldAt r.1 8 4
  let s1 := s.modMeter (frMeter r.2) fun x => { x with place := { x.place with
    relay := i, relays := ((key, i) :: x.place.relays).take 64 } }
  if fieldAt r.1 0 1 = 0 then s1.relayPhase (frMeter r.2) (fieldAt r.1 2 1) else s1

/-- An accepted uplink datagram's records enter the port's receive buffer together (R355). -/
def State.takeUplink (s : State) (port i : Nat) (rs : List (Octets × Octets)) : State :=
  let buf := Tab.getD s.tunnel.buffers port []
  if 16384 < buf.length + rs.length then (s.bump 0x3C05 3).offerLimited 0xE48E 0 port [port]
  else
    let s1 := rs.foldl (fun s r => s.tunnelHeard port i r) s
    ({ s1 with tunnel := { s1.tunnel with
      buffers := Tab.set s1.tunnel.buffers port (buf ++ rs.map (s.tunnelPacket port i)) } } : State).addObj 0x3C05 4 rs.length

/-- TUNNEL_UPLINK: a datagram at a port of tile 0; a standby's ports accept nothing, and an active mirrors it (R545). -/
def execTunnelUplink (port : Nat) (datagram : Octets) (s : State) : Result :=
  if 2 ≤ s.power.pilot then ok (s.pilotDatagram port)
  else if !s.tunnelOpen port || (s.pair.state != 0 && !s.pair.baton) then ok s
  else match s.checkDatagram datagram 0 with
    | .error c => ok (s.dropDatagram port (dgRelay datagram) c)
    | .ok (i, rs) =>
      ok (((((s.heardOn port 6).bump 0x3C05 1).relayHeard i (dgSeq datagram)).takeUplink port i rs).mirrorSend 8 (be 1 port ++ datagram))

/-- TUNNEL_KEEPALIVE. -/
def execTunnelKeepalive (port : Nat) (datagram : Octets) (s : State) : Result :=
  if 2 ≤ s.power.pilot then ok (s.pilotDatagram port)
  else if !s.tunnelOpen port then ok s
  else match s.checkDatagram datagram 2 with
    | .error c => ok (s.dropDatagram port (dgRelay datagram) c)
    | .ok (i, _) => ok (((s.heardOn port 6).bump 0x3C05 1).relayHeard i (dgSeq datagram))

/-- RELAY_SILENT: no datagram for 3 × RelayKeepalive; the next pass moves its meters (R223, R357). -/
def execRelaySilent (relay : Nat) (s : State) : Result :=
  if !s.awake then ok s else
  let r := Tab.getD s.tunnel.relays relay {}
  okIf (decide (r.state = 1) && s.due r.heardAt (3 * s.obj 0x3C02 1 * 1000000)) s
    ((({ s with place := { s.place with passDue := true } } : State).setRelay relay { r with
      state := 2, silentAt := s.elapsed, liveRun := 0 }).offer 0xE48A 0 [relay, fieldAt (s.relayEntry relay) 0 4])

/-- The head frame of a port's buffer gone. -/
def State.popTunnel (s : State) (port : Nat) : State :=
  { s with tunnel := { s.tunnel with buffers := Tab.modify s.tunnel.buffers port [] (·.drop 1) } }

/-- Frames moved to a home tile in this heat. -/
def State.tunnelMoved (s : State) (home : Nat) : Nat :=
  if s.tunnel.movedHeat = s.heat.count then Tab.getD s.tunnel.moved home 0 else 0

/-- A frame counted as moved to a home tile in this heat. -/
def State.countMoved (s : State) (home : Nat) : State :=
  let old := if s.tunnel.movedHeat = s.heat.count then s.tunnel.moved else []
  { s with tunnel := { s.tunnel with moved := Tab.modify old home 0 (· + 1), movedHeat := s.heat.count } }

/-- The head frame of a port's receive buffer moved by the part directory's entry of its meter, within TunnelRingBudget for each
other home tile in a heat (R115, R201, R202, R218). The forwarder writes the queues of tile 0 that a tunnel port does not
produce (R135). -/
def State.moveTunnel (s : State) (port : Nat) : State :=
  match Tab.getD s.tunnel.buffers port [] with
  | [] => s
  | pk :: _ =>
    match s.directory (packetMeter pk) with
    | none =>
      let (took, s1) := s.pushPacket 0 0xA1 .forwarder pk
      if took then
        ({ s1 with queues := { s1.queues with unroutedAt := s1.queues.unroutedAt ++ [(0, s.elapsed)] } } : State).popTunnel port
      else s1
    | some d =>
      if d.state = 0 then
        if d.home ≠ 0 ∧ s.obj 0x2104 1 ≤ s.tunnelMoved d.home then s
        else match s.routeFrame 0 d.home d.group pk (if d.home = 0 then .forwarder else .tunnelPort) false with
          | (true, s1) => (s1.countMoved d.home).popTunnel port
          | (false, s1) => s1
      else if d.state = 1 then
        (match s.holdInQueue 0 d.fenceTag pk with
         | (true, s1) => s1.popTunnel port
         | (false, s1) => s1)
      else (s.bump 0x2306 5).popTunnel port

/-- TUNNEL_STAGE_MOVE: the head frame of a port's buffer. -/
def execTunnelStageMove (port : Nat) (s : State) : Result :=
  okIf (decide (port < 3) && s.partRuns) s (s.moveTunnel port)

/-! ### Downlink of a head (log 32) -/

/-- A datagram of this unit: header, records, tag (R352). `i` is the relay index of its sequence, 0 toward the head. -/
def State.makeDatagram (s : State) (kind i : Nat) (key : Octets) (records : List Octets) : Octets × State :=
  let n := Tab.getD s.tunnel.sendSeq i 0 + 1
  let body := records.flatten
  let hdr := be 2 0x544E ++ be 1 1 ++ be 1 kind ++ be 4 (Config.unitId.toNat % 4294967296) ++ be 4 n ++ be 4 s.tbSeconds ++
    be 4 s.tbNs ++ be 1 records.length ++ be 1 (if (Tab.getD s.line.mains s.line.authority {}).state = 0 then 128 else 0) ++
    be 2 (40 + body.length) ++ be 4 s.line.cycle ++ be 4 0
  let d := hdr ++ body
  (d ++ dgTag key d, { s with tunnel := { s.tunnel with sendSeq := Tab.set s.tunnel.sendSeq i n } })

/-- Where a datagram goes: a relay's address of 0x3C03, or 0x3C04.02 toward the head (R358, R360). -/
def State.tunnelAddress (s : State) (i : Nat) : Octets :=
  if i = 0 then padTo 16 (s.objOct 0x3C04 2) else slice (s.relayEntry i) 8 16

/-- A datagram sent at a port, where its tag can be made (R360 counts it). -/
def State.sendDatagram (s : State) (port kind i : Nat) (key : Octets) (records : List Octets) : State :=
  let (d, s1) := s.makeDatagram kind i key records
  if !s.tunnelKeyed then s
  else ((if port = 2 then s1.ringOut 1 d else s1.sendOn (.tunnel port (s.tunnelAddress i)) d).bump 0x3C05 5).addObj 0x3C05 6 records.length

/-- A downlink record of a sealed frame (R353). -/
def downlinkRecord (f : Octets) : Octets :=
  let m := frMeter f
  be 1 (if m = 4294967295 then 2 else if frType f = 6 then 1 else 0) ++ be 1 (meterFrameClass f) ++ be 1 0 ++ be 1 f.length ++
    be 4 m ++ be 8 0 ++ padTo (divUp f.length 8 * 8) f

/-- The relays a frame goes to: the one its slot read or its frame came through, or every LIVE one for a broadcast (R199). -/
def State.frameRelays (s : State) (f : Octets) : List Nat :=
  if frMeter f = 4294967295 then (s.tunnel.relays.filter fun e => e.1 != 0 && e.2.state == 1).map (·.1)
  else match s.tunnel.egress.find? fun e => e.1 == ofBe (f.take 14) with
    | some e => [e.2]
    | none => []

/-- A frame of a tunnel port's queue sent to its relays. -/
def State.sendTunnel (s : State) (port : Nat) (pk : List (Word × Byte)) : State :=
  let f := packetBytes pk
  let s1 := (s.frameRelays f).foldl (fun s i =>
    s.sendDatagram port 1 i (s.derivedTunnelKey (fieldAt (s.relayEntry i) 0 4)) [downlinkRecord f]) s
  { s1 with tunnel := { s1.tunnel with egress := s1.tunnel.egress.eraseP fun e => e.1 == ofBe (f.take 14) } }

/-- The frames waiting at a tunnel port sent to their relays. A unit without the baton sends none (R547). -/
def State.drainTunnel (s : State) (port : Nat) : State :=
  if !s.tunnelOpen port || (s.pair.state != 0 && !s.pair.baton) then s
  else s.drainQueue 0 (0x88 + port) Producer.tunnelPort.code fun s pk => s.sendTunnel port pk

/-- Every tunnel port drained, at each heat boundary. -/
def State.drainTunnels (s : State) : State := (List.range 3).foldl (fun s p => s.drainTunnel p) s

/-! ### Relay mode (R358, R359) -/

/-- The port a relay reaches its head by: the lowest enabled tunnel port. -/
def State.upstreamPort (s : State) : Nat := ((List.range 3).find? fun p => s.tunnelEnabled p).getD 0

/-- RELAY_UPLINK_SEND: 1 ms after the first record, or at 12 records. -/
def execRelayUplinkSend (s : State) : Result :=
  if !s.awake then ok s else
  if s.tunnel.relayMode && !s.tunnel.uplink.isEmpty &&
      (s.due s.tunnel.uplinkAt 1000000 || decide (12 ≤ s.tunnel.uplink.length)) then
    let s1 := s.sendDatagram s.upstreamPort 0 0 s.ownTunnelKey s.tunnel.uplink
    ok { s1 with tunnel := { s1.tunnel with uplink := [], lastUplinkAt := s.elapsed } }
  else ok s

/-- RELAY_KEEPALIVE_SEND: a RelayKeepalive without uplink. -/
def execRelayKeepaliveSend (s : State) : Result :=
  if !s.awake then ok s else
  if s.tunnel.relayMode && s.due s.tunnel.lastUplinkAt (s.obj 0x3C02 1 * 1000000) then
    let s1 := s.sendDatagram s.upstreamPort 2 0 s.ownTunnelKey []
    ok { s1 with tunnel := { s1.tunnel with lastUplinkAt := s.elapsed } }
  else ok s

/-- A frame put in a lane's transmit queue by the head's wish. -/
def State.relayTransmit (s : State) (port phase : Nat) (f : Octets) : State :=
  (s.pushPacket (portTile port) (transmitQueue port) .forwarder (packetOf (egress port phase f.length 0) f)).2

/-- A downlink record sent: a unicast or acknowledgement where the meter was last heard, a broadcast on every enabled
lane (R358). -/
def State.relayRecord (s : State) (r : Octets × Octets) : State :=
  if fieldAt r.1 0 1 = 2 then
    let s1 := (List.range (4 * s.nTiles)).foldl (fun (s : State) k =>
      if (s.lane (k / 4) (k % 4)).on then s.relayTransmit (portCode 0 (k / 4) (k % 4)) 3 r.2 else s) s
    (List.range (8 * s.nTiles)).foldl (fun (s : State) k =>
      if (s.radioLane (k / 8) (k % 8)).on then s.relayTransmit (portCode 1 (k / 8) (k % 8)) 0 r.2 else s) s1
  else match Tab.find? s.tunnel.heardOn (fieldAt r.1 4 4) with
    | some e => s.relayTransmit (e / 4) (e % 4) r.2
    | none => s

/-- TUNNEL_DOWNLINK at a relay. -/
def execTunnelDownlink (port : Nat) (datagram : Octets) (s : State) : Result :=
  if 2 ≤ s.power.pilot then ok (s.pilotDatagram port)
  else if !s.tunnel.relayMode || !s.tunnelOpen port then ok s
  else match s.checkDatagram datagram 1 with
    | .error c => ok (s.dropDatagram port (dgRelay datagram) c)
    | .ok (i, rs) => ok (rs.foldl (fun s r => s.relayRecord r) (((s.heardOn port 6).bump 0x3C05 1).relayHeard i (dgSeq datagram)))

/-- 0x3C06.01 RelayStatus. -/
def State.relayStatus (s : State) : Octets :=
  (List.range 4096).flatMap fun i => match Tab.find? s.tunnel.relays i with
    | some r => if i = 0 then be 1 0 ++ be 4 0 else be 1 r.state ++ be 4 r.lastSeq
    | none => be 1 0 ++ be 4 0

end Sys2Proof.Machine
end

