-- ==== Sys2Proof/Machine/Readouts.lean ====
section
/-! DEFINITION. Readouts (10 R401 to R403, 02 R88, 12 R441, R442) and the threshold descriptors of prepayment (R372). -/

namespace Sys2Proof.Machine

/-! ### Text (R402) -/

/-- The mode of a readout class in force: 0 off, 1 authenticated, 2 signed (R401). -/
def State.readoutMode (s : State) (cls : Nat) : Nat := s.obj 0x4140 (cls + 1)

/-- DemandMax as 128 bytes. -/
def demandOctets (d : List (Nat × Nat)) : Octets := (List.range 16).flatMap fun i =>
  be 4 (d.getD i (0, 0)).1 ++ be 4 (d.getD i (0, 0)).2

/-- Cold registers as 512 bytes. -/
def coldOctets (cold : List Word) : Octets := unpackWords ((List.range 64).map fun i => cold.getD i 0)

/-- The closed period records held of a meter: the last PeriodsHeld (R480, R388). -/
def State.periodsHeld (s : State) (m : Nat) : List PeriodRecord :=
  let ps := s.billing.periods.filter fun p => p.meter == m
  ps.drop (ps.length - s.obj 0x6004 4)

/-- The period record a kind 2 readout asks for. -/
def State.periodRecord (s : State) (m index : Nat) : Option PeriodRecord :=
  (s.periodsHeld m).reverse.find? fun p => p.periodIndex == index

/-- The body of a prepayment readout: kind 4. -/
def State.prepayBody (s : State) (x : Meter) : Octets :=
  let t := tariffOf (s.tbSeconds + 1) (s.structure x.slotMap).slotMap
  be 8 (ofSigned 64 x.credit) ++ be 8 x.topUpTotal ++ be 8 x.chargeTotal ++ be 1 x.prepayState ++
    be 1 (bit01 x.emergencyAvailable) ++ be 2 0 ++ be 4 x.billing.lastTopUpId ++ be 2 t.2 ++ be 1 x.rateExponent ++ be 1 t.1 ++
    List.replicate 28 0

/-- The records of a kind 5 readout: the first N from its start (R403, R489). -/
def State.readoutRecords (s : State) (x : Meter) (start n : Nat) : List RingRecord :=
  ((s.storedRecords x).filter fun r => decide (start ≤ r.time)).take n

/-- A segment's page numbers with a meter's records. -/
def Segment.pagesWith (g : Segment) (m : Nat) : List Nat :=
  ((g.records.zipIdx.filter fun r => r.1.meter == m).map fun r => r.2 / 512).eraseDups

/-- A page with the meter's records was found uncorrectable (R489). -/
def State.recordsLost (s : State) (m : Nat) : Bool :=
  s.store.segments.any fun g => (g.pagesWith m).any g.lostPages.contains

/-- The pages with a meter's records read, on every tile (R475, R489). -/
def State.readHistory (s : State) (m : Nat) : State :=
  s.store.segments.foldl (fun s g => s.readSegment g (g.pagesWith m).contains) s

/-- The body of a readout. -/
def State.readoutBody (s : State) (q : Readout) (x : Meter) : Octets :=
  if q.kind = 1 then coldOctets x.cold
  else if q.kind = 2 then (match s.periodRecord x.number q.arg with
    | some p => coldOctets p.cold ++ demandOctets p.demandMax
    | none => [])
  else if q.kind = 3 then demandOctets x.billing.demandMax
  else if q.kind = 4 then s.prepayBody x
  else (s.readoutRecords x q.arg q.count).flatMap fun r => unpackWords r.words

/-- The header of a readout (R402). -/
def State.readoutHeader (s : State) (q : Readout) (x : Meter) (seq len : Nat) : Octets :=
  let p := if q.kind = 2 then s.periodRecord x.number q.arg else none
  let flags := match p with
    | some p => p.flags
    | none => x.billing.periodFlags
  let index := match p with
    | some p => p.periodIndex
    | none => x.billing.periodIndex
  let start := match p with
    | some p => p.periodStart
    | none => x.billing.periodStart
  let end_ := match p with
    | some p => p.close
    | none => 0
  let gen := s.obj 0x5010 (if q.mode = 2 then 0x18 else 0x10 + q.cls)
  be 2 0x5244 ++ be 1 1 ++ be 1 q.kind ++ be 1 q.cls ++ be 1 q.mode ++ be 2 len ++ be 8 Config.unitId.toNat ++ be 4 x.number ++
    be 2 x.incarnation ++ be 2 x.epoch ++ be 8 seq ++ be 4 (s.heat.foldAt / 1000000000) ++ be 4 s.heat.foldAt ++ be 4 index ++
    be 2 (fieldAt (s.structure x.slotMap).image 0 2) ++ be 1 x.slotMap ++
    be 1 (field flags 31 28 * 16 + 8 * bit01 x.silent + 4 * bit01 (q.kind == 5 && s.recordsLost x.number)) ++
    be 4 start ++ be 4 end_ ++ be 2 gen ++ be 6 0

/-! ### A readout's course -/

/-- A readout stored in the place of the one with its number. -/
def State.setReadout (s : State) (q : Readout) : State :=
  { s with billing := { s.billing with readouts := s.billing.readouts.map fun y => if y.id = q.id then q else y } }

/-- Signature work at the minimum rates: 40 µs and the hash of n bytes at 750 MB/s, in ns (R440). -/
def signWork (n : Nat) : Nat := 40000 + n * 4 / 3

/-- Queued public-key work of a tile, with 0x5051 of the slowest tile in ms (R442). -/
def State.setBacklog (s : State) (tile ns : Nat) : State :=
  let s1 : State := { s with keys := { s.keys with backlog := Tab.set s.keys.backlog tile ns } }
  s1.setObj 0x5051 1 (divUp ((s1.keys.backlog.map (·.2)).foldl max 0) 1000000)

/-- The backlog of a tile. -/
def State.backlogOf (s : State) (tile : Nat) : Nat := Tab.getD s.keys.backlog tile 0

/-- A bulk readout that is done moved to the stream. -/
def State.streamOne (s : State) (q : Readout) : State :=
  { s with billing := { s.billing with
    readouts := s.billing.readouts.filter fun y => y.id != q.id, stream := s.billing.stream ++ q.final } }

/-- Bulk readouts that are done move to the stream in meter-number order (R403). -/
def State.streamBulk (s : State) (n : Nat) : State :=
  match n with
  | 0 => s
  | k + 1 =>
    match s.billing.readouts.find? fun q => q.bulk with
    | some q => if q.phase = 3 then State.streamBulk (s.streamOne q) k else s
    | none => s

/-- A readout that is done: a bulk one waits for its place in the stream; another is the session's 0xC051.06 and ends its
request. -/
def State.finishReadout (s : State) (q : Readout) (bytes : Octets) (status : Nat) : State :=
  if q.bulk then (s.setReadout { q with phase := 3, final := bytes }).streamBulk s.billing.readouts.length
  else
    let s1 : State := { s with billing := { s.billing with readouts := s.billing.readouts.filter fun y => y.id != q.id } }
    (s1.setSessionVal q.session q.meter 0xC051 6 (.oct bytes)).finishRequest q.session q.tag (replyOf status)

/-- The text of a readout gathered, with the next ReadoutSeq of its class, and its first slot or its signature asked for. -/
def State.gatherReadout (s0 : State) (q : Readout) (x : Meter) : State :=
  let s := if q.kind = 5 then s0.readHistory x.number else s0
  let body := s.readoutBody q x
  let s1 := (s.bump 0x4141 (q.cls + 1)).mgmt 2 [q.cls, s.obj 0x4141 (q.cls + 1) + 1] []
  let text := s1.readoutHeader q x (s1.obj 0x4141 (q.cls + 1)) body.length ++ body
  let q1 : Readout := { q with text := text, phase := 1, chain := zeroBlock, done_ := 0 }
  let s2 := (s1.setReadout q1).modMeter x.number fun y =>
    if q.kind = 5 then { y with place := { y.place with readouts := (s.elapsed :: y.place.readouts).take 1001 } } else y
  let s3 := if q.mode = 1 then s2 else s2.setBacklog x.home (s2.backlogOf x.home + signWork text.length)
  (s3.enqueue x.number 1 (requestPacket q.id x.number)).2

/-- The DRAM that a readout's text is gathered from, as (tile, byte address, bytes): the meter's cold record, its billing record, or the
words of its records in the tier history and the ring of every tile (R484, R489, R496). -/
def State.readoutWords (s : State) (q : Readout) (x : Meter) : List (Nat × Nat × Nat) :=
  if q.kind = 1 then [(x.home, 512 * x.record, 512)]
  else if q.kind = 3 ∨ q.kind = 4 then [(x.home, 134217728 + 256 * x.record, 256)]
  else if q.kind = 5 then
    (s.store.tierSlots.flatMap fun e =>
      if e.1 % 4294967296 = x.number then
        (List.range e.2.records.length).map fun i => (e.1 / 4294967296, tierAddress e.2.slot (e.2.written - 1 - i), 32)
      else []) ++
    s.store.tiles.flatMap fun e =>
      (e.2.ring.zipIdx.filter fun r => r.1.meter == x.number).map fun r =>
        (e.1, 744 * 1048576 + 32 * ((e.2.ringAt + ringCapacity - e.2.ring.length + r.2) % ringCapacity), 32)
  else []

/-- The DRAM of a readout read by the management cores, and whether all of it reads (R181, R183). -/
def State.loadReadout (s : State) (q : Readout) (x : Meter) : Bool × State :=
  (s.readoutWords q x).foldl (fun r e =>
    let a := r.2.dramLoad e.1 e.2.1 e.2.2
    (r.1 && a.1, a.2)) (true, s)

/-- A readout waits no longer: a kind 1 readout for the fold after its request, run on the meter's home (R403). -/
def State.readoutReady (s : State) (q : Readout) (x : Meter) : Bool :=
  q.phase == 0 && (q.kind != 1 || (decide (q.requestedMs < s.heat.foldMs) && !s.heat.foldDue.contains x.home))

/-- A readout that is ready starts; one whose meter has gone ends with NO_METER, one whose data do not read with REFUSED (R183; DESIGN
CHOICE, log 87). -/
def State.startReadout (s : State) (q : Readout) : State :=
  if q.phase = 0 then
    match s.meter? q.meter with
    | none => s.finishReadout q [] Status.noMeter
    | some x =>
      if s.readoutReady q x then
        (match s.loadReadout q x with
         | (true, s1) => s1.gatherReadout q x
         | (false, s1) => s1.finishReadout q [] Status.refused)
      else s
  else s

/-- Readouts that are ready start; one whose meter has gone ends with NO_METER. -/
def State.startReadouts (s : State) : State := s.billing.readouts.foldl State.startReadout s

/-- The key of a readout class in the root file in force, if it is loaded (R58, R456). -/
def State.readoutRoot (s : State) (cls : Nat) : Option Octets :=
  match s.compiler.sheet with
  | none => none
  | some h => match List.find? (fun e => e.2 == 32 + cls) h.rootMap with
    | some e => some (s.root e.1)
    | none => none

/-- The chaining value over whole blocks (R88). -/
def chainBlocks (k c : Octets) (bs : List Octets) : Octets := bs.foldl (fun c b => aesBlock k (xorOctets c b)) c

/-- The first word of a part-record: [63:56] the readout's course, [55:32] its number, [31:0] the meter. -/
def Readout.head (q : Readout) : Word := BitVec.ofNat 64 (q.run % 256 * 2 ^ 56 + q.id % 2 ^ 24 * 2 ^ 32 + q.meter)

/-- The next part-record of a readout, and the readout after it: up to 64 B of text with the CMAC's chaining value, the last one
with the CMAC itself; in signed mode the text alone, which the public-key engine hashes (R87, R88, R401). -/
def Readout.part (q : Readout) (k : Octets) : Octets × Readout :=
  let text := (q.text.drop q.done_).take 64
  let k1 := cmacDouble (aesBlock k zeroBlock)
  let c := if q.mode = 2 then [] else if q.done_ + 64 < q.text.length then chainBlocks k q.chain (blocks16 text)
    else cmacChain k k1 (cmacDouble k1) q.chain (blocks16 text)
  (text ++ c, { q with done_ := min q.text.length (q.done_ + 64), chain := c })

/-- 64 B of a readout chained in a slot; its part-record goes to the readout output queue (R87, R88). -/
def State.chainReadout (s : State) (tile pipe : Nat) (q : Readout) : State :=
  match (if q.mode = 2 then some [] else s.readoutRoot q.cls) with
  | none => s.finishReadout q [] Status.refused
  | some k =>
    let (bytes, q1) := q.part k
    let s1 := ((s.setReadout q1).pushPacket tile (0x48 + pipe) .pipeline (packetOf q.head bytes)).2
    if q1.done_ < q.text.length then (s1.enqueue q.meter 1 (requestPacket q.id q.meter)).2 else s1

/-- The readout that a packet names chained into its slot. -/
def State.readoutPacket (s : State) (tile pipe : Nat) (pk : List (Word × Byte)) : State :=
  match s.billing.readouts.find? fun q => decide (q.id = packetHead pk / 4294967296) && q.phase == 1 with
  | some q => s.chainReadout tile pipe q
  | none => s

/-- READOUT_SLOT: the readout a request of the pipeline's readout queue names. -/
def execReadoutSlot (tile pipe k : Nat) (s : State) : Result :=
  ok (requestSlot s 2 tile pipe k (0x10 + pipe) 12 fun s _ pk => s.readoutPacket tile pipe pk)

/-- A packet of a readout output queue added to its readout: its text, and after the last the CMAC; a signed one then waits
for its signature (R401, R441). Part-records of a course that was restarted are discarded (R757). -/
def State.takeReadout (s1 : State) (pk : List (Word × Byte)) : State :=
  match s1.billing.readouts.find? fun q => decide (q.head.toNat = packetHead pk) with
  | none => s1
  | some q =>
    let n := min 64 (q.text.length - q.final.length)
    let bytes := q.final ++ (packetBytes pk).take n
    if bytes.length < q.text.length then s1.setReadout { q with final := bytes }
    else if q.mode = 2 then s1.setReadout { q with final := bytes, phase := 2 }
    else s1.finishReadout q (bytes ++ (packetBytes pk).drop n) Status.ok

/-- The packets of a readout output queue collected by the management cores: each adds its bytes to its readout, and the
last ends it (R402). -/
def State.drainReadoutQueue (s : State) (tile pipe : Nat) : State :=
  s.drainQueue tile (0x48 + pipe) Producer.management.code fun s pk => s.takeReadout pk

/-- Every readout output queue collected. -/
def State.drainReadouts (s : State) : State :=
  s.eachTile fun s t => (List.range 8).foldl (fun s p => s.drainReadoutQueue t p) s

/-- READOUT_SIGNED: the oldest signed readout of a tile completed by its public-key engine (R441, R442). -/
def execReadoutSigned (tile : Nat) (s : State) : Result :=
  if !s.awake then ok s else
  let mine (q : Readout) : Bool := q.phase == 2 && (match s.meter? q.meter with
    | some x => x.home == tile
    | none => tile == 0)
  match s.billing.readouts.find? mine with
  | none => ok s
  | some q =>
    if (s.kat tile 1).faulted || (s.kat tile 2).faulted then ok s
    else
      let sig := ecdsaSign (ofBe (s.keyMaterial 4)) (sha256 q.text)
      ok (((s.count tile 25 1).setBacklog tile (s.backlogOf tile - signWork q.text.length)).finishReadout q (q.text ++ sig) Status.ok)

/-- A readout asked for is refused: its class off, a period not closed or not held, a FAULTED engine; or the engine is busy
beyond 1 s (R403, R468). None where it may run. -/
def State.readoutRefusal (s : State) (x : Meter) (kind cls arg count : Nat) : Option Reply :=
  if kind = 0 ∨ 5 < kind ∨ 7 < cls ∨ (kind = 5 ∧ (count = 0 ∨ 96 < count)) then some (replyOf Status.outOfRange)
  else if s.readoutMode cls = 0 then some (replyOf Status.refused)
  else if kind = 2 ∧ (s.periodRecord x.number arg).isNone = true then some (replyOf Status.refused)
  else if s.readoutMode cls = 2 ∧ ((s.kat x.home 1).faulted || (s.kat x.home 2).faulted) = true then some (replyOf Status.refused)
  else if s.readoutMode cls = 2 ∧ 1000 < s.obj 0x5051 1 then some (replyHint Status.busy (s.obj 0x5051 1))
  else none

/-- A readout queued. -/
def State.askReadout (s : State) (m kind cls arg count session tag : Nat) (bulk : Bool) : State :=
  let q : Readout := { id := s.billing.nextReadout, meter := m, kind := kind, cls := cls, arg := arg, count := count,
                       session := session, tag := tag, bulk := bulk, mode := s.readoutMode cls, requestedMs := s.heat.foldMs }
  { s with billing := { s.billing with readouts := s.billing.readouts ++ [q], nextReadout := s.billing.nextReadout + 1 } }

/-- MeterReadout submitted: its final reply waits for the readout. -/
def meterReadout (m kind cls arg count tag : Nat) (s : State) (x : Session) : Done :=
  match s.meter? m with
  | none => Done.refuse s Status.noMeter
  | some y =>
    match s.readoutRefusal y kind cls arg count with
    | some p => { reply := p, state := s }
    | none =>
      { reply := replyOf Status.pending, final := false
        state := (s.askReadout m kind cls arg count x.id tag false).startReadouts }

/-- METER_READOUT: a write of 1 to 0xC051.05 after its kind, class, period or start, and N. -/
def execMeterReadout (r : Req) (meter kind cls arg count : Nat) (s : State) : Result :=
  ok (udxWrite s r 0xC051 5 meter (be 1 1) (meterReadout meter kind cls arg count r.tag))

/-- BulkReadout submitted: one readout per meter of a structure, 0xFF all, in meter-number order. Kind 2 reads the last
period closed and kind 5 the first 96 records held (log 33). -/
def bulkReadout (structure_ kind cls : Nat) (s : State) (_ : Session) : Done :=
  let ms := (s.meters.filter fun x => !x.retiring && (structure_ == 0xFF || x.slotMap == structure_)).mergeSort
    fun a b => decide (a.number ≤ b.number)
  if kind = 0 ∨ 5 < kind ∨ 7 < cls then Done.refuse s Status.outOfRange
  else if s.readoutMode cls = 0 then Done.refuse s Status.refused
  else if s.readoutMode cls = 2 ∧ 1000 < s.obj 0x5051 1 then { reply := replyHint Status.busy (s.obj 0x5051 1), state := s }
  else
    let s0 : State := if s.billing.readouts.any fun q => q.bulk then s else { s with billing := { s.billing with stream := [] } }
    let index (x : Meter) : Nat := if kind = 2 then ((s.periodsHeld x.number).getLast?.map (·.periodIndex)).getD 0 else 0
    Done.ok ((ms.foldl (fun s x =>
      if (s.readoutRefusal x kind cls (index x) 96).isNone then s.askReadout x.number kind cls (index x) 96 0 0 true else s) s0)
        ).startReadouts

/-- BULK_READOUT: a submit of 0x4142. -/
def execBulkReadout (r : Req) (structure_ kind cls : Nat) (s : State) : Result :=
  ok (udxWrite s r 0x4142 4 0 (be 1 1) (bulkReadout structure_ kind cls))

/-! ### Threshold descriptors (R372) -/

/-- A crossed level recorded and told to the prepayment state machine (R372, R397). Levels: 0 LowCredit, 1 zero, 2 floor. -/
def State.levelCrossed (s : State) (m level : Nat) : State :=
  ((s.offerLimited (0xE508 + level) 0 0 [m])).creditCrossed m level

/-- CREDIT_THRESHOLD: the threshold descriptor at the head of a pipeline's event queue, after the reports before it. -/
def execCreditThreshold (tile pipe : Nat) (s : State) : Result :=
  let s := s.events tile pipe
  match s.eventHead tile pipe 2 with
  | none => ok s
  | some (d, _) =>
    ok ((List.range 3).foldl (fun s l => if bitAt d l then s.levelCrossed (d / 4294967296) l else s) (s.takeEvent tile pipe))

end Sys2Proof.Machine
end

