-- ==== Sys2Proof/Machine/Time.lean ====
section
/-! DEFINITION. The timebase: samples, steps, the rate servo, leap ramps, PTP, time outputs and the time input (14 R503 to
R531). -/

namespace Sys2Proof.Machine

/-! ### States, arming and samples (R509 to R515) -/

/-- The timebase's state with its event (R510). -/
def State.setTimeState (s : State) (n : Nat) : State :=
  if s.clock.state = n then s
  else ((({ s with clock := { s.clock with state := n } } : State).setObj 0x7002 1 n).offer 0xE703 0
    [s.clock.state, n, s.clock.source])

/-- StepArmed: 0 disarmed, 1 armed, 2 pending. -/
def State.setArmed (s : State) (n : Nat) : State :=
  ({ s with clock := { s.clock with armed := n } } : State).setObj 0x7002 2 n

/-- The step armed (R512, R516). -/
def State.armStep (s : State) (cause : Nat) (until_ : Option Nat) : State :=
  ((({ s with clock := { s.clock with armUntil := until_, run := [] } } : State).setArmed 1).offer 0xE701 0 [cause])

/-- The step disarmed without a step (R513, R516). -/
def State.disarmStep (s : State) (reason : Nat) : State :=
  ((({ s with clock := { s.clock with armUntil := none } } : State).setArmed 0).offer 0xE702 0 [reason])

/-- The decision on an offset: a step at the first whole ms of the timebase at least 2 ms from now, or none (R513, R514). -/
def State.decideStep (s : State) (offset : Int) : State :=
  if s.obj 0x7004 1 * 1000 ≤ offset.natAbs then
    ({ s with clock := { s.clock with step := some (offset, divUp (s.tbNs + 2000000) 1000000 * 1000000), armUntil := none } }
      : State).setArmed 2
  else s.disarmStep 0

/-- The median of a run of offsets; of an even number the mean of the middle two, rounded down (DESIGN CHOICE, log 80). -/
def median (l : List Int) : Int :=
  let r := l.foldl (fun acc x => (acc.takeWhile (· < x)) ++ x :: (acc.dropWhile (· < x))) []
  let n := r.length
  if n % 2 = 1 then r.getD (n / 2) 0 else (r.getD (n / 2 - 1) 0 + r.getD (n / 2) 0) / 2

/-- A sample agrees with a run within 1 µs (R513). -/
def agrees (run : List Int) (x : Int) : Bool := run.all fun y => decide ((x - y).natAbs ≤ 1000)

/-- An armed step's sample: the host's decides alone; a PTP sample that does not agree with the run before it begins a new
run, and the samples of the old one are counted (R513, R530). -/
def State.armedSample (s : State) (offset : Int) : State :=
  if s.clock.source = 3 then s.decideStep offset
  else
    let run := s.clock.run
    let keep := agrees run offset
    let run1 := if keep then offset :: run else [offset]
    let s1 : State := { s with clock := { s.clock with run := run1 } }
    let s2 := if keep then s1 else s1.addObj 0x7026 8 run.length
    if s.obj 0x7004 2 ≤ run1.length then s2.decideStep (median run1) else s2

/-- The offset alarm of a disarmed timebase, recorded again only after 1 min within LockThreshold (R515). -/
def State.offsetAlarm (s : State) (offset : Int) : State :=
  let calm := decide (offset.natAbs ≤ s.obj 0x7005 1)
  let since := if calm then s.clock.calmSince else s.elapsed
  let cleared := s.clock.alarmed && calm && decide (since + 60000000000 ≤ s.elapsed)
  let s1 : State := { s with clock := { s.clock with calmSince := since, alarmed := s.clock.alarmed && !cleared } }
  if s1.obj 0x7005 2 * 1000000 < offset.natAbs ∧ s1.clock.alarmed = false then
    ({ s1 with clock := { s1.clock with alarmed := true } } : State).offer 0xE704 0 [ofSigned 64 (offset / 1000000)]
  else s1

/-- The state samples give: LOCKED after 16 of them within LockThreshold, else ACQUIRING (R510). -/
def State.lockState (s : State) : Nat :=
  let l := s.clock.samples.take 16
  if 16 ≤ l.length ∧ (l.all fun x => decide (x.natAbs ≤ s.obj 0x7005 1)) = true then 2 else 1

/-- An offset sample of the source in force (R509, R510, R513, R515). -/
def State.timeSample (s : State) (offset : Int) : State :=
  let s1 := ({ s with clock := { s.clock with
    offset := offset, sampleAt := s.elapsed, fresh := true, samples := (offset :: s.clock.samples).take 16 } } : State).setObjI
      0x7002 3 offset
  let s2 := if s.clock.armed = 1 then s1.armedSample offset else if s.clock.armed = 0 then s1.offsetAlarm offset else s1
  s2.setTimeState s2.lockState

/-- HostTimeSet submitted; the source in force must be the host (R509; DEDUCED, log 80). -/
def hostTimeSet (seconds ns : Nat) (s : State) (_ : Session) : Done :=
  if 999999999 < ns then Done.refuse s Status.outOfRange
  else if s.clock.source ≠ 3 then Done.refuse s Status.refused
  else Done.ok (s.timeSample ((seconds * 1000000000 + ns : Nat) - (s.tbNs : Int)))

/-- HOST_TIME_SET: a write of 1 to 0x7020.03 after its seconds and nanoseconds. -/
def execHostTimeSet (r : Req) (seconds ns : Nat) (s : State) : Result :=
  ok (udxWrite s r 0x7020 3 0 (be 1 1) (hostTimeSet seconds ns))

/-! ### Steps (R514, R517, R518, R526) -/

/-- A time output. -/
def State.timeOut (s : State) (n : Nat) : TimeOut := Tab.getD s.clock.outs n {}

/-- A time output stored, with its status. -/
def State.setTimeOut (s : State) (n : Nat) (x : TimeOut) : State :=
  ({ s with clock := { s.clock with outs := Tab.set s.clock.outs n x } } : State).setObj (0x7030 + n) 7 x.status

/-- The effect of a step on an output: a pulse skipped is MISSED, a series goes on at its first pulse at or after the new
time (R526). -/
def State.stepOutput (s : State) (before after n : Nat) : State :=
  let x := s.timeOut n
  if x.status ≠ 1 then s
  else if x.mode = 1 ∧ before < x.start ∧ x.start ≤ after then
    (s.setTimeOut n { x with status := 3 }).offer 0xE708 0 [n, x.start / 1000000000]
  else if x.mode = 2 then
    s.setTimeOut n { x with produced := if after ≤ x.start then 0 else divUp (after - x.start) (max 1 x.period) }
  else s

/-- Ingress descriptors of the frames that wait in queues. -/
def State.waitingDescriptors (s : State) : List Nat :=
  (s.queues.queues.flatMap fun e =>
    if e.1 % 256 < 8 ∨ (0x58 ≤ e.1 % 256 ∧ e.1 % 256 < 0x64) ∨ (0x68 ≤ e.1 % 256 ∧ e.1 % 256 < 0x70) ∨
        (0x78 ≤ e.1 % 256 ∧ e.1 % 256 < 0x88) ∨ 0xA0 ≤ e.1 % 256 then
      (packetsOf 4096 e.2.unread).map packetHead
    else []) ++ s.heat.transfers.map (fun x => packetHead x.words)

/-- The step applied: every tile's count, the mains history, radio superframes, billing and the outputs (R514, R517). -/
def State.applyStep (s : State) (step : Int) : State :=
  let before := s.tbNs
  let after := ((before : Int) + step).toNat
  let s1 : State := { s with clock := { s.clock with
    tb := ((s.clock.tb : Int) + step * 4294967296).toNat, step := none, samples := [], run := []
    preStep := s.waitingDescriptors, preStepBy := step } }
  let s2 := (s1.setArmed 0).offer 0xE700 0 [ofSigned 64 step, s.clock.source]
  let s3 := s2.setTimeState 1
  let s4 := ((s3.shiftMains step).stepRadio).billingStep step (before / 1000000000) (after / 1000000000)
  (List.range 4).foldl (fun s n => s.stepOutput before after n) s4

/-- TIME_STEP at its millisecond. -/
def execTimeStep (s : State) : Result :=
  match s.stepDue with
  | some d => ok (s.applyStep d)
  | none => ok s

/-- SOURCE_TIMEOUT: no sample for SourceTimeout (R510). -/
def execSourceTimeout (s : State) : Result :=
  okIf ((s.clock.state == 1 || s.clock.state == 2) && s.due s.clock.sampleAt (s.obj 0x7005 4 * 1000000000)) s (s.setTimeState 3)

/-- STEP_ARM_EXPIRY: an armed step whose window has passed (R516). -/
def execStepArmExpiry (s : State) : Result :=
  match s.clock.armUntil with
  | some t => okIf (s.clock.armed == 1 && decide (t ≤ s.elapsed)) s (s.disarmStep 1)
  | none => ok s

/-- REARM_TIME_STEP: owner action 5; refused while a step is armed or pending (R516). -/
def execRearmTimeStep (r : Req) (params tag : Octets) (s : State) : Result :=
  ownerWrite s r 5 params tag (fun s => s.clock.armed == 0) fun s =>
    s.armStep 1 (some (s.elapsed + s.obj 0x7004 3 * 1000000000))

/-- The slave of a tile aligns now: once a millisecond, with the management slot that brings tile 0's value; tile 0 has no slave
(R507). -/
def State.alignsNow (s : State) (tile : Nat) : Bool :=
  decide (0 < tile) && decide (tile < s.nTiles) && s.partRuns && s.managed tile &&
    decide (Tab.getD s.clock.alignedMs tile 0 ≠ s.tbMs + 1)

/-- SLAVE_ALIGNMENT of a tile's slave, with the error it shows in ns: it takes tile 0's value and rate (R507, R508). -/
def execSlaveAlignment (tile : Nat) (error : Int) (s : State) : Result :=
  if s.alignsNow tile = false then ok s
  else
    let s1 := ({ s with clock := { s.clock with
      slaves := Tab.set s.clock.slaves tile error, alignedMs := Tab.set s.clock.alignedMs tile (s.tbMs + 1) } } : State).count tile 30 0
    ok (if 32 < error.natAbs then (s1.count tile 30 1).offerLimited 0xE707 tile 0 [tile, ofSigned 32 error] else s1)

/-! ### Rate and leap ramps (R515, R519) -/

/-- The ns of a leap ramp of one second. -/
def rampSpan : Nat := 4000000000000

/-- The UTC offset in force stored, with its object in ms. -/
def State.setUtc (s : State) (ns : Int) : State :=
  ({ s with clock := { s.clock with utc := ns } } : State).setObjI 0x7012 2 (ns / 1000000)

/-- A ramp of the UTC offset toward a target starts (R519). -/
def State.startRamp (s : State) (target : Int) (end_ : Nat) : State :=
  let up := decide (s.clock.utc < target)
  ({ s with clock := { s.clock with
      utcTarget := target, rampEnd := end_, ramping := true, rampRate := if up then -250000000 else 250000000 } }
    : State).offer 0xE706 0 [bit01 up, end_ / 1000000000]

/-- A UTC offset from a source other than a leap flag: a ramp of 4,000 s per second of change (R519). -/
def State.followUtc (s : State) (seconds : Int) : State :=
  let t := seconds * 1000000000
  if s.clock.ramping ∨ s.clock.utc = t then s
  else s.startRamp t (s.tbNs + (t - s.clock.utc).natAbs * 4000)

/-- The ramp's course at a whole millisecond: it starts 4,000 s before the midnight of an announced leap, follows its line,
and ends. Without a parent the offset follows UtcOffsetDefault. -/
def State.rampStep (s : State) : State :=
  let c := s.clock
  if c.ramping then
    if c.rampEnd ≤ s.tbNs then
      (({ s with clock := { c with ramping := false, rampRate := 0, leap := 0 } } : State).setUtc c.utcTarget).setObjI 0x7012 3 0
    else
      let rest : Int := (c.rampEnd - s.tbNs : Nat) / 4000
      s.setUtc (if c.rampRate < 0 then c.utcTarget - rest else c.utcTarget + rest)
  else if c.leap ≠ 0 ∧ c.rampEnd ≤ s.tbNs + rampSpan then s.startRamp (c.utc + c.leap * 1000000000) c.rampEnd
  else if c.parent.isEmpty ∧ c.leap = 0 then s.followUtc (s.objI 0x7012 1)
  else s

/-- The servo's clamp in parts per trillion: 500 ppm, 250 ppm in a ramp. -/
def State.rateClamp (s : State) : Int := if s.clock.ramping then 250000000 else 500000000

/-- RATE_UPDATE at a whole millisecond, after a step due at it: the ramp, and the servo's correction from a new sample while
the step is disarmed; without a source the last value stays (R510, R515, R518). -/
def execRateUpdate (s : State) : Result :=
  if s.tbMs = s.clock.servoMs ∨ s.stepDue.isSome = true then ok s
  else
    let s1 := ({ s with clock := { s.clock with servoMs := s.tbMs } } : State).rampStep
    if s1.clock.armed = 0 ∧ s1.clock.fresh = true ∧ (s1.clock.state = 1 ∨ s1.clock.state = 2) then
      let raw := Config.servoRate s1.clock.rate s1.clock.offset (s1.obj 0x7005 3) s1.freeCount
      let rate := max (-s1.rateClamp) (min s1.rateClamp raw)
      ok ((({ s1 with clock := { s1.clock with rate := rate, fresh := false } } : State).drew 1).setObjI 0x7002 4 rate)
    else
      let rate := max (-s1.rateClamp) (min s1.rateClamp s1.clock.rate)
      ok (({ s1 with clock := { s1.clock with rate := rate } } : State).setObjI 0x7002 4 rate)

/-! ### Sources (R509) and the start of the timebase (R512) -/

/-- PTP state dropped: parent, exchanges, path delay. -/
def State.dropParent (s : State) (port : Nat) : State :=
  (({ s with clock := { s.clock with parent := [], parentPriority := [], pending := [], portState := port } } : State).setVal
    0x7025 1 (.oct (List.replicate 10 0))).setObj 0x7024 1 port

/-- A write of TimeSource: it takes effect at the next whole second. Code 4 is the part's own (R509). -/
def timeSourceWrite (code : Nat) (s : State) (_ : Session) : Done :=
  if code = 4 then Done.refuse s Status.refused
  else Done.ok (({ s with clock := { s.clock with newSource := some (code, s.tbSeconds + 1) } } : State).setObj 0x7003 1 code)

/-- A source in force from now. Without one the timebase runs free, unless nothing has set it yet. -/
def State.useSource (s : State) (code : Nat) : State :=
  let s1 : State := { s with clock := { s.clock with source := code, newSource := none, samples := [], run := [] } }
  let s2 := s1.dropParent (if code = 1 ∨ code = 2 then 4 else 3)
  if code = 0 ∧ s2.clock.state ≠ 0 then s2.setTimeState 4 else s2

/-- TIME_SOURCE_CHANGE at the whole second. -/
def execTimeSourceChange (s : State) : Result :=
  match s.clock.newSource with
  | some (code, sec) => okIf (decide (sec ≤ s.tbSeconds)) s (s.useSource code)
  | none => ok s

/-- The timebase at the end of bring-up: 1 s after the fold seconds of tile 0's newest journal page, or 0 (R512). -/
def State.startTimebase (s : State) : State :=
  let pages := s.billing.pages.filter fun p => p.tile == 0
  let at_ := match pages.getLast? with
    | some p => (p.seconds + 1) * 1000000000
    | none => 0
  let utc := s.objI 0x7012 1 * 1000000000
  let s1 : State := { s with clock := { s.clock with
    tb := at_ * 4294967296, state := 0, step := none, source := s.obj 0x7003 1, utcTarget := utc } }
  (((s1.setUtc utc).setObj 0x7002 1 0).dropParent 4).armStep 0 none

/-! ### PTP (R520 to R523); the message formats are those of IEEE 1588-2019 (PRESUMED, log 10) -/

/-- The Ethernet port the PTP port is on, if the source names one. -/
def State.ptpPort (s : State) : Option Nat := if s.clock.source = 1 then some 0 else if s.clock.source = 2 then some 1 else none

/-- The power profile is in force (R520). -/
def State.ptpPower (s : State) : Bool := s.obj 0x7021 2 == 1

/-- The PTP domain. -/
def State.ptpDomain (s : State) : Nat := if s.ptpPower then 0 else s.obj 0x7021 1

/-- The clockIdentity: the EUI-64 of Ethernet 0's MAC address; and the port identity (R520). -/
def ptpIdentity : Octets := (Config.mac 0).take 3 ++ [0xFF#8, 0xFE#8] ++ (Config.mac 0).drop 3
def ptpPortIdentity : Octets := ptpIdentity ++ be 2 1

/-- Fields of a PTP message. -/
def ptpType (m : Octets) : Nat := fieldAt m 0 1 % 16
def ptpDomainOf (m : Octets) : Nat := fieldAt m 4 1
def ptpTwoStep (m : Octets) : Bool := bitAt (fieldAt m 6 1) 1
def ptpUnicast (m : Octets) : Bool := bitAt (fieldAt m 6 1) 2
def ptpFlags (m : Octets) : Nat := fieldAt m 7 1
def ptpSource (m : Octets) : Octets := slice m 20 10
def ptpSeq (m : Octets) : Nat := fieldAt m 30 2

/-- correctionField in ns. -/
def ptpCorrection (m : Octets) : Int := toSigned 64 (fieldAt m 8 8) / 65536

/-- A 10-byte timestamp at an offset, in ns. -/
def ptpStamp (m : Octets) (off : Nat) : Int := fieldAt m off 6 * 1000000000 + fieldAt m (off + 6) 4

/-- A timestamp as 10 bytes. -/
def stampBytes (t : Int) : Octets := be 6 (t.toNat / 1000000000) ++ be 4 (t.toNat % 1000000000)

/-- A message of the part: header and body. -/
def State.ptpMessage (s : State) (type len seq : Nat) (correction : Int) (interval : Int) (body : Octets) : Octets :=
  be 1 type ++ be 1 2 ++ be 2 len ++ be 1 s.ptpDomain ++ be 1 0 ++ be 1 0 ++ be 1 8 ++ be 8 (ofSigned 64 correction) ++ be 4 0 ++
    ptpPortIdentity ++ be 2 seq ++ be 1 0 ++ be 1 (ofSigned 8 interval) ++ body

/-- Transmit and receive timestamps: TB64 plus the UTC offset and the port's latency, at 8 ns (R521). -/
def State.txStamp (s : State) (port : Nat) : Int := ((s.tbNs / 8 * 8 : Nat) : Int) + s.clock.utc + s.objI 0x7023 (port + 1)
def State.rxStamp (s : State) (port : Nat) : Int := ((s.tbNs / 8 * 8 : Nat) : Int) + s.clock.utc + s.objI 0x7022 (port + 1)

/-- The Ethernet port is powered: in pilot light the one that stays up (R523). -/
def State.ptpUp (s : State) (port : Nat) : Bool := decide (s.power.pilot ≠ 2) || s.obj 0xB001 2 == port

/-- The PTP transport: the power profile forces Ethernet (R520, R530). -/
def State.ptpTransport (s : State) : Nat := if s.ptpPower then 2 else s.obj 0x7021 6

/-- A PTP message in its transport: over UDP a header of ports 319 or 320 (PRESUMED, log 10), length and checksum, over IPv4 of 0 for an
event message; over IPv6 two bytes follow an event message (R520, R522). The checksums that hold are free values. -/
def State.ptpWrap (s : State) (m : Octets) : Octets :=
  let event := decide (ptpType m < 4)
  let head := be 2 (if event then 319 else 320) ++ be 2 (if event then 319 else 320)
  if s.ptpTransport = 2 then m
  else if s.ptpTransport = 0 then head ++ be 2 (m.length + 8) ++ be 2 (if event then 0 else (Config.udpChecksum m).toNat) ++ m
  else
    let tail := if event then be 2 (Config.udpTrailer m).toNat else []
    head ++ be 2 (m.length + tail.length + 8) ++ be 2 (Config.udpChecksum m).toNat ++ m ++ tail

/-- The PTP port takes a message on an Ethernet port: the source names the port and the domain is its own (R520). -/
def State.ptpTakes (s : State) (port : Nat) (m : Octets) : Bool :=
  decide (s.boot.phase = 9) && s.ptpUp port && s.ptpPort == some port && ptpDomainOf m == s.ptpDomain

/-- A PTP message received: its count of 0x7026, the frame on its port, and an event message there (R663). -/
def State.ptpHeard (s : State) (port sub : Nat) (event : Bool) : State :=
  let s1 := (s.bump 0x7026 sub).count 0 (33 + port) 0
  if event then s1.count 0 (33 + port) 7 else s1

/-- The PTP port may send: on no standby (R523). -/
def State.ptpSends (s : State) (port : Nat) : Bool :=
  decide (s.boot.phase = 9) && s.ptpUp port && s.ptpPort == some port && (decide (s.pair.state = 0) || s.pair.baton)

/-- MeanPathDelay. -/
def State.setMeanPath (s : State) (ns : Int) : State :=
  ({ s with clock := { s.clock with meanPath := ns.toNat } } : State).setObj 0x7002 5 ns.toNat

/-- A completed Sync gives its sample: the source's time less TB64, after the path delay (R509). -/
def State.syncDone (s : State) (t1 t2 : Int) : State :=
  let s1 : State := { s with clock := { s.clock with
    lastSync := (t1, t2), portState := 9, pending := s.clock.pending.filter fun e => e.kind != 0 } }
  (s1.setObj 0x7024 1 9).timeSample (t1 + (s.clock.meanPath : Int) - t2)

/-- The Sync interval a message names, −4 to 1, is one the part receives (R520). -/
def syncIntervalOk (m : Octets) : Bool := decide (-4 ≤ toSigned 8 (fieldAt m 33 1) ∧ toSigned 8 (fieldAt m 33 1) ≤ 1)

/-- PTP_SYNC received on a port; one of an interval the part does not support is counted and ignored. -/
def execPtpSync (port : Nat) (message : Octets) (s : State) : Result :=
  if !s.ptpTakes port message || s.clock.parent != ptpSource message then ok s
  else if !syncIntervalOk message then ok (s.ptpHeard port 7 true)
  else
    let s1 := s.ptpHeard port 1 true
    let t2 := s1.rxStamp port
    if ptpTwoStep message then
      let e : PtpPending := { kind := 0, seq := ptpSeq message, t1 := ptpCorrection message, t2 := t2 }
      ok { s1 with clock := { s1.clock with pending := e :: s1.clock.pending.filter fun e => e.kind != 0 } }
    else ok (s1.syncDone (ptpStamp message 34 + ptpCorrection message) t2)

/-- PTP_FOLLOW_UP of a two-step Sync. -/
def execPtpFollowUp (port : Nat) (message : Octets) (s : State) : Result :=
  if !s.ptpTakes port message || s.clock.parent != ptpSource message then ok s
  else
    let s1 := s.ptpHeard port 2 false
    match s1.clock.pending.find? fun e => e.kind == 0 && e.seq == ptpSeq message with
    | some e => ok (s1.syncDone (ptpStamp message 34 + ptpCorrection message + e.t1) e.t2)
    | none => ok s1

/-- PTP_DELAY_RESP to the part's Delay_Req: the end-to-end mean path delay. -/
def execPtpDelayResp (port : Nat) (message : Octets) (s : State) : Result :=
  if !s.ptpTakes port message || s.ptpPower || s.clock.parent != ptpSource message then ok s
  else
    let s1 := s.ptpHeard port 3 false
    if slice message 44 10 != ptpPortIdentity then ok s1
    else match s1.clock.pending.find? fun e => e.kind == 1 && e.seq == ptpSeq message with
      | some e =>
        let sum := (s1.clock.lastSync.2 - s1.clock.lastSync.1) + (ptpStamp message 34 - ptpCorrection message - e.t1)
        ok (({ s1 with clock := { s1.clock with pending := s1.clock.pending.filter fun e => e.kind != 1 } } : State).setMeanPath
          (sum / 2))
      | none => ok s1

/-- PTP_PDELAY_REQ answered with a one-step Pdelay_Resp whose correctionField gains the turnaround time in ns (R522). -/
def execPtpPdelayReq (port : Nat) (message : Octets) (turnaround : Nat) (s : State) : Result :=
  if !s.ptpTakes port message || !s.ptpPower then ok s
  else
    let s1 := s.ptpHeard port 3 true
    if !s1.ptpSends port then ok s1
    else
      let c := toSigned 64 (fieldAt message 8 8) + turnaround * 65536
      ok ((s1.bump 0x7026 5).sendOn (.ptp port)
        (s1.ptpWrap (s1.ptpMessage 3 54 (ptpSeq message) c 0x7F (List.replicate 10 0 ++ ptpSource message))))

/-- PTP_PDELAY_RESP or its follow-up: the peer mean path delay. -/
def execPtpPdelayResp (port : Nat) (message : Octets) (s : State) : Result :=
  if !s.ptpTakes port message || !s.ptpPower || slice message 44 10 != ptpPortIdentity then ok s
  else
    let s1 := s.ptpHeard port 3 (ptpType message == 3)
    match s1.clock.pending.find? fun e => e.kind == 2 && e.seq == ptpSeq message with
    | none => ok s1
    | some e =>
      let rest := s1.clock.pending.filter fun e => e.kind != 2
      if ptpType message = 0xA then
        let sum := (e.t3 - e.t1) - (ptpStamp message 34 - e.t2) - ptpCorrection message
        ok (({ s1 with clock := { s1.clock with pending := rest } } : State).setMeanPath (sum / 2))
      else if ptpTwoStep message then
        let e1 : PtpPending := { e with t2 := ptpStamp message 34 - ptpCorrection message, t3 := s1.rxStamp port }
        ok { s1 with clock := { s1.clock with pending := e1 :: rest } }
      else
        ok (({ s1 with clock := { s1.clock with pending := rest } } : State).setMeanPath
          ((s1.rxStamp port - e.t1 - ptpCorrection message) / 2))

/-- The data set an Announce shows, in the order the default BMCA compares. -/
def announceRank (m : Octets) : List Nat :=
  [fieldAt m 47 1, fieldAt m 48 1, fieldAt m 49 1, fieldAt m 50 2, fieldAt m 52 1, fieldAt m 53 8, fieldAt m 61 2, ofBe (ptpSource m)]

/-- The part's own data set: clockClass 248 (R520). -/
def State.ownRank (s : State) : List Nat :=
  [s.obj 0x7021 4, 248, 0xFE, 0xFFFF, s.obj 0x7021 5, ofBe ptpIdentity, 0, ofBe ptpPortIdentity]

/-- One data set is better than another. -/
def rankLess : List Nat → List Nat → Bool
  | a :: as, b :: bs => decide (a < b) || (decide (a = b) && rankLess as bs)
  | _, _ => false

/-- The state of a port without a parent: master where it may be, else listening. -/
def State.orphanState (s : State) : Nat := if s.obj 0x7021 3 = 1 then 4 else 6

/-- The UTC offset and the leap flags of the parent (R519). -/
def State.takeUtc (s : State) (m : Octets) : State :=
  let f := ptpFlags m
  let leap : Int := if bitAt f 0 then 1 else if bitAt f 1 then -1 else 0
  let midnight := (s.tbNs / 86400000000000 + 1) * 86400000000000
  let s1 : State :=
    if s.clock.ramping then s
    else { s with clock := { s.clock with leap := leap, rampEnd := if leap = 0 then s.clock.rampEnd else midnight } }
  let s2 := s1.setObjI 0x7012 3 s1.clock.leap
  s2.followUtc (if bitAt f 2 then toSigned 16 (fieldAt m 44 2) else s2.objI 0x7012 1)

/-- PTP_ANNOUNCE: the default BMCA's choice of a parent, and what the parent announces (R519, R520). -/
def execPtpAnnounce (port : Nat) (message : Octets) (s : State) : Result :=
  if !s.ptpTakes port message then ok s
  else
    let s1 := s.ptpHeard port 6 false
    let rank := announceRank message
    let same := s1.clock.parent == ptpSource message
    if s1.obj 0x7021 3 = 0 ∧ rankLess s1.ownRank rank = true then
      -- the part itself is better: it is master
      ok (if same || s1.clock.parent.isEmpty then s1.dropParent 6 else s1)
    else if same || s1.clock.parent.isEmpty || rankLess rank s1.clock.parentPriority then
      let s2 : State := { s1 with clock := { s1.clock with
        parent := ptpSource message, parentPriority := rank, announceAt := s1.elapsed
        announceInterval := fieldAt message 33 1, portState := if same then s1.clock.portState else 8
        samples := if same then s1.clock.samples else [] } }
      let s3 := ((s2.setVal 0x7025 1 (.oct (ptpSource message))).setObj 0x7024 1 s2.clock.portState).takeUtc message
      ok (if same then s3 else s3.offer 0xE705 0 [fieldAt message 22 6])
    else ok s1

/-- Seconds × 10^9 of a logMessageInterval, in ns. -/
def intervalNs (log : Nat) : Nat :=
  let i := toSigned 8 log
  if 0 ≤ i then 1000000000 * 2 ^ (min i.toNat 16) else 1000000000 / 2 ^ (min (-i).toNat 16)

/-- PTP_ANNOUNCE_RECEIPT_TIMEOUT: 3 intervals without an Announce from the parent drop it. -/
def execPtpAnnounceReceiptTimeout (s : State) : Result :=
  okIf (!s.clock.parent.isEmpty && s.due s.clock.announceAt (3 * intervalNs s.clock.announceInterval)) s
    (s.dropParent s.orphanState)

/-- PTP_SYNC_TRANSMIT: a master sends a one-step Sync each interval of 1 s, and an Announce each announce interval: 2 s in
the default profile, 1 s in the power profile (R520, R522). -/
def execPtpSyncTransmit (port : Nat) (s : State) : Result :=
  if s.clock.portState ≠ 6 ∨ s.ptpSends port = false ∨ s.due s.clock.syncAt 1000000000 = false then ok s
  else
    let seq := (s.clock.ptpSeq + 1) % 65536
    let fraction : Int := s.clock.tb % 4294967296 / 65536
    let sync := s.ptpMessage 0 44 seq fraction 0 (stampBytes (s.txStamp port))
    let s1 := (({ s with clock := { s.clock with ptpSeq := seq, syncAt := s.elapsed } } : State).sendOn (.ptp port) (s.ptpWrap sync)).bump 0x7026 4
    let gap := if s.ptpPower then 1000000000 else 2000000000
    if s1.due s1.clock.announcedAt gap then
      let body := stampBytes 0 ++ be 2 (ofSigned 16 (s1.clock.utc / 1000000000)) ++ be 1 0 ++ be 1 (s1.obj 0x7021 4) ++ be 1 248 ++
        be 1 0xFE ++ be 2 0xFFFF ++ be 1 (s1.obj 0x7021 5) ++ ptpIdentity ++ be 2 0 ++ be 1 0xA0
      ok (({ s1 with clock := { s1.clock with announcedAt := s1.elapsed } } : State).sendOn (.ptp port)
        (s1.ptpWrap (s1.ptpMessage 0xB 64 seq 0 (if s.ptpPower then 0 else 1) body)))
    else ok s1

/-- PTP_DELAY_REQ_TRANSMIT: each 1 s a Delay_Req to the parent, or a Pdelay_Req in the power profile (R520). -/
def execPtpDelayReqTransmit (port : Nat) (s : State) : Result :=
  if s.ptpSends port = false ∨ s.due s.clock.requestAt 1000000000 = false ∨ (s.ptpPower = false ∧ s.clock.parent.isEmpty = true) then
    ok s
  else
    let seq := (s.clock.ptpSeq + 1) % 65536
    let k := if s.ptpPower then 2 else 1
    let e : PtpPending := { kind := k, seq := seq, t1 := s.txStamp port }
    let m := if s.ptpPower then s.ptpMessage 2 54 seq 0 0x7F (List.replicate 20 0) else s.ptpMessage 1 44 seq 0 0x7F (List.replicate 10 0)
    ok (({ s with clock := { s.clock with
      ptpSeq := seq, requestAt := s.elapsed, pending := e :: s.clock.pending.filter fun e => e.kind != k } } : State).sendOn (.ptp port) (s.ptpWrap m))

/-- PTP_UNSUPPORTED_MESSAGE: Management, Signaling and unicast negotiation, counted and ignored. -/
def execPtpUnsupportedMessage (port : Nat) (message : Octets) (s : State) : Result :=
  okIf (s.ptpTakes port message && (ptpType message == 0xC || ptpType message == 0xD || ptpUnicast message)) s (s.ptpHeard port 7 false)

/-! ### Outputs and the time input (R524 to R527) -/

/-- The instant of a pulse that follows the mains: the crossing of a cycle plus Offset (R525, R528). -/
def State.mainsPulse (s : State) (cycle : Nat) (offset : Int) : Int := (s.crossingAt cycle : Int) + offset

/-- The first cycle whose pulse is not before now. -/
def State.firstCycle (s : State) (offset : Int) : Nat :=
  let per := (Tab.getD s.line.mains s.line.authority {}).period
  let d : Int := (s.tbNs : Int) - offset - s.line.cycleAt
  ofSigned 32 ((s.line.cycle : Int) + (if 0 < per then (d + per - 1) / (per : Int) else 0))

/-- The record of a time output as its object holds it. -/
def State.outRecord (s : State) (n : Nat) : TimeOut :=
  let o := 0x7030 + n
  { mode := s.obj o 1, start := s.obj o 2, period := s.obj o 3, width := s.obj o 4, low := s.obj o 5 == 1, cycle := s.obj o 8
    offset := s.objI o 9 }

/-- An arm is refused (R524). -/
def State.armRefused (s : State) (x : TimeOut) : Bool :=
  decide ((x.mode = 1 ∨ x.mode = 2) ∧ x.start < s.tbNs + 1000000) || decide (x.width = 0 ∨ x.period ≤ x.width ∨ x.period < 1000) ||
    decide (x.mode = 4 ∧ s.mainsPulse x.cycle x.offset < (s.tbNs : Int) + 1000000)

/-- A write of 1 to Arm: the record's values in force. -/
def timeOutputArm (n : Nat) (s : State) (_ : Session) : Done :=
  let x := s.outRecord n
  if s.armRefused x then Done.refuse s Status.refused
  else Done.ok (s.setTimeOut n { x with
    status := if x.mode = 0 then 0 else 1, produced := if x.mode = 3 then s.firstCycle x.offset else 0 })

/-- TIME_OUTPUT_ARM of output 0 to 3. -/
def execTimeOutputArm (r : Req) (output : Nat) (s : State) : Result :=
  okIf (decide (output < 4)) s (udxWrite s r (0x7030 + output) 6 0 (be 1 1) (timeOutputArm output))

/-- The instant of an output's next pulse, if it has one. -/
def State.nextPulse (s : State) (x : TimeOut) : Option Int :=
  if x.status ≠ 1 ∨ ((x.mode = 1 ∨ x.mode = 4) ∧ x.produced ≠ 0) then none
  else if x.mode = 1 then some x.start
  else if x.mode = 2 then some (x.start + x.produced * x.period : Nat)
  else if x.mode = 3 then some (s.mainsPulse x.produced x.offset)
  else if x.mode = 4 then some (s.mainsPulse x.cycle x.offset)
  else none

/-- The record after its pulse, with the end of its Width on the part's own clock, which no step moves (R526): a single pulse is done, a
series goes on. -/
def TimeOut.pulsed (x : TimeOut) (now : Nat) : TimeOut :=
  { x with
    activeUntil := now + x.width
    status := if x.mode = 1 ∨ x.mode = 4 then 2 else x.status
    produced := if x.mode = 3 then (x.produced + 1) % 4294967296 else x.produced + 1 }

/-- TIME_OUTPUT_PULSE at its instant; while the timebase is UNSET the edge is not produced, and the series goes on; a single pulse's record
stays armed and its edge is past (R525; DESIGN CHOICE, log 80). -/
def execTimeOutputPulse (output : Nat) (s : State) : Result :=
  let x := s.timeOut output
  match s.nextPulse x with
  | none => ok s
  | some t =>
    if output < 4 ∧ t ≤ (s.tbNs : Int) then
      if s.clock.state = 0 then
        ok (s.setTimeOut output { x.pulsed s.elapsed with activeUntil := x.activeUntil, status := x.status })
      else ok ((s.setTimeOut output (x.pulsed s.elapsed)).send (.pulse 0 output) [])
    else ok s

/-- TIME_IN_CAPTURE: a rising edge at 8 ns resolution; the last 16 are kept (R527). -/
def execTimeInCapture (s : State) : Result :=
  okIf (decide (s.boot.phase = 9)) s
    (({ s with clock := { s.clock with captures := ((s.tbNs / 8 * 8) :: s.clock.captures).take 16 } } : State).count 0 30 2)

/-- 0x7038.01: 16 captures, newest first. -/
def State.captureImage (s : State) : Octets := (List.range 16).flatMap fun i => be 8 (s.clock.captures.getD i 0)

end Sys2Proof.Machine
end

