-- ==== Sys2Proof/Machine/Pair.lean ====
section
/-! DEFINITION. Pair operation: roles, the baton, handover, synchronisation, digests and repair (15 R532 to R572). -/

namespace Sys2Proof.Machine

/-! ### States, checks and flags (R539, R540, R559) -/

/-- The pair state with its event. -/
def State.setPairState (s : State) (n : Nat) : State :=
  if s.pair.state = n then s
  else (({ s with pair := { s.pair with state := n } } : State).setObj 0x8001 1 n).offer 0xE780 0 [s.pair.state, n]

/-- A check stands (R559). -/
def State.checkStands (s : State) (n : Nat) : Bool :=
  if n = 0 then s.fabric.pipes.any fun e => e.2.state != 0
  else if n = 1 then !s.katsPass
  else if n = 3 then s.heat.monitors.any fun e => e.2.fault
  else if n = 4 then s.recorder.health.any fun e => e.2.state != 0
  else if n = 5 then s.power.warning || s.power.supplyBad
  else if n = 6 then s.overTemp
  else if n = 7 then (List.range s.nTiles).any fun t => s.obj 0x6006 (t + 1) == 2
  else false

/-- The checks that stand, as a mask. -/
def State.standing (s : State) : Nat := (List.range 8).foldl (fun a n => if s.checkStands n then a + 2 ^ n else a) 0

/-- The checks that failed in the last 1,000 heats, as a mask. -/
def State.lastFailed (s : State) : Nat := (List.range 8).foldl (fun a n => match Tab.find? s.pair.failedHeat n with
  | some h => if s.heat.count ≤ h + 1000 then a + 2 ^ n else a
  | none => a) 0

/-- 0x8005.01 DiagnosisState. -/
def State.diagnosisState (s : State) : Nat :=
  min 65535 (s.pair.failedTimes.filter fun t => decide (s.elapsed < t + 86400000000000)).length * 65536 + s.standing * 256 +
    s.lastFailed

/-- A standby is eligible (R540). -/
def State.pairEligible (s : State) : Bool := s.pair.state == 4 && s.standing == 0 && s.lastFailed == 0 && !s.pair.held

/-- The mirror heartbeat is current. -/
def State.heartbeatCurrent (s : State) : Bool := s.pair.heartbeatLost.isNone && s.pair.heartbeatHeat != 0

/-- PEER_ALIVE (R535, R564). -/
def State.peerAlive (s : State) : Bool :=
  s.pair.batonIn != 0 && (s.heartbeatCurrent || (s.pair.batonIn == 2 && !s.pair.baton && !s.pair.fieldSilent && s.pair.state == 5))

/-- 0x8001.02 PairFlags. -/
def State.pairFlags (s : State) : Nat :=
  bit01 s.pair.baton * 128 + bit01 s.pairEligible * 64 + bit01 s.pair.held * 32 + bit01 s.peerAlive * 16 + bit01 s.pair.linkUp * 8 +
    bit01 (s.pair.batonIn != 0) * 4

/-- The peer is eligible by its last HEARTBEAT (R537, R540). -/
def State.peerEligible (s : State) : Bool :=
  s.heartbeatCurrent && s.pair.peerState == 4 && bitAt s.pair.peerFlags 6 && !s.pair.peerDetached

/-- The guard in ns. -/
def State.laneGuard (s : State) : Nat := s.obj 0x8000 5 * 1000

/-! ### Receiving on the mirror link (R536, R548) -/

/-- The messages with a LinkSeq up to `ack` are acknowledged; so are the MGMT records of writes put off. -/
def State.mirrorAcked (s : State) (ack : Nat) : State :=
  { s with pair := { s.pair with
    unacked := s.pair.unacked.filter fun m => decide (ack < m.seq)
    deferred := s.pair.deferred.map fun d => if d.seq ≤ ack then { d with acked := true } else d } }

/-- Writes put off that are applied and acknowledged get their replies (R548). -/
def State.finishDeferred (s : State) : State :=
  s.pair.deferred.foldl (fun s d =>
    if d.applied && d.acked then
      let s1 : State := { s with pair := { s.pair with deferred := s.pair.deferred.filter fun e => e.seq != d.seq } }
      if d.final then s1.finishRequest d.session.id d.tag d.reply else s1
    else s) s

/-- A message of the peer: taken in LinkSeq order; another is answered by its repeat. Its AckSeq is taken in any case. -/
def State.mirrorTake (s : State) (seq ack : Nat) (act : State → State) : State :=
  if s.mirrorUp then
    let s1 := ((s.mirrorAcked ack).finishDeferred).count 0 35 1
    if seq = s1.pair.recvSeq + 1 then act { s1 with pair := { s1.pair with recvSeq := seq } } else s1
  else s

/-- The standby no longer holds the active's replies back (R548). -/
def State.releaseReplies (s : State) : State :=
  ({ s with pair := { s.pair with deferred := s.pair.deferred.map fun d => { d with acked := true } } } : State).finishDeferred

/-- MIRROR_REPEAT: messages not acknowledged within 2 µs are repeated. -/
def execMirrorRepeat (s : State) : Result :=
  if s.mirrorUp then
    let late := s.pair.unacked.filter fun m => s.due m.sentAt 2000
    ok (late.foldl (fun s m => (s.sendOn (.mirror m.kind) (mirrorBytes m.kind 128 m.seq s.pair.recvSeq m.body)).count 0 35 3)
      { s with pair := { s.pair with
        unacked := s.pair.unacked.map fun m => if s.due m.sentAt 2000 then { m with sentAt := s.elapsed } else m } })
  else ok s

/-- MGMT_ACK_TIMEOUT: a record not acknowledged within 1 ms detaches the standby. -/
def execMgmtAckTimeout (s : State) : Result :=
  okIf (s.mirrorUp && s.pair.state == 2 && s.pair.unacked.any fun m => m.kind == 7 && s.due m.sentAt 1000000) s
    (({ s with pair := { s.pair with peerDetached := true, peerSync := false } } : State).releaseReplies)

/-! ### Records of a meter (R543, R556) -/

/-- A billing record as 256 bytes (R363). -/
def billingOctets (b : Billing) : Octets :=
  padTo 256 ((b.bases.flatMap fun v => be 8 v) ++ be 8 b.extraBase ++ be 8 b.chargeBase ++ be 4 b.periodIndex ++ be 4 b.periodStart ++
    be 4 b.lastFold ++ be 4 b.periodFlags ++ demandOctets b.demandMax ++ be 4 b.lastTopUpId)

/-- A billing record from 256 bytes, over the record held. -/
def billingFrom (b : Billing) (o : Octets) : Billing :=
  { b with
    foldBase := (List.range 4).map fun r => fieldAt o (8 * r) 8
    extraBase := fieldAt o 32 8
    chargeBase := fieldAt o 40 8
    periodIndex := fieldAt o 48 4
    periodStart := fieldAt o 52 4
    lastFold := fieldAt o 56 4
    periodFlags := fieldAt o 60 4
    demandMax := (List.range 16).map fun i => (fieldAt o (64 + 8 * i) 4, fieldAt o (68 + 8 * i) 4)
    lastTopUpId := fieldAt o 192 4 }

/-- The hot-record words that a sync and a repair carry: all but the placement word. -/
def mirroredWords : List Nat := [0, 1, 2, 4, 5, 6, 7, 8, 9, 10, 11, 12, 13, 14, 15]

/-- The 888 bytes of a meter: hot words 0 to 2 and 4 to 15, cold record, billing record. -/
def meterRecord (x : Meter) : Octets :=
  (mirroredWords.flatMap fun w => be 8 (x.word w)) ++ coldOctets x.cold ++ billingOctets x.billing

/-- A meter's records written from 888 bytes. -/
def State.writeRecord (s : State) (m : Nat) (o : Octets) : State :=
  match s.meter? m with
  | none => s
  | some x =>
    let x1 := mirroredWords.zipIdx.foldl (fun x e => x.setWord e.1 (fieldAt o (8 * e.2) 8)) x
    (s.setMeter { x1 with cold := (List.range 64).map fun i => BitVec.ofNat 64 (fieldAt o (120 + 8 * i) 8)
                          billing := billingFrom x1.billing (o.drop 632) }).hotClean x

/-! ### Synchronisation (R543, R544) -/

/-- A standby starts a sync: its index entries are quarantined (R543 step 1). -/
def State.startSync (s : State) (cause : Nat) : State :=
  if s.pair.mismatch then s
  else
    let s1 : State := { s with pair := { s.pair with
      quarantine := true, paused := false, syncCause := none, sync := { phase := 1, startedAt := s.elapsed } } }
    ((s1.setPairState 3).bump 0x8007 5).offer 0xE786 0 [cause]

/-- A sync chunk of the active: kind, key and data (log 35). -/
def State.sendChunk (s : State) (kind key : Nat) (data : Octets) : State := s.mirrorSend 10 (be 1 kind ++ be 8 key ++ data)

/-- Records read, sent and remembered; a meter whose records do not read stays marked (R543; log 87). -/
def State.sendMeter (s0 : State) (x : Meter) : State :=
  let s := s0.readRecords x
  if s.1 then
    let r := meterRecord x
    let s1 := s.2.sendChunk 0 x.number r
    { s1 with pair := { s1.pair with sync := { s1.pair.sync with sent := Tab.set s1.pair.sync.sent x.number r } } }
  else s.2

/-- Meters whose records differ from those last sent: the marked ones. -/
def State.marked (s : State) : List Meter :=
  s.meters.filter fun x => Tab.find? s.pair.sync.sent x.number != some (meterRecord x)

/-- The slot assignment of an association as a chunk's data. -/
def Assoc.chunk (a : Assoc) : Octets := match a.cells with
  | some c => be 1 1 ++ be 2 c.span ++ be 2 c.phase ++ be 1 c.logP
  | none => be 1 0

/-- A committed input sent. -/
def State.sendInput (s : State) (e : Nat × Val) : State :=
  if isInput (e.1 / 256) (e.1 % 256) then
    match e.2 with
    | .num i => s.sendChunk 5 e.1 (be 8 (ofSigned 64 i))
    | .oct b => s.sendChunk 5 e.1 b
  else s

/-- The tags and tone maps of a line lane sent. -/
def State.sendLine (s : State) (k : Nat) (x : LineLane) : State :=
  let s1 := x.tags.foldl (fun s g => s.sendChunk 2 (k * 65536 + g.1) (be 4 g.2.meter ++ be 1 g.2.kind)) s
  let s2 := x.maps.foldl (fun s g => s.sendChunk 12 (k * 4294967296 + g.1) g.2.image) s1
  x.given.foldl (fun s g => s.sendChunk 13 (k * 4294967296 + g.1) g.2) s2

/-- The associations and channel fixes of a radio lane sent. -/
def State.sendRadioLane (s : State) (k : Nat) (x : RadioLane) : State :=
  let s1 := x.assocs.foldl (fun s g => s.sendChunk 3 (k * 4294967296 + g.1) g.2.chunk) s
  x.fixed.foldl (fun s g => s.sendChunk 14 (k * 4294967296 + g.1) (be 1 g.2)) s1

/-- The calendar images of a structure sent: in force with its period, pending, and held. -/
def State.sendStructure (s : State) (n : Nat) (c : Structure) : State :=
  let s1 := s.sendChunk 6 n (be 4 c.periodIndex ++ be 4 c.lastClose ++ c.image)
  let s2 := if c.pending then s1.sendChunk 15 n (be 4 c.pendingAt ++ c.pendingImage) else s1
  s2.sendChunk 16 n c.heldImage

/-! ### Staged containers (R438, R672, R677, R687) -/

/-- The part runs from ROM: owner sessions, containers in clear (R686). -/
def State.inRom (s : State) : Bool := decide (s.boot.phase = 11)

/-- Blocks of a container. -/
def UpdateState.blocks (u : UpdateState) : Nat := divUp u.length 4096

/-- The container as staged. -/
def UpdateState.container (u : UpdateState) : Octets :=
  ((List.range u.blocks).flatMap fun n => padTo 4096 (Tab.getD u.area n [])).take u.length

/-- Check 1: the header agrees with the target (R672). In ROM recovery, Magic, Version, Kind 0, and zero IV and tag. -/
def State.headerGood (s : State) (c : Octets) (target : Nat) : Bool :=
  let body := fieldAt c 8 4
  let base := fieldAt c 0 2 == 0x5550 && fieldAt c 2 1 == 1 && fieldAt c 3 1 == (if target = 0 then 0 else 1) &&
    c.length == 80 + body
  let named := base && fieldAt c 4 4 != 0 && fieldAt c 4 4 != 0xFFFFFFFF
  if s.inRom then named && fieldAt c 16 4 == 0 && fieldAt c 20 8 == 0 && (c.drop (64 + body)).all (· == 0)
  else
    named && decide (1 ≤ body) &&
      (target == 0 || decide (body ≤ 524288)) && fieldAt c 14 2 == 0 && (slice c 28 36).all (· == 0)

/-- The image a container holds: its body opened under the update decryption key, in clear in ROM recovery. -/
def State.containerBody (s : State) (c : Octets) : Octets :=
  let body := (c.drop 64).take (fieldAt c 8 4)
  if s.inRom then body else gcmText (s.keyMaterial 5) (slice c 16 12) body

/-- Check 3: the tag over header and ciphertext. -/
def State.containerTag (s : State) (c : Octets) : Bool :=
  (s.keySlot 5).isSome &&
    gcmTag (s.keyMaterial 5) (slice c 16 12) (slice c 0 64) ((c.drop 64).take (fieldAt c 8 4)) == c.drop (64 + fieldAt c 8 4)

/-- The ticket of a staged container: key slot 5 of tile 0, its IV, the staging area and its length (R438). -/
def UpdateState.ticket (u : UpdateState) : Ticket :=
  { tile := 0, slot := 5, iv := slice u.container 16 12, area := 0, length := u.length }

/-- The verify-only pass over a staged container whose header and generation hold: PASS issues its ticket (R438, R677). -/
def State.verifyPass (s : State) : State :=
  let c := s.update.container
  if s.headerGood c s.update.target && fieldAt c 12 2 == s.obj 0x5010 25 && s.containerTag c then
    { s with keys := { s.keys with tickets := s.keys.tickets ++ [s.update.ticket] } }
  else s

/-- The staged container sent to the standby (R687). -/
def State.sendContainer (s : State) : State :=
  if s.pair.state = 2 ∧ s.mirrorUp = true then
    (s.update.area.foldl (fun (s : State) e => s.sendChunk 10 e.1 e.2) s).sendChunk 11 s.update.target (be 4 s.update.length)
  else s

/-- The directory, the lane tables, key generations, committed inputs and calendars of a first pass. -/
def State.sendTables (s : State) : State :=
  let s1 := s.meters.foldl (fun s x =>
    s.sendChunk 1 x.number (be 1 x.home ++ be 1 x.group ++ be 4 x.record ++ be 8 (x.word 3))) s
  let s2 := s1.line.lanes.foldl (fun s e => s.sendLine e.1 e.2) s1
  let s3 := s2.radio.lanes.foldl (fun s e => s.sendRadioLane e.1 e.2) s2
  let s4 := (List.range 26).foldl (fun s n => s.sendChunk 4 (n + 1) (be 2 (s.obj 0x5010 (n + 1)))) s3
  let s5 := s4.dict.objs.foldl State.sendInput s4
  let s5 := s5.dict.domains.foldl (fun s e => if isInput (e.1 / 256) (e.1 % 256) then s.sendChunk 5 e.1 e.2 else s) s5
  let s6 := s5.billing.structures.foldl (fun s e => s.sendStructure e.1 e.2) s5
  if s6.update.state = 3 then s6.sendContainer else s6

/-- A pass of the active: the first sends the tables, the directory among them, and every meter's records, a further one the marked
meters. -/
def State.syncPass (s : State) : State :=
  let first := s.pair.sync.passes == 0
  let s1 := if first then s.sendTables else s
  let s2 := (if first then s.meters else s.marked).foldl (fun s x => s.sendMeter x) s1
  { s2 with pair := { s2.pair with sync := { s2.pair.sync with phase := 1, passes := s2.pair.sync.passes + 1 } } }

/-- At most 1,024 meters of each tile are marked. -/
def State.fewMarked (s : State) : Bool :=
  let l := s.marked
  (List.range s.nTiles).all fun t => decide (l.countP (fun x => x.home == t) ≤ 1024)

/-- The active's course of a sync at a heat boundary (R543): further passes, the final pause named, F′ named 8 heats after
it. -/
def State.syncAdvance (s : State) : State :=
  let y := s.pair.sync
  if s.pair.state ≠ 2 ∨ s.pair.peerState ≠ 3 then s
  else if y.phase = 1 ∧ (s.pair.unacked.all fun m => m.kind != 10) = true then
    if s.fewMarked then
      let f := s.tbNs + 1000000
      let s1 := s.sendChunk 7 y.passes (be 8 f)
      { s1 with pair := { s1.pair with sync := { y with phase := 2, pauseAt := f } } }
    else if 8 ≤ y.passes then
      let s1 := s.sendChunk 9 0 []
      { s1 with pair := { s1.pair with sync := {} } }
    else s.syncPass
  else if y.phase = 3 ∧ y.pausedHeat + 8 ≤ s.heat.count then
    let s1 := s.marked.foldl (fun s x => s.sendMeter x) s
    let f := s.tbNs + 200000
    let s2 := s1.sendChunk 8 0 (be 8 f)
    { s2 with pair := { s2.pair with sync := { s2.pair.sync with phase := 4, releaseAt := f } } }
  else s

/-- The place and index word of a meter written by the standby, which notes the meters of the active's directory. -/
def State.takePlace (s : State) (key : Nat) (data : Octets) : State :=
  let x : Meter := (s.meter? key).getD { number := key }
  let y : Meter := { x with home := fieldAt data 0 1, group := fieldAt data 1 1, record := fieldAt data 2 4 }
  { s with meters := insertKey Meter.number (y.setWord 3 (fieldAt data 6 8)) s.meters
           pair := { s.pair with sync := { s.pair.sync with sent := Tab.set s.pair.sync.sent key [] } } }

/-- A tag of a line lane written by the standby. -/
def State.takeTag (s : State) (lane tag : Nat) (data : Octets) : State :=
  let x := s.lane (lane / 4) (lane % 4)
  s.setLane (lane / 4) (lane % 4)
    { x with tags := Tab.set x.tags tag { meter := fieldAt data 0 4, kind := fieldAt data 4 1, heardAt := s.elapsed } }

/-- An association of a radio lane written by the standby. -/
def State.takeAssoc (s : State) (lane m : Nat) (data : Octets) : State :=
  let x := s.radioLane (lane / 8) (lane % 8)
  let c : Option Cells :=
    if fieldAt data 0 1 = 1 then some { span := fieldAt data 1 2, phase := fieldAt data 3 2, logP := fieldAt data 5 1 } else none
  s.setRadio (lane / 8) (lane % 8) { x with assocs := Tab.set x.assocs m { state := 1, cells := c, heardAt := s.elapsed } }

/-- A committed input of the active, pending on the standby until it has built from it (R108, R130). -/
def State.takeInput (s : State) (key : Nat) (data : Octets) : State :=
  match findRow (key / 256) (key % 256) with
  | some r => (match r.ty with
    | .oct _ => s.setPend (key / 256) (key % 256) (.oct data)
    | .domain => s.setPendDomain key data
    | _ => s.setPend (key / 256) (key % 256) (.num (toSigned 64 (fieldAt data 0 8))))
  | none => s

/-- The standby builds from the active's inputs where they differ from its own (R130): an internal build that brings them into
force, after the one that runs. -/
def State.buildInputs (s : State) : State :=
  let b : Build := { kind := 2, trigger := 1, sequence := s.obj 0x2100 5, combined := true }
  if s.dict.pend.isEmpty && s.dict.pendDomains.isEmpty then s
  else if s.internalMayStart then (s.offer 0xE185 0 [1, 0]).startBuild b
  else { s with compiler := { s.compiler with waiting := some b } }

/-- The end of the passes named: meters that the active's directory does not hold are dropped, and the inputs are built from. -/
def State.endPasses (s : State) (passes pauseAt : Nat) : State :=
  ({ s with
    meters := s.meters.filter fun x => Tab.has s.pair.sync.sent x.number
    pair := { s.pair with sync := { s.pair.sync with phase := 2, pauseAt := pauseAt, passes := passes } } } : State).buildInputs

/-- A chunk written by the standby. -/
def State.takeChunk (s : State) (kind key : Nat) (data : Octets) : State :=
  if kind = 0 then s.writeRecord key data
  else if kind = 1 then s.takePlace key data
  else if kind = 2 then s.takeTag (key / 65536) (key % 65536) data
  else if kind = 3 then s.takeAssoc (key / 4294967296) (key % 4294967296) data
  else if kind = 4 then
    (if s.obj 0x5010 key = fieldAt data 0 2 then s
     else if key ≤ 23 then s.setPend 0x5010 key (.num (fieldAt data 0 2)) else s.putGeneration key (fieldAt data 0 2))
  else if kind = 5 then s.takeInput key data
  else if kind = 6 then
    s.setStructure key { s.structure key with
      image := data.drop 8, inForce := !(data.drop 8).isEmpty, periodIndex := fieldAt data 0 4, lastClose := fieldAt data 4 4 }
  else if kind = 15 then
    s.setStructure key { s.structure key with pending := true, pendingAt := fieldAt data 0 4, pendingImage := data.drop 4 }
  else if kind = 16 then s.setStructure key { s.structure key with heldImage := data }
  else if kind = 12 then
    let x := s.lane (key / 4294967296 / 4) (key / 4294967296 % 4)
    s.setLane (key / 4294967296 / 4) (key / 4294967296 % 4)
      { x with maps := Tab.set x.maps (key % 4294967296) { image := data, at_ := s.elapsed } }
  else if kind = 13 then
    let x := s.lane (key / 4294967296 / 4) (key / 4294967296 % 4)
    s.setLane (key / 4294967296 / 4) (key / 4294967296 % 4) { x with given := Tab.set x.given (key % 4294967296) data }
  else if kind = 14 then
    let x := s.radioLane (key / 4294967296 / 8) (key / 4294967296 % 8)
    s.setRadio (key / 4294967296 / 8) (key / 4294967296 % 8) { x with fixed := Tab.set x.fixed (key % 4294967296) (fieldAt data 0 1) }
  else if kind = 7 then s.endPasses key (fieldAt data 0 8)
  else if kind = 8 then
    { s with pair := { s.pair with sync := { s.pair.sync with phase := 4, releaseAt := fieldAt data 0 8 } } }
  else if kind = 9 then
    ({ s with pair := { s.pair with sync := { restartAt := some (s.elapsed + 10000000000) } } } : State).setPairState 5
  else if kind = 10 then { s with update := { s.update with area := Tab.set s.update.area key data } }
  else if kind = 11 then
    if s.update.activating then s
    else
      (({ s with update := { s.update with target := key, length := fieldAt data 0 4, state := 2, staged := none } } :
        State).setObj 0xA000 1 2).verifyPass
  else s

/-- SYNC_DATA at the standby. -/
def execSyncData (seq ack kind key : Nat) (data : Octets) (s : State) : Result :=
  ok (s.mirrorTake seq ack fun s =>
    if s.pair.state = 3 ∨ (s.pair.state = 4 ∧ 10 ≤ kind) then s.takeChunk kind key data else s)

/-- The pause at a unit's first heat boundary at or after F (R543 step 4). -/
def State.pauseDue (s : State) : Bool := s.pair.sync.phase == 2 && decide (s.pair.sync.pauseAt ≤ s.tbNs)

def State.syncPause (s : State) : State :=
  { s with pair := { s.pair with paused := true, sync := { s.pair.sync with phase := 3, pausedHeat := s.heat.count } } }

/-- SYNC_FINAL_PAUSE. -/
def execSyncFinalPause (s : State) : Result := okIf s.pauseDue s s.syncPause

/-- The release at F′: held frames go, the standby's quarantine ends, and a preferred standby that has not yet passed one
starts its diagnosis (R543 step 5, R567). -/
def State.releaseDue (s : State) : Bool := s.pair.sync.phase == 4 && decide (s.pair.sync.releaseAt ≤ s.tbNs)

def State.syncRelease (s : State) : State :=
  let y := s.pair.sync
  let s1 : State := { s with pair := { s.pair with paused := false, sync := {} } }
  if s.pair.state = 3 then
    let s2 : State := { s1 with pair := { s1.pair with quarantine := false, standbyAt := s.elapsed } }
    let s3 := (s2.setPairState 4).offer 0xE787 0
      [(s.elapsed - y.startedAt) / 1000000, y.passes, (y.releaseAt - y.pauseAt) / 1000]
    if s3.pair.preferred && !s3.pair.diagnosisDone && s3.fabric.diagnosis.isNone then s3.startDiagnosis else s3
  else s1

/-- SYNC_RELEASE. -/
def execSyncRelease (s : State) : Result := okIf s.releaseDue s s.syncRelease

/-- SYNC_RESTART: 10 s after an abandoned sync. -/
def execSyncRestart (s : State) : Result :=
  match s.pair.sync.restartAt with
  | some t => okIf (decide (t ≤ s.elapsed) && s.pair.state == 5) s (s.startSync 9)
  | none => ok s

/-! ### Taking and resigning the baton (R560 to R569) -/

/-- A take allowed from an instant, for a reason of LastHandover: 0 resigned, 1 peer lost, 2 planned, 3 split baton. -/
def State.mayTake (s : State) (at_ reason : Nat) : State := { s with pair := { s.pair with takeAt := some (at_, reason) } }

/-- Frames in progress are cut: DAC outputs zero, RFn_TXON low (R563). -/
def State.cutFrames (s : State) : State :=
  { s with
    line := { s.line with lanes := s.line.lanes.map fun e => (e.1, { e.2 with
      transmitting := false, beaconOnLine := false, sending := none }) }
    radio := { s.radio with lanes := s.radio.lanes.map fun e => (e.1, { e.2 with transmitting := 0 }) } }

/-- LastHandover (R571). -/
def State.lastHandover (s : State) (reason gap checks : Nat) : State :=
  (((s.setObj 0x8008 1 (s.tbSeconds % 4294967296)).setObj 0x8008 2 reason).setObj 0x8008 3 (min 4294967295 gap)).setObj 0x8008 4 checks

/-- A time step decided and not applied stays armed (R518, R566). -/
def State.dropStep (s : State) : State :=
  if s.clock.step.isSome then ({ s with clock := { s.clock with step := none } } : State).setArmed 1 else s

/-- A unit that holds the baton gives it up at its boundary (R563, R566, R569). -/
def State.resign (s : State) (reason checks : Nat) : State :=
  let recent := if reason = 2 then s.pair.resigned else
    s.elapsed :: s.pair.resigned.filter fun t => decide (s.elapsed < t + s.obj 0x8003 2 * 1000000000)
  let hold := decide (reason ≠ 2) && decide (s.obj 0x8003 1 ≤ recent.length) && !s.pair.held
  let s1 := ((s.cutFrames.mirrorSend 4 (be 1 reason ++ be 4 checks ++ be 8 s.tbNs)).send (.pulse 1 0) []).bump 0x8007 2
  let s2 := ((s1.abandonAll 3).abandonSnapshots 2).dropStep.endSessions (fun _ => true) 3
  let s3 : State := { s2 with pair := { s2.pair with
    baton := false, plan := none, takeAt := none, resigned := recent, held := s.pair.held || hold, withheld := false
    peerSync := false, deferred := [], diagnosedAt := none, diagnosisDone := false
    failures := s.pair.failures.filter (· < 13) } }
  let s4 := (s3.lastHandover reason 0 checks).offer 0xE782 0 [checks, reason]
  let s5 := if hold then s4.offer 0xE78B 0 [recent.length] else s4
  let s6 := (s5.useSource 4).setObj 0x7003 1 4
  if s.standing = 0 then s6.startSync 10 else s6.setPairState 5

/-- A host commit at a take: the unit's own build goes on where it passed the loader check and its instant is fixed (R566). -/
def State.commitAtTake (s : State) : State :=
  match s.compiler.run with
  | some b => if b.hosts && decide (b.phase ≠ 3 ∨ 2 ^ 64 ≤ b.swapHeat) then s.failBuild b 16 0 else s
  | none => s

/-- The pair's own state of a unit that takes: it holds the baton, and nothing of a sync, plan or pause is left. -/
def State.holdBaton (s : State) : State :=
  { s with pair := { s.pair with
    baton := true, takeAt := none, quarantine := false, paused := false, sync := {}, syncCause := none, peerSync := false
    resignedTb := 0, failures := [], plan := none, mgmt := s.pair.mgmt } }

/-- A take told: its pulse, TAKE, the service address on both ports, event and counts (R538, R566, R568, R571). -/
def State.tellTake (s : State) (reason gap : Nat) : State :=
  let s1 := ((((s.holdBaton.setPairState 2).send (.pulse 2 0) []).mirrorSend 5 (be 8 s.tbNs)).bump 0x8007 1)
  let s2 := ((s1.sendOn (.net 0) (s1.objOct 0x8000 4)).sendOn (.net 1) (s1.objOct 0x8000 4)).offer 0xE781 0 [reason, gap]
  let s3 := s2.lastHandover reason gap s.pair.resignedChecks
  match reason, s.pair.plan with
  | 2, some (_, who) => (s3.bump 0x8007 4).offer 0xE78F 0 [who, gap]
  | _, _ => s3

/-- The time source of a unit that takes, in HOLDOVER until it samples (R523, R571). -/
def State.takeTimeSource (s : State) : State :=
  let s1 := (s.useSource (s.obj 0x8000 3)).setObj 0x7003 1 (s.obj 0x8000 3)
  let s2 : State := { s1 with place := { s1.place with passDue := true } }
  if s2.clock.state = 0 ∨ s2.clock.state = 4 then s2 else s2.setTimeState 3

/-- The baton taken at a heat boundary (R563, R566): the address announced, the time source PairTimeSource, HOLDOVER until
samples arrive. -/
def State.takeBaton (s : State) (reason : Nat) : State :=
  let gap := if s.pair.resignedTb = 0 then 0 else s.tbNs - s.pair.resignedTb
  ((((s.tellTake reason gap).abandonAll 3).abandonSnapshots 2).commitAtTake).takeTimeSource

/-- A take that is due at a heat boundary; a unit whose supply or temperature check stands never takes (R562). -/
def State.takeDue (s : State) : Option Nat :=
  match s.pair.takeAt with
  | some (t, reason) =>
    if t ≤ s.elapsed && !s.pair.baton && s.pair.state != 0 && !s.checkStands 5 && !s.checkStands 6 then some reason else none
  | none => none

/-- BATON_TAKE. -/
def execBatonTake (s : State) : Result :=
  match s.takeDue with
  | some reason => okIf s.onBoundary s (s.takeBaton reason)
  | none => ok s

/-- The checks that failed since the last boundary noted with the heat (R559). -/
def State.noteFailures (s : State) : State :=
  let l := s.pair.failures.filter (· < 8)
  { s with pair := { s.pair with
    failures := s.pair.failures.filter fun n => !(n < 8)
    failedHeat := l.foldl (fun t n => Tab.set t n s.heat.count) s.pair.failedHeat
    failedTimes := (l.map fun _ => s.elapsed) ++ s.pair.failedTimes.filter fun t => decide (s.elapsed < t + 86400000000000) } }

/-- A planned handover's instant P has come (R568). -/
def State.planDue (s : State) : Bool := match s.pair.plan with
  | some (p, _) => decide (p ≤ s.tbNs)
  | none => false

/-- A resignation at a heat boundary: a split baton, a plan, or a failed check with an eligible peer; else withheld, once for
each failure (R560, R561, R565, R568). -/
def State.resignStep (s : State) : State :=
  let split := s.pair.failures.contains 13
  let fresh := s.pair.failures.any fun n => decide (n < 8)
  let failed := (s.pair.failures.filter (· < 8)).foldl (fun a n => a ||| 2 ^ n) 0
  let s1 := s.noteFailures
  let checks := failed ||| s1.standing
  if s.pair.state = 0 ∨ s.pair.baton = false then s1
  else if split then s1.resign 3 checks
  else if s.pair.failures.contains 14 then s1.resign 0 checks
  else if s.planDue && s.peerEligible then s1.resign 2 checks
  else if checks = 0 then { s1 with pair := { s1.pair with withheld := false } }
  else if s.peerEligible then s1.resign 0 checks
  else if fresh || !s.pair.withheld then
    ((({ s1 with pair := { s1.pair with withheld := true } } : State).bump 0x8007 3).offer 0xE783 0 [checks, s.pair.peerState])
  else s1

/-- RESIGNATION. -/
def execResignation (s : State) : Result := okIf s.onBoundary s s.resignStep

/-! ### Roles (R541, R542) -/

/-- The measurement of the image a pair update puts in force is compatible until the update ends (R688). -/
def State.updateMeasurement (s : State) (measurement : Octets) : Bool := match s.update.pairUpdate with
  | some u => slice u.measurement 0 16 == measurement
  | none => false

/-- The item in which the peer of a HELLO differs: tile count, measurement, KeyCheck (R542). -/
def State.helloMismatch (s : State) (tiles : Nat) (measurement : Octets) (check : Nat) : Option Nat :=
  if tiles ≠ s.nTiles then some 0
  else if measurement ≠ slice s.boot.measurement 0 16 ∧ s.updateMeasurement measurement = false then some 1
  else if check ≠ keyCheck (s.keyMaterial 0) then some 2
  else none

/-- This unit is the preferred of the two. -/
def State.isPreferred (s : State) : Bool :=
  if s.pair.preferred == s.pair.peerPreferred then decide (Config.unitId.toNat < s.pair.peerId) else s.pair.preferred

/-- A unit in STARTING settles its role by what it sees of the peer (R541). -/
def State.settleRole (s : State) : State :=
  if s.pair.state ≠ 1 then s
  else if s.pair.mismatch then (if s.isPreferred then s.mayTake s.elapsed 0 else s.setPairState 5)
  else if s.pair.batonIn = 2 then s.startSync 0
  else if s.pair.helloSeen ∧ s.pair.peerState = 1 then
    (if s.isPreferred then s.mayTake s.elapsed 0 else s.startSync 0)
  else if s.pair.batonIn = 1 ∧ (s.pair.helloSeen ∨ s.pair.heartbeatHeat ≠ 0) ∧ s.pair.peerState ≠ 1 ∧ s.pair.peerState ≠ 2 then
    s.mayTake s.elapsed 0
  else s

/-- HELLO's content taken: the peer, and a mismatch with its event when it is new; a standby found incompatible is DETACHED (R541,
R542). -/
def State.takeHello (s : State) (unit_ : Nat) (preferred : Bool) (state : Nat) (wrong : Option Nat) : State :=
  let s1 := ({ s with pair := { s.pair with
    peer := unit_ % 4294967296, peerId := unit_, peerPreferred := preferred, peerState := state, helloSeen := true, heardAt := s.elapsed
    mismatch := wrong.isSome } } : State).setObj 0x8001 3 unit_
  let s2 := match wrong with
    | some i => if s.pair.mismatch then s1 else s1.offer 0xE78E 0 [i]
    | none => s1
  if wrong.isSome && s2.isStandby then
    ({ s2 with pair := { s2.pair with sync := {}, syncCause := none } } : State).setPairState 5
  else s2.settleRole

/-- HELLO from the peer. -/
def execHello (seq ack unit_ tiles : Nat) (preferred : Bool) (state : Nat) (measurement : Octets) (check : Nat) (s : State) : Result :=
  ok (s.mirrorTake seq ack fun s => s.takeHello unit_ preferred state (s.helloMismatch tiles measurement check))

/-- The HELLO of this unit, sent every 1 ms until both know their roles (R537). -/
def State.sendHello (s : State) : State :=
  if (s.pair.state = 1 ∨ (s.pair.state ≠ 0 ∧ s.pair.peerState = 1)) ∧ s.due s.pair.helloAt 1000000 = true then
    ({ s with pair := { s.pair with helloAt := s.elapsed } } : State).mirrorSend 1
      (be 8 Config.unitId.toNat ++ be 1 s.nTiles ++ be 1 (bit01 s.pair.preferred) ++ be 1 s.pair.state ++ slice s.boot.measurement 0 16 ++
        be 4 (keyCheck (s.keyMaterial 0)))
  else s

/-- A heartbeat's content taken. -/
def State.takeHeartbeat (s : State) (state flags : Nat) : State :=
  let s1 := ({ s with pair := { s.pair with
    peerState := state, peerFlags := flags, heartbeatHeat := max 1 s.heat.count, heartbeatLost := none, heardAt := s.elapsed
    peerDetached := s.pair.peerDetached && state != 3
    peerSync := s.pair.state == 2 && state == 4 && !s.pair.peerDetached } } : State).setObj 0x8001 4 state
  let s2 := if state = 3 ∨ state = 4 then s1 else s1.releaseReplies
  if s2.pair.state = 1 then s2.settleRole
  else if s2.pair.state = 2 ∧ state = 3 ∧ s2.pair.sync.phase = 0 then s2.syncPass
  else if s2.pair.state = 5 then
    match s2.pair.syncCause with
    | some c => s2.startSync c
    | none => s2
  else s2

/-- HEARTBEAT from the peer: its state is current; an active starts the passes of a peer in SYNCING, and a standby whose sync
waits for the peer starts it (R537, R543, R544). -/
def execHeartbeat (seq ack state flags _heat : Nat) (s : State) : Result :=
  ok (s.mirrorTake seq ack fun s => s.takeHeartbeat state flags)

/-- The HEARTBEAT of this unit, at every heat boundary. -/
def State.sendHeartbeat (s : State) : State :=
  if s.pair.state = 0 then s else s.mirrorSend 2 (be 1 s.pair.state ++ be 1 s.pairFlags ++ be 8 s.heat.count)

/-- PAIR_START_WAIT: neither HELLO nor HEARTBEAT for PairStartWait, and no holding code (R541). -/
def execPairStartWait (s : State) : Result :=
  okIf (s.pair.state == 1 && s.pair.batonIn != 2 && s.due (max s.pair.startedAt s.pair.heardAt) (s.obj 0x8002 3 * 1000000)) s
    (s.mayTake s.elapsed 1)

/-! ### The baton line and the loss of the peer (R533, R564, R565) -/

/-- A standby that takes for a lost peer: dead line and heartbeat timed out. -/
def State.peerLost (s : State) (later : Nat) : State :=
  (s.mayTake (later + s.laneGuard) 1).offer 0xE784 0 [s.pair.peer]

/-- BATON_CODE_DECODED: the holding or the non-holding code. -/
def execBatonCodeDecoded (holding : Bool) (s : State) : Result :=
  if s.pair.state = 0 ∨ s.partRuns = false then ok s
  else
    let was := s.pair.batonIn
    let s1 : State := { s with pair := { s.pair with batonIn := if holding then 2 else 1 } }
    if s1.pair.state = 1 then ok s1.settleRole
    else if s1.pair.baton then ok (if holding && was != 2 then s1.splitBaton 0 else s1)
    else if holding then ok (if s1.pair.state = 5 ∧ was ≠ 2 ∧ s1.pair.syncCause.isNone = true then s1.startSync 11 else s1)
    else if was = 2 ∧ s1.pair.state = 4 ∧ s1.pair.takeAt.isNone = true then ok (s1.mayTake (s.elapsed + s.laneGuard) 0)
    else ok s1

/-- BATON_DEAD: no edge for 8 µs. -/
def execBatonDead (s : State) : Result :=
  if s.pair.state = 0 ∨ s.partRuns = false ∨ s.pair.batonIn = 0 then ok s
  else
    let s1 : State := { s with pair := { s.pair with batonIn := 0, deadAt := s.elapsed } }
    if !s1.isStandby then ok s1
    else match s1.pair.heartbeatLost with
      | some _ => ok (s1.peerLost s.elapsed)
      | none => ok (s1.offer 0xE785 0 [0])

/-- MIRROR_HEARTBEAT_TIMEOUT. -/
def execMirrorHeartbeatTimeout (s : State) : Result :=
  if s.pair.state ≤ 1 ∨ !s.awake ∨ s.pair.heartbeatLost.isSome = true ∨ s.heat.count < s.pair.heartbeatHeat + s.obj 0x9020 6 then ok s
  else
    let s1 := ({ s with pair := { s.pair with heartbeatLost := some s.elapsed, peerSync := false } } : State).countN 0 35 4
      (s.heat.count - s.pair.heartbeatHeat)
    if !s1.isStandby then ok s1.releaseReplies
    else if s1.pair.batonIn = 0 then ok (s1.peerLost s.elapsed)
    else if s1.pair.batonIn = 2 then
      ok (({ s1 with pair := { s1.pair with syncCause := some 2, fieldSilent := false, lanterns := [] } } : State).setPairState 5 |>.offer
        0xE785 0 [1])
    else ok s1

/-- The active's lanterns as a second heartbeat: counts that rose in the 8 superframes before and in none of the last 3 (R564). -/
def State.watchField (s : State) : State :=
  let now := (List.range (8 * s.nTiles)).map fun i => s.obj 0x380D (i + 1)
  let l := (now :: s.pair.lanterns).take 12
  let at_ (k i : Nat) : Nat := (l.getD k []).getD i 0
  let rose := (List.range (8 * s.nTiles)).filter fun i => decide (at_ 11 i < at_ 3 i)
  let silent := decide (l.length = 12) && !rose.isEmpty && rose.all fun i => at_ 0 i == at_ 3 i
  let s1 : State := { s with pair := { s.pair with lanterns := l } }
  if silent && !s.pair.fieldSilent && s.pair.state == 5 && s.pair.heartbeatLost.isSome && s.pair.batonIn == 2 then
    ({ s1 with pair := { s1.pair with fieldSilent := true } } : State).offer 0xE790 0 [3]
  else s1

/-- RESIGN from the peer: the take is allowed after LaneOwnGuard (R563). -/
def execResign (seq ack reason checks at_ : Nat) (s : State) : Result :=
  ok (s.mirrorTake seq ack fun s =>
    if s.isStandby then
      ({ s with pair := { s.pair with resignedTb := at_, resignedChecks := checks } } : State).mayTake (s.elapsed + s.laneGuard)
        (min 3 reason)
    else s)

/-- TAKE from the peer. -/
def execTake (seq ack _at : Nat) (s : State) : Result :=
  ok (s.mirrorTake seq ack fun s =>
    { s with pair := { s.pair with peerState := 2, takeAt := none } })

/-! ### Planned handover and the owner's commands (R567 to R569) -/

/-- A commit or an update activation is in progress, or the standby is not eligible: a plan is refused (R568). -/
def State.planRefused (s : State) : Bool :=
  let commit := match s.compiler.run with
    | some b => b.hosts
    | none => false
  !s.peerEligible || commit || s.compiler.waiting.isSome || s.update.activating

/-- HANDOVER_PLAN with instant P and requester: 0 revert, 1 owner, 2 update; 255 tells that a plan was refused (log 35). -/
def execHandoverPlan (seq ack instant kind : Nat) (s : State) : Result :=
  ok (s.mirrorTake seq ack fun s =>
    if s.pair.state = 2 then
      if s.planRefused then
        (s.offer 0xE783 0 [s.standing, s.pair.peerState]).mirrorSend 6 (be 8 instant ++ be 1 255)
      else { s with pair := { s.pair with plan := some (instant, kind) } }
    else { s with pair := { s.pair with plan := if kind = 255 then none else some (instant, kind) } })

/-- A plan asked for by a unit, 10 ms ahead. -/
def State.sendPlan (s : State) (kind : Nat) : State :=
  let p := s.tbNs + 10000000
  let s1 := s.mirrorSend 6 (be 8 p ++ be 1 kind)
  { s1 with pair := { s1.pair with plan := some (p, kind) } }

/-- REVERT: a preferred eligible standby past RevertHoldOff since its diagnosis plans a handover. -/
def execRevert (s : State) : Result :=
  match s.pair.diagnosedAt with
  | none => ok s
  | some t =>
    okIf (s.pair.preferred && s.pairEligible && s.obj 0x8002 1 == 1 && s.pair.plan.isNone && s.heartbeatCurrent &&
      s.due (max t s.pair.standbyAt) (s.obj 0x8002 2 * 1000000000)) s (s.sendPlan 0)

/-- PairCommand 1 on the active. -/
def plannedHandover (s : State) (_ : Session) : Done :=
  if s.pair.state ≠ 2 then Done.refuse s Status.refused
  else if s.planRefused then Done.refuse (s.offer 0xE783 0 [s.standing, s.pair.peerState]) Status.refused
  else Done.ok (s.sendPlan 1)

/-- PairCommand 2: HELD and the count cleared. -/
def releaseHeld (s : State) (_ : Session) : Done :=
  Done.ok (({ s with pair := { s.pair with held := false, resigned := [] } } : State).offer 0xE78C 0 [])

/-- PairCommand 3: a standby starts a sync. -/
def resynchronise (s : State) (_ : Session) : Done :=
  if s.isStandby && !s.pair.mismatch && s.pair.state != 6 then Done.ok (s.startSync 4) else Done.refuse s Status.refused

/-- PLANNED_HANDOVER, RELEASE_HELD and RESYNCHRONISE: writes of 1, 2 and 3 to 0x8006.01. -/
def execPlannedHandover (r : Req) (s : State) : Result := ok (udxWrite s r 0x8006 1 0 (be 1 1) plannedHandover)
def execReleaseHeld (r : Req) (s : State) : Result := ok (udxWrite s r 0x8006 1 0 (be 1 2) releaseHeld)
def execResynchronise (r : Req) (s : State) : Result := ok (udxWrite s r 0x8006 1 0 (be 1 3) resynchronise)

/-! ### Shadowing (R545, R548, R550) -/

/-- A mirrored datagram taken on a standby. -/
def State.mirroredUplink (s : State) (port : Nat) (datagram : Octets) : State :=
  if s.isStandby && s.tunnelOpen port then
    match s.checkDatagram datagram 0 with
    | .error _ => s
    | .ok (i, rs) => (s.relayHeard i (dgSeq datagram)).takeUplink port i rs
  else s

/-- TUNNEL: a mirrored datagram queued on the standby as its own port would. -/
def execTunnel (seq ack port : Nat) (datagram : Octets) (s : State) : Result :=
  ok (s.mirrorTake seq ack fun s => s.mirroredUplink port datagram)

/-- TIME: the two-way timestamps of the last messages: own send, peer's receipt, peer's send, own receipt; and a step of the
active announced with its instant, 0 none (R550). The standby follows the active: a step beyond 1 µs ends STANDBY with a
sync; otherwise the servo takes the sample. -/
def execTimeMessage (seq ack t1 t2 t3 t4 stepAt : Nat) (step : Int) (s : State) : Result :=
  ok (s.mirrorTake seq ack fun s0 =>
    let s : State := { s0 with pair := { s0.pair with timeHeard := s0.tbNs / 8 * 8 } }
    if !s.isStandby || s.clock.source != 4 then s
    else
      let offset : Int := (((t2 : Int) - t1) + ((t3 : Int) - t4)) / 2
      let s1 : State := if stepAt = 0 then s else { s with clock := { s.clock with step := some (step, stepAt) } }
      if 1000 < offset.natAbs ∧ stepAt = 0 ∧ s.clock.step.isNone = true then
        let s2 := s1.applyStep offset
        if s.pair.state = 4 then s2.startSync 6 else s2
      else
        let s2 := (({ s1 with clock := { s1.clock with
          offset := offset, sampleAt := s.elapsed, fresh := true, samples := (offset :: s1.clock.samples).take 16 } }
            : State).setArmed 0).setObjI 0x7002 3 offset
        s2.setTimeState s2.lockState)

/-- The TIME message of this unit, every 1 ms: the instant its own last one was sent and the peer's last one received, at 8 ns, its own
send instant, and a step decided (R550; the layout is not stated, log 35). -/
def State.sendTime (s : State) : State :=
  if s.pair.state = 0 ∨ s.pair.timeMs = s.tbMs then s
  else
    let st := match s.clock.step with
      | some (d, t) => be 8 t ++ be 8 (ofSigned 64 d)
      | none => be 16 0
    let now := s.tbNs / 8 * 8
    let s1 := ({ s with pair := { s.pair with timeMs := s.tbMs, timeSent := now } } : State).mirrorSend 9
      (be 8 s.pair.timeSent ++ be 8 s.pair.timeHeard ++ be 8 now ++ st)
    if s.pair.timeMs / 1000 = s.tbMs / 1000 then s1 else s1.mgmt 12 [s.line.cycle, s.line.cycleAt] []

/-- The standby's report of a build: built from an InputDigest, which the active keeps until its own build is done, or rejected
with its reason. The active goes on only where the digest is its own build's (R130). -/
def State.takeReport (s : State) (args : List Nat) (data : Octets) : State :=
  match s.compiler.run with
  | some b =>
    if s.pair.state ≠ 2 ∨ b.hosts = false then s
    else if args.headD 0 = 1 then (s.setRun (some { b with peerDigest := data })).tryArm
    else s.failBuild b 16 (args.getD 1 0)
  | none => s

/-- MGMT's content taken. -/
def State.takeMgmt (s : State) (at_ kind : Nat) (args : List Nat) (data : Octets) : State :=
  if kind = 17 then s.takeReport args data
  else if kind = 23 then s.peerCopied (args.headD 0)
  else if kind = 26 then { s with pair := { s.pair with peerImage := args.headD 0 } }
  else if s.isStandby then
    { s with pair := { s.pair with mgmt := s.pair.mgmt ++ [{ at_ := at_, kind := kind, args := args, data := data }] } }
  else s

/-- MGMT: a record held to its apply instant; a report of the standby's build acts at once (R130, R548). -/
def execMgmt (seq ack at_ kind : Nat) (args : List Nat) (data : Octets) (s : State) : Result :=
  ok (s.mirrorTake seq ack fun s => s.takeMgmt at_ kind args data)

/-! ### Digests and repair (R553 to R558) -/

/-- A meter is flagged for a bin. -/
def State.flaggedIn (s : State) (m bin : Nat) : Bool := s.pair.flagged.any fun f =>
  f.1 == m && decide (f.2.1 ≤ bin) && (match f.2.2 with
    | some e => decide (bin ≤ e)
    | none => true)

/-- The log entries of a bin that take part in the comparison. -/
def State.binEntries (s : State) (bin : Nat) : List (Nat × Nat) :=
  (Tab.getD s.pair.bins bin {}).log.filter fun e => !s.flaggedIn e.1 bin

/-- Xor and Count of a bin without flagged meters (R557). -/
def State.binDigest (s : State) (bin : Nat) : Nat × Nat :=
  let l := s.binEntries bin
  (l.foldl (fun a e => a ^^^ e.2) 0, l.length)

/-- A bin compared once both units have closed it; the standby asks for the log of one that differs (R555). -/
def State.compareBin (s : State) (bin : Nat) : State :=
  let b := Tab.getD s.pair.bins bin {}
  match b.peer with
  | none => s
  | some d =>
    if !b.closed || s.pair.state = 3 then s
    else
      let s1 := s.bump 0x8007 6
      if d = s.binDigest bin then s1
      else
        let s2 := (s1.bump 0x8007 7).count 0 31 3
        if s.isStandby then s2.mirrorSend 11 (be 4 bin) else s2

/-- A standby detached to resynchronise for a cause (R558). -/
def State.detachAndSync (s : State) (cause : Nat) : State := (s.setPairState 5).startSync cause

/-- DIGEST of the peer for a bin; one older than the logs hold leads to a sync. -/
def execDigest (seq ack bin xor_ count : Nat) (s : State) : Result :=
  ok (s.mirrorTake seq ack fun s =>
    let oldest := (s.pair.bins.filter fun e => e.2.closed).headD (0, {})
    if s.pair.state = 4 ∧ (s.pair.bins.countP fun e => e.2.closed) = 256 ∧ bin < oldest.1 ∧ count ≠ 0 then
      (s.offer 0xE78A 0 [s.pair.repaired.length]).detachAndSync 3
    else
      let s1 : State := { s with pair := { s.pair with bins := Tab.modify s.pair.bins bin {} (fun b => { b with peer := some (xor_, count) }) } }
      s1.compareBin bin)

/-- DIGEST_BIN_CLOSE: DigestCloseDelay after a bin's end. -/
def execDigestBinClose (bin : Nat) (s : State) : Result :=
  let b := Tab.getD s.pair.bins bin {}
  if s.pair.state = 0 ∨ b.closed = true ∨ s.tbMs < bin + 1 + s.obj 0x8004 1 then ok s
  else
    let bins := Tab.set s.pair.bins bin { b with closed := true }
    let extra := (bins.countP fun e => e.2.closed) - 256
    let s1 : State := { s with pair := { s.pair with bins := if 0 < extra then bins.drop extra else bins } }
    let d := s1.binDigest bin
    ok (((s1.mirrorSend 3 (be 4 bin ++ be 8 d.1 ++ be 4 d.2)).count 0 31 1).compareBin bin)

/-- LOG_REQUEST of a bin. -/
def execLogRequest (seq ack bin : Nat) (s : State) : Result :=
  ok (s.mirrorTake seq ack fun s =>
    s.mirrorSend 12 (be 4 bin ++ (s.binEntries bin).flatMap fun e => be 4 e.1 ++ be 8 e.2))

/-- Pairs of a flat list. -/
def pairsOf : List Nat → List (Nat × Nat)
  | a :: b :: r => (a, b) :: pairsOf r
  | _ => []

/-- Meters with an unmatched entry: the active's entries of a bin against the standby's of the three bins around it, and the
standby's of the bin against the active's (R555). -/
def State.unmatched (s : State) (bin : Nat) (theirs : List (Nat × Nat)) : List Nat :=
  let near := s.binEntries (bin - 1) ++ s.binEntries bin ++ s.binEntries (bin + 1)
  let a := theirs.filter fun e => !s.flaggedIn e.1 bin && !near.contains e
  let b := (s.binEntries bin).filter fun e => !theirs.contains e
  ((a ++ b).map (·.1)).eraseDups

/-- LOG_DATA: the meters to repair named, their frames held, their records asked for (R555, R556). -/
def execLogData (seq ack bin : Nat) (entries : List Nat) (s : State) : Result :=
  ok (s.mirrorTake seq ack fun s =>
    if s.pair.state ≠ 4 then s
    else
      let ms := s.unmatched bin (pairsOf entries)
      let s1 := s.offer 0xE788 0 [bin, ms.length]
      let s2 := ms.foldl (fun s m => s.modRoutes m (fun _ r => { r with state := if r.state = 0 then 1 else r.state })) s1
      if ms.isEmpty then s1
      else ({ s2 with pair := { s2.pair with repairing := s2.pair.repairing ++ ms } } : State).mirrorSend 13 (ms.flatMap (be 4)))

/-- A meter's records read and sent to the standby (R556); those that do not read are not sent (log 87). -/
def State.sendRepair (s : State) (m : Nat) : State :=
  match s.meter? m with
  | some x =>
    let r := s.readRecords x
    if r.1 then r.2.mirrorSend 14 (be 4 m ++ meterRecord x) else r.2
  | none => s

/-- REPAIR_REQUEST: the active sends each meter's records. -/
def execRepairRequest (seq ack : Nat) (meters : List Nat) (s : State) : Result :=
  ok (s.mirrorTake seq ack fun s => meters.foldl State.sendRepair s)

/-- REPAIR_DATA's content taken. -/
def State.takeRepair (s : State) (meter : Nat) (record : Octets) : State :=
  match s.meter? meter with
  | none => s
  | some x =>
    if !s.pair.repairing.contains meter then s
    else
      let s1 := s.writeRecord meter record
      let s2 := s1.modRoutes meter fun _ r => { r with state := if r.state = 1 then 0 else r.state }
      let s3 := ((s2.replayHeld meter 0 x.home x.group).bump 0x8007 8).offerLimited 0xE789 0 0 [meter]
      let l := s.elapsed :: s.pair.repaired.filter fun t => decide (s.elapsed < t + 1000000000)
      let s4 : State := { s3 with pair := { s3.pair with repairing := s3.pair.repairing.filter (· != meter), repaired := l } }
      if s4.obj 0x8004 2 < l.length then (s4.offer 0xE78A 0 [l.length]).detachAndSync 3 else s4

/-- REPAIR_DATA of a meter at the standby: its records written, its held frames replayed; too many repairs in 1 s lead to a
sync (R556, R558). -/
def execRepairData (seq ack meter : Nat) (record : Octets) (s : State) : Result :=
  ok (s.mirrorTake seq ack fun s => s.takeRepair meter record)

/-- FENCE_FLAG of the peer. -/
def execFenceFlag (seq ack meter : Nat) (opens : Bool) (s : State) : Result :=
  ok (s.mirrorTake seq ack fun s => s.flagMeter meter opens)

/-! ### Diagnosis (R95, R544, R567) -/

/-- DIAGNOSIS_DONE within 40 ms: the result word; the slots run again, and a standby resynchronises. -/
def execDiagnosisDone (tiles : Nat) (ring pacer cipher march : Bool) (s : State) : Result :=
  match s.fabric.diagnosis with
  | none => ok s
  | some _ =>
    let s1 := ({ s with
      fabric := { s.fabric with diagnosis := none }
      heat := { s.heat with halts := Tab.erase s.heat.halts 1 } } : State).setObj 0x2018 2 (diagnosisWord tiles ring pacer cipher march)
    let good := tiles % 256 = 0 ∧ ring = false ∧ pacer = false ∧ cipher = false ∧ march = false
    if s.pair.state = 6 then
      let s2 : State := { s1 with pair := { s1.pair with
        diagnosisDone := true, diagnosedAt := if good then some s.elapsed else none } }
      ok (s2.startSync 1)
    else ok s1

end Sys2Proof.Machine
end

