-- ==== Sys2Proof/Machine/Dictionary.lean ====
section
/-! DEFINITION. The Umuno Dictionary Exchange beside its requests: sessions, timers, the mailbox, configuration reset and the
network answers (16 R573 to R610, 15 R538). -/

namespace Sys2Proof.Machine

/-! ### Sessions (R590 to R594) -/

/-- A clear message of the part (R588). -/
def clearUdx (kind session seq : Nat) (body : Octets) : Octets := udxHeader kind session seq body.length 0x80 ++ body

/-- Octets put on a transport without a session. -/
def State.sendClear (s : State) (transport : Nat) (bytes : Octets) : State :=
  if transport = 2 then s.ringOut 0 bytes else s.sendOn (.udx transport) bytes

/-- The body of IDENTITY (R590). -/
def State.identityBody (s : State) : Octets :=
  be 8 Config.unitId.toNat ++ be 1 s.nTiles ++ be 1 s.boot.lifeCycle ++ be 1 s.pair.state ++ be 2 Config.siliconStep.length ++
    Config.siliconStep

/-- IDENTIFY on a transport: 0 and 1 Ethernet, 2 PCIe. -/
def execIdentify (transport : Nat) (s : State) : Result :=
  okIf (s.portOpen transport) s ((s.heardOn transport 5).sendClear transport (clearUdx 2 0 0 s.identityBody))

/-- The status an OPEN is rejected with, none where it may open (R592). -/
def State.openRefusal (s : State) (role expected : Nat) : Option Nat :=
  if expected ≠ 0 ∧ expected ≠ Config.unitId.toNat then some Status.refused
  else if s.boot.phase = 11 ∧ role ≠ 2 then some Status.denied
  else if (role = 3 ∧ s.boot.lifeCycle ≠ 3) ∨ s.boot.lifeCycle = 4 then some Status.denied
  else if s.obj 0x1022 1 ≤ s.dict.sessions.countP (fun x => !x.halfOpen) ∨ 8 ≤ s.dict.sessions.countP (fun x => x.halfOpen) then
    some Status.busy
  else if !s.katsPass || (s.keySlot (8 + role)).isNone then some Status.refused
  else none

/-- A REJECT with its event (R592, R610). -/
def State.rejectOpen (s : State) (transport role status : Nat) : State :=
  (s.sendClear transport (clearUdx 8 0 0 (be 1 status ++ be 2 (if status = Status.busy then s.busyHint else 0)))).offerLimited
    0xE803 0 0 [status, role]

/-- A session key of a direction: 0 host to part, 1 part to host (R455, R591). -/
def State.sessionKey (s : State) (role direction : Nat) (nonces : Octets) : Octets :=
  kdf (s.keyMaterial (8 + role)) (labelOf 0x53455353) (be 1 direction ++ nonces) 256

/-- A session half open, with its keys in two tile slots of tile 0, and its CHALLENGE (R591, R594). -/
def State.openAs (s : State) (transport role slot : Nat) (peer hostNonce : Octets) : State :=
  let partNonce := Config.freeOctets s.freeCount 16
  let nonces := hostNonce ++ partNonce
  let id := s.dict.lastSession % 4294967295 + 1
  let slotOf (direction use : Nat) : KeySlot :=
    { use := use, type := 2, parent := 8 + role, label := 0x53455353, material := s.sessionKey role direction nonces
      context := be 1 direction ++ nonces }
  let x : Session := { id := id, role := role, transport := transport, peer := peer, keySlot := slot, openedAt := s.elapsed
                       openedSeconds := s.tbSeconds, lastAt := s.elapsed, lastSeconds := s.tbSeconds, outSeq := 2 }
  let s1 := (((s.drew 16).setSlot (tileSlotKey 0 slot) (slotOf 0 1)).setSlot (tileSlotKey 0 (slot + 1)) (slotOf 1 0))
  let s2 : State := { s1 with dict := { s1.dict with sessions := s1.dict.sessions ++ [x], lastSession := id } }
  let body := be 8 Config.unitId.toNat ++ be 1 role ++ be 7 0 ++ partNonce
  let hdr := udxHeader 4 id 1 (body.length + 16) 0x80
  let tag := gcmTag (s.sessionKey role 1 nonces) (udxIv id 1 4 0x80) (hdr ++ body) []
  s2.sendClear transport (hdr ++ body ++ tag)

/-- OPEN: CHALLENGE or REJECT. A role beyond 3 is no OPEN of the protocol and is not answered. -/
def execOpenSession (transport : Nat) (peer : Octets) (role : Nat) (nonce : Octets) (expected : Nat) (s : State) : Result :=
  if s.portOpen transport = false ∨ 3 < role ∨ nonce.length ≠ 16 then ok s
  else
    let s := s.heardOn transport 5
    match s.openRefusal role expected with
    | some status => ok (s.rejectOpen transport role status)
    | none =>
      match s.freeTileSlots 0 with
      | none => ok ((s.offer 0xE60B 0 [0]).rejectOpen transport role Status.refused)
      | some n => ok (s.openAs transport role n (padTo 16 peer) nonce)

/-- CLOSE: an empty sealed body (R593). -/
def execCloseSession (r : Req) (s : State) : Result :=
  if s.sessionOpen r.session then
    let m := (s.heardFrom r.session).admitMessage r 7 []
    match m.session with
    | none => ok m.state
    | some x => ok (m.state.endSession x.id 0)
  else ok s

/-- SESSION_IDLE_TIMEOUT of a session. -/
def execSessionIdleTimeout (session : Nat) (s : State) : Result :=
  match s.session? session with
  | some x => okIf (!x.halfOpen && s.due x.lastAt (s.obj 0x1022 2 * 1000000000)) s (s.endSession session 1)
  | none => ok s

/-- HALF_OPEN_TIMEOUT of a session: 1 s (R592). -/
def execHalfOpenTimeout (session : Nat) (s : State) : Result :=
  match s.session? session with
  | some x => okIf (x.halfOpen && s.due x.openedAt 1000000000) s (s.endSession session 6)
  | none => ok s

/-- UDX_REQUEST_TIMEOUT of a request: PENDING with a hint (R605). -/
def execUdxRequestTimeout (session tag : Nat) (s : State) : Result :=
  match s.session? session with
  | none => ok s
  | some x =>
    match x.requests.find? fun q => q.tag == tag with
    | none => ok s
    | some q =>
      if q.final ∨ q.answered ∨ s.due q.at_ (s.obj 0x1021 1 * 1000000) = false then ok s
      else
        let s1 := s.setSession { x with requests := x.requests.map fun y => if y.tag = tag then { y with answered := true } else y }
        ok (s1.sendReply session (askOf q.body) tag (replyHint Status.pending s.busyHint))

/-- CAPTURE_DISCARD: a capture unread for 10 s (R599). -/
def execCaptureDiscard (session : Nat) (s : State) : Result :=
  match s.session? session with
  | none => ok s
  | some x =>
    match x.capture with
    | some c => okIf (s.due c.readAt 10000000000) s (s.setSession { x with capture := none })
    | none => ok s

/-- 0x1025.01 SessionTable: 48 entries of 32 B (R609). -/
def State.sessionTable (s : State) : Octets :=
  let l := (s.dict.sessions.filter fun x => !x.halfOpen).take 48
  padTo 1536 (l.flatMap fun x => be 4 x.id ++ be 1 x.role ++ be 1 x.transport ++ be 2 0 ++ slice x.peer 0 16 ++ be 4 x.openedSeconds ++
    be 4 x.lastSeconds)

/-! ### The mailbox (R585, R586) -/

/-- A held reply put into its ring, with the others left. -/
def State.ringReply (s : State) (c : Nat) (b : Octets) (rest : List (Octets × Nat)) : State :=
  s.putEntry c { s.channel c with heldReplies := rest } b

/-- Replies held for a full ring leave as far as it has room. -/
def State.flushRing (s : State) (c n : Nat) : State :=
  match n with
  | 0 => s
  | k + 1 =>
    match (s.channel c).heldReplies with
    | [] => s
    | (b, _) :: r =>
      if wrapSub 32 (s.channel c).outProducer (s.channel c).outConsumer < (s.channel c).entries then
        State.flushRing (s.ringReply c b r) c k
      else s

/-- The registers of a channel in BAR0, little-endian, from its offset on; `x` gives the counters (R585). -/
def Channel.registers (x : Channel) (c : Nat) : Octets :=
  le 8 x.baseIn ++ le 8 x.baseOut ++ le 2 x.entries ++ le 2 (if c = 0 then 4224 else 1408) ++ le 2 x.vector ++ le 2 0 ++ le 4 x.inProducer ++
    le 4 x.inConsumer ++ le 4 x.outProducer ++ le 4 x.outConsumer

/-- BAR0 up to the end of channel 1: the header at 0, channel c at 0x0100 + 0x80 × c (R585). State reads READY only while
HostControl [0] is 1 (R623). -/
def State.bar0 (s : State) : Octets :=
  padTo 256 ([0x43#8, 0x4B#8, 0x37#8, 0x4D#8] ++ le 2 1 ++
    le 2 (if s.dict.mailboxState = 1 ∧ s.dict.mailboxEnable = false then 0 else s.dict.mailboxState) ++ le 4 s.dict.mailboxError ++
    le 4 (bit01 s.dict.mailboxEnable)) ++ padTo 128 ((s.channel 0).registers 0) ++ padTo 128 ((s.channel 1).registers 1)

/-- BAR2: the MSI-X table of 4 entries of address, data and vector control, and the pending bits after it (R584; PRESUMED, log 90). -/
def State.bar2 (s : State) : Octets :=
  padTo 4096 ((s.dict.msix.flatMap fun x => le 8 x.address ++ le 4 x.data ++ le 4 (bit01 x.masked)) ++ le 8 s.dict.msixPending)

/-- The ErrorCode of a channel's words: 1 ring base, 2 entry count, 3 DMA fault. -/
def mailboxCheck (baseIn baseOut entries : Nat) (dma : Bool) : Nat :=
  if baseIn % 4096 ≠ 0 ∨ baseOut % 4096 ≠ 0 then 1
  else if !([16, 32, 64, 128, 256] : List Nat).contains entries then 2
  else if !dma then 3
  else 0

/-- A channel whose words fail their check: the mailbox is in error (R586). -/
def State.mailboxFails (s : State) (channel e : Nat) : State :=
  ({ s with dict := { s.dict with mailboxState := 2, mailboxError := e } } : State).offer 0xE805 0 [channel, e]

/-- The rings of a channel as the host has written them; held replies leave as far as they have room. -/
def State.openRings (s : State) (channel baseIn baseOut entries vector producer consumer : Nat) : State :=
  let x := s.channel channel
  let y : Channel := { x with baseIn := baseIn, baseOut := baseOut, entries := entries, vector := vector % 4, inProducer := producer
                              inConsumer := producer, outConsumer := consumer }
  ((s.setChannel channel y).unmaskVector (vector % 4)).flushRing channel x.heldReplies.length

/-- MAILBOX_DOORBELL of a channel with the words the host has written; `enable` is HostControl [0] and `dma` tells that the
rings are reached. The entries taken come as commands of their own (log 7). -/
def execMailboxDoorbell (channel : Nat) (enable : Bool) (baseIn baseOut entries vector producer consumer : Nat) (dma : Bool)
    (s : State) : Result :=
  let s0 := ({ s with dict := { s.dict with mailboxEnable := enable } } : State).count 0 32 2
  if 1 < channel ∨ enable = false ∨ s.dict.mailboxState = 0 then ok s0
  else if mailboxCheck baseIn baseOut entries dma ≠ 0 then ok (s0.mailboxFails channel (mailboxCheck baseIn baseOut entries dma))
  else ok (s0.openRings channel baseIn baseOut entries vector producer consumer)

/-- The PCIe sessions end and every counter of the mailbox is 0. -/
def State.resetMailbox (s : State) : State :=
  let s1 := s.endSessions (fun x => x.transport == 2) 5
  { s1 with dict := { s1.dict with
    channels := (List.range 2).map fun c => { s1.channel c with inProducer := 0, inConsumer := 0, outProducer := 0, outConsumer := 0
                                                                heldReplies := [] }
    mailboxState := min 1 s1.dict.mailboxState, mailboxError := 0 } }

/-- MAILBOX_RESET: HostControl [1]. -/
def execMailboxReset (s : State) : Result := ok s.resetMailbox

/-- PCIE_LINK_DOWN: the MSI-X table goes back to its reset values with the function (R584; PRESUMED, log 90). -/
def execPcieLinkDown (s : State) : Result :=
  let s1 := s.resetMailbox.setObj 0x1026 1 0
  ok { s1 with dict := { s1.dict with msix := [{}, {}, {}, {}], msixPending := 0 } }

/-- OUT_RING_REPLY_DISCARD: a reply held for 1 s, counted among the dropped (R586). -/
def execOutRingReplyDiscard (channel : Nat) (s : State) : Result :=
  let x := s.channel channel
  match x.heldReplies with
  | (_, t) :: r => okIf (decide (channel < 2) && s.due t 1000000000) s ((s.setChannel channel { x with heldReplies := r }).bump 0x1024 10)
  | [] => ok s

/-! ### Configuration reset (R577) -/

/-- A stored object that a reset returns to its default: RW or RWC, not meter-scoped, no action record. -/
def resetsKey (k : Nat) : Bool :=
  match findRow (k / 256) (k % 256) with
  | some r => !meterScoped (k / 256) && (r.access == .rw || r.access == .rwc) && !r.action
  | none => false

/-- Every stored object at its default; a compiler input as a pending value. -/
def configurationReset (s : State) (_ : Session) : Done :=
  if s.boot.lifeCycle ≠ 0 ∧ s.boot.lifeCycle ≠ 1 ∧ s.boot.lifeCycle ≠ 3 then Done.refuse s Status.refused
  else
    let keys := (s.dict.objs.map (·.1)).filter resetsKey
    let input (k : Nat) : Bool := isInput (k / 256) (k % 256)
    let s1 : State := { s with dict := { s.dict with objs := s.dict.objs.filter fun e => !keys.contains e.1 || input e.1 } }
    let s2 := (keys.filter input).foldl (fun s k => s.setPend (k / 256) (k % 256) (defaultVal (k / 256) (k % 256))) s1
    let pend := s2.dict.pend.filter fun e => s2.dict.objs.any fun o => o.1 == e.1
    let doms := s2.dict.domains.filter fun e => !resetsKey e.1 || input e.1
    let pdoms := (s2.dict.domains.filter fun e => resetsKey e.1 && input e.1).map fun e => (e.1, ([] : Octets))
    let s3 : State := { s2 with dict := { s2.dict with pend := pend, domains := doms, pendDomains := pdoms } }
    Done.ok ((if s3.notchObjects = s.notchObjects then s3 else s3.takeNotch s3.notchObjects.1 s3.notchObjects.2).offer 0xE807 0
      [keys.length + (s.dict.domains.filter fun e => resetsKey e.1).length])

/-- CONFIGURATION_RESET: a write of 1 to 0x1030.01. -/
def execConfigurationReset (r : Req) (s : State) : Result := ok (udxWrite s r 0x1030 1 0 (be 1 1) configurationReset)

/-! ### Network answers (R538, R582) -/

/-- An Ethernet port is enabled and kept up. -/
def State.ethernetUp (s : State) (port : Nat) : Bool := decide (port < 2) && s.obj 0x1010 (port + 1) != 0 &&
  s.portOpen port

/-- An IPv4 address as its mapped IPv6 address. -/
def mapped4 (a : Octets) : Octets := List.replicate 10 0 ++ [0xFF#8, 0xFF#8] ++ a

/-- An address is the port's own, or the pair's service address while the unit holds the baton. -/
def State.answersFor (s : State) (port : Nat) (v6 : Bool) (address : Octets) : Bool :=
  let own := if v6 then s.objOct 0x1012 (port + 1) else s.objOct 0x1014 (port + 1)
  let service := s.objOct 0x8000 4
  (address == own && own.any (· != 0)) ||
    (s.pair.baton && service.any (· != 0) && (if v6 then address == service else mapped4 address == service))

/-- ARP_REQUEST for an IPv4 address: answered with the port's MAC address. -/
def execArpRequest (port : Nat) (address : Octets) (s : State) : Result :=
  okIf (s.ethernetUp port && s.answersFor port false address) s ((s.count 0 (33 + port) 0).sendOn (.net port) (Config.mac port ++ address))

/-- NEIGHBOUR_DISCOVERY: a solicitation for an IPv6 address. -/
def execNeighbourDiscovery (port : Nat) (address : Octets) (s : State) : Result :=
  okIf (s.ethernetUp port && s.answersFor port true address) s ((s.count 0 (33 + port) 0).sendOn (.net port) (Config.mac port ++ address))

/-- ICMP_ECHO: the payload comes back; a frame longer than 1,518 B, with its Ethernet, IP and ICMP headers and FCS, is dropped and
counted among the receive overflows (R582, R708). -/
def execIcmpEcho (port : Nat) (v6 : Bool) (address payload : Octets) (s : State) : Result :=
  if s.ethernetUp port = false then ok s
  else if 1518 < (if v6 then 66 else 46) + payload.length then ok (s.count 0 (33 + port) 9)
  else
    let s1 := s.count 0 (33 + port) 0
    okIf (s.answersFor port v6 address) s1 (s1.sendOn (.net port) payload)

end Sys2Proof.Machine
end

