-- ==== Sys2Proof/Machine/Boot.lean ====
section
/-! DEFINITION. Bring-up, the life cycle and tamper (17 R611 to R639). -/

namespace Sys2Proof.Machine

/-! ### Starting and stopping (R611, R612, R577) -/

/-- A read-only object that outlives a bring-up: counts since MAKE, media states and media counts, sequences never repeated,
billing results, calibration results and what bring-up reports of itself (R577, R638, 10, 13). -/
def keptObject (index sub : Nat) : Bool :=
  (index == 0x2100 && sub == 5) || (0x1040 ≤ index && index ≤ 0x1050) || (index == 0x3022) || (index == 0x3023) ||
    (index == 0x4121) || (index == 0x4131) || (index == 0x4141) || (0x6000 ≤ index && index ≤ 0x600F) ||
    (0xA000 ≤ index && index < 0xB000) || (index == 0xB003 && sub == 3)

/-- An object value that a bring-up returns to its default: read-only, not meter-scoped, and not among those kept. -/
def bootDrops (k : Nat) : Bool :=
  let index := k / 256
  let sub := k % 256
  (match findRow index sub with
   | some r => r.access == .ro
   | none => true) && !meterScoped index && !keptObject index sub

/-- What a meter's state keeps over a bring-up: its records, and the commands it waits for no longer. -/
def Meter.reboot (x : Meter) (now : Nat) : Meter :=
  { x with
    eccQuarantine := false, heardAt := now, silent := false, silentAt := 0, lastSetTime := none, held := []
    freezeWords := [], freezeStep := 0, incarnationChange := none, epochChange := none, drained := false
    place := { lastCommit := x.place.lastCommit, parked := x.place.parked, relay := x.place.relay, tunnelClass := x.place.tunnelClass }
    prepay := { refusedForGood := x.prepay.refusedForGood }, line := {} }

/-- The sums of the pipelines with nothing in them (R177, R613). -/
def LossState.reboot (l : LossState) : LossState :=
  { sums := l.sums.map fun e => (e.1, { e.2 with running := 0, snapshot := 0 })
    feeders := l.feeders.map fun e => (e.1, { generation := e.2.generation + 1, lastTag := e.2.lastTag, lastDue := e.2.lastDue })
    lastId := l.lastId }

/-- The notch set the objects describe: a write not yet in force comes into force with the lanes. -/
def LineState.reboot (l : LineState) : LineState :=
  match l.newNotch with
  | some (p, t, _) => { profile := p, table := t }
  | none => { profile := l.profile, table := l.table }

/-- The time in PILOT counts when a bring-up or a reset ends it (R747). -/
def State.pilotCounted (s : State) : State :=
  if s.power.pilot = 2 then s.setObj 0xB003 3 (min 4294967295 (s.obj 0xB003 3 + (s.elapsed - s.power.pilotAt) / 1000000000)) else s

/-- The MOVE entries of a meter that survive in journal pages, each with the tile whose journal holds it (R220, R378). -/
def State.moveEntries (s : State) (m : Nat) : List (Nat × JournalEntry) :=
  s.billing.pages.flatMap fun p => (p.entries.filter fun e => e.kind == 5 && e.meter == m).map fun e => (p.tile, e)

/-- The order of MOVE entries: by move, and in one move the move-out first. -/
def JournalEntry.moveRank (e : JournalEntry) : Nat := e.body.getD 4 0 * 4 + e.body.getD 0 0

/-- After a restart a meter belongs to the home whose journal holds the later of its move-out and move-in records; a move-out alone
leaves it on the old home (R220). The entry names the group and record there. -/
def State.homed (s : State) (x : Meter) : Meter :=
  match s.moveEntries x.number with
  | [] => x
  | e :: r =>
    let b := r.foldl (fun a b => if a.2.moveRank ≤ b.2.moveRank then b else a) e
    { x with home := b.1, group := b.2.body.getD 2 0, record := b.2.body.getD 3 0 }

/-- Everything that only the powered blocks hold, gone; what NAND, fuses and the configuration store hold stays (R577, R611,
R613). -/
def State.dropVolatile (s : State) : State :=
  { s with
    heat := {}, fabric := {}
    compiler := { stored := s.compiler.stored }
    queues := {}, line := s.line.reboot, radio := {}, tunnel := {}
    mem := { wiping := s.mem.wiping }
    place := { allocations := s.place.allocations, lastFenceId := s.place.lastFenceId }
    meters := s.meters.map fun x => (s.homed x).reboot s.elapsed
    billing := { pages := s.billing.pages, nextPage := s.billing.nextPage, periods := s.billing.periods
                 structures := s.billing.structures, nextReadout := s.billing.nextReadout, warnedAt := s.billing.warnedAt }
    loss := s.loss.reboot
    keys := { ownerSeed := s.keys.ownerSeed, attestSeq := s.keys.attestSeq, broadcastSeq := s.keys.broadcastSeq
              copies := s.keys.copies }
    store := { s.store with tierSlots := [] }
    clock := {}
    pair := { resigned := s.pair.resigned, held := s.pair.held }
    dict := { objs := s.dict.objs.filter fun e => !bootDrops e.1, pend := s.dict.pend, domains := s.dict.domains
              pendDomains := s.dict.pendDomains, lastSession := s.dict.lastSession, committed := s.dict.committed }
    recorder := { offered := s.recorder.offered, log := s.recorder.log, generation := s.recorder.generation
                  dropped := s.recorder.dropped, nextSeq := s.recorder.nextSeq, counts := s.recorder.counts
                  filtered := s.recorder.filtered, nearlyFull := s.recorder.nearlyFull, full := s.recorder.full
                  paged := s.recorder.paged }
    update := { s.update with activation := none, activating := false, rebuild := false, pairUpdate := none
                              state := if s.update.activating then 0 else s.update.state }
    pins := { straps := s.pins.straps, ir := s.pins.ir, boundary := s.pins.boundary, mode := s.pins.mode }
    power := { warning := s.power.warning, warnAt := s.power.warnAt, entries := s.power.entries, flushUs := s.power.flushUs
               holdup := s.power.holdup, rails := s.power.rails, volts := s.power.volts } }

/-- Bring-up from step 1 for a cause (R612, R638). -/
def State.startBringUp (s : State) (cause : Nat) : State :=
  let s1 := s.pilotCounted.dropVolatile
  (((({ s1 with
    heat := { s1.heat with spread := [s.obj 0xB010 1 == 1, s.obj 0xB010 2 == 1] }
    boot := { s1.boot with
    phase := 1, haltCode := 0, startedAt := s.elapsed, stepAt := s.elapsed, stepDone := [], stepTimes := [], cause := cause, restart := none
    change := none, newSeed := [], enumeration := [], failedPipes := [], restored := false, restoringTiles := [] } } :
    State).setObj 0x1040 8 cause).setObj 0xB003 1 (if s.power.pilot ≠ 0 ∧ cause = 2 then 5 else 0)).setObj 0x1050 5
    (s.obj 0x1050 5 % 16)).setObj 0xA000 1 s1.update.state

/-- SYS_RESET_RELEASE: the rising edge, with the levels of the SERDES_REFSEL straps (R706). -/
def execSysResetRelease (straps : Nat) (s : State) : Result :=
  okIf (decide (s.boot.phase = 0)) s
    (({ s with
        boot := { s.boot with releasedAt := s.elapsed, tamperActive := [] }
        pins := { s.pins with straps := straps % 8 } } : State).startBringUp 0)

/-- SYS_RESET_ASSERT: the falling edge stops every block. -/
def execSysResetAssert (s0 : State) : Result :=
  let s := s0.pilotCounted
  let r := s.recorder
  let lost := { r with log := r.log.drop (r.log.length - r.paged) }
  let s1 := ({ s with recorder := lost } : State).dropVolatile
  ok { s1 with boot := { s1.boot with phase := 0, stepDone := [], restart := none, change := none, tamperActive := [] } }

/-! ### Steps (R613 to R622) -/

/-- The maximum of a step in ms (R613); step 3 of a part of 2 or 4 tiles lengthens at a lower speed bin (R188, R615). -/
def State.stepMax (s : State) (step : Nat) : Nat :=
  let n := s.nTiles
  ([5, 1, if n = 8 then 70 else 70 + divUp 1280000 s.fit.dramRate, 250, if n = 8 then 50 else if n = 4 then 30 else 20,
    if n = 8 then 2010 else if n = 4 then 840 else 540, 14] : List Nat).getD (step - 1) 0

/-- The step in progress has ended on every tile; its time in µs is kept (R613, R638). No step starts while the power-fail
warning stands (R627). -/
def State.nextStep (s : State) : State :=
  if s.power.warning then s else
  let times := s.boot.stepTimes ++ [(s.elapsed - s.boot.stepAt) / 1000]
  ({ s with boot := { s.boot with phase := s.boot.phase + 1, stepAt := s.elapsed, stepDone := [], stepTimes := times } } :
    State).setVal 0x1040 4 (.oct (padTo 28 (times.flatMap (be 4))))

/-- A step ended on one tile; the last one ends it. -/
def State.tileStep (s : State) (tile : Nat) : State :=
  let done := if s.boot.stepDone.contains tile then s.boot.stepDone else s.boot.stepDone ++ [tile]
  let s1 : State := { s with boot := { s.boot with stepDone := done } }
  if (List.range s.nTiles).all fun t => done.contains t then s1.nextStep else s1

/-- Bring-up halts (R625). Its event is recorded once management cores run. A halt in step 7 leaves the unit as one in step 5
or 6 does (R626; DEDUCED, log 82). -/
def State.haltBringUp (s : State) (code tile : Nat) : State :=
  let step := s.boot.phase
  let s1 := s.offer 0xE881 tile [step, code, tile]
  ((({ s1 with boot := { s1.boot with phase := 10, haltStep := step, haltCode := code } } : State).setObj 0x1040 1 1).setObj
    0x1040 2 step).setObj 0x1040 3 code

/-- The life-cycle code that the fuses spell (R450, R631). -/
def BootState.fused (b : BootState) : Nat :=
  if b.fuseState = 4 then 4 else if b.serviceBits % 2 = 1 then 3 else b.fuseState

/-- FUSE_LOAD_DONE of a tile: its words agree, or not after 3 loads (R616). The life-cycle state is read (R628); a
state it enters anew has accepted no host commit (R574). -/
def execFuseLoadDone (tile : Nat) (good : Bool) (s : State) : Result :=
  if s.boot.phase ≠ 1 ∨ s.nTiles ≤ tile then ok s
  else if good then
    ok (({ s with
      boot := { s.boot with lifeCycle := s.boot.fused }
      dict := { s.dict with committed := s.dict.committed && s.boot.fused == s.boot.lifeCycle } } : State).tileStep tile)
  else ok (s.haltBringUp 1 tile)

/-- 0x6816 DramInitState of a tile: filling, or clearing the valid map (R189, R196). -/
def State.dramStarts (s : State) (tile : Nat) : State := s.setObj 0x6816 (tile + 1) (if s.hasMap then 3 else 1)

/-- A tile's DRAM is filled, or its valid map ready, since an instant (R188 to R190, R197). -/
def State.dramReady (s : State) (tile since : Nat) : State :=
  (s.setObj 0x6816 (tile + 1) (if s.hasMap then 4 else 2)).offer 0xE289 tile [tile, bit01 s.hasMap, (s.elapsed - since) / 1000000]

/-- SCRATCHPAD_CLEAR_DONE of a tile: every bank holds zero words (R613, R616). -/
def execScratchpadClearDone (tile : Nat) (s : State) : Result :=
  if s.boot.phase ≠ 2 ∨ s.nTiles ≤ tile then ok s
  else
    let s1 := s.tileStep tile
    ok (if s1.boot.phase = 3 then s1.eachTile fun s t => s.dramStarts t else s1)

/-- DRAM_INIT_STEP_DONE of a tile: filled, or its training failed (R188, R625). -/
def execDramInitStepDone (tile : Nat) (good : Bool) (s : State) : Result :=
  if s.boot.phase ≠ 3 ∨ s.nTiles ≤ tile ∨ s.boot.stepDone.contains tile = true then ok s
  else if good then
    ok ((s.dramReady tile s.boot.stepAt).tileStep tile)
  else ok (s.haltBringUp 2 tile)

/-- The boot measurement of an image's SHA-384 (R618). -/
def bootMeasurement (imageDigest : Octets) : Octets :=
  sha384 ([0x43#8, 0x4B#8, 0x37#8, 0x4D#8] ++ be 4 Config.romVersion.toNat ++ imageDigest)

/-- The keys of the state's tree, and imported keys from their copies in the configuration store (R618, R633). -/
def State.loadKeys (s : State) : State := s.keys.copies.foldl (fun s e => s.setSlot e.1 e.2) s.deriveKeys

/-- An enabled tamper input is active (R627). -/
def State.tamperHolds (s : State) : Bool := !s.boot.tamperActive.isEmpty

/-- Firmware start of an image (R618, R620): measured, keys derived, the power cycle counted, the fuses compared with the
journal, the NAND of every tile mounted. -/
def State.firmwareStart (s : State) (second : Bool) (imageDigest : Octets) (version : Nat) : State :=
  let n := (s.obj 0x1040 6 + 1) % 16777216
  let m := bootMeasurement imageDigest
  let s1 : State := { s with boot := { s.boot with
    measurement := m, securityVersion := version, bootImage := bit01 second, powerCycles := n } }
  let s2 := (((((s1.setObj 0x1040 6 n).setObj 0x1040 7 (bit01 second)).setVal 0x1042 1 (.oct m)).setObj 0x1042 2 version).setObj
    0x1041 1 s.boot.lifeCycle).loadKeys
  let s3 := s2.eachTile fun s t => s.mountNand t
  let s4 := match s.boot.journalState with
    | some j => if j = s.boot.lifeCycle then s3 else
        (s3.offer 0xE886 0 [s.boot.lifeCycle, j])
    | none => s3
  { s4 with boot := { s4.boot with journalState := none } }.nextStep

/-- The verdict on a boot image: 0 passed, 1 its signature, 2 its SecurityVersion, 3 unreadable. -/
def State.imageVerdict (s : State) (verdict version : Nat) : Nat :=
  if verdict = 0 ∧ version < s.boot.rollback then 2 else verdict

/-- A first image started 3 times without being confirmed gives way to the second before step 4 (R683). -/
def State.revertBoot (s : State) : State :=
  let u := s.update
  if u.confirmed = false ∧ 3 ≤ u.startCount then
    ({ s with update := { u with first := u.second, second := u.first, confirmed := true, startCount := 0
                                 dirSeq := u.dirSeq + 1 } } : State).offer 0xE985 0
      [((Tab.find? u.slots u.first).map (·.imageId)).getD 0, u.startCount]
  else s

/-- The SecurityVersion of a boot slot: the model's record of it, or what the image shows. -/
def State.slotSecurity (s : State) (k version : Nat) : Nat := ((Tab.find? s.update.slots k).map (·.security)).getD version

/-- A boot image started: its slot's record, or what the image shows, is measured; a start of an unconfirmed first image is
counted (R618, R683). -/
def State.startSlot (s : State) (second : Bool) (imageDigest : Octets) (version : Nat) : State :=
  let u := s.update
  let k := if second then u.second else u.first
  let x : BootSlot := (Tab.find? u.slots k).getD { digest := imageDigest, security := version }
  let s1 : State := { s with update := { u with
    slots := Tab.set u.slots k x, running := if x.imageId = 0 then u.running else some x.version
    startCount := if second || u.confirmed then u.startCount else u.startCount + 1 } }
  s1.firmwareStart second x.digest x.security

/-- A key slot as another state holds it. -/
def State.setSlotFrom (s : State) (t : State) (n : Nat) : State :=
  match t.keySlot n with
  | some k => s.setSlot n k
  | none => s

/-- ROM recovery: the state's keys of which the ROM needs two, the state root and the owner role root (R619, R686). -/
def State.enterRom (s : State) (a b : Nat) : State :=
  let t := s.deriveKeys
  let s1 := (s.setSlotFrom t 0).setSlotFrom t 10
  (((({ s1 with boot := { s1.boot with phase := 11 } } : State).setObj 0x1040 1 2).offer 0xE882 0 [a - 1]).offer 0xE883 0
    [a - 1, b - 1])

/-- SECURE_BOOT_DONE with the verdict on each boot image of the directory, and the digest and SecurityVersion of the one that
passed (R617 to R620, R683). It does not end while a tamper input is active or the power-fail warning stands (R627). -/
def execSecureBootDone (first second : Nat) (imageDigest : Octets) (version : Nat) (s : State) : Result :=
  let s1 := s.revertBoot
  let a := if first = 0 then s1.imageVerdict 0 (s1.slotSecurity s1.update.first version) else first
  let b := s1.imageVerdict second (s1.slotSecurity s1.update.second version)
  if s.boot.phase ≠ 4 ∨ s.tamperHolds = true ∨ s.power.warning = true then ok s
  else if a = 0 then ok (s1.startSlot false imageDigest version)
  else if b = 0 ∧ (first ≠ 0 ∨ Tab.has s1.update.slots s1.update.second = true) then ok ((s1.offer 0xE882 0 [a - 1]).startSlot true imageDigest version)
  else if a = 3 ∧ b = 3 then ok (s1.haltBringUp 3 0)
  else ok (s1.enterRom a b)

/-- The ring links in operation. -/
def State.linksUp (s : State) : State :=
  { s with heat := { s.heat with links := (List.range s.nTiles).map fun n => (n + 1, { state := 3 }) } }

/-- The end of tile enumeration: halted for a tile that is missing or faulty, or for the count (R621, R625). -/
def State.endEnumeration (s : State) (found : Nat) : State :=
  match (List.range s.nTiles).find? fun t =>
      let w := Tab.getD s.boot.enumeration t 0
      !(bitAt w 23 && bitAt w 22 && bitAt w 21 && bitAt w 20 && bitAt w 19) with
  | some t => s.haltBringUp 4 t
  | none =>
    if found ≠ s.nTiles then s.haltBringUp 5 0
    else
      let failed := (List.range (8 * s.nTiles)).filter fun k => bitAt (Tab.getD s.boot.enumeration (k / 8) 0) (24 + k % 8)
      let s1 := failed.foldl (fun (s : State) k =>
        ((s.setPipe (k / 8) (k % 8) { state := 1, faultTimes := [s.elapsed] }).setObj 0x2010 (k + 1) 1).offer 0xE103 (k / 8)
          [k / 8, k % 8, 1]) s
      ({ s1 with boot := { s1.boot with failedPipes := failed } } : State).linksUp.nextStep

/-- TILE_ENUMERATION_DONE of a tile: its word of 0x1043 and the tiles found on the ring (R621). The columns repaired are those
of its fuses. -/
def execTileEnumerationDone (tile word found : Nat) (s : State) : Result :=
  if s.boot.phase ≠ 5 ∨ s.nTiles ≤ tile ∨ s.boot.stepDone.contains tile = true then ok s
  else
    let w := putField (putField (word % 4294967296) 17 12 0) 11 0 (Config.columnsRepaired tile).toNat
    let good := bitAt w 23 && bitAt w 22 && bitAt w 21 && bitAt w 20 && bitAt w 19
    let done := s.boot.stepDone ++ [tile]
    let s1 := ({ s with boot := { s.boot with enumeration := Tab.set s.boot.enumeration tile w, stepDone := done } } : State).setObj
      0x1043 (tile + 1) w
    let s2 := if good then s1 else s1.offer 0xE884 tile [tile, w]
    ok (if (List.range s.nTiles).all (fun t => done.contains t) then s2.endEnumeration found else s2)

/-! ### Step 6 (R131, R622) -/

/-- The stored sheet may be loaded: its signature, compiler version, inputs and pipeline map (R131). -/
def State.storedFits (s : State) (x : Sheet) : Bool :=
  ecdsaVerify curveP256 (s.publicKey 3) x.digest x.signature && x.version == s.compilerVersion &&
    x.inputDigest == sha256 (inForce.image s) && x.off == s.offPipes

/-- The factory-default inputs with every field lane and tunnel port disabled (R131). -/
def defaultInputs : Inputs :=
  let subs := inputSubs.filter fun e => isInput e.1 e.2
  { vals := (subs.filter fun e => (match findRow e.1 e.2 with
      | some r => r.ty != .domain
      | none => false)).map fun e => (objKey e.1 e.2,
        if e.1 = 0x3000 ∨ e.1 = 0x3800 ∨ e.1 = 0x3C00 then .num 0 else defaultVal e.1 e.2)
    doms := (subs.filter fun e => (match findRow e.1 e.2 with
      | some r => r.ty == .domain
      | none => false)).map fun e => (objKey e.1 e.2, []) }

/-- The committed values that the fallback takes out of force stay as pending values, so a host commit builds from them
(R131; DEDUCED, log 36). -/
def State.inputsPending (s : State) : State :=
  let vals := defaultInputs.vals.filterMap fun e => match Tab.find? s.dict.objs e.1 with
    | some v => if v = e.2 ∨ Tab.has s.dict.pend e.1 = true then none else some (e.1, v)
    | none => none
  let doms := defaultInputs.doms.filterMap fun e => match Tab.find? s.dict.domains e.1 with
    | some v => if v = e.2 ∨ Tab.has s.dict.pendDomains e.1 = true then none else some (e.1, v)
    | none => none
  { s with dict := { s.dict with
    pend := vals.foldl (fun t e => Tab.set t e.1 e.2) s.dict.pend
    pendDomains := doms.foldl (fun t e => Tab.set t e.1 e.2) s.dict.pendDomains } }

/-- The outcome of a build of the inputs in force at step 6 (R131). -/
def State.bootVerdict (s : State) : Nat × Nat := inForce.verdict s (s.reassigned s.offPipes) s.offPipes

/-- A sheet built at step 6 from inputs (R118, R123). -/
def State.bootSheet (s : State) (i : Inputs) (trigger : Nat) : Sheet :=
  let (g, n) : Nat × Nat := match s.compiler.stored with
    | some x => (nextGeneration x.generation, x.sequence)
    | none => (1, 0)
  (s.built { kind := 2, trigger := trigger, sequence := n, off := s.offPipes } i g).sheet g s.compilerVersion

/-- A sheet of step 6 staged, with the build's start and end in the objects (R118, R134). -/
def State.stageBuilt (s : State) (i : Inputs) (trigger : Nat) : State :=
  let x := s.bootSheet i trigger
  let s1 := ((s.offer 0xE185 0 [trigger, 0]).buildResult 0 x.generation s.boot.stepAt).count 0 25 1
  { s1 with compiler := { s1.compiler with staged := some x } }

/-- The sheet of step 6: the stored one, a new one, or the fallback with its reason (R131). -/
def State.loadSheet (s0 : State) : State :=
  let s := if s0.compiler.stored.isSome then s0.count 0 25 2 else s0
  match s.compiler.stored.filter s.storedFits with
  | some x => { s with compiler := { s.compiler with staged := some x } }
  | none =>
    let r := s.bootVerdict
    if r.1 = 0 then s.stageBuilt inForce 0
    else
      let s1 := ((s.offer 0xE185 0 [0, 0]).buildResult r.1 r.2 s.boot.stepAt).offer 0xE181 0 [r.1, r.2, 0]
      ((s1.inputsPending.withInputs defaultInputs).offer 0xE184 0 [r.1]).stageBuilt inForce 5

/-- The instant R512 gives the timebase at ready. -/
def State.startTime (s : State) : Nat :=
  match (s.billing.pages.filter fun p => p.tile == 0).getLast? with
  | some p => (p.seconds + 1) * 1000000000
  | none => 0

/-- Every slot-map word and tariff in force for the time the timebase will start at (R395, R622). -/
def State.bootSlotMaps (s : State) : State :=
  let s1 : State := { s with clock := { s.clock with tb := s.startTime * 4294967296 } }
  s1.structures.foldl (fun s n => s.retariff n) s1

/-- SHEET_LOAD_DONE: the tile sections are loaded on every tile, or no sheet passes the loader check (R622, R625). -/
def execSheetLoadDone (good : Bool) (s : State) : Result :=
  if s.boot.phase ≠ 6 then ok s
  else if good then ok s.loadSheet.bootSlotMaps.nextStep
  else ok (s.haltBringUp 6 0)

/-! ### Step 7 and ready (R614, R622) -/

/-- LANE_POWER_UP_DONE of a tile: its enabled lanes are powered, port-checked, reset and configured. -/
def execLanePowerUpDone (tile : Nat) (s : State) : Result :=
  if s.boot.phase ≠ 7 ∨ s.nTiles ≤ tile then ok s else ok (s.tileStep tile)

/-- A unit in pair mode at ready: STARTING, without the baton, its time source the pair's (R541, R566). -/
def State.startPair (s : State) : State :=
  if s.obj 0x8000 1 = 1 ∧ s.fieldOff = false then
    let s1 : State := { s with pair := { s.pair with
      startedAt := s.elapsed, preferred := s.obj 0x8000 2 == 1
      linkUp := (List.range 4).all fun k => (Tab.getD s.pins.serdes k {}).locked } }
    ((s1.setPairState 1).useSource 4).setObj 0x7003 1 4
  else s

/-- The unit is ready: the sheet of step 6 in force, lanes STARTING, interfaces released, the timebase started, the restore
of every tile begun (R614, R494). -/
def State.becomeReady (s : State) : State :=
  let ms := (s.elapsed - s.boot.startedAt) / 1000000
  let s1 : State := { s with
    heat := { s.heat with count := 0, boundaryAt := s.elapsed }
    boot := { s.boot with phase := 9, lastResult := 0, readyAt := s.elapsed, timeToReady := ms, restoringTiles := List.range s.nTiles, restored := false }
    dict := { s.dict with mailboxState := 1 } }
  let s2 := ((s1.setObj 0x1040 1 0).setObj 0x1040 5 ms).startTimebase
  let s3 : State := { s2 with
    heat := { s2.heat with foldMs := s2.tbMs, foldAt := s2.tbNs }
    place := { s2.place with passDue := true, lastPass := s2.elapsed }
    recorder := { s2.recorder with health := (List.range s.nTiles).map fun t => (t, { heardAt := s2.elapsed, primaryAt := s2.elapsed }) }
    tunnel := { s2.tunnel with relayMode := s2.obj 0x3C04 1 == 1, lastUplinkAt := s2.elapsed } }
  let s4 := match s3.compiler.staged with
    | some x => ({ s3 with compiler := { s3.compiler with staged := none } } : State).putSheet x inForce false false
    | none => s3
  s4.startPair.offer 0xE880 0 [ms, s.boot.cause, s.boot.failedPipes.length]

/-- READY at the first heat boundary after step 7. -/
def execReady (s : State) : Result := okIf (decide (s.boot.phase = 8) && !s.power.warning) s s.becomeReady

/-- BRING_UP_STEP_TIMEOUT: twice the maximum of a step (R625). -/
def execBringUpStepTimeout (s : State) : Result :=
  okIf (decide (1 ≤ s.boot.phase ∧ s.boot.phase ≤ 7) && s.due s.boot.stepAt (2 * s.stepMax s.boot.phase * 1000000)) s
    (s.haltBringUp 7 0)

/-! ### Requests (R612, R629 to R632) -/

/-- The unit is one of a pair and holds the baton. -/
def State.holdsBaton (s : State) : Bool := s.pair.state != 0 && s.pair.baton

/-- A request to leave service is under way already: a further one is REFUSED (DESIGN CHOICE, log 82). -/
def State.leaving (s : State) : Bool := s.boot.change.isSome || s.boot.restart.isSome

/-- A life-cycle request is refused while a host commit, an activation, a handover or a power-fail warning stands; a baton
holder whose handover is refused is refused too (R632). -/
def State.leaveRefused (s : State) : Bool :=
  (s.compiler.run.any fun b => decide (b.kind ≤ 1) || b.combined) || s.compiler.waiting.isSome || s.update.activating ||
    s.pair.plan.isSome || s.power.warning || s.leaving || (s.holdsBaton && s.planRefused)

/-- A baton holder's planned handover before it leaves service (R632). -/
def State.handOver (s : State) : State := if s.holdsBaton then s.sendPlan 1 else s

/-- RestartRequest written 1: a baton holder runs R632 first (R638). -/
def restartRequest (s : State) (x : Session) : Done :=
  if s.leaving || (s.holdsBaton && s.leaveRefused) then Done.refuse s Status.refused
  else Done.ok ((({ s with boot := { s.boot with restart := some 3 } } : State).handOver).offer 0xE889 0 [x.role])

/-- RESTART_REQUEST. -/
def execRestartRequest (r : Req) (s : State) : Result := ok (udxWrite s r 0x1044 1 0 (be 1 1) restartRequest)

/-- A life-cycle change accepted (R633 step 1). -/
def State.acceptChange (s : State) (target : Nat) : State :=
  ({ s with boot := { s.boot with change := some (target, 0) } } : State).handOver

/-- The header an owner seed blob must bear (R630). -/
def seedHeader : Octets := be 4 0x4F534544 ++ be 1 2 ++ be 1 2 ++ be 2 0 ++ List.replicate 8 0

/-- LifeCycleSubmit with its target, blob and header (R629, R630). -/
def lifeCycleSubmit (target : Nat) (blob hdr : Octets) (s : State) (_ : Session) : Done :=
  if s.leaveRefused then Done.refuse s Status.refused
  else if target = 1 ∧ s.boot.lifeCycle = 0 then
    if hdr ≠ seedHeader then Done.refuse s Status.refused
    else match s.wrapSlot 14 with
      | none => Done.refuse s Status.refused
      | some kek =>
        match unwrapKey kek hdr (slice blob 0 40) with
        | none => Done.refuse ((s.count 0 25 5).offer 0xE604 0 [14, 0]) Status.refused
        | some seed => Done.ok (({ s with boot := { s.boot with newSeed := seed } } : State).acceptChange 1)
  else if target = 2 ∧ s.boot.lifeCycle = 1 then Done.ok (s.acceptChange 2)
  else Done.refuse s Status.refused

/-- ENTER_KEYED and ENTER_FIELD: a write of 1 to 0x1041.06 after its target and, for KEYED, blob and header. -/
def execEnterKeyed (r : Req) (blob header : Octets) (s : State) : Result :=
  ok (udxWrite s r 0x1041 6 0 (be 1 1) (lifeCycleSubmit 1 blob header))
def execEnterField (r : Req) (s : State) : Result := ok (udxWrite s r 0x1041 6 0 (be 1 1) (lifeCycleSubmit 2 [] []))

/-- ENTER_SERVICE, LEAVE_SERVICE and ENTER_VOID: owner tokens of actions 3, 4 and 6 (R629, R631). -/
def State.mayEnterService (s : State) : Bool := decide (s.boot.lifeCycle = 2) && decide (s.boot.serviceBits < 64) && !s.leaveRefused
def State.mayLeaveService (s : State) : Bool := decide (s.boot.lifeCycle = 3) && !s.leaveRefused
def State.mayEnterVoid (s : State) : Bool := decide (s.boot.lifeCycle < 4) && !s.leaveRefused
def execEnterService (r : Req) (params tag : Octets) (s : State) : Result :=
  ownerWrite s r 3 params tag State.mayEnterService fun s => s.acceptChange 3
def execLeaveService (r : Req) (params tag : Octets) (s : State) : Result :=
  ownerWrite s r 4 params tag State.mayLeaveService fun s => s.acceptChange 2
def execEnterVoid (r : Req) (params tag : Octets) (s : State) : Result :=
  ownerWrite s r 6 params tag State.mayEnterVoid fun s => s.acceptChange 4

/-- 0x1041.02 ServiceEntriesLeft (R631). -/
def State.serviceEntriesLeft (s : State) : Nat := 32 - (s.boot.serviceBits + 1) / 2

/-! ### The change (R633) -/

/-- The fuses of a new state blown. -/
def State.blowFuses (s : State) (target : Nat) : State :=
  let old := s.boot.lifeCycle
  let s1 : State := if target = 1 then { s with keys := { s.keys with ownerSeed := some s.boot.newSeed } } else s
  if target = 3 ∨ old = 3 ∧ target = 2 then { s1 with boot := { s1.boot with serviceBits := s1.boot.serviceBits + 1 } }
  else { s1 with boot := { s1.boot with fuseState := target } }

/-- The transitions due, the fold, its journal and the merge buffers of every tile (R379 steps 2 to 4). -/
def State.flushBilling (s : State) : State :=
  (s.structures.foldl (fun (s : State) n => s.dueTransitions n s.tbSeconds) s).eachTile fun s t => (s.foldNamed t).mergeFence t

/-- Everything NAND and DRAM hold erased on entry to VOID, the boot area of tile 0's record zone with it (R633, R675). -/
def State.eraseAll (s : State) : State :=
  { s with
    meters := [], billing := {}, loss := {}, store := {}, place := {}, update := { running := s.update.running }
    compiler := { s.compiler with stored := none }
    keys := { s.keys with copies := [] }
    dict := { s.dict with objs := s.dict.objs.filter fun e => keptObject (e.1 / 256) (e.1 % 256) && decide (e.1 / 256 < 0x2000)
                          pend := [], domains := [], pendDomains := [] }
    recorder := { s.recorder with log := [], paged := 0 } }

/-- Steps 3 to 6 of a change, and the new bring-up. -/
def State.runChange (s : State) (target : Nat) : State :=
  let old := s.boot.lifeCycle
  let s1 := s.flushBilling
  let s2 := s1.eachTile fun s t =>
    (s.journal t { kind := 2, body := [255, 5, s.tbSeconds, old, target] }).writeJournal t
  let s3 : State := { s2 with
    keys := { s2.keys with copies := [] }
    boot := { s2.boot with journalState := some target } }
  let s4 := s3.blowFuses target
  let s5 := if target = 4 then s4.eraseAll else s4
  (((s5.startWipe 1).endSessions (fun _ => true) 4).offer 0xE885 0 [old, target]).startBringUp 1

/-- A change or restart that waits, at a heat boundary: the baton is handed over first, then every slot stops for a heat, then
the change runs (R612, R632, R633). -/
def State.leaveStep (s : State) : State :=
  if s.holdsBaton then s
  else match s.boot.change, s.boot.restart with
    | some (target, 0), _ =>
      { s with boot := { s.boot with change := some (target, 1) }, heat := { s.heat with halts := Tab.set s.heat.halts 4 s.heat.count } }
    | some (target, _), _ => s.runChange target
    | none, some cause => (s.flushBilling.endSessions (fun _ => true) 4).startBringUp cause
    | none, none => s

/-! ### Tamper (R635 to R637) -/

/-- 0x1050.05 follows the inputs. -/
def State.tamperStatus (s : State) (seen : Bool) : State :=
  let active := s.boot.tamperActive.foldl (fun a e => if e.1 < 4 then a + 2 ^ e.1 else a) 0
  s.setObj 0x1050 5 (active + (if seen then 128 else 0))

/-- An input is enabled; the detector in FIELD only, where each instruction is an event. Tamper is sensed from the end of
step 1 (R635, R719). -/
def State.tamperSenses (s : State) (input : Nat) : Bool :=
  decide (2 ≤ s.boot.phase) && decide (input ≤ 4) && bitAt (s.obj 0x1050 1) input &&
    (if input = 4 then decide (s.boot.lifeCycle = 2) else !Tab.has s.boot.tamperActive input)

/-- The effects of a tamper event (R178, R465, R636, R637). -/
def State.tamper (s : State) (input : Nat) : State :=
  let policy := s.obj 0x1050 3
  let s1 : State := { s with boot := { s.boot with
    tamperActive := Tab.set s.boot.tamperActive input s.elapsed, tamperAt := s.elapsed } }
  let s2 := (((s1.clearKeys input).endSessions (fun _ => true) 4).startWipe 0).offer 0xE887 0 [input, policy, s.heat.count]
  let s3 := (s2.bump 0x1050 6).tamperStatus true
  let s3 : State := if 2 ≤ s.power.pilot then s3.eachTile fun s t => (s.setBank t 30 {}).setBank t 31 {} else s3
  let s4 : State := if s.pair.baton then { s3 with pair := { s3.pair with failures := s3.pair.failures ++ [14] } } else s3
  if policy = 1 then { s4 with boot := { s4.boot with phase := 12 } }
  else if s.boot.phase < 9 then s4.startBringUp 2
  else s4

/-- TAMPER_EVENT of input 0 to 3, or 4 the detector. -/
def execTamperEvent (input : Nat) (s : State) : Result := okIf (s.tamperSenses input) s (s.tamper input)

/-- TAMPER_CLEARED: every input inactive for TamperDebounce. Under the restart policy bring-up starts, unless it has. -/
def execTamperCleared (s : State) : Result :=
  let ms := s.obj 0x1050 4
  if s.boot.tamperActive.isEmpty ∨ s.due s.boot.tamperAt (ms * 1000000) = false then ok s
  else if s.boot.phase = 12 then ok (({ s with boot := { s.boot with tamperActive := [] } } : State).tamperStatus true)
  else
    let s1 := s.boot.tamperActive.foldl (fun s e => s.offer 0xE888 0 [e.1, (s.elapsed - e.2) / 1000000 - ms]) s
    let s2 := ({ s1 with boot := { s1.boot with tamperActive := [] } } : State).tamperStatus (bitAt (s1.obj 0x1050 5) 7)
    ok (if s.boot.phase = 9 ∨ s.boot.phase = 10 ∨ s.boot.phase = 11 then s2.startBringUp 2 else s2)

end Sys2Proof.Machine
end

