-- ==== Sys2Proof/Machine/Recovery.lean ====
section
/-! DEFINITION. Timeouts of the memories, cores and tiles, the event recorder and the performance counters (18 R640 to R671). -/

namespace Sys2Proof.Machine

/-! ### DRAM (R643) -/

/-- A channel retrains from now. -/
def State.retrainDram (s : State) (tile : Nat) : State :=
  ({ s with recorder := { s.recorder with dramRetrain := Tab.set s.recorder.dramRetrain tile s.elapsed } } : State).count tile 11 6

/-- The expiry of a write: it stays in the merge buffer and is issued again; a rewritten one that runs out is poisoned (R187). -/
def State.dramWriteExpiry (s : State) (tile address : Nat) : State :=
  let again := s.recorder.dramWrites.any fun w => w.1 == tile && w.2.1 == address && w.2.2.2
  let rest := s.recorder.dramWrites.filter fun w => !(w.1 == tile && w.2.1 == address)
  if again then
    let s1 := s.setLastEcc tile 2 address
    ((({ s1 with
      recorder := { s1.recorder with dramWrites := rest }
      mem := s1.mem.setError (errorKey 2 tile address) poison } : State).count tile 11 4).offer 0xE284 tile
        [tile, address]).failCheck 2
  else { s with recorder := { s.recorder with dramWrites := rest ++ [(tile, address, s.elapsed, false)] } }

/-- DRAM_REQUEST_TIMEOUT of a code word: a read ends uncorrectable, a write waits; the channel retrains. -/
def execDramRequestTimeout (tile address : Nat) (write : Bool) (s : State) : Result :=
  if !s.awake then ok s else
  if s.nTiles ≤ tile ∨ s.boot.phase < 4 ∨ Tab.has s.recorder.dramRetrain tile = true then ok s
  else
    let s1 := if write then s.dramWriteExpiry tile address else s.dramUncorrectable tile 2 address
    ok (((s1.count tile 11 5).retrainDram tile).offer 0xE904 tile [tile, address, bit01 write])

/-- DRAM_RETRAIN_DONE of a tile: writes that ran out are issued again. -/
def execDramRetrainDone (tile : Nat) (s : State) : Result :=
  if Tab.has s.recorder.dramRetrain tile then
    ok { s with recorder := { s.recorder with
      dramRetrain := Tab.erase s.recorder.dramRetrain tile
      dramWrites := (s.recorder.dramWrites.filter fun w => !(w.1 == tile && w.2.2.2)).map fun w =>
        if w.1 = tile then (w.1, w.2.1, s.elapsed, true) else w } }
  else ok s

/-! ### NAND (R644, R645) -/

/-- A read that timed out is made again; one of the same page that times out again is uncorrectable (R644). -/
def State.reread (s : State) (tile block page pool : Nat) : State :=
  let y := s.flash tile
  if y.rereads.contains (pageNumber block page) then
    (s.setFlash tile { y with rereads := y.rereads.filter (· != pageNumber block page) }).pageUncorrectable tile pool block page
  else s.setFlash tile { y with rereads := y.rereads ++ [pageNumber block page] }

/-- NAND_OPERATION_TIMEOUT: operation 0 read, 1 program, 2 erase, of a page of a block; pools as in BLOCK_RETIRE. -/
def execNandOperationTimeout (tile channel block page pool op : Nat) (s : State) : Result :=
  if !s.awake then ok s else
  let die := block / Config.nandBlocksPerDie
  let x := s.flash tile
  if s.nTiles ≤ tile ∨ nandBlocks ≤ block ∨ x.diesGone.contains die = true then ok s
  else
    let recent := x.timeouts.filter fun e => decide (s.elapsed < e.2 + 3600000000000)
    let s1 := (s.setFlash tile { x with timeouts := recent ++ [(die, s.elapsed)] }).offer 0xE905 tile [tile, channel, die, op]
    if op = 0 then ok (s1.reread tile block page pool)
    else ok (s1.retireBlock tile block pool (op - 1))

/-- The records of a segment whose interval ring still holds them all are sealed again from there (R490). -/
def State.restage (s : State) (g : Segment) : State :=
  let x := s.flash g.tile
  if g.records.all (fun r => x.ring.any fun q => q.words == r.words) then
    let again (q : RingRecord) : RingRecord := if g.records.any (fun r => r.words == q.words) then { q with saved := false } else q
    (s.setFlash g.tile { x with ring := x.ring.map again }).deleteSegment g
  else (({ s with store := { s.store with segments := s.store.segments.map fun y =>
      if y.id = g.id then { y with lostPages := List.range (divUp y.records.length 512) } else y } } : State).count g.tile 12 4).offer 0xE682 g.tile
        [g.tile, if g.tlc then 2 else 1, g.id]

/-- A die removed: its blocks count as retired; what lay on it alone is staged again or lost. The record zone's blocks have no
place of their own in the model (log 31). -/
def State.removeDie (s : State) (tile die : Nat) : State :=
  let x := s.flash tile
  let on (b : Nat) : Bool := b / Config.nandBlocksPerDie == die
  let gone := (List.range Config.nandBlocksPerDie).map (· + die * Config.nandBlocksPerDie)
  let held := x.blocks.filter fun b => on b.1
  let owners := held.flatMap fun b => (b.2.pages.filter (·.valid)).map (·.owner)
  let used := held.length
  let free := (gone.filter fun b => !x.retired.contains b).length - used
  let fromShared := min x.shared (free + used)
  let lostTlc := held.countP fun b => b.2.tlc
  let y : TileStore := { x with
    diesGone := x.diesGone ++ [die]
    retired := x.retired ++ gone.filter fun b => !x.retired.contains b
    blocks := x.blocks.filter fun b => !on b.1
    shared := x.shared - fromShared
    slc := x.slc - (used - lostTlc - min fromShared (used - lostTlc))
    tlc := x.tlc - (free + used - fromShared - (used - lostTlc - min fromShared (used - lostTlc))) }
  (s.store.segments.filter fun g => g.tile == tile && owners.contains g.id).foldl (fun s g => s.restage g)
    ((s.setFlash tile y).countN tile 12 5 (free + used))

/-- NAND_DIE_REMOVED: a die not ready 100 ms after its RESET (`stuck`), or with 3 expiries within 1 h. -/
def execNandDieRemoved (tile channel die : Nat) (stuck : Bool) (s : State) : Result :=
  if !s.awake then ok s else
  let x := s.flash tile
  let mine := x.timeouts.filter fun e => e.1 == die && decide (s.elapsed < e.2 + 3600000000000)
  okIf (decide (tile < s.nTiles ∧ die < Config.nandDies) && !x.diesGone.contains die &&
    (decide (3 ≤ mine.length) || (stuck && mine.any fun e => s.due e.2 100000000))) s
    ((s.removeDie tile die).offer 0xE906 tile [tile, channel, die])

/-! ### Management cores (R646, R647) -/

/-- WATCHDOG_TIMEOUT of a core. -/
def execWatchdogTimeout (tile core : Nat) (s : State) : Result :=
  let k := tile * 4 + core
  let x := Tab.getD s.recorder.cores k {}
  if s.nTiles ≤ tile ∨ 4 ≤ core ∨ s.boot.phase < 4 ∨ (!s.awake && (tile != 0 || core != 0)) = true ∨ x.heldUntil.isSome = true then ok s
  else
    let recent := s.elapsed :: x.restarts.filter fun t => decide (s.elapsed < t + 60000000000)
    let hold := decide (4 ≤ recent.length)
    let y : Core := { x with restarts := recent, heldUntil := if hold then some (s.elapsed + 1000000000) else none }
    let s1 : State := { s with recorder := { s.recorder with cores := Tab.set s.recorder.cores k y } }
    ok ((((s1.setObj 0x9040 (k + 1) (satAdd 32 (s.obj 0x9040 (k + 1)) 1)).count tile (26 + core) 2).voidTickets
      (fun t => t.tile == tile) 2).offer 0xE900 tile [tile, core, recent.length, bit01 hold])

/-- CORE_HOLD_END: 1 s after the hold began. -/
def execCoreHoldEnd (tile core : Nat) (s : State) : Result :=
  let k := tile * 4 + core
  let x := Tab.getD s.recorder.cores k {}
  match x.heldUntil with
  | some t =>
    okIf (decide (t ≤ s.elapsed)) s
      { s with recorder := { s.recorder with cores := Tab.set s.recorder.cores k { x with heldUntil := none } } }
  | none => ok s

/-! ### Tile heartbeat (R648 to R653) -/

/-- A tile's health, with when it was last heard. -/
def State.health (s : State) (t : Nat) : Health := Tab.getD s.recorder.health t {}

/-- A tile's health stored, with 0x9030. -/
def State.setHealth (s : State) (t : Nat) (x : Health) : State :=
  ({ s with recorder := { s.recorder with health := Tab.set s.recorder.health t x } } : State).setObj 0x9030 (t + 1) x.state

/-- A tile hears tile 0 again: the events it held go to the recorder, from a buffer (R652). -/
def State.primaryHeard (s : State) (t : Nat) : State :=
  let x := s.health t
  match x.unheardAt with
  | some since =>
    let s1 := s.setHealth t { x with unheardAt := none, buffer := [], primaryAt := s.elapsed }
    let s2 : State := { s1 with recorder := { s1.recorder with
      offered := s1.recorder.offered ++ x.buffer.map fun o => { o with buffered := true } } }
    s2.offer 0xE90C t [t, (s.elapsed - since) / 1000]
  | none => s.setHealth t { x with primaryAt := s.elapsed }

/-- TILE_HEARTBEAT received by tile 0 from a tile, or by a tile from tile 0, over an arc whose links are up (R648). -/
def execTileHeartbeat (src dst : Nat) (s : State) : Result :=
  if s.partRuns = false ∨ s.nTiles ≤ src ∨ s.nTiles ≤ dst ∨ src = dst ∨ s.arcUp src dst = false then ok s
  else
    let s1 := s.count dst 10 7
    if src = 0 then ok (s1.primaryHeard dst)
    else if dst ≠ 0 then ok s1
    else
      let x := s1.health src
      let y := { x with heardAt := s.elapsed, lastCount := s.heat.count % 65536 }
      if x.state = 1 ∧ s.due x.lostAt (s.obj 0x9020 7 * 1000000) = false then
        ok ((s1.setHealth src { y with state := 0 }).offer 0xE902 src [src, (s.elapsed - x.lostAt) / 1000000, 0])
      else ok (s1.setHealth src y)

/-- Attempts of tile recovery within 1 h. -/
def Health.recent (x : Health) (now : Nat) : List Nat := x.attempts.filter fun t => decide (now < t + 3600000000000)

/-- A pipeline of a tile that stays out becomes HELD (R102, R651). -/
def State.holdPipe (s : State) (t p : Nat) : State :=
  if (s.pipe t p).state = 2 then s
  else ((s.setPipe t p { s.pipe t p with state := 2 }).setObj 0x2010 (t * 8 + p + 1) 2).offer 0xE103 t [t, p, 2]

/-- Tile recovery has failed for good: the tile stays out, its pipelines HELD, which starts a build (R103, R651). -/
def State.failTile (s : State) (t : Nat) : State :=
  let x := s.health t
  let s1 := s.setHealth t { x with state := 3 }
  let s2 := (List.range 8).foldl (fun s p => s.holdPipe t p) s1
  (s2.passNow.offer 0xE903 t [t, (x.recent s.elapsed).length]).internalBuild 2 t

/-- TILE_HEARTBEAT_TIMEOUT: a tile is LOST; after three recoveries in 1 h it stays so (R649, R651). -/
def execTileHeartbeatTimeout (tile : Nat) (s : State) : Result :=
  let x := s.health tile
  if s.partRuns = true ∧ 0 < tile ∧ tile < s.nTiles ∧ x.state = 0 ∧ s.due x.heardAt (s.obj 0x9020 5 * 1000) = true then
    let s1 := ((s.setHealth tile { x with state := 1, lostAt := s.elapsed }).offer 0xE901 tile [tile, x.lastCount]).failCheck 4
    ok (if 3 ≤ (x.recent s.elapsed).length then s1.failTile tile else s1)
  else ok s

/-- A tile reset: what its memories and blocks held is gone, the valid map of a CK7-8 cleared (R189, R650). Transfers toward it stay
in their staging queues. R650 does not say whether a pipeline's FAULTED or HELD state and its faults of the last 24 h outlive a
tile recovery: here its pipelines come back IN_SERVICE with none, and no 0xE104 and no build follow (DESIGN CHOICE, log 86). -/
def State.resetTile (s0 : State) (t : Nat) : State :=
  let s := (s0.heat.transfers.filter fun x => x.dst == t && x.src != t).foldl State.unsend s0
  let here (k : Nat) : Bool := k / 256 == t
  { s with
    queues := { s.queues with
      queues := s.queues.queues.filter fun e => !here e.1
      requests := s.queues.requests.filter fun e => e.1 / 65536 != t
      retry := s.queues.retry.filter fun k => !here k }
    fabric := { s.fabric with
      pipes := s.fabric.pipes.filter fun e => e.1 / 8 != t, marchAt := Tab.erase s.fabric.marchAt t
      marchStart := Tab.erase s.fabric.marchStart t
      eccSeen := s.fabric.eccSeen.filter fun e => e.1 != t }
    heat := { s.heat with
      transfers := s.heat.transfers.filter fun x => x.src != t && x.dst != t
      stagedGroups := s.heat.stagedGroups.filter fun e => e.1 / 8 != t
      monitors := s.heat.monitors.filter fun e => e.1 / 16 != t }
    mem := { s.mem with
      banks := s.mem.banks.filter fun e => e.1 / 32 != t
      test := s.mem.test.filter fun c => c.1 / 4096 != t
      errors := s.mem.errors.filter fun e => e.1 / 1099511627776 % 256 != t
      merge := Tab.erase s.mem.merge t, valid := Tab.erase s.mem.valid t
      scratchNext := Tab.erase s.mem.scratchNext t, scratchLap := Tab.erase s.mem.scratchLap t
      dramNext := Tab.erase s.mem.dramNext t, dramLap := Tab.erase s.mem.dramLap t }
    line := { s.line with
      lanes := s.line.lanes.filter fun e => e.1 / 4 != t
      ports := s.line.ports.filter fun e => e.1 / 12 != t, mains := Tab.erase s.line.mains t }
    radio := { s.radio with lanes := s.radio.lanes.filter fun e => e.1 / 8 != t }
    loss := { s.loss with sums := s.loss.sums.map fun e =>
      if e.1 / 32768 = t then (e.1, { e.2 with running := 0, snapshot := 0 }) else e }
    meters := s.meters.map fun x => if x.home = t then x.reboot s.elapsed else x
    keys := { s.keys with slots := s.keys.slots.filter fun e => e.1 < (t + 1) * 1024 + 768 || (t + 2) * 1024 ≤ e.1 }
    billing := { s.billing with
      openEntries := Tab.erase s.billing.openEntries t, named := Tab.erase s.billing.named t
      recordKinds := s.billing.recordKinds.filter fun e => e.1 / 8 != t }
    recorder := { s.recorder with
      dramRetrain := Tab.erase s.recorder.dramRetrain t, dramWrites := s.recorder.dramWrites.filter fun w => w.1 != t }
    store := { s.store with tierSlots := s.store.tierSlots.filter fun e => e.1 / 4294967296 != t } }

/-- TILE_RECOVERY_DELAY_EXPIRY: tile 0 resets the tile and runs its recovery; the power-fail warning stops it (R650, R653). -/
def execTileRecoveryDelayExpiry (tile : Nat) (s : State) : Result :=
  let x := s.health tile
  if s.partRuns = true ∧ tile < s.nTiles ∧ x.state = 1 ∧ s.power.warning = false ∧
      s.due x.lostAt (s.obj 0x9020 7 * 1000000) = true then
    ok ((((List.range 8).foldl (fun s p => s.setObj 0x2010 (tile * 8 + p + 1) 0) (s.resetTile tile)).dramStarts tile).setHealth tile
      { x with state := 2, attempts := x.recent s.elapsed ++ [s.elapsed] })
  else ok s

/-- The lanes enabled on a tile start. -/
def State.startLanes (s : State) (t : Nat) : State :=
  let s1 := (List.range 4).foldl (fun (s : State) l => if s.lineEnabled t l then s.startLine t l else s) s
  (List.range 8).foldl (fun (s : State) l => if s.radioEnabled t l then s.startRadio t l else s) s1

/-- A tile that has recovered: its lanes start, its billing state is restored from its journal, a standby synchronises
(R650). -/
def State.rejoinTile (s : State) (t : Nat) : State :=
  let x := s.health t
  let s1 := s.setHealth t { x with state := 0, heardAt := s.elapsed, primaryAt := s.elapsed }
  let s2 : State := { s1 with boot := { s1.boot with restoringTiles := s1.boot.restoringTiles.filter (· != t) ++ [t] } }
  let s3 := ((s2.dramReady t x.lostAt).startLanes t).offer 0xE902 t [t, (s.elapsed - x.lostAt) / 1000000, 1]
  if s.pair.state ≠ 0 ∧ s.pair.baton = false then s3.startSync 5 else s3

/-- TILE_RECOVERY_DONE: the tile rejoins at a heat boundary (R37, R650), or the recovery failed (R651). -/
def execTileRecoveryDone (tile : Nat) (good : Bool) (s : State) : Result :=
  let x := s.health tile
  if s.partRuns = false ∨ x.state ≠ 2 then ok s
  else if good then okIf s.onBoundary s (s.rejoinTile tile)
  else if 3 ≤ (x.recent s.elapsed).length then ok (s.failTile tile)
  else ok (s.setHealth tile { x with state := 1, lostAt := s.elapsed })

/-- PRIMARY_TILE_UNHEARD: a tile without a heartbeat from tile 0 for TileHeartbeatTimeout. -/
def execPrimaryTileUnheard (tile : Nat) (s : State) : Result :=
  let x := s.health tile
  okIf (s.partRuns && decide (0 < tile ∧ tile < s.nTiles) && x.unheardAt.isNone &&
    s.due x.primaryAt (s.obj 0x9020 5 * 1000)) s (s.setHealth tile { x with unheardAt := some s.elapsed })

/-! ### The event recorder (R654 to R660) -/

/-- The 28 bytes of a record before its CommitWord (R655). -/
def recordBytes (r : EventRecord) : Octets :=
  be 4 r.seq ++ be 4 r.operating ++ be 3 r.cycle ++ be 1 r.tile ++ be 2 r.code ++ be 1 r.severity ++ be 1 r.flags ++
    ((List.range 8).map fun i => Config.eventDataByte r.code r.data i) ++ be 4 r.seconds

/-- The CommitWord of a record in a generation (R656). -/
def commitWord (r : EventRecord) (generation : Nat) : Nat :=
  generation % 256 * 16777216 + crc32 (recordBytes r ++ be 4 generation) % 16777216

/-- Records a generation holds, and the count at which it is nearly full (R658). -/
def logSlots : Nat := 131072
def logNearly : Nat := 117965

/-- A record written to the next slot. -/
def State.logRecord (s : State) (seq : Nat) (o : Offer) (code : Nat) (data : List Nat) : State :=
  let r : EventRecord :=
    { seq := seq, operating := o.operating, cycle := s.boot.powerCycles, tile := o.tile, code := code
      severity := eventSeverity code, flags := bit01 o.buffered * 128 + bit01 o.summary * 64, data := data, seconds := o.seconds
      commit := 0 }
  let x := s.recorder
  let y := { x with
    log := { r with commit := commitWord r x.generation } :: x.log
    pageAt := if x.log.length = x.paged then s.elapsed else x.pageAt
    counts := modifyAt x.counts (eventSeverity code - 1) (· + 1) }
  ({ s with recorder := y } : State)

/-- An event that has its Sequence: filtered, dropped, or written; the last slot marks the full log (R658, R660). -/
def State.recordAt (s : State) (seq : Nat) (o : Offer) : State :=
  let x := s.recorder
  if eventSeverity o.code < s.obj 0x9004 1 ∧ o.code ≠ 0xE908 then { s with recorder := { x with filtered := x.filtered + 1 } }
  else if logSlots ≤ x.log.length then { s with recorder := { x with dropped := x.dropped + 1 } }
  else if x.log.length + 1 = logSlots then
    ({ s with recorder := { x with dropped := x.dropped + 1, full := true } } : State).logRecord seq
      { o with summary := false, buffered := false } 0xE907 [o.code, o.tile]
  else
    let s1 := s.logRecord seq o o.code o.data
    if s1.recorder.log.length = logNearly ∧ x.nearlyFull = false then
      ({ s1 with recorder := { s1.recorder with nearlyFull := true } } : State).offer 0xE90B 0 [x.generation, logNearly]
    else s1

/-- Management cores run: from firmware start on, and not while an activation has them in reset (R620, R679). -/
def State.coresRun (s : State) : Bool :=
  (decide (5 ≤ s.boot.phase) && decide (s.boot.phase ≤ 9) && !s.update.activation.any fun a => decide (a.step = 1)) || decide (s.boot.phase = 12) ||
    (decide (s.boot.phase = 10) && decide (5 ≤ s.boot.haltStep))

/-- The offered event taken: kept by a tile that does not hear tile 0, held during an erase, or recorded (R652, R657, R659). -/
def State.takeOffer (s : State) (o : Offer) (rest : List Offer) : State :=
  let s1 : State := { s with recorder := { s.recorder with offered := rest } }
  let x := s.health o.tile
  if o.tile < s.nTiles ∧ x.unheardAt.isSome = true then
    if x.buffer.length < 1024 then s1.setHealth o.tile { x with buffer := x.buffer ++ [o] }
    else s1
  else
    let seq := s.recorder.nextSeq
    let s2 : State := { s1 with recorder := { s1.recorder with nextSeq := (seq + 1) % 4294967296 } }
    if s.recorder.erasing.isSome then
      if s.recorder.heldEvents.length < 4096 then
        { s2 with recorder := { s2.recorder with heldEvents := s2.recorder.heldEvents ++ [(seq, o)] } }
      else { s2 with recorder := { s2.recorder with dropped := s2.recorder.dropped + 1 } }
    else s2.recordAt seq o

/-- An event that core 0 holds in pilot light, up to 1,024; further ones are dropped (R658, R737). -/
def State.holdOffer (s : State) (o : Offer) (rest : List Offer) : State :=
  let s1 : State := { s with recorder := { s.recorder with offered := rest } }
  if s.power.held.length < 1024 then { s1 with power := { s1.power with held := s1.power.held ++ [{ o with buffered := true }] } }
  else { s1 with recorder := { s1.recorder with
    dropped := s1.recorder.dropped + 1, nextSeq := (s1.recorder.nextSeq + 1) % 4294967296 } }

/-- EVENT_RECORD: the oldest offered event. -/
def execEventRecord (s : State) : Result :=
  match s.recorder.offered with
  | o :: rest => okIf s.coresRun s (if 2 ≤ s.power.pilot then s.holdOffer o rest else s.takeOffer o rest)
  | [] => ok s

/-- Records not yet in a record-zone page written to one, at most 512 (R654). -/
def State.writeEventPage (s : State) : State :=
  let x := s.recorder
  let n := min 512 (x.log.length - x.paged)
  { s with recorder := { x with paged := x.paged + n, pageAt := s.elapsed } }

/-- EVENT_PAGE_WRITE: 512 records, or 1 s after the page's first. -/
def execEventPageWrite (s : State) : Result :=
  let n := s.recorder.log.length - s.recorder.paged
  okIf (s.coresRun && s.awake && (decide (512 ≤ n) || (decide (0 < n) && s.due s.recorder.pageAt 1000000000))) s s.writeEventPage

/-- EventLogClear submitted with the generation expected (R659). -/
def eventLogClear (expected : Nat) (s : State) (_ : Session) : Done :=
  let x := s.recorder
  if x.erasing.isSome || expected != x.generation then Done.refuse s Status.refused
  else Done.ok { s with recorder := { x with
    generation := (x.generation + 1) % 4294967296, log := [], dropped := 0, counts := [0, 0, 0], nearlyFull := false
    full := false, paged := 0, nextSeq := (x.nextSeq + 1) % 4294967296, heldEvents := []
    erasing := some (x.generation, x.log.length, x.dropped, x.nextSeq) } }

/-- EVENT_LOG_CLEAR: a write of 1 to 0x9002.02 after the expected generation. -/
def execEventLogClear (r : Req) (expected : Nat) (s : State) : Result :=
  ok (udxAct s r 0x9002 2 0 (be 1 1) [(0x9002, 1, .num expected)] (eventLogClear expected))

/-- EVENT_LOG_ERASE_DONE, within 50 ms: its event first, then those held. -/
def execEventLogEraseDone (s : State) : Result :=
  match s.recorder.erasing with
  | none => ok s
  | some (generation, records, dropped, seq) =>
    let o : Offer := { code := 0xE908, tile := 0, data := [generation, records, dropped]
                       seconds := if s.clock.state = 0 then 0 else s.tbSeconds % 4294967296, operating := s.operatingSeconds }
    let held := s.recorder.heldEvents
    let s1 := ({ s with recorder := { s.recorder with erasing := none, heldEvents := [] } } : State).recordAt seq o
    ok (held.foldl (fun s e => s.recordAt e.1 e.2) s1)

/-- 0x9000.01 EventLog: 131,072 records of 32 B, those of the generation in their slots and zeros after them (R654, R655,
R659). -/
def State.eventLog (s : State) : Octets := padTo 4194304 (s.recorder.log.reverse.flatMap fun r => recordBytes r ++ be 4 r.commit)

/-! ### Performance counters (R663 to R669) -/

/-- A counter as the current page has it: its total and its saturation flag (R665). -/
def State.total (s : State) (tile block i : Nat) : Nat × Bool := Tab.getD s.recorder.totals (counterKey tile block i) (0, false)

/-- The latched counters of the tiles that latch added to the totals and cleared. -/
def latched (counters totals : Tab (Nat × Bool)) (late : List Nat) : Tab (Nat × Bool) :=
  counters.foldl (fun t e =>
    if late.contains (e.1 / 2048) then t
    else Tab.modify t e.1 (0, false) fun x => (satAdd 63 x.1 e.2.1, x.2 || e.2.2)) totals

/-- COUNTER_LATCH at a heat boundary, with the tiles whose reader has not finished the last latch: the first boundary of a
millisecond, or the one after a request (R664, R666, R667). -/
def execCounterLatch (late : List Nat) (s : State) : Result :=
  let due := decide (s.recorder.latchMs < s.tbMs)
  if s.partRuns = false ∨ s.heat.boundaryAt ≠ s.elapsed ∨ (due || s.recorder.snapshotAsked) = false then ok s
  else
    let slow := (List.range s.nTiles).filter late.contains
    let x := s.recorder
    let s1 : State := { s with recorder := { x with
      counters := x.counters.filter fun e => slow.contains (e.1 / 2048)
      totals := latched x.counters x.totals slow
      pageSeq := x.pageSeq + 1, latchTime := s.tbNs, latchHeat := s.heat.count, latchMs := s.tbMs
      pageFlags := bit01 (x.snapshotAsked && !due) * 128 + bit01 (!slow.isEmpty) * 64
      snapshotAsked := x.snapshotAsked && due
      behind := slow.foldl (fun t k => Tab.modify t k 0 (· + 1)) (x.behind.filter fun e => slow.contains e.1) } }
    ok (slow.foldl (fun s t => s.offerLimited 0xE909 t 0 [t, Tab.getD s.recorder.behind t 0]) s1)

/-- CounterSnapshotNow: a latch due within 100 µs meets the request (R667). -/
def counterSnapshotNow (s : State) (_ : Session) : Done :=
  if 1000000 - s.tbNs % 1000000 ≤ 100000 then Done.ok s
  else Done.ok { s with recorder := { s.recorder with snapshotAsked := true } }

/-- COUNTER_SNAPSHOT_NOW. -/
def execCounterSnapshotNow (r : Req) (s : State) : Result := ok (udxWrite s r 0x9101 1 0 (be 1 1) counterSnapshotNow)

/-- The block's counters as 32 entries (R665). -/
def State.blockEntries (s : State) (tile block : Nat) : Octets :=
  (List.range 32).flatMap fun i => let x := s.total tile block i; be 8 (bit01 x.2 * 2 ^ 63 + x.1)

/-- 0x9100.01 CounterPage. -/
def State.counterPage (s : State) : Octets :=
  [0x50#8, 0x43#8, 0x01#8] ++ be 1 s.nTiles ++ be 8 s.recorder.pageSeq ++ be 8 s.recorder.latchTime ++ be 8 s.recorder.latchHeat ++
    be 1 s.recorder.pageFlags ++ List.replicate 35 0 ++
    ((List.range s.nTiles).flatMap fun t => (List.range 32).flatMap fun b => s.blockEntries t b) ++
    (List.range 4).flatMap fun b => s.blockEntries 0 (32 + b)

/-- PARTITION_COUNTER_FAULT: a user-mode read while PartitionCounterAccess is 0. -/
def execPartitionCounterFault (tile core : Nat) (s : State) : Result :=
  okIf (decide (tile < s.nTiles ∧ core < 4) && decide (s.obj 0x9110 1 = 0)) s
    ((s.count tile (26 + core) 5).offerLimited 0xE90A tile core [tile, core])

end Sys2Proof.Machine
end

