-- ==== Sys2Proof/Machine/Update.lean ====
section
/-! DEFINITION. Firmware and meter images: staging, verification, activation, probation, the owner lock, pair updates,
campaigns; and the meter events of 09 R328 (19 R672 to R697). -/

namespace Sys2Proof.Machine

/-! ### Staging (R672 to R676, R686) -/

/-- UpdateState stored with its objects. -/
def State.setUpdate (s : State) (n : Nat) : State :=
  ({ s with update := { s.update with state := n } } : State).setObj 0xA000 1 n

/-- FAILED with a reason code (R677). -/
def State.updateFailed (s : State) (code : Nat) : State :=
  (({ s with update := { s.update with result := code } } : State).setObj 0xA000 2 code).setUpdate 5

/-- A target's largest container (R672). -/
def containerMax (target : Nat) : Nat := if target = 0 then 16777216 else 524368

/-- A session may stage a target: part firmware needs the owner role (R676). -/
def State.mayStage (s : State) (x : Session) (target : Nat) : Bool := decide (target ≠ 0) || decide (2 ≤ s.roleRank x.role)

/-- A campaign distributes the image of a meter image slot. -/
def State.slotInUse (s : State) (slot : Nat) : Bool := s.update.campaigns.any fun c => c.slot == slot

/-- A write into the staging area voids the tickets that name it (R439). -/
def State.stagingWritten (s : State) : State := s.voidTickets (fun t => t.tile == 0 && t.area == 0) 0

/-- StagingControl open (R675, R676). -/
def stagingOpen (length target : Nat) (s : State) (x : Session) : Done :=
  let u := s.update
  if !s.mayStage x target then Done.refuse s Status.denied
  else if 4 < target ∨ length < 80 ∨ containerMax target < length then Done.refuse s Status.outOfRange
  else if u.state = 1 ∨ u.state = 2 ∨ u.state = 4 ∨ (s.inRom = true ∧ target ≠ 0) then Done.refuse s Status.refused
  else if target = 0 ∧ s.obj 0xA025 1 = 1 ∧ s.inRom = false then Done.refuse s Status.refused
  else if target ≠ 0 ∧ s.slotInUse (target - 1) = true then Done.refuse s Status.refused
  else Done.ok (({ s with update := { u with target := target, length := length, area := [], staged := none } } : State).setUpdate 1)

/-- STAGING_OPEN: a write of 1 to 0xA001.02 after its length and target. -/
def execStagingOpen (r : Req) (length target : Nat) (s : State) : Result :=
  ok (udxAct s r 0xA001 2 0 (be 1 1) [(0xA001, 1, .num length), (0xA001, 5, .num target)] (stagingOpen length target))

/-- ImageBlock submit of a window at an offset. -/
def imageBlock (offset : Nat) (window : Octets) (s : State) (x : Session) : Done :=
  let u := s.update
  if !s.mayStage x u.target then Done.refuse s Status.denied
  else if u.state ≠ 1 then Done.refuse s Status.refused
  else if offset % 4096 ≠ 0 ∨ u.length ≤ offset then Done.refuse s Status.outOfRange
  else if s.obj 0x6005 1 = 1 then Done.refuse s Status.mediaExhausted
  else Done.ok { s with update := { u with area := Tab.set u.area (offset / 4096) (slice window 0 4096) } }

/-- IMAGE_BLOCK: a write of 1 to 0xA010.03 after its window and offset. -/
def execImageBlock (r : Req) (offset : Nat) (window : Octets) (s : State) : Result :=
  ok (udxAct s r 0xA010 3 0 (be 1 1) [(0xA010, 1, .oct window), (0xA010, 2, .num offset)] (imageBlock offset window))

/-- 0xA011.01 StagingMap: a bit per block, most significant first. -/
def State.stagingMap (s : State) : Octets :=
  (List.range 512).map fun i => BitVec.ofNat 8
    ((List.range 8).foldl (fun a j => a * 2 + bit01 (Tab.has s.update.area (8 * i + j))) 0)

/-- The first missing block of a staging. -/
def UpdateState.missing (u : UpdateState) : Option Nat := (List.range u.blocks).find? fun n => !Tab.has u.area n

/-- StagingControl verify: the verify-only pass over the container issues its ticket; with 4 tickets held it is BUSY (R438,
R677). -/
def stagingVerify (s : State) (x : Session) : Done :=
  if !s.mayStage x s.update.target then Done.refuse s Status.denied
  else if s.update.state ≠ 1 then Done.refuse s Status.refused
  else match s.update.missing with
    | some n => { reply := { status := Status.refused, detail := n }, state := s }
    | none =>
      if !s.inRom && decide (4 ≤ s.keys.tickets.countP fun t => t.tile == 0) then
        { reply := replyHint Status.busy s.busyHint, state := s }
      else Done.ok (if s.inRom then s.setUpdate 2 else (s.setUpdate 2).verifyPass)

/-- STAGING_VERIFY: a write of 1 to 0xA001.03. -/
def execStagingVerify (r : Req) (s : State) : Result := ok (udxWrite s r 0xA001 3 0 (be 1 1) stagingVerify)

/-- StagingControl abort: the staging in progress ends; without one there is nothing to abort. -/
def stagingAbort (s : State) (x : Session) : Done :=
  if !s.mayStage x s.update.target then Done.refuse s Status.denied
  else if s.update.state = 1 ∨ s.update.state = 2 then
    Done.ok (({ s.stagingWritten with update := { s.update with area := [], length := 0 } } : State).setUpdate 0)
  else Done.refuse s Status.refused

/-- STAGING_ABORT: a write of 1 to 0xA001.04. -/
def execStagingAbort (r : Req) (s : State) : Result := ok (udxWrite s r 0xA001 4 0 (be 1 1) stagingAbort)

/-! ### Verification (R673, R677, R687) -/

/-- Check 5: digest and signature of a part image, with its own layout (R673). -/
def partImageGood (b : Octets) : Bool :=
  let n := b.length
  decide (400 ≤ n) && fieldAt b 0 4 == 0x434B3746 && fieldAt b 20 4 == n &&
    sha384 (b.take (n - 144)) == slice b (n - 144) 48 && ecdsaVerify curveP384 Config.exnathKey (slice b (n - 144) 48) (slice b (n - 96) 96)

/-- The part's bit of TileCountMask (R673). -/
def State.tileMaskBit (s : State) : Nat := if s.nTiles = 2 then 0 else if s.nTiles = 4 then 1 else 2

/-- The first check of R677 that a staged container fails; none where it passes all. The decrypt pass runs only against the ticket
of its container (R438); `voided` tells that a write has voided it meanwhile. An image cannot be copied to a tile that is LOST
(check 8; DEDUCED, log 83). -/
def State.verifyCode (s : State) (voided : Bool) : Option Nat :=
  let u := s.update
  let c := u.container
  let b := s.containerBody c
  if !s.headerGood c u.target then some 1
  else if !s.inRom && fieldAt c 12 2 != s.obj 0x5010 25 then some 2
  else if !s.inRom && !s.containerTag c then some 3
  else if !s.inRom && (voided || !s.keys.tickets.contains u.ticket) then some 4
  else if u.target ≠ 0 then none
  else if !partImageGood b then some 5
  else if fieldAt b 8 4 < s.boot.rollback ∨ 128 < fieldAt b 8 4 then some 6
  else if !bitAt (fieldAt b 16 1) s.tileMaskBit || decide (Config.romVersion.toNat < fieldAt b 12 4) then some 7
  else if !s.inRom && (List.range s.nTiles).any fun t => s.healthOf t != 0 then some 8
  else none

/-- The boot slot that is neither first nor second (R674). -/
def UpdateState.freeSlot (u : UpdateState) : Nat := ((List.range 3).find? fun n => n != u.first && n != u.second).getD 2

/-- What a part image says of itself (R673). -/
def bootSlotOf (imageId : Nat) (b : Octets) : BootSlot :=
  { imageId := imageId, version := fieldAt b 4 4, security := fieldAt b 8 4, flags := fieldAt b 17 1, digest := sha384 b }

/-- The objects of the staged image (0xA020). -/
def State.stagedInfo (s : State) (x : BootSlot) (part : Bool) : State :=
  ((((s.setObj 0xA020 1 x.imageId).setObj 0xA020 2 x.version).setObj 0xA020 3 x.security).setVal 0xA020 4
    (.oct (if part then bootMeasurement x.digest else List.replicate 48 0))).setObj 0xA020 5 x.flags

/-- The boot directory rewritten (R674). -/
def State.writeDirectory (s : State) (first second : Nat) (confirmed : Bool) (count : Nat) : State :=
  { s with update := { s.update with
    first := first, second := second, confirmed := confirmed, startCount := count, dirSeq := s.update.dirSeq + 1 } }

/-- A container that passed every check (R677, R686). -/
def State.verified (s : State) : State :=
  let u := s.update
  let c := u.container
  let b := s.containerBody c
  let id := fieldAt c 4 4
  if s.inRom then
    let s1 : State := { s with update := { u with slots := Tab.set u.slots 0 (bootSlotOf id b), area := [], state := 0 } }
    ((s1.writeDirectory 0 (if u.second = 0 then 1 else u.second) false 0).setObj 0xA000 1 0).startBringUp 5
  else if u.target = 0 then
    let x := bootSlotOf id b
    let k := u.freeSlot
    let s1 : State := { s with update := { u with staged := some (x, k), stagedId := id, slots := Tab.set u.slots k x } }
    (((s1.stagedInfo x true).setUpdate 3).offer 0xE980 0 [0, id]).sendContainer
  else
    let s1 : State := { s with update := { u with
      stagedId := id, meterImages := Tab.set u.meterImages (u.target - 1) { imageId := id, bytes := b } } }
    (((s1.stagedInfo { imageId := id } false).setUpdate 3).offer 0xE980 0 [u.target, id]).sendContainer

/-- The ticket of the staged container consumed by its decrypt pass (R438). -/
def State.consumeTicket (s : State) : State :=
  { s with keys := { s.keys with tickets := s.keys.tickets.filter (· != s.update.ticket) } }

/-- A container that failed a check: a tag that failed is counted as the service cipher's, a write that voided the ticket is
recorded (R437, R439, R677). -/
def State.verifyFails (s : State) (voided : Bool) (n : Nat) : State :=
  let s1 := if n = 3 then s.serviceAuthFail 0 5 else if n = 4 ∧ voided = true then s.stagingWritten else s.consumeTicket
  (s1.updateFailed n).offer 0xE981 0 [s.update.target, fieldAt s.update.container 4 4, n]

/-- A standby reports to its active the container it has VERIFIED (R687; log 35). -/
def State.reportVerified (s : State) : State :=
  if s.isStandby && decide (s.update.state = 3) then s.mgmtReport 26 [s.update.stagedId] [] else s

/-- VERIFICATION_DONE. -/
def execVerificationDone (voided : Bool) (s : State) : Result :=
  if s.update.state ≠ 2 then ok s
  else
    let s0 := if s.update.target = 0 && ((s.verifyCode voided).all fun n => decide (4 < n)) then s.count 0 25 2 else s
    match s.verifyCode voided with
    | some n => ok (s0.verifyFails voided n)
    | none => ok s0.consumeTicket.verified.reportVerified

/-- 0xA030.01 MeterImageTable. -/
def State.meterImageTable (s : State) : Octets :=
  (List.range 4).flatMap fun n => match Tab.find? s.update.meterImages n with
    | some i => be 4 i.imageId ++ be 4 i.bytes.length ++ be 4 (divUp i.bytes.length 56) ++ be 1 3 ++ be 3 0
    | none => List.replicate 16 0

/-! ### Activation (R678 to R682, R687, R688) -/

/-- The standby may take part in a pair update: eligible, its copy VERIFIED with the image, no sync (R687). -/
def State.pairReady (s : State) : Bool :=
  s.peerEligible && s.pair.sync.phase == 0 && s.pair.peerImage == s.update.stagedId

/-- The Detail an activation is refused with (R678). -/
def State.activateRefusal (s : State) (imageId : Nat) : Option Nat :=
  if s.update.state ≠ 3 ∨ s.update.staged.isNone ∨ imageId ≠ s.update.stagedId then some 1
  else if s.pair.plan.isSome ∨ s.pair.takeAt.isSome then some 2
  else if s.power.warning ∨ s.power.holdup = false then some 3
  else if s.obj 0xA025 1 = 1 then some 4
  else if s.compiler.run.isSome then some 5
  else if s.boot.change.isSome ∨ s.boot.restart.isSome ∨ s.boot.lifeCycle = 4 then some 6
  else if s.pair.state = 2 ∧ s.pairReady = false then some 7
  else none

/-- An activation of this unit begins (R679 step 1). -/
def State.beginActivation (s : State) : State :=
  ({ s with update := { s.update with activation := some { oldVersion := s.firmwareVersion }, activating := true } } :
    State).setUpdate 4

/-- The measurement of the staged image. -/
def State.stagedMeasurement (s : State) : Octets := match s.update.staged with
  | some (x, _) => bootMeasurement x.digest
  | none => []

/-- Activate submitted. On an active with a standby the update of the pair starts: the standby activates first (R688). -/
def activate (imageId : Nat) (s : State) (_ : Session) : Done :=
  match s.activateRefusal imageId with
  | some n => { reply := { status := Status.refused, detail := n }, state := s.offerLimited 0xE983 0 0 [n] }
  | none =>
    if s.pair.state = 2 then
      let s1 := (s.offer 0xE988 0 [1, imageId]).mgmt 20 [imageId] s.stagedMeasurement
      let u : PairUpdate := { step := 2, imageId := imageId, measurement := s.stagedMeasurement, startedAt := s.elapsed }
      Done.ok (({ s1 with update := { s1.update with pairUpdate := some u } } : State).offer 0xE988 0 [2, imageId])
    else Done.ok s.beginActivation

/-- ACTIVATE: a write of 1 to 0xA021.02 after its ImageId. -/
def execActivate (r : Req) (imageId : Nat) (s : State) : Result :=
  ok (udxAct s r 0xA021 2 0 (be 1 1) [(0xA021, 1, .num imageId)] (activate imageId))

/-- The activation's heat boundaries: the pause begins, the flush runs, the directory is rewritten, the cores restart (steps 2
to 5); once the new firmware has taken up its state, admissions resume (step 8). -/
def State.activationStep (s : State) : State :=
  match s.update.activation with
  | none => s
  | some a =>
    if a.step = 0 then
      match s.update.staged with
      | none => s
      | some (x, k) =>
        let s1 : State := { s with heat := { s.heat with halts := Tab.set s.heat.halts 2 s.heat.count } }
        let s2 := s1.flushBilling.eachTile fun s t =>
          (s.journal t { kind := 2, body := [255, 6, s.tbSeconds, a.oldVersion, x.version] }).writeJournal t
        let s3 := s2.writeDirectory k s2.update.first false 0
        { s3 with update := { s3.update with activation := some { a with step := 1, pauseAt := s.elapsed } } }
    else if a.step = 2 then
      let us := (s.elapsed - a.pauseAt) / 1000
      let s1 : State := { s with
        heat := { s.heat with halts := Tab.erase s.heat.halts 2 }
        update := { s.update with activation := none, activating := false, resumedAt := s.elapsed } }
      let s2 := (s1.setObj 0xA026 1 us).offer 0xE982 0 [a.oldVersion, s.firmwareVersion, us]
      let s3 := if s2.update.state = 4 then s2.setUpdate 0 else s2
      if s.update.rebuild then
        ({ s3 with update := { s3.update with rebuild := false } } : State).internalBuild 6 0
      else s3
    else s

/-- The slots of the measured root derived again for a measurement (R451, R679 step 6). -/
def State.measure (s : State) (m : Octets) (version : Nat) : State :=
  let s1 : State := { s with boot := { s.boot with measurement := m, securityVersion := version } }
  let s2 := ([1, 4, 5, 6, 7] : List Nat).foldl (fun s n => s.setSlotFrom s1.deriveKeys n) s1
  (((({ s2 with keys := { s2.keys with attestSeq := s2.keys.attestSeq + 1 } } : State).count 0 25 1).setVal 0x1042 1 (.oct m)).setObj
    0x1042 2 version)

/-- The image in a slot started after an activation: measured, its version in force, its sheet checked (R679 steps 6 and 7,
R681). -/
def State.startImage (s : State) (k : Nat) : State :=
  match Tab.find? s.update.slots k with
  | some x =>
    let s1 := (s.measure (bootMeasurement x.digest) x.security)
    let s2 : State := { s1 with
      update := { s1.update with running := some x.version }
      boot := { s1.boot with bootImage := 0 } } |>.count 0 25 2
    let keep := match s2.compiler.sheet with
      | some y => s2.storedFits y
      | none => true
    { s2 with update := { s2.update with rebuild := !keep } }
  | none => s

/-- ACTIVATION_RESUME: the first image passed R617 and the new firmware has taken up its state, or the second was started
instead, which leaves the failed slot free (R679, R682). -/
def execActivationResume (good : Bool) (s : State) : Result :=
  match s.update.activation with
  | none => ok s
  | some a =>
    if a.step ≠ 1 then ok s
    else
      let u := s.update
      let done (s : State) : State := { s with update := { s.update with activation := some { a with step := 2 }, staged := none } }
      if good then ok (done (s.startImage u.first))
      else
        let s1 := (s.offer 0xE882 0 [0]).writeDirectory u.second u.freeSlot true 0
        ok ((done (s1.startImage u.second)).updateFailed 5)

/-! ### Probation (R683, R684) -/

/-- No watchdog restart of a tile 0 core since an instant. -/
def State.quietSince (s : State) (t : Nat) : Bool :=
  (List.range 4).all fun c => (Tab.getD s.recorder.cores c {}).restarts.all fun r => decide (r < t)

/-- PROBATION_END. -/
def execProbationEnd (s : State) : Result :=
  let t := max s.boot.readyAt s.update.resumedAt
  let p := s.obj 0xA023 1 * 1000000000
  if s.partRuns = true ∧ s.update.confirmed = false ∧ s.due t p = true ∧ s.quietSince (s.elapsed - p) = true then
    let x := Tab.getD s.update.slots s.update.first {}
    let s1 := ({ s with update := { s.update with confirmed := true, dirSeq := s.update.dirSeq + 1 } } : State).offer 0xE984 0
      [x.imageId]
    let v := match Tab.find? s.update.slots s.update.second with
      | some y => min x.security y.security
      | none => s.boot.rollback
    ok (if bitAt x.flags 7 && decide (s.boot.rollback < v) then
      ({ s1 with boot := { s1.boot with rollback := v } } : State).offer 0xE986 0 [v] else s1)
  else ok s

/-! ### The owner lock (R685) -/

/-- The lock set or cleared; a change is recorded (R685). -/
def State.ownerLock (s : State) (on : Bool) : State :=
  if s.obj 0xA025 1 = bit01 on then s else (s.setObj 0xA025 1 (bit01 on)).offer 0xE987 0 [bit01 on]

/-- SET_OWNER_LOCK and CLEAR_OWNER_LOCK: owner tokens of actions 1 and 2. -/
def execSetOwnerLock (r : Req) (params tag : Octets) (s : State) : Result :=
  ownerWrite s r 1 params tag (fun _ => true) fun s => s.ownerLock true
def execClearOwnerLock (r : Req) (params tag : Octets) (s : State) : Result :=
  ownerWrite s r 2 params tag (fun _ => true) fun s => s.ownerLock false

/-! ### Update in a pair (R688, R689) -/

/-- The update of a pair cancelled: the standby starts its second image and synchronises (R689). Reasons: 0 the limit, 1 the
handover refused. -/
def State.cancelPair (s : State) (reason : Nat) : State :=
  (({ s with update := { s.update with pairUpdate := none } } : State).offer 0xE989 0 [reason]).mgmt 21 [] []

/-- A standby told to activate: the measurement it leaves, its peer's, stays compatible (R688 steps 1 and 2). -/
def State.peerActivate (s : State) (imageId : Nat) : State :=
  let u : PairUpdate := { step := 0, imageId := imageId, measurement := s.boot.measurement }
  let s1 : State := { s with update := { s.update with pairUpdate := some u } }
  if s1.update.state = 3 ∧ s1.update.staged.isSome = true ∧ s1.update.stagedId = imageId then s1.beginActivation else s1

/-- A standby told that the update is cancelled: back to its second image (R682, R689). -/
def State.peerRevert (s : State) : State :=
  let u := s.update
  let s1 := (s.writeDirectory u.second u.freeSlot true 0).startImage u.second
  (({ s1 with update := { s1.update with pairUpdate := none, activation := none, activating := false } } : State).updateFailed
    5).startSync 11

/-- PAIR_UPDATE_LIMIT: step 2 has not ended in time. -/
def execPairUpdateLimit (s : State) : Result :=
  match s.update.pairUpdate with
  | some u => okIf (decide (u.step = 2) && s.due u.startedAt (s.obj 0xA027 1 * 1000000000)) s (s.cancelPair 0)
  | none => ok s

/-- The steps of a pair update at a heat boundary: the standby eligible again hands over (step 3); the unit that resigned
activates (step 4); synchronised again, it ends the update (step 5) (R688). -/
def State.pairUpdateStep (s : State) : State :=
  match s.update.pairUpdate with
  | none => s
  | some u =>
    let put (s : State) (v : Option PairUpdate) : State := { s with update := { s.update with pairUpdate := v } }
    if u.step = 2 ∧ s.peerEligible = false then put s (some { u with away := true })
    else if u.step = 2 ∧ u.away = true then
      (if s.planRefused then s.cancelPair 1
       else (put (s.sendPlan 2) (some { u with step := 3 })).offer 0xE988 0 [3, u.imageId])
    else if u.step = 3 ∧ s.pair.baton = false then
      ((put s (some { u with step := 4 })).offer 0xE988 0 [4, u.imageId]).beginActivation
    else if u.step = 4 ∧ s.update.activation.isNone ∧ s.pair.state = 4 then (put s none).offer 0xE988 0 [5, u.imageId]
    else if u.step = 0 ∧ s.pair.baton = true ∧ s.peerEligible = true then put s none
    else s

/-! ### Campaigns (R691 to R695) -/

/-- A campaign stored in the place of the one with its image. -/
def State.setCampaign (s : State) (c : Campaign) : State :=
  { s with update := { s.update with campaigns := s.update.campaigns.map fun d => if d.imageId = c.imageId then c else d } }

/-- The meter image of a campaign. -/
def State.campaignImage (s : State) (c : Campaign) : Octets := match Tab.find? s.update.meterImages c.slot with
  | some i => i.bytes
  | none => []

/-- Blocks of an image (R691). -/
def blockCount (b : Octets) : Nat := divUp b.length 56

/-- The meters a campaign targets. -/
def State.targets (s : State) (imageId : Nat) : List Meter := s.meters.filter fun x => x.firmware.target == imageId

/-- FirmwareCampaign start. -/
def campaignStart (imageId : Nat) (s : State) (_ : Session) : Done :=
  match List.find? (fun (e : Nat × MeterImage) => e.2.imageId == imageId) s.update.meterImages with
  | none => Done.refuse s Status.refused
  | some (slot, i) =>
    if s.update.campaigns.any (fun c => c.imageId == imageId) ∨ 65536 < s.meters.countP (fun x => x.firmware.target != 0) ∨
        imageId = 0 then Done.refuse s Status.refused
    else
      let c : Campaign := { imageId := imageId, slot := slot, startedAt := s.elapsed
                            todo := (List.range (blockCount i.bytes)).map fun n => (n, 0) }
      let s1 : State := { s with
        update := { s.update with campaigns := s.update.campaigns ++ [c] }
        meters := s.meters.map fun x =>
          if x.firmware.target = imageId then { x with firmware := { x.firmware with state := 0, blocks := [] } } else x }
      Done.ok (s1.offer 0xE98B 0 [imageId, (s.targets imageId).length])

/-- CAMPAIGN_START: a write of 1 to 0xA040.02 after its ImageId. -/
def execCampaignStart (r : Req) (imageId : Nat) (s : State) : Result :=
  ok (udxAct s r 0xA040 2 0 (be 1 1) [(0xA040, 1, .num imageId)] (campaignStart imageId))

/-- The payload of a firmware block frame (R332). -/
def blockPayload (imageId n : Nat) (data : Octets) : Octets := be 4 imageId ++ be 4 n ++ slice data 0 56

/-- The ports that serve a target, with the lane class there. -/
def State.campaignPorts (s : State) (imageId : Nat) : List (Nat × Nat) :=
  (((s.targets imageId).filter Meter.served).map fun x => (x.port, s.meterClass x)).eraseDups

/-- A firmware block frame broadcast on every port that serves a target, under its broadcast key (R692). -/
def State.broadcastBlock (s : State) (imageId n : Nat) (data : Octets) : State :=
  (s.campaignPorts imageId).foldl (fun (s : State) e =>
    (s.pushPacket (if e.1 / 64 = 2 then 0 else e.1 % 64 / 8) (0x20 + e.1 % 8) .management
      (payloadPacket 0 4294967295 7 e.1 (if e.1 / 64 = 0 then 3 else 0) e.2 (blockPayload imageId n data))).2) s

/-- A firmware block sealed to one meter through its outbound slots. -/
def State.unicastBlock (s : State) (m imageId n : Nat) (data : Octets) : State :=
  match s.meter? m with
  | some x =>
    if x.served then (s.enqueue m 0 (payloadPacket 0 m 7 x.port x.phase (s.meterClass x) (blockPayload imageId n data))).2 else s
  | none => s

/-- The blocks of a later round: each that enough meters lack is broadcast, every other goes to each meter that lacks it
(R692). -/
def State.roundTodo (s : State) (c : Campaign) : List (Nat × Nat) :=
  let ts := (s.targets c.imageId).filter fun x => x.firmware.state == 0
  (List.range (blockCount (s.campaignImage c))).flatMap fun n =>
    let lack := ts.filter fun x => !x.firmware.blocks.contains n
    if lack.isEmpty then []
    else if s.obj 0xA041 2 ≤ lack.length then [(n, 0)]
    else lack.map fun x => (n, x.number)

/-- Meters of a campaign in a state. -/
def State.inState (s : State) (imageId st : Nat) : Nat := (s.targets imageId).countP fun x => x.firmware.state == st

/-- The instant the last block of any campaign was sent: the rate of a port holds for all campaigns together (R692). -/
def State.lastBlockAt (s : State) : Nat := (s.update.campaigns.map fun c => c.sentAt).foldl max 0

/-- One step of a campaign: the next block within the rate, the end block, or the next round. -/
def State.campaignStep (s : State) (c : Campaign) : State :=
  match c.endedAt, c.todo with
  | some t, _ =>
    if s.due t (s.obj 0xA041 3 * 1000000000) then
      s.setCampaign { c with round := c.round + 1, todo := s.roundTodo c, resent := 0, endedAt := none }
    else s
  | none, (n, m) :: rest =>
    if s.due s.lastBlockAt (divUp 1000000000 (s.obj 0xA041 1)) then
      let data := (s.campaignImage c).drop (56 * n)
      let s1 := s.setCampaign { c with todo := rest, sentAt := s.elapsed, resent := if c.round = 1 then 0 else c.resent + 1 }
      if m = 0 then (s1.broadcastBlock c.imageId n data).bump 0xA042 1
      else (s1.unicastBlock m c.imageId n data).bump 0xA042 2
    else s
  | none, [] =>
    let data := be 4 (blockCount (s.campaignImage c)) ++ be 1 (c.round % 256)
    let s1 := (s.setCampaign { c with endedAt := some s.elapsed }).broadcastBlock c.imageId 0xFFFFFFFF data
    s1.offer 0xE98C 0 [c.imageId, c.round, s.inState c.imageId 1 + s.inState c.imageId 2 + s.inState c.imageId 3, c.resent]

/-- CAMPAIGN_ROUND: the step of a campaign that is due. -/
def execCampaignRound (imageId : Nat) (s : State) : Result :=
  match s.update.campaigns.find? fun c => c.imageId == imageId with
  | some c => okIf (s.partRuns && !s.isStandby) s (s.campaignStep c)
  | none => ok s

/-- FIRMWARE_ACTIVATE for a COMPLETE meter (R695). -/
def State.sendActivate (s : State) (x : Meter) (effective : Nat) : State :=
  s.sendCommand x.number Cmd.firmwareActivate 0 (be 4 x.firmware.target ++ be 4 effective)

/-- FirmwareCampaign activate. -/
def campaignActivate (imageId effective : Nat) (s : State) (_ : Session) : Done :=
  match s.update.campaigns.find? fun c => c.imageId == imageId with
  | none => Done.refuse s Status.refused
  | some c =>
    if effective < s.tbSeconds + 60 then Done.refuse s Status.refused
    else
      let s1 := s.setCampaign { c with effective := some effective }
      Done.ok (((s.targets imageId).filter fun x => x.firmware.state == 1).foldl (fun s x => s.sendActivate x effective) s1)

/-- CAMPAIGN_ACTIVATE: a write of 1 to 0xA040.04 after its ImageId and EffectiveSeconds. -/
def execCampaignActivate (r : Req) (imageId effective : Nat) (s : State) : Result :=
  ok (udxAct s r 0xA040 4 0 (be 1 1) [(0xA040, 1, .num imageId), (0xA040, 3, .num effective)] (campaignActivate imageId effective))

/-- A campaign ends: targets not ACTIVATED are FAILED, bitmaps freed (R694, R695). -/
def State.endCampaign (s : State) (imageId : Nat) : State :=
  let s1 := (s.targets imageId).foldl (fun s x => s.firmwareEnded x.number (be 4 imageId) false 6) s
  let s2 : State := { s1 with
    update := { s1.update with campaigns := s1.update.campaigns.filter fun c => c.imageId != imageId }
    meters := s1.meters.map fun x => if x.firmware.target = imageId then { x with firmware := { x.firmware with blocks := [] } } else x }
  s2.offer 0xE98F 0 [imageId, s2.inState imageId 3, s2.inState imageId 4]

/-- FirmwareCampaign cancel. -/
def campaignCancel (imageId : Nat) (s : State) (_ : Session) : Done :=
  if s.update.campaigns.any fun c => c.imageId == imageId then Done.ok (s.endCampaign imageId) else Done.refuse s Status.refused

/-- CAMPAIGN_CANCEL: a write of 1 to 0xA040.05 after its ImageId. -/
def execCampaignCancel (r : Req) (imageId : Nat) (s : State) : Result :=
  ok (udxAct s r 0xA040 5 0 (be 1 1) [(0xA040, 1, .num imageId)] (campaignCancel imageId))

/-- CAMPAIGN_LIMIT days after its start. -/
def execCampaignLimit (imageId : Nat) (s : State) : Result :=
  match s.update.campaigns.find? fun c => c.imageId == imageId with
  | some c => okIf (s.due c.startedAt (s.obj 0xA041 4 * 86400000000000)) s (s.endCampaign imageId)
  | none => ok s

/-- Campaigns whose targets are all ACTIVATED or FAILED end, at a heat boundary (R695). -/
def State.endCampaigns (s : State) : State :=
  s.update.campaigns.foldl (fun s c =>
    if (s.targets c.imageId).all fun x => decide (3 ≤ x.firmware.state) then s.endCampaign c.imageId else s) s

/-- A target meter holds blocks: its map full, it is COMPLETE, and an activate of its campaign follows (R693 to R695). -/
def State.blocksHeld (s : State) (m imageId : Nat) (blocks : List Nat) (full : Bool) : State :=
  match s.meter? m, s.update.campaigns.find? fun c => c.imageId == imageId with
  | some x, some c =>
    if x.firmware.target ≠ imageId ∨ x.firmware.state ≠ 0 then s
    else
      let n := blockCount (s.campaignImage c)
      let all := if full then List.range n else (x.firmware.blocks ++ blocks.filter (· < n)).eraseDups
      let s1 := s.modMeter m fun x => { x with firmware := { x.firmware with blocks := all } }
      if all.length < n then s1
      else
        let s2 := ((s1.modMeter m fun x => { x with firmware := { x.firmware with state := 1 } }).bump 0xA042 4).offerLimited
          0xE98D 0 0 [m]
        match c.effective with
        | some e => s2.sendActivate x (if s.tbSeconds + 60 ≤ e then e else s.tbSeconds + 60)
        | none => s2
  | _, _ => s

/-! ### Meter events (09 R328) -/

/-- What an event of a meter does (R328, R391, R397, R422, R693, R310). Other codes are passed on unread. -/
def State.meterEvent (s : State) (m code : Nat) (d : Octets) : State :=
  if code = 1 ∨ code = 2 then s.setIndicator m 7
  else if code = 3 then
    (match s.meter? m with
     | some x => if x.loss.exportExpected then s else s.setIndicator m 4
     | none => s)
  else if code = 6 then s.clockAdjusted m (fieldAt d 0 4) (fieldAt d 4 4)
  else if code = 7 ∧ d.length = 1 ∧ fieldAt d 0 1 = 0 then s.relayClosed m
  else if code = 8 then s.blocksHeld m (fieldAt d 0 4) [] true
  else if code = 9 then
    let base := fieldAt d 4 4
    (s.bump 0xA042 3).blocksHeld m (fieldAt d 0 4)
      ((List.range 128).filterMap fun i => if bitAt (fieldAt d (8 + i / 8) 1) (7 - i % 8) then some (base + i) else none) false
  else if code = 16 then
    s.radioJoin (fieldAt d 0 1) (fieldAt d 1 1) m
  else s

/-- METER_EVENT: the meter event at the head of a pipeline's event queue, after the reports before it. -/
def execMeterEvent (tile pipe : Nat) (s : State) : Result :=
  let s := s.events tile pipe
  match s.eventHead tile pipe 1 with
  | some (d, b) => ok ((s.takeEvent tile pipe).meterEvent (field d 63 32) (fieldAt b 4 2) (slice b 8 (fieldAt b 6 1)))
  | none => ok s

end Sys2Proof.Machine
end

