-- ==== Sys2Proof/Machine/Pins.lean ====
section
/-! DEFINITION. Pins, SerDes receivers, PHY polls and the test access port (20 R698 to R721, 17 R623). -/

namespace Sys2Proof.Machine

/-! ### Readback (R712) -/

/-- The level that the part drives on a pin of the comparison; BATON_OUT's level follows its code at that instant, 2 while no
level is driven. Pins 0 BATON_OUT, 1 LANE_OWN, 2 PEER_ALIVE, 3 to 6 TIME_OUT0 to 3 (R533 to R535, R710). -/
def State.drivenLevel (s : State) (baton : Bool) (pin : Nat) : Nat :=
  if pin < 3 then
    if s.boot.phase ≠ 9 ∨ s.pair.state = 0 ∨ s.power.shutdown.isSome ∨ 2 ≤ s.power.pilot then 0
    else bit01 (if pin = 0 then baton else if pin = 1 then s.pair.baton else s.peerAlive)
  else if s.boot.phase < 5 then 2
  else
    let x := s.timeOut (pin - 3)
    bit01 (decide (s.elapsed < x.activeUntil) != x.low)

/-- One comparison of a pin: 3 differences in a row set its bit, 1,000 agreements clear it. -/
def State.comparePin (s : State) (baton : Bool) (pads pin : Nat) : State :=
  let v := s.drivenLevel baton pin
  let bits := s.obj 0x1061 1
  if v = 2 then s
  else if bit01 (bitAt pads pin) = v then
    let n := s.pins.agree.getD pin 0 + 1
    let s1 : State := { s with pins := { s.pins with
      differ := modifyAt s.pins.differ pin fun _ => 0, agree := modifyAt s.pins.agree pin fun _ => min n 1000 } }
    if 1000 ≤ n then s1.setObj 0x1061 1 (putBit bits pin false) else s1
  else
    let n := s.pins.differ.getD pin 0 + 1
    let s1 : State := { s with pins := { s.pins with
      differ := modifyAt s.pins.differ pin fun _ => min n 3, agree := modifyAt s.pins.agree pin fun _ => 0 } }
    if 3 ≤ n ∧ bitAt bits pin = false then (s1.setObj 0x1061 1 (putBit bits pin true)).offer 0xEA00 0 [pin, v] else s1

/-- READBACK_COMPARE: every 1 µs, with the level that BATON_OUT's code drives and the pad levels. -/
def execReadbackCompare (baton : Bool) (pads : Nat) (s : State) : Result :=
  okIf (decide (1 ≤ s.boot.phase) && s.due s.pins.comparedAt 1000) s
    ((List.range 7).foldl (fun s n => s.comparePin baton pads n) { s with pins := { s.pins with comparedAt := s.elapsed } })

/-! ### SerDes receivers (R713, R708) -/

/-- A receiver: mirror lanes 0 to 3, then Ethernet 0 and 1. -/
def State.serdes (s : State) (lane : Nat) : Serdes := Tab.getD s.pins.serdes lane {}

/-- A receiver stored; the mirror lanes that are up stand in 0x8009, and the link is up with all four. -/
def State.setSerdes (s : State) (lane : Nat) (x : Serdes) : State :=
  let s1 : State := { s with pins := { s.pins with serdes := Tab.set s.pins.serdes lane x } }
  let n := (List.range 4).countP fun k => (s1.serdes k).locked
  let s2 : State := { s1 with pair := { s1.pair with linkUp := decide (n = 4) } }
  (s2.setObj 0x8009 1 (n * 2 ^ 28 + min 65535 s.pins.retrains)).setObj 0x1062 1
    (putBit (s.obj 0x1062 1) lane (x.locked && x.inverted))

/-- A receiver is powered: the mirror link's from the end of step 1, an Ethernet port's with the host interfaces; none in
pilot light but the pilot port's (R623, R710). -/
def State.serdesPowered (s : State) (lane : Nat) : Bool :=
  if lane < 4 then decide (2 ≤ s.boot.phase) && decide (s.power.pilot < 2)
  else decide (lane < 6) && s.hostUp && (decide (s.power.pilot < 2) || lane == 4 + s.obj 0xB001 2)

/-- POLARITY_TRY: no block lock 2 ms after signal detect. -/
def execPolarityTry (lane : Nat) (s : State) : Result :=
  let x := s.serdes lane
  okIf (s.serdesPowered lane && !x.locked) s (s.setSerdes lane { x with inverted := !x.inverted })

/-- The interface number of a receiver in 0xEA01: 0 mirror link, 1 and 2 Ethernet (log 8), and its lane. -/
def serdesName (lane : Nat) : List Nat := if lane < 4 then [0, lane] else [lane - 3, 0]

/-- An Ethernet link down for a cause of its own: 0 the receiver, 1 the PHY; a link that was up is counted. -/
def State.etherDown (s : State) (port cause : Nat) : State :=
  if s.pins.linkDown.contains (port + 2 * cause) then s
  else
    let was := s.pins.linkDown.any fun n => n % 2 == port
    let s1 : State := { s with pins := { s.pins with linkDown := s.pins.linkDown ++ [port + 2 * cause] } }
    if was then s1 else s1.count 0 (33 + port) 8

/-- The cause of an Ethernet link being down is gone. -/
def State.etherUp (s : State) (port cause : Nat) : State :=
  { s with pins := { s.pins with linkDown := s.pins.linkDown.filter (· != port + 2 * cause) } }

/-- SERDES_BLOCK_LOCK of a receiver. A mirror lane that had lock before has been retrained. -/
def execSerdesBlockLock (lane : Nat) (s : State) : Result :=
  let x := s.serdes lane
  if s.serdesPowered lane = false ∨ x.locked = true then ok s
  else
    let again : Bool := x.before && decide (lane < 4)
    let s0 : State := if again then { s with pins := { s.pins with retrains := s.pins.retrains + 1 } } else s
    let s1 := s0.setSerdes lane { x with locked := true, before := true }
    let s2 := if again then (s1.count 0 35 5).offer 0xE791 0 [2 ^ lane] else s1
    let s3 := if lane < 4 then s2 else s2.etherUp (lane - 4) 0
    ok (if x.inverted then s3.offer 0xEA01 0 (serdesName lane) else s3)

/-- SERDES_LOSS_OF_SIGNAL of a receiver. -/
def execSerdesLossOfSignal (lane : Nat) (s : State) : Result :=
  let x := s.serdes lane
  let s1 := s.setSerdes lane { x with locked := false, inverted := false }
  okIf (decide (lane < 6)) s (if lane < 4 then s1 else s1.etherDown (lane - 4) 0)

/-- PHY_STATUS_POLL of a port in SGMII mode, every 100 ms at its PHY address, with the link bit read. -/
def execPhyStatusPoll (port : Nat) (up : Bool) (s : State) : Result :=
  let s1 := ({ s with pins := { s.pins with polledAt := Tab.set s.pins.polledAt port s.elapsed } } : State).send (.pulse 42 port)
    (be 1 (s.obj 0x1017 (port + 1)))
  okIf (decide (port < 2) && s.hostUp && decide (s.obj 0x1010 (port + 1) = 3) &&
      s.due (Tab.getD s.pins.polledAt port 0) 100000000) s
    (if up then s1.etherUp port 1 else s1.etherDown port 1)

/-! ### PCIe before ready (R623, R626) -/

/-- What the configuration space of the one function shows: vendor and device identifiers, class code 0x0B4000, the sizes of BAR0
and BAR2 and the 4 MSI-X vectors (R584). -/
def pcieConfig : Octets := be 4 Config.pcieIdentity.toNat ++ be 3 0x0B4000 ++ be 4 8192 ++ be 4 4096 ++ be 1 4

/-- The PCIe link that carried a request is up (0x1026.01): the width and generation it trained to, 1 to 4 each, are free
(R584, R609; log 6). -/
def State.pcieLinkUp (s : State) : State :=
  if bitAt (s.obj 0x1026 1) 23 then s
  else
    let n := Config.freeNat s.freeCount
    (s.drew 1).setObj 0x1026 1 ((n % 4 + 1) * 268435456 + (n / 4 % 4 + 1) * 16777216 + 8388608)

/-- PCIE_CONFIGURATION_REQUEST: answered with Configuration Request Retry Status (1) before ready, completed (0) with what it
shows from then on, and not answered before the end of step 1 or in pilot light (pulse 41). -/
def execPcieConfigurationRequest (s : State) : Result :=
  okIf (decide (2 ≤ s.boot.phase) && decide (s.power.pilot < 2)) s
    (s.pcieLinkUp.send (.pulse 41 0) (if s.hostUp || decide (s.boot.phase = 12) then be 1 0 ++ pcieConfig else be 1 1))

/-! ### Test access port (R716 to R719) -/

/-- An instruction loaded: its opcode and the state it puts the pins in. -/
def State.loadIr (s : State) (opcode mode : Nat) : State := { s with pins := { s.pins with ir := opcode, mode := mode } }

/-- Bits shifted out at TDO (pulse 40). -/
def State.tdo (s : State) (bytes : Octets) : State := s.send (.pulse 40 0) bytes

/-- An instruction other than IDCODE and BYPASS seen: a tamper event in FIELD with the detector enabled, else an event. -/
def State.jtagSeen (s : State) (opcode : Nat) : State :=
  if s.boot.lifeCycle = 2 ∧ bitAt (s.obj 0x1050 1) 4 = true then (if s.tamperSenses 4 then s.tamper 4 else s)
  else s.offerLimited 0xEA02 0 0 [opcode, s.boot.lifeCycle]

/-- The identification register of step B0: version 1, part number 0xC700 with the count of tiles, manufacturer 0x5A3 and a
one (R717). -/
def idcodeOf (tiles : Nat) : Nat := 0x10000000 + (0xC700 + tiles) * 4096 + 0x5A3 * 2 + 1
def State.idcode (s : State) : Nat := idcodeOf s.nTiles

/-- IDCODE. -/
def execIdcode (s : State) : Result := ok ((s.loadIr 1 0).tdo (be 4 s.idcode))

/-- SAMPLE_PRELOAD: the pins captured are shifted out while the preload is shifted in. What the pins show and the cell order
are not stated: free octets (log 6). -/
def execSamplePreload (preload : Octets) (s : State) : Result :=
  let s1 := (s.loadIr 2 0).tdo (Config.freeOctets s.freeCount preload.length)
  ok (({ s1 with pins := { s1.pins with boundary := preload } } : State).drew preload.length |>.jtagSeen 2)

/-- EXTEST drives the pins from the boundary register, CLAMP holds them there, HIGHZ floats them. -/
def execExtest (s : State) : Result := ok ((s.loadIr 3 1).jtagSeen 3)
def execClampPins (s : State) : Result := ok ((s.loadIr 4 2).jtagSeen 4)
def execHighz (s : State) : Result := ok ((s.loadIr 5 3).jtagSeen 5)

/-- HALTCODE: the halt code of R625, 0 when none. -/
def execHaltcode (s : State) : Result := ok (((s.loadIr 16 0).tdo (be 1 s.boot.haltCode)).jtagSeen 16)

/-- BYPASS, and every opcode that is none of the others; only 0xFF itself goes unseen. -/
def execBypass (opcode : Nat) (s : State) : Result :=
  if ([1, 2, 3, 4, 5, 16] : List Nat).contains (opcode % 256) then ok s
  else
    let s1 := s.loadIr (opcode % 256) 0
    ok (if opcode % 256 = 255 then s1 else s1.jtagSeen (opcode % 256))

/-- A new slew setting takes effect at a heat boundary (R715). -/
def State.slewStep (s : State) : State :=
  { s with pins := { s.pins with slew := (List.range 3).map fun n => s.obj 0x1060 (n + 1) } }

end Sys2Proof.Machine
end

