-- ==== Sys2Proof/Machine/Power.lean ====
section
/-! DEFINITION. Power fail and hold-up, supplies, pilot light, temperature (21 R722 to R748, 10 R379). -/

namespace Sys2Proof.Machine

/-! ### Power fail and hold-up (R379, R729 to R731) -/

/-- Journal entries in the pages of the record zone. -/
def State.journalled (s : State) : Nat := (s.billing.pages.map fun p => p.entries.length).sum

/-- Steps 2 to 4 of R379 with the OUTAGE entry of tile 0; the time the flush takes is a free value (log 6). -/
def State.flushAll (s : State) : State :=
  let s1 := s.flushBilling.journal 0 { kind := 7, body := [s.tbSeconds] }
  let s2 := s1.writeJournal 0
  ({ s2 with power := { s2.power with
    entries := s2.journalled - s.journalled, flushUs := Config.freeNat s.freeCount % 3001 } } : State).drew 1

/-- The flush at the warning: moves, snapshots and a step not yet applied are dropped, ring-log pages and the recorder's page
written (R225, R379, R418, R482, R518, R654). -/
def State.failFlush (s : State) : State :=
  let s1 : State := { s with heat := { s.heat with halts := Tab.set s.heat.halts 0 (s.heat.count + 1) } }
  let s2 := (((s1.dropStep.abandonAll 2).abandonSnapshots 0).flushAll.eachTile fun s t => s.logPage t).writeEventPage
  { s2 with billing := { s2.billing with warnedAt := s.tbNs } }

/-- A tile recovery under way stops (R653), and an activation before its step 4 is abandoned (R682). -/
def State.failStops (s : State) : State :=
  let s1 := s.eachTile fun s t => if (s.health t).state = 2 then s.setHealth t { s.health t with state := 1, lostAt := s.elapsed } else s
  match s1.update.activation with
  | some a => if a.step = 0 then
      ({ s1 with update := { s1.update with activation := none, activating := false } } : State).setUpdate 3 else s1
  | none => s1

/-- In pilot light core 0 writes the OUTAGE entry alone, and the frames held are dropped (R740). -/
def State.failInPilot (s : State) : State :=
  let s1 : State := { s with line := { s.line with pilotHeld := [] } }
  let s2 := (s1.journal 0 { kind := 7, body := [s.tbSeconds] }).writeJournal 0
  { s2 with billing := { s2.billing with warnedAt := s.tbNs } }

/-- During a wake the flush has run at the entry: the wake ends in PILOT, to wake again with cause 1 (R740). -/
def State.failInWake (s : State) : State :=
  { s with
    power := { s.power with wakeNext := some 1 }
    billing := { s.billing with warnedAt := s.tbNs }
    heat := { s.heat with halts := Tab.set s.heat.halts 0 (s.heat.count + 1) } }

/-- POWER_FAIL_WARNING: PWR_FAIL_N low for 1 µs. -/
def execPowerFailWarning (s : State) : Result :=
  if s.boot.phase = 0 ∨ s.power.warning = true then ok s
  else
    let s1 := (({ s with power := { s.power with warning := true, warnAt := s.elapsed } } : State).offer 0xEA85 0
      [bit01 s.power.holdup]).failCheck 5
    if s.boot.phase ≠ 9 then ok s1
    else if s.power.pilot = 2 then ok s1.failInPilot
    else if s.power.pilot = 3 then ok s1.failInWake
    else
      let s2 := s1.failStops.failFlush
      ok (if s.power.pilot = 0 then s2 else { s2 with power := { s2.power with wakeNext := some 1 } })

/-- A wake begins (R738, R739): the time in PILOT counts. -/
def State.startWake (s : State) (cause : Nat) : State :=
  let s1 := s.pilotCounted
  { s1 with power := { s1.power with pilot := 3, wakeAt := s.elapsed, wakeCause := cause, wakeNext := none } }

/-- POWER_FAIL_CLEAR: PWR_FAIL_N high for 10 ms without a restart. -/
def execPowerFailClear (s : State) : Result :=
  if s.power.warning = false then ok s
  else
    let s1 := ({ s with power := { s.power with warning := false } } : State).offer 0xEA86 0 [(s.elapsed - s.power.warnAt) / 1000000]
    if 1 ≤ s.boot.phase ∧ s.boot.phase ≤ 8 then ok (s1.startBringUp 4)
    else if s.power.pilot = 0 then
      ok ({ s1 with power := { s1.power with resumes := s1.power.resumes ++ [0] } } : State).billingRestored
    else ok (match s.power.wakeNext with
      | some c => if s.power.pilot = 2 then s1.startWake c else s1
      | none => s1)

/-- HOLDUP_CHANGE: HOLDUP_SENSE high for 100 ms, or low for 1 µs. -/
def execHoldupChange (charged : Bool) (s : State) : Result :=
  okIf (decide (1 ≤ s.boot.phase) && s.power.holdup != charged) s
    (({ s with power := { s.power with holdup := charged } } : State).offer 0xEA8D 0 [bit01 charged])

/-- 0xB032.01 PowerFailState. -/
def State.powerFailState (s : State) : Nat := bit01 s.power.warning + 2 * bit01 s.power.holdup

/-! ### Supplies (R724, R727) -/

/-- Minimum, typical and maximum of rails 1 to 11 in 0.1 mV (R724). -/
def railLimits : List (Nat × Nat × Nat) :=
  [(7275, 7500, 7725), (7760, 8000, 8240), (7275, 7500, 7725), (17100, 18000, 18900), (17100, 18000, 18900),
   (17100, 18000, 18900), (9975, 10500, 11025), (4750, 5000, 5250), (11400, 12000, 12600), (8245, 8500, 8755),
   (11400, 12000, 12600)]

/-- A tile takes a rail: the SerDes rails serve the host field of tile 0. -/
def State.takesRail (s : State) (rail tile : Nat) : Bool := decide (1 ≤ rail ∧ rail ≤ 11 ∧ tile < s.nTiles) && (decide (rail ≤ 9) || tile == 0)

/-- A reading lies more than 2 % of the typical value outside a rail's range, and within the range. -/
def railBad (rail mv : Nat) : Bool :=
  let (lo, typ, hi) := railLimits.getD (rail - 1) (0, 0, 0)
  decide (mv * 500 + typ < lo * 50 ∨ hi * 50 + typ < mv * 500)
def railGood (rail mv : Nat) : Bool :=
  let (lo, _, hi) := railLimits.getD (rail - 1) (0, 0, 0)
  decide (lo ≤ mv * 10 ∧ mv * 10 ≤ hi)

/-- A rail's reading kept. -/
def State.railRead (s : State) (rail tile mv : Nat) : State :=
  { s with power := { s.power with volts := Tab.set s.power.volts (rail * 8 + tile) mv } }

/-- SUPPLY_OUT_OF_RANGE: a rail of a tile out of range for 10 µs. -/
def execSupplyOutOfRange (rail tile mv : Nat) (s : State) : Result :=
  let k := rail * 8 + tile
  okIf (decide (1 ≤ s.boot.phase) && s.takesRail rail tile && railBad rail mv && !Tab.has s.power.rails k) s
    (((({ s with power := { s.power with rails := Tab.set s.power.rails k s.elapsed } } : State).railRead rail tile mv).offer
      0xEA83 tile [rail, tile, mv]).failCheck 5)

/-- SUPPLY_RESTORED: a rail back in range for 100 ms. -/
def execSupplyRestored (rail tile mv : Nat) (s : State) : Result :=
  let k := rail * 8 + tile
  match Tab.find? s.power.rails k with
  | some t => okIf (railGood rail mv && s.due t 100000000) s
      ((({ s with power := { s.power with rails := Tab.erase s.power.rails k } } : State).railRead rail tile mv).offer 0xEA84 tile
        [rail, tile, (s.elapsed - t) / 1000000])
  | none => ok s

/-- 0xB031.01 SupplyStatus, and 0xB030 SupplyVoltage of a rail: the lowest reading kept of its tiles. -/
def State.supplyStatus (s : State) : Nat :=
  (List.range 11).foldl (fun a n => if s.power.rails.any fun e => e.1 / 8 == n + 1 then a + 2 ^ n else a) 0
def State.supplyVoltage (s : State) (rail : Nat) : Nat :=
  match (s.power.volts.filter fun e => e.1 / 8 == rail).map (·.2) with
  | [] => 0
  | v :: r => r.foldl min v

/-! ### Pilot light: entry (R735, R736) -/

/-- The reason an entry is refused for, 0 none. -/
def State.pilotRefusal (s : State) : Nat :=
  if s.pair.state ≠ 0 ∧ s.pair.baton = true then 1
  else if s.compiler.run.isSome ∨ s.compiler.waiting.isSome ∨ s.update.state = 2 ∨ s.update.state = 4 then 2
  else if s.boot.change.isSome ∨ s.boot.restart.isSome then 3
  else if s.power.warning = true ∨ s.power.holdup = false then 4
  else if s.obj 0x1010 (s.obj 0xB001 2 + 1) ≠ 3 then 5
  else if (List.range s.nTiles).any fun t => (s.health t).state != 0 then 6
  else 0

/-- PilotLightEnter written 1: steps 1 and 2, or REFUSED with the reason recorded. A standby is DETACHED, one
that syncs too (DEDUCED, log 84). -/
def pilotLightEnter (s : State) (_ : Session) : Done :=
  if s.power.pilot ≠ 0 then Done.refuse s Status.refused
  else if s.pilotRefusal ≠ 0 then Done.refuse (s.offerLimited 0xEA82 0 0 [s.pilotRefusal]) Status.refused
  else
    let s1 : State := { s with
      power := { s.power with pilot := 1, enteredAt := s.elapsed, enteredTb := s.tbSeconds, wakeNext := none, wakeCause := 0 }
      heat := { s.heat with halts := Tab.set s.heat.halts 3 (s.heat.count + 1) } }
    Done.ok (if s.pair.state = 3 ∨ s.pair.state = 4 then s1.setPairState 5 else s1)

/-- PILOT_LIGHT_ENTER. -/
def execPilotLightEnter (r : Req) (s : State) : Result := ok (udxWrite s r 0xB000 1 0 (be 1 1) pilotLightEnter)

/-- Step 4: every lane but line lane 0.0 is off. -/
def State.pilotLanes (s : State) : State :=
  let s1 := s.eachTile fun s t => (List.range 8).foldl (fun s l => if (s.radioLane t l).on then s.stopRadio t l else s) s
  let s2 := s1.eachTile fun s t => (List.range 4).foldl (fun s l =>
    if (s.lane t l).on && !(t == 0 && l == 0) then s.stopLine t l else s) s
  let s3 := s2.dropCalibration 0 0
  s3.setLane 0 0 { s3.lane 0 0 with sending := none, own := [], beacon := none, transmitting := false, window := false }

/-- Step 5: every bank that is on goes to retention. -/
def State.pilotBanks (s : State) : State :=
  let on := (List.range (s.nTiles * 32)).filter fun k => (s.bank (k / 32) (k % 32)).power = 0
  let s1 := on.foldl (fun (s : State) k => s.changeBank (k / 32) (k % 32) 1 false) s
  { s1 with power := { s1.power with slept := on } }

/-- PTP goes on in pilot light on the pilot port alone; else the timebase enters HOLDOVER (R523). -/
def State.pilotTime (s : State) : State :=
  if s.clock.state = 0 ∨ s.clock.state = 4 ∨ s.clock.source = s.obj 0xB001 2 + 1 then s else s.setTimeState 3

/-- Steps 3 to 6 run, and the unit is in PILOT; a warning during the entry has run the flush of step 3 (R740). -/
def State.enterPilot (s : State) : State :=
  let s1 := (if s.power.warning then s else s.flushAll).pilotLanes.pilotBanks.pilotTime.resetMailbox
  ({ s1 with power := { s1.power with pilot := 2, pilotAt := s.elapsed } } : State).offer 0xEA80 0
    [(s.elapsed - s.power.enteredAt) / 1000000]

/-- PILOT_LIGHT_ENTRY_DONE at a heat boundary: the slots have stopped, the banks go to retention (R175). A wake asked for during entry starts at once, unless the power-fail warning
stands (R740). -/
def execPilotLightEntryDone (s : State) : Result :=
  if s.power.pilot = 1 ∧ s.halted false = true ∧ s.onBoundary = true then
    let s1 := s.enterPilot
    ok (match s1.power.wakeNext with
      | some c => if s1.power.warning then s1 else s1.startWake c
      | none => s1)
  else ok s

/-! ### Pilot light: wake (R738 to R740) -/

/-- A wake condition: it starts the wake, or waits for the end of the entry or of the warning. -/
def State.wakeOn (s : State) (cause : Nat) : State :=
  if s.power.pilot = 2 ∧ s.power.warning = false then s.startWake cause
  else if (s.power.pilot = 1 ∨ s.power.pilot = 2) ∧ s.power.wakeNext.isNone = true then
    { s with power := { s.power with wakeNext := some cause } }
  else s

/-- PILOT_LIGHT_WAKE: a write of 1 to PilotLightWake; outside pilot light nothing wakes. -/
def execPilotLightWake (r : Req) (s : State) : Result := ok (udxWrite s r 0xB000 2 0 (be 1 1) fun s _ => Done.ok (s.wakeOn 1))

/-- WAKE_AT, WAKE_ON_LINE_FRAMES and WAKE_ON_PERST, each when its object is not 0. -/
def execWakeAt (s : State) : Result :=
  okIf (decide (s.obj 0xB002 1 ≠ 0) && decide (s.obj 0xB002 1 ≤ s.tbNs)) s (s.wakeOn 2)
def execWakeOnLineFrames (s : State) : Result :=
  okIf (decide (s.obj 0xB002 2 ≠ 0) && decide (s.obj 0xB002 2 ≤ s.line.pilotHeld.length)) s (s.wakeOn 3)
def execWakeOnPerst (s : State) : Result := okIf (decide (s.obj 0xB002 3 = 1)) s (s.wakeOn 4)

/-- A bank of pilot light on again: its wake took the heat before the boundary that ends the part's wake (R175, R739; DEDUCED,
log 14). -/
def State.wakeBank (s : State) (k : Nat) : State :=
  let x := s.bank (k / 32) (k % 32)
  if x.power = 1 then s.setBank (k / 32) (k % 32) { x with power := 0 } else s

/-- The banks and lanes back, the frames held written to the receive queue, the events held offered (R285, R319, R737). -/
def State.leavePilot (s : State) : State :=
  let s1 := s.power.slept.foldl State.wakeBank s
  let s2 := s1.eachTile fun s t => (List.range 4).foldl (fun s l => if s.lineEnabled t l then s.startLine t l else s) s
  let s3 := s2.eachTile fun s t => (List.range 8).foldl (fun s l => if s.radioEnabled t l then s.startRadio t l else s) s
  let s4 := s3.line.pilotHeld.foldl (fun s p => (s.pushPacket 0 0x58 .lineLane p).2) s3
  let s5 := if s4.line.pilotDropped = 0 then s4 else s4.offer 0xE392 0 [s4.line.pilotDropped]
  { s5 with
    line := { s5.line with pilotHeld := [], pilotDropped := 0 }
    power := { s5.power with pilot := 0, slept := [], held := [], wakeNext := none }
    recorder := { s5.recorder with offered := s5.power.held ++ s5.recorder.offered }
    heat := { s5.heat with boundaryAt := s5.elapsed, halts := Tab.erase s5.heat.halts 3 } }

/-- The transitions missed in pilot light, and the slot-map words (R366, R394, R739). -/
def State.missedTransitions (s : State) (since : Nat) : State :=
  s.structures.foldl (fun s n =>
    ((instantsIn (s.structure n).image since s.tbSeconds).foldl (fun s t => s.dueTransitions n t) s).retariff n) s

/-- WAKE_DONE: the heat boundary that ends a wake. Under a power-fail warning the unit stays in PILOT until it ends. -/
def execWakeDone (s : State) : Result :=
  if s.power.pilot ≠ 3 then ok s
  else if s.power.warning then
    ok { s with power := { s.power with pilot := 2, pilotAt := s.elapsed, wakeNext := some 1 } }
  else
    let us := (s.elapsed - s.power.wakeAt) / 1000
    let cause := s.power.wakeCause
    let s1 := s.leavePilot.missedTransitions s.power.enteredTb
    let s2 := ((s1.setObj 0xB003 1 cause).setObj 0xB003 2 us).offer 0xEA81 0 [cause, us, s.line.pilotHeld.length]
    let s3 := if s2.billing.warnedAt = 0 then s2 else
      ({ s2 with heat := { s2.heat with halts := Tab.erase s2.heat.halts 0 } } : State).billingRestored
    ok (if s3.pair.state = 5 then s3.startSync 8 else s3)

/-! ### Temperature (R742, R744) -/

/-- The limit of a thermal shutdown, 0.1 °C (R744). -/
def State.shutdownLimit (s : State) : Int := if s.fit.part.grade = 0 then 1150 else 1350

/-- Four readings of a tile kept, with the instants since which each lies above the shutdown limit. -/
def State.keepTemps (s : State) (tile : Nat) (vs : List Int) : State :=
  let es := vs.zipIdx
  { s with power := { s.power with
    temps := es.foldl (fun t e => Tab.set t (tile * 4 + e.2) e.1) s.power.temps
    readAt := Tab.set s.power.readAt tile s.elapsed
    hot := es.foldl (fun t e =>
      if s.shutdownLimit < e.1 then (if Tab.has t (tile * 4 + e.2) then t else Tab.set t (tile * 4 + e.2) s.elapsed)
      else Tab.erase t (tile * 4 + e.2)) s.power.hot } }

/-- 0xB021 ThermAlarm: 100.0 °C by default on grade E, 120.0 °C on grade X (R742). -/
def State.alarmLimit (s : State) : Int :=
  if Tab.has s.dict.objs (objKey 0xB021 1) || s.fit.part.grade == 0 then s.objI 0xB021 1 else 1200

/-- THERM_N follows ThermAlarm. -/
def State.thermAlarm (s : State) (tile : Nat) (hottest : Int) : State :=
  let limit := s.alarmLimit
  match s.power.therm with
  | none => if limit ≤ hottest then
      ({ s with power := { s.power with therm := some (tile, s.elapsed) } } : State).offer 0xEA87 tile [tile, ofSigned 16 hottest]
      else s
  | some (t, since) => if s.power.temps.all fun e => decide (e.2 ≤ limit - 50) then
      ({ s with power := { s.power with therm := none } } : State).offer 0xEA88 t [t, (s.elapsed - since) / 1000000000]
      else s

/-- A thermal shutdown: steps 1 to 4 of R379, every lane silent, the baton given up. -/
def State.thermalShutdown (s : State) (tile : Nat) (hottest : Int) : State :=
  let s1 : State := { s with
    power := { s.power with shutdown := some (tile, s.elapsed), coolSince := none }
    heat := { s.heat with halts := Tab.set s.heat.halts 6 (s.heat.count + 1) }
    pair := if s.pair.baton then { s.pair with failures := s.pair.failures ++ [14] } else s.pair }
  let s2 := if s.boot.phase = 9 ∧ s.power.pilot = 0 then s1.cutFrames.flushAll else s1
  ({ s2 with billing := { s2.billing with warnedAt := if s.boot.phase = 9 then s.tbNs else s2.billing.warnedAt } } : State).offer
    0xEA8B tile [tile, ofSigned 16 hottest]

/-- Every sensor reads at least 10 °C below the grade maximum: since when. -/
def State.coolTemps (s : State) : State :=
  if s.power.temps.all fun e => decide (e.2 ≤ s.gradeMax - 100) then
    (if s.power.coolSince.isSome then s else { s with power := { s.power with coolSince := some s.elapsed } })
  else { s with power := { s.power with coolSince := none } }

/-- THERMAL_RECOVERY: 10 s of cool sensors. Admissions resume at the next heat boundary. -/
def execThermalRecovery (s : State) : Result :=
  match s.power.shutdown, s.power.coolSince with
  | some (t, since), some c =>
    if s.due c 10000000000 then
      let s1 := ({ s with power := { s.power with shutdown := none, resumes := s.power.resumes ++ [6] } } : State).offer 0xEA8C t
        [t, (s.elapsed - since) / 1000000000]
      ok (if s.power.warning then s1 else s1.billingRestored)
    else ok s
  | _, _ => ok s

/-- 0xB020 JunctionTemperature of a tile: its hottest sensor. -/
def State.junction (s : State) (t : Nat) : Int :=
  match (s.power.temps.filter fun e => e.1 / 4 == t).map (·.2) with
  | [] => 0
  | v :: r => r.foldl max v

/-- 0xB022 DeratingState of a tile: 2 in a thermal shutdown, 1 while its lanes derate (R743, R744). -/
def State.deratingState (s : State) (t : Nat) : Nat :=
  if s.power.shutdown.isSome && decide (t < s.nTiles) then 2 else bit01 (s.derated t)

/-- A tile of grade X above 110 °C derates from the next heat boundary; one that has derated ends once its sensors have read below
105 °C for 1 s (R743). -/
def State.derateTemps (s : State) (tile : Nat) (vs : List Int) : State :=
  let p := s.power
  if s.fit.part.grade = 0 then s
  else if s.derated tile then
    if vs.all fun v => decide (v < 1050) then
      match Tab.find? p.mildSince tile with
      | none => { s with power := { p with mildSince := Tab.set p.mildSince tile s.elapsed } }
      | some t => if s.due t 1000000000 then
          ({ s with power := { p with derated := Tab.erase p.derated tile, mildSince := Tab.erase p.mildSince tile } } : State).offer
            0xEA8A tile [tile, (s.elapsed - Tab.getD p.derated tile 0) / 1000000000]
        else s
    else { s with power := { p with mildSince := Tab.erase p.mildSince tile } }
  else if (vs.any fun v => decide (1100 < v)) && !p.derateNext.contains tile then
    { s with power := { p with derateNext := p.derateNext ++ [tile] } }
  else s

/-- The tone maps of a lane with a carrier under loading code 7: those toward meters are invalidated, those given to them are
built again under the cap (R743). -/
def State.capMaps (s : State) (t l : Nat) : State :=
  let s1 := ((s.lane t l).maps.filter fun e => hasSeven e.2.image).foldl (fun s e => s.invalidateMap t l (e.1 / 4) (e.1 % 4) 5) s
  let old := (s1.lane t l).given.filter fun e => hasSeven e.2
  let s2 := s1.setLane t l { s1.lane t l with given := (s1.lane t l).given.filter fun e => !hasSeven e.2 }
  old.foldl (fun s e => s.giveMap t l (e.1 / 256) (fieldAt e.2 3 1)) s2

/-- A tile derates from this heat boundary (R743). -/
def State.derateTile (s : State) (t : Nat) : State :=
  let s1 : State := { s with power := { s.power with derated := Tab.set s.power.derated t s.elapsed } }
  ((List.range 4).foldl (fun s l => s.capMaps t l) s1).offer 0xEA89 t [t, ofSigned 16 (s.junction t)]

/-- JUNCTION_SENSOR_READ: the four sensors of a tile, every 1 ms, in 0.1 °C. -/
def execJunctionSensorRead (tile : Nat) (a b c d : Int) (s : State) : Result :=
  if s.boot.phase = 0 ∨ s.nTiles ≤ tile ∨ s.due (Tab.getD s.power.readAt tile 0) 1000000 = false then ok s
  else
    let hottest := max (max a b) (max c d)
    let was := s.overTemp
    let s1 := ((s.keepTemps tile [a, b, c, d]).thermAlarm tile hottest).coolTemps
    let s2 := if s1.overTemp && !was then s1.failCheck 6 else s1
    let long := s2.power.hot.any fun e => e.1 / 4 == tile && s.due e.2 1000000
    let s3 := s2.derateTemps tile [a, b, c, d]
    ok (if long && s3.power.shutdown.isNone then s3.thermalShutdown tile hottest else s3)

/-! ### Power estimate (R732) -/

/-- POWER_ESTIMATE, every 1 ms: the weights of the counters are not stated, so the estimates are free values (log 6). -/
def execPowerEstimate (s : State) : Result :=
  let n := s.freeCount
  let s1 := (List.range s.nTiles).foldl (fun (s : State) t => s.setObj 0xB040 (t + 1) (Config.freeNat (n + t) % 65536)) s
  okIf (s.coresRun && s.awake && s.due s.power.estimatedAt 1000000) s
    ((({ s1 with power := { s1.power with estimatedAt := s.elapsed } } : State).setObj 0xB041 1
      (Config.freeNat (n + s.nTiles) % 4294967296)).drew (s.nTiles + 1))

/-! ### At a heat boundary -/

/-- Halts that end at this boundary end; a warning's flush takes in the frames booked since (R379, R731, R744). -/
def State.powerStep (s : State) : State :=
  let s1 : State := { s with
    heat := { s.heat with halts := s.heat.halts.filter fun e => !s.power.resumes.contains e.1 || (e.1 == 0 && s.power.warning) }
    power := { s.power with resumes := [] } }
  let s2 := if s.power.warning && Tab.find? s.heat.halts 0 == some s.heat.count then s1.flushBilling else s1
  s.power.derateNext.foldl State.derateTile { s2 with power := { s2.power with derateNext := [] } }

end Sys2Proof.Machine
end

