-- ==== Sys2Proof/Machine/Values.lean ====
section
/-! DEFINITION. The values that objects return to a read (R573, R576, R750, and the object table of each chapter): those
stored, and those that follow from the state. -/

namespace Sys2Proof.Machine

/-! ### Sub-indices beyond the part (R750) -/

/-- A sub-index names a tile, lane, channel, core or pipeline that the part does not have. -/
def State.absent (s : State) (index sub : Nat) : Bool :=
  s.beyondPart index sub || (perTile index && decide (s.nTiles < sub)) ||
    (([0x2010, 0x3801, 0x380A, 0x380B, 0x380D, 0x2304] : List Nat).contains index && decide (8 * s.nTiles < sub)) ||
    (([0x3002, 0x3030, 0x3031, 0x9040] : List Nat).contains index && decide (4 * s.nTiles < sub)) ||
    (([0x3020, 0x3023] : List Nat).contains index && decide (12 * s.nTiles < sub)) ||
    (index == 0x3012 && decide (3 * s.nTiles < sub)) || (index == 0x3013 && decide (3 + s.nTiles < sub)) ||
    (index == 0x2303 && (decide (4 * s.nTiles < sub ∧ sub ≤ 32) || decide (32 + 8 * s.nTiles < sub)))

/-- The value 0 of a type. -/
def ObjTy.zero : ObjTy → Val
  | .oct n => .oct (List.replicate n 0)
  | .vstr _ => .oct []
  | .domain => .oct []
  | _ => .num 0

/-! ### Images -/

/-- 0x2201 QueueStatusTable: a record of 16 B for each of a tile's queues. -/
def State.queueStatus (s : State) (t : Nat) : Octets :=
  (List.range 256).flatMap fun q =>
    let x := s.queue t q
    be 1 q ++ be 1 x.generation.toNat ++
      be 1 (128 * bit01 x.openBy.isSome + 64 * bit01 (!x.waiters.isEmpty) + 32 * bit01 x.highWater + 16 * bit01 x.releaseRefused) ++
      be 1 0 ++ be 4 x.occupancy ++ be 2 x.waiting.toNat ++ be 2 x.held.toNat ++ be 4 x.peak

/-- The peaks and refused releases of a tile's queues start anew once its table was read. -/
def State.queuesRead (s : State) (t : Nat) : State :=
  { s with queues := { s.queues with queues := s.queues.queues.map fun e =>
      if e.1 / 256 = t then (e.1, { e.2 with peak := e.2.occupancy, releaseRefused := false }) else e } }

/-- 0x6801 RegionLayout: the RegionMap of a tile's section of the sheet in force (R122, R165). -/
def State.regionLayout (s : State) (t : Nat) : Octets :=
  match s.compiler.sheet with
  | some x => if t < s.nTiles then regionMap (x.generation % 2) else List.replicate 1024 0
  | none => List.replicate 1024 0

/-- 0x6805 CircularWindowTable: 16 window records of 32 B (R172). -/
def State.windowTable (s : State) (t : Nat) : Octets :=
  (List.range 16).flatMap fun w =>
    let x := s.window t w
    be 1 w ++ be 1 (128 * bit01 x.enabled + 64 * bit01 x.dram + 32 * bit01 x.wrap) ++ be 2 0 ++ be 8 x.base ++ be 4 x.length ++
      be 4 x.wrapCount ++ be 12 0

/-- The first `n` counters of a block, U64 each. -/
def State.counterImage (s : State) (t block n : Nat) : Octets := (List.range n).flatMap fun i => be 8 (s.total t block i).1

/-- The block counter that a counter object of one sub-index a tile shows: block and index (R663, R665). -/
def tileCounter : Nat → Option (Nat × Nat)
  | 0x2202 => some (9, 2)
  | 0x2203 => some (9, 4)
  | 0x2204 => some (9, 3)
  | 0x2205 => some (9, 5)
  | 0x6810 => some (8, 4)
  | 0x6811 => some (8, 5)
  | 0x6812 => some (11, 3)
  | 0x6813 => some (11, 4)
  | 0x6815 => some (11, 2)
  | _ => none

/-- The block whose counters, summed over the tiles, a counter object of the part shows in their order (R663). -/
def partCounter : Nat → Option Nat
  | 0x600C => some 12
  | 0x5052 => some 25
  | _ => none

/-- The value of a counter object as the current counter page has it (R101, R665). -/
def State.pageCounter (s : State) (index sub : Nat) : Option Val :=
  match tileCounter index, partCounter index with
  | some (b, i), _ => some (.num (s.total (sub - 1) b i).1)
  | none, some b => some (.num (min (2 ^ 64 - 1) ((List.range s.nTiles).map fun t => (s.total t b (sub - 1)).1).sum))
  | none, none => none

/-- 0x2020 FabricCounters of the part: the sum over its pipelines. -/
def State.fabricCounter (s : State) (k : Nat) : Nat :=
  min (2 ^ 64 - 1) (((List.range s.nTiles).map fun t => ((List.range 8).map fun b => (s.total t b (k - 1)).1).sum).sum)

/-- 0x2040 RingLinkStatus of link pair n, between tiles n − 1 and n mod N (R54, R752). -/
def State.linkWord (s : State) (n : Nat) : Nat :=
  let x := s.link n
  x.state * 2 ^ 30 + min 16383 x.retrains * 2 ^ 16 + min 65535 x.dropped

/-- 0x2303: meters that a lane serves, line lanes first. -/
def State.laneMeters (s : State) (sub : Nat) : Nat :=
  s.lanesServed (if sub ≤ 32 then portCode 0 ((sub - 1) / 4) ((sub - 1) % 4) else portCode 1 ((sub - 33) / 8) ((sub - 33) % 8))

/-- 0x2305: fences open on a tile. -/
def State.openFences (s : State) (t : Nat) : Nat :=
  s.place.fences.countP fun f => match s.meter? f.meter with
    | some x => x.home == t
    | none => false

/-! ### Objects of the part -/

/-- Values of 0x1000 to 0x4FFF that follow from the state. -/
def State.partValue (s : State) (index sub : Nat) : Option Val :=
  let t := sub - 1
  match index with
  | 0x1000 => some (match sub with
    | 1 => .num Config.unitId.toNat
    | 2 => .oct s.fit.part.code
    | 3 => .num s.nTiles
    | 4 => .num s.fit.part.grade
    | 5 => .oct Config.siliconStep
    | 6 => .num s.firmwareVersion
    | _ => .num Config.pcieIdentity.toNat)
  | 0x1011 => some (.oct (Config.mac t))
  | 0x1025 => some (.oct s.sessionTable)
  | 0x1041 => (match sub with
    | 1 => some (.num s.boot.lifeCycle)
    | 2 => some (.num s.serviceEntriesLeft)
    | _ => none)
  | 0x1042 => (match sub with
    | 3 => some (.num Config.romVersion.toNat)
    | 4 => some (.num s.boot.rollback)
    | _ => none)
  | 0x2001 => some (.num s.heat.count)
  | 0x2020 => some (.num (s.fabricCounter sub))
  | 0x2040 => some (.num (if sub ≤ s.nTiles then s.linkWord sub else 0))
  | 0x2041 => some (.num (s.monitorWord t))
  | 0x2100 => if sub = 8 then some (.num s.compilerVersion) else none
  | 0x2101 => (match sub with
    | 3 => some (.oct (sha256 s.inputImage))
    | 4 => some (.oct s.inputImage)
    | _ => none)
  | 0x2201 => some (.oct (s.queueStatus t))
  | 0x2206 => some (.num (s.generalPool t))
  | 0x2301 => some (.oct (s.allocationImage t))
  | 0x2302 => some (.num (s.meters.countP fun x => x.home == t))
  | 0x2303 => some (.num (s.laneMeters sub))
  | 0x2304 => some (.num (s.slotDemand (portCode 1 (t / 8) (t % 8))))
  | 0x2305 => some (.num (s.openFences t))
  | 0x2306 => if sub = 7 then some (.num (s.meters.countP fun x => x.place.parked)) else none
  | 0x3012 => some (.num (s.zcStatus (t / 3) (t % 3)))
  | 0x3030 => some (.oct (s.counterImage (t / 4) (13 + t % 4) 16))
  | 0x380A => some (.oct (s.counterImage (t / 8) (17 + t % 8) 12))
  | 0x3C06 => some (.oct s.relayStatus)
  | 0x4120 =>
    let c := s.structure (s.obj 0x4120 1)
    (match sub with
     | 2 => some (.oct c.heldImage)
     | 3 => some (.num (if c.inForce then fieldAt c.image 0 2 else 0))
     | 4 => some (.num (if c.pending then fieldAt c.pendingImage 0 2 else 0))
     | 7 => some (.num c.metersPending.length)
     | _ => none)
  | 0x4143 => some (.oct s.billing.stream)
  | 0x4820 => some (.oct s.feederStatusImage)
  | 0x4822 => some (.oct s.runningPowerImage)
  | 0x4841 => some (.oct s.alarmList)
  | _ => none

/-- Values of 0x5000 to 0xBFFF that follow from the state. -/
def State.unitValue (s : State) (index sub : Nat) : Option Val :=
  let t := sub - 1
  match index with
  | 0x5001 => some (.oct (s.keySlotTable t))
  | 0x5002 => some (.num (s.keyStoreFree t))
  | 0x5020 => some (match sub with
    | 1 => .oct (ecPublic curveP256 (ofBe identityKey.material))
    | 2 => .oct (s.publicKey 3)
    | 3 => .oct (s.publicKey 4)
    | _ => .num (s.obj 0x5010 24))
  | 0x5021 => some (.oct s.attestation)
  | 0x5022 => some (.oct Config.certificate)
  | 0x5040 => (match sub with
    | 1 => some (.num s.challenge)
    | _ => none)
  | 0x6000 => some (.oct (s.nandGeometry t))
  | 0x6005 => if s.nandUsable then none else some (.num 2)
  | 0x6007 => some (.oct (s.wearReport t))
  | 0x6010 => some (.oct s.dramLayout)
  | 0x6011 => some (.num (s.tierSlotsFree t))
  | 0x6801 => some (.oct (s.regionLayout t))
  | 0x6802 => some (.oct ((List.range 512).map fun i => BitVec.ofNat 8 (Config.columnRepairByte t i).val))
  | 0x6803 => some (.num (s.bankPowerWord t))
  | 0x6805 => some (.oct (s.windowTable t))
  | 0x7000 => some (.num (if sub = 1 then s.tbNs % 4294967296 else s.tbSeconds))
  | 0x7001 => some (.num (match sub with
    | 1 => s.tbSeconds
    | 2 => s.tbNs % 1000000000
    | 3 => s.tbNs % 4294967296
    | _ => s.heat.count))
  | 0x7021 => if sub = 6 then some (.num s.ptpTransport) else none
  | 0x7030 => if sub = 7 then some (.num (s.timeOut 0).status) else none
  | 0x7031 => if sub = 7 then some (.num (s.timeOut 1).status) else none
  | 0x7032 => if sub = 7 then some (.num (s.timeOut 2).status) else none
  | 0x7033 => if sub = 7 then some (.num (s.timeOut 3).status) else none
  | 0x7038 => some (.oct s.captureImage)
  | 0x7040 => some (.num (match sub with
    | 1 => s.line.cycle
    | 2 => s.line.cycleAt
    | _ => (s.mains s.line.authority).period * 65536))
  | 0x8001 => (match sub with
    | 1 => some (.num s.pair.state)
    | 2 => some (.num s.pairFlags)
    | _ => none)
  | 0x8005 => some (.num s.diagnosisState)
  | 0x9000 => some (.oct s.eventLog)
  | 0x9001 => some (.num (match sub with
    | 1 => s.recorder.generation
    | 2 => s.recorder.log.length
    | 3 => s.recorder.dropped
    | _ => s.recorder.nextSeq))
  | 0x9003 => some (.num (s.recorder.counts.getD t 0))
  | 0x9004 => if sub = 2 then some (.num s.recorder.filtered) else none
  | 0x9100 => some (.oct s.counterPage)
  | 0x9102 => some (.num s.recorder.pageSeq)
  | 0xA011 => some (.oct s.stagingMap)
  | 0xA022 => some (match sub with
    | 1 => .num ((Tab.getD s.update.slots s.update.first {}).imageId)
    | 2 => .num ((Tab.getD s.update.slots s.update.second {}).imageId)
    | 3 => .num (bit01 s.update.confirmed)
    | 4 => .num s.update.startCount
    | _ => .num s.update.dirSeq)
  | 0xA030 => some (.oct s.meterImageTable)
  | 0xB001 => if sub = 1 then some (.num s.power.pilot) else none
  | 0xB020 => some (.num (s.junction t))
  | 0xB021 => some (.num s.alarmLimit)
  | 0xB022 => some (.num (s.deratingState t))
  | 0xB030 => some (.num (s.supplyVoltage sub))
  | 0xB031 => some (.num s.supplyStatus)
  | 0xB032 => some (.num s.powerFailState)
  | _ => none

/-! ### Meter-scoped objects -/

/-- 0xC001.05: the highest code that holds. -/
def Meter.sessionState (x : Meter) : Nat :=
  if x.freezeStep ≠ 0 then 3 else if x.epochChange.isSome then 2 else if x.silent then 1 else 0

/-- 0xC010.06. -/
def State.placementState (s : State) (x : Meter) : Nat :=
  if (s.fenceOf x.number).isSome then 1 else if x.place.parked then 2 else if x.served then 0 else 3

/-- 0xC010.09: the four candidates of the highest scores, as port and score (R206, R759). -/
def State.candidateOctets (s : State) (x : Meter) : Octets :=
  let c := (s.candidates x).mergeSort fun a b => b.score < a.score || (a.score == b.score && decide (s.pathOrder a ≤ s.pathOrder b))
  padTo 16 ((c.take 4).flatMap fun e => be 2 e.port ++ be 2 e.score)

/-- The request entry a RequestId names for a meter, while its command's state is readable (R360). -/
def State.commandOf (s : State) (m id : Nat) : Option Request :=
  let r := s.request (id / 65536 % 256) (id % 65536)
  if id ≠ 0 ∧ r.meter = m ∧ r.cmdGen.toNat = id / 16777216 ∧ id < 2 ^ 32 then some r else none

/-- 0xC080.04: a bit for each block of the target image that the meter holds, first bit first, padded to 32 B (R691). -/
def State.blockMap (s : State) (x : Meter) : Octets :=
  match List.find? (fun (e : Nat × MeterImage) => e.2.imageId == x.firmware.target) s.update.meterImages with
  | none => []
  | some e =>
    let n := divUp (blockCount e.2.bytes) 8
    (List.range (divUp n 32 * 32)).map fun i =>
      BitVec.ofNat 8 ((List.range 8).foldl (fun a b => 2 * a + bit01 (x.firmware.blocks.contains (8 * i + b))) 0)

/-- The cells of a radio meter on its serving lane; 0 where it has none. -/
def State.radioSlot (s : State) (x : Meter) (sub : Nat) : Nat :=
  if portKind x.port = 1 ∧ x.served = true then
    let a := Tab.getD (s.radioLane (portTile x.port) (portNumber x.port)).assocs x.number {}
    let c := a.cells.getD { span := 0, phase := 0, logP := 0 }
    match sub with
    | 1 => portTile x.port * 8 + portNumber x.port
    | 2 => c.span
    | 3 => c.phase
    | 4 => c.logP
    | 5 => a.counter
    | _ => a.state
  else 0

/-- Values of a meter; none where the session's own value answers. 0xC041 refuses without a readable command. -/
def State.meterValue (s : State) (x : Meter) (index sub : Nat) : Option Val :=
  match index with
  | 0xC001 => some (.num (match sub with
    | 1 => x.seqTop
    | 2 => x.seqMask
    | 3 => x.nextOutSeq
    | 4 => x.lastTime
    | 5 => x.sessionState
    | 6 => x.duplicates
    | _ => x.lastBooked))
  | 0xC010 => some (match sub with
    | 1 => .num x.home
    | 2 => .num x.group
    | 3 => .num (x.port * 256 + x.phase)
    | 4 => .num x.relay
    | 5 => .num x.tier
    | 6 => .num (s.placementState x)
    | 7 => .num x.moveCount
    | 8 => .num x.place.lastCommit
    | _ => .oct (s.candidateOctets x))
  | 0xC030 => some (.num (match sub with
    | 1 => x.line.phase
    | 2 => bit01 x.line.reversed
    | 3 => x.line.lastAngle
    | 4 => x.line.agreeing
    | _ => x.line.kind))
  | 0xC038 => some (.num (s.radioSlot x sub))
  | 0xC050 => some (match sub with
    | 1 => .oct (coldOctets x.cold)
    | 2 => .oct (demandOctets x.billing.demandMax)
    | 3 => .num (field (x.pendingWord 4) 53 46)
    | 4 => .num (field (x.pendingWord 4) 33 31)
    | 5 => .num x.billing.periodIndex
    | _ => .num (x.billing.lastFold / 1000000000))
  | 0xC060 => (match sub with
    | 1 => some (.num x.prepayState)
    | 2 => some (.num x.creditNow)
    | 3 => some (.num (bit01 x.emergencyAvailable))
    | 7 => some (.num (bit01 x.isPrepay))
    | _ => none)
  | 0xC070 => (match sub with
    | 1 => some (.num x.loss.feederTag)
    | 2 => some (.num x.loss.declaredPhase)
    | 3 => some (.num (s.lossRole x))
    | 4 => some (.num (x.word 15))
    | 5 => some (.num (s.lossGroup x))
    | 6 => some (.num (bit01 x.loss.exportExpected))
    | 7 => some (.num (s.feeder (s.feederOf x)).generation)
    | _ => none)
  | 0xC080 => some (match sub with
    | 1 => .num x.firmware.target
    | 2 => .num x.firmware.state
    | 3 => .num x.firmware.blocks.length
    | _ => .oct (s.blockMap x))
  | _ => none

/-- 0xC041.02 to .05: the state of the command that .01 names; refused where it names none (R360). -/
def State.commandValue (s : State) (x : Session) (m sub : Nat) : Option Val :=
  match s.commandOf m (x.num m 0xC041 1) with
  | none => none
  | some r => some (.num (match sub with
    | 2 => r.state
    | 3 => r.result
    | 4 => r.detail
    | _ => r.sealings))

/-- 0xA040.06: the round of the campaign of an image, 0 where none runs (R692, R696). -/
def State.campaignRound (s : State) (imageId : Nat) : Nat :=
  ((s.update.campaigns.find? fun c => c.imageId == imageId).map fun c => c.round % 256).getD 0

/-- The objects that read a word of the hot record, and so wait for a query slot (R87, R581). -/
def needsQuery (index : Nat) : Bool :=
  index == 0xC001 || index == 0xC010 || index == 0xC050 || index == 0xC060 || index == 0xC070

/-! ### A value read -/

/-- The stored value of a sub-index: pending, or in force where the request asks for it (R576). -/
def State.storedValue (s : State) (index sub : Nat) (ty : ObjTy) (force : Bool) : Val :=
  match ty with
  | .domain =>
    let b := if isInput index sub && !force then s.pendingInputs.dom s index sub else s.domain index sub
    .oct (padTo ((domainLength index sub).getD 0) b)
  | _ => if isInput index sub && !force then s.pendVal index sub else s.objVal index sub

/-- The pending value differs from the one in force (R576). -/
def State.differs (s : State) (index sub : Nat) (ty : ObjTy) : Bool :=
  isInput index sub && s.storedValue index sub ty false != s.storedValue index sub ty true

/-- The value of a sub-index that has a row, for a session; none where the object refuses the read. -/
def State.valueOf (s : State) (x : Session) (w : ObjRow) (index sub m : Nat) (force : Bool) : Option Val :=
  if s.absent index sub then some w.ty.zero
  else if index = 0xC041 ∧ sub ≠ 1 then s.commandValue x m sub
  else if index = 0xA040 ∧ sub = 6 then some (.num (s.campaignRound (x.num 0 0xA040 1)))
  else
    let own : Option Val :=
      if meterScoped index then (match s.meter? m with
        | some y => s.meterValue y index sub
        | none => none)
      else match s.pageCounter index sub with
        | some v => some v
        | none => if index < 0x5000 then s.partValue index sub else s.unitValue index sub
    match own with
    | some v => some v
    | none => if w.action then some (x.val m index sub) else some (s.storedValue index sub w.ty force)

end Sys2Proof.Machine
end

