-- ==== Sys2Proof/Machine/Exchange.lean ====
section
/-! DEFINITION. The requests READ to NOP and OBJECT_WRITE (R595 to R600), the effect of a write by index, the host writes held
for a fence (R222) and the records of a pair that wait for their apply instant (R548, R549). -/

namespace Sys2Proof.Machine

/-! ### Parameters -/

/-- A parameter: the session's own value, or the stored one (R578). -/
def State.param (s : State) (x : Session) (meter index sub : Nat) : Val :=
  match Tab.find? x.values (valueKey meter index sub) with
  | some v => v
  | none => s.objVal index sub

/-- A value's number. -/
def Val.nat : Val → Nat
  | .num i => i.toNat
  | .oct _ => 0

/-- A value's octets. -/
def Val.octets : Val → Octets
  | .num _ => []
  | .oct b => b

/-- A parameter's number, and its octets. -/
def State.paramNat (s : State) (x : Session) (meter index sub : Nat) : Nat := (s.param x meter index sub).nat
def State.paramOct (s : State) (x : Session) (meter index sub : Nat) : Octets := (s.param x meter index sub).octets

/-- The values of an action record that a session wrote; those of 0x4120, which are stored, beside them. -/
def State.recordValues (s : State) (x : Session) (meter index : Nat) : List (Nat × Nat × Val) :=
  (x.values.filter fun e => e.1 / 256 == meter * 65536 + index).map (fun e => (index, e.1 % 256, e.2)) ++
    (if index = 0x4120 then [(0x4120, 1, s.param x 0 0x4120 1), (0x4120, 5, s.param x 0 0x4120 5)] else [])

/-! ### Writes held for a fence (R222) -/

/-- The effect of a host write to a meter that waits while a fence is open. -/
def heldAct (m : Nat) (h : HeldWrite) (s : State) : Done :=
  let a := h.args.headD 0
  match h.index * 256 + h.sub with
  | 0xC00001 => if a = 2 then newIncarnation m (h.args.getD 1 0) (h.args.getD 2 0) s else newKeyEpoch m (h.args.getD 1 0) s
  | 0xC05003 => if 254 < a then Done.refuse s Status.outOfRange else Done.ok (s.freezeField m 4 53 46 a)
  | 0xC05004 => if 7 < a then Done.refuse s Status.outOfRange else Done.ok (s.freezeField m 4 33 31 a)
  | 0xC06006 => topUp m a (h.args.getD 1 0) s
  | 0xC06007 => if a = 1 then prepayEnable m (h.args.getD 1 0) s else prepayDisable m s
  | 0xC07008 => indicatorClear m s
  | _ => membershipChange m h.sub a s

/-- The held writes of a meter carried out in order, with their replies; a retirement that waited is done (R222, R341). -/
def State.applyHeld (s : State) (m : Nat) : State :=
  match s.meter? m with
  | none => s
  | some x =>
    if (s.fenceOf m).isSome then s
    else
      let s1 := x.place.heldWrites.foldl (fun (s : State) h =>
        let d := heldAct m h s
        if d.final then d.state.finishRequest h.session h.tag d.reply else d.state)
        (s.modMeter m fun x => { x with place := { x.place with heldWrites := [] } })
      if x.retiring && !x.finalFolded then s1.retireNow m else s1

/-- FENCE_COMMIT: the first boundary after the copy is done (R213, R214). -/
def execFenceCommit (meter : Nat) (s : State) : Result :=
  match s.meter? meter, s.fenceOf meter with
  | some x, some f => okIf (s.onBoundary && s.mayCommit x f) s ((s.commitMove x f).applyHeld meter)
  | _, _ => ok s

/-- FENCE_ABANDON at a heat boundary: a fence past its limit, or whose target no longer stands (R219, R225). -/
def execFenceAbandon (meter : Nat) (s : State) : Result :=
  if !s.awake || !s.onBoundary then ok s else
  match s.meter? meter, s.fenceOf meter with
  | some x, some f => (match s.abandonReason f with
    | some reason => ok ((s.abandonMove x f reason).applyHeld meter)
    | none => ok s)
  | _, _ => ok s

/-- PATH_MOVE_COMMIT (R216). -/
def execPathMoveCommit (meter : Nat) (s : State) : Result :=
  match s.meter? meter, s.fenceOf meter with
  | some x, some f => okIf (s.onBoundary && s.mayCommitPath x f) s ((s.commitPath x f).applyHeld meter)
  | _, _ => ok s

/-! ### Submits -/

/-- An action of the owner, by its number (R461). -/
def ownerSubmit (action : Nat) (params tag : Octets) (s : State) (x : Session) : Done :=
  match action with
  | 1 => ownerAction 1 params tag (fun _ => true) (fun s => s.ownerLock true) s x
  | 2 => ownerAction 2 params tag (fun _ => true) (fun s => s.ownerLock false) s x
  | 3 => ownerAction 3 params tag State.mayEnterService (fun s => s.acceptChange 3) s x
  | 4 => ownerAction 4 params tag State.mayLeaveService (fun s => s.acceptChange 2) s x
  | 5 => ownerAction 5 params tag (fun s => s.clock.armed == 0)
      (fun s => s.armStep 1 (some (s.elapsed + s.obj 0x7004 3 * 1000000000))) s x
  | 6 => ownerAction 6 params tag State.mayEnterVoid (fun s => s.acceptChange 4) s x
  | _ => ownerAction action params tag (fun _ => false) (fun s => s) s x

/-- A write of an action of MeterEnrolment (R341). -/
def enrolSubmit (m tag n : Nat) (s : State) (x : Session) : Done :=
  let p (k : Nat) : Nat := s.paramNat x m 0xC000 k
  let h (args : List Nat) : HeldWrite := { session := x.id, tag := tag, index := 0xC000, sub := 1, args := args }
  match n with
  | 1 => enrol m (p 2) (p 3) (p 4) (p 5) (p 7) (p 6 == 1) s
  | 2 => heldOr s m (h [2, p 2, p 3]) (newIncarnation m (p 2) (p 3))
  | 3 => heldOr s m (h [3, p 3]) (newKeyEpoch m (p 3))
  | _ => retire m s

/-- The effect of a write to a sub-index with a behaviour of its own in 0x1000 to 0x4FFF. -/
def partSubmit (k n : Nat) (s : State) (x : Session) : Done :=
  match k with
  | 0x103001 => configurationReset s x
  | 0x104106 => lifeCycleSubmit (s.paramNat x 0 0x1041 3) (s.paramOct x 0 0x1041 4) (s.paramOct x 0 0x1041 5) s x
  | 0x104401 => restartRequest s x
  | 0x201301 => pipelineRelease s
  | 0x201801 => diagnosisRequest s
  | 0x210001 => commitRequest (n - 1) s
  | 0x302201 => lineCalibrate n s
  | 0x380C02 => linkKeyRoll s
  | 0x412006 => calendarActivate (s.paramNat x 0 0x4120 1) (s.paramNat x 0 0x4120 5) s
  | 0x413003 => periodCloseRequest (s.paramNat x 0 0x4130 1) (s.paramNat x 0 0x4130 2) s
  | 0x414204 => bulkReadout (s.paramNat x 0 0x4142 1) (s.paramNat x 0 0x4142 2) (s.paramNat x 0 0x4142 3) s x
  | 0x480202 => snapshotRequest (s.paramNat x 0 0x4802 1) s
  | _ => Done.refuse s Status.noObject

/-- The same in 0x5000 to 0xBFFF. -/
def unitSubmit (k n : Nat) (s : State) (x : Session) : Done :=
  match k with
  | 0x500302 => keyDestroy (s.paramNat x 0 0x5003 1) s
  | 0x503005 => keyImport (s.paramNat x 0 0x5030 1) (s.paramNat x 0 0x5030 2) (s.paramOct x 0 0x5030 3)
      (s.paramOct x 0 0x5030 4) s x
  | 0x503106 => keyExport (s.paramNat x 0 0x5031 1) (s.paramNat x 0 0x5031 2) (s.paramNat x 0 0x5031 3)
      (s.paramNat x 0 0x5031 4) (s.paramNat x 0 0x5031 5) s x
  | 0x504005 => ownerSubmit (s.paramNat x 0 0x5040 2) (padTo 14 (s.paramOct x 0 0x5040 3)) (s.paramOct x 0 0x5040 4) s x
  | 0x600902 => historyPurge (s.paramNat x 0 0x6009 1) s
  | 0x600A01 => formatRequest n s
  | 0x682005 => armMask 0 n s x
  | 0x682104 => armMask 1 n s x
  | 0x682205 => eccTest n s x
  | 0x700301 => timeSourceWrite n s x
  | 0x702003 => hostTimeSet (s.paramNat x 0 0x7020 1) (s.paramNat x 0 0x7020 2) s x
  | 0x703006 => timeOutputArm 0 s x
  | 0x703106 => timeOutputArm 1 s x
  | 0x703206 => timeOutputArm 2 s x
  | 0x703306 => timeOutputArm 3 s x
  | 0x800601 => if n = 1 then plannedHandover s x else if n = 2 then releaseHeld s x else resynchronise s x
  | 0x900202 => eventLogClear (s.paramNat x 0 0x9002 1) s x
  | 0x910101 => counterSnapshotNow s x
  | 0xA00102 => stagingOpen (s.paramNat x 0 0xA001 1) (s.paramNat x 0 0xA001 5) s x
  | 0xA00103 => stagingVerify s x
  | 0xA00104 => stagingAbort s x
  | 0xA01003 => imageBlock (s.paramNat x 0 0xA010 2) (s.paramOct x 0 0xA010 1) s x
  | 0xA02102 => activate (s.paramNat x 0 0xA021 1) s x
  | 0xA04002 => campaignStart (s.paramNat x 0 0xA040 1) s x
  | 0xA04004 => campaignActivate (s.paramNat x 0 0xA040 1) (s.paramNat x 0 0xA040 3) s x
  | 0xA04005 => campaignCancel (s.paramNat x 0 0xA040 1) s x
  | 0xB00001 => pilotLightEnter s x
  | 0xB00002 => Done.ok (s.wakeOn 1)
  | _ => Done.refuse s Status.noObject

/-- A write to a word of a meter's records: at once, or held while the meter moves (R226). -/
def heldSubmit (k m tag : Nat) (args : List Nat) (s : State) (x : Session) : Done :=
  let h : HeldWrite := { session := x.id, tag := tag, index := k / 256, sub := k % 256, args := args }
  heldOr s m h (heldAct m h)

/-- The same for the objects of a meter. -/
def meterSubmit (k m n tag : Nat) (s : State) (x : Session) : Done :=
  match k with
  | 0xC00001 => enrolSubmit m tag n s x
  | 0xC04003 => hostCommand m (s.paramNat x m 0xC040 1) (s.paramOct x m 0xC040 2) s x
  | 0xC05003 => heldSubmit k m tag [n] s x
  | 0xC05004 => heldSubmit k m tag [n] s x
  | 0xC05105 => meterReadout m (s.paramNat x m 0xC051 1) (s.paramNat x m 0xC051 2) (s.paramNat x m 0xC051 3)
      (s.paramNat x m 0xC051 4) tag s x
  | 0xC06006 => heldSubmit k m tag [x.num m 0xC060 4, x.num m 0xC060 5] s x
  | 0xC06007 => heldSubmit k m tag (if n = 1 then [1, x.num m 0xC060 8] else [0]) s x
  | 0xC07001 => heldSubmit k m tag [n] s x
  | 0xC07002 => heldSubmit k m tag [n] s x
  | 0xC07006 => heldSubmit k m tag [n] s x
  | 0xC07008 => heldSubmit k m tag [] s x
  | 0xC08001 => Done.ok (s.modMeter m fun y => if y.firmware.target = n then y else { y with firmware := { target := n } })
  | _ => Done.refuse s Status.noObject

/-- The sub-indices whose write has a behaviour of its own, as index × 256 + sub-index. -/
def submitKeys : List Nat :=
  [0x103001, 0x104106, 0x104401, 0x201301, 0x201801, 0x210001, 0x302201, 0x380C02, 0x412006, 0x413003, 0x414204,
   0x480202, 0x500302, 0x503005, 0x503106, 0x504005, 0x600902, 0x600A01, 0x682005, 0x682104, 0x682205, 0x700301,
   0x702003, 0x703006, 0x703106, 0x703206, 0x703306, 0x800601, 0x900202, 0x910101, 0xA00102, 0xA00103, 0xA00104,
   0xA01003, 0xA02102, 0xA04002, 0xA04004, 0xA04005, 0xB00001, 0xB00002, 0xC00001, 0xC04003, 0xC05003, 0xC05004,
   0xC05105, 0xC06006, 0xC06007, 0xC07001, 0xC07002, 0xC07006, 0xC07008, 0xC08001]

/-- A write to a sub-index has a behaviour of its own. -/
def submits (index sub : Nat) : Bool := index == 0x5010 || submitKeys.contains (index * 256 + sub)

/-- The behaviour of its own of a write. -/
def submitOf (index sub meter n tag : Nat) (s : State) (x : Session) : Done :=
  let k := index * 256 + sub
  if meterScoped index then meterSubmit k meter n tag s x
  else if index = 0x5010 then generationRaise sub n s
  else if index < 0x5000 then partSubmit k n s x
  else unitSubmit k n s x

/-! ### Rules of stored values -/

/-- The first `n` entries of a HopChannelList are distinct (R300). -/
def hopListOk (table : Octets) (n : Nat) : Bool := ((List.range n).map fun i => fieldAt table (2 * i) 2).Nodup

/-- Ranges that name another object (R607, R491, R486), a code (R242, R291, R509) or a channel count (R300). -/
def State.outsideRange (s : State) (index sub n : Nat) : Bool :=
  match index * 256 + sub with
  | 0x102001 => n == s.obj 0x3C01 1
  | 0x102302 => decide (s.obj 0x1023 3 ≤ n)
  | 0x102303 => decide (n ≤ s.obj 0x1023 2 ∨ s.obj 0x1023 4 ≤ n)
  | 0x102304 => decide (n ≤ s.obj 0x1023 3 ∨ s.obj 0x1021 1 ≤ n)
  | 0x102101 => decide (n ≤ s.obj 0x1023 4)
  | 0x300301 => decide (n ≠ 0 ∧ n ≠ 1 ∧ n ≠ 255)
  | 0x600304 => decide (s.obj 0x6003 5 ≤ n)
  | 0x600305 => decide (n ≤ s.obj 0x6003 4 ∨ 300 < n)
  | 0x600402 => decide (s.obj 0x6004 3 < n)
  | 0x600403 => decide (n < s.obj 0x6004 2 ∨ 3650 < n)
  | 0x800003 => decide (4 < n)
  | 0xB02101 => decide (s.gradeMax < (n : Int))
  | _ => index == 0x3802 && !phyModeOk n

/-- Writes refused for the state they meet: R232, R241, R291, R300, R376, R594, R641. -/
def State.writeRefused (s : State) (index sub n : Nat) : Bool :=
  let t := s.obj 0x9020
  match index * 256 + sub with
  | 0x102101 => decide (t 4 ≤ n)
  | 0x102201 => decide ((List.range 256).countP (fun i => !Tab.has s.keys.slots (tileSlotKey 0 (768 + i))) < 2 * (n + 8))
  | 0x300301 => !notchOk (profileRanges n (s.domain 0x3003 2))
  | 0x380601 => decide (Nat.gcd (s.obj 0x3806 4) n ≠ 1) || !hopListOk (s.domain 0x3806 2) n
  | 0x380604 => decide (Nat.gcd n (s.obj 0x3806 1) ≠ 1)
  | 0x600404 => (List.range s.nTiles).any fun i => (s.flash i).formatted && !s.zoneLargeEnough i (s.goodBlocks i) n
  | 0x902001 => decide (t 5 < n + 10)
  | 0x902003 => decide (t 4 < 4 * n)
  | 0x902004 => decide (n < 4 * t 3 ∨ n ≤ s.obj 0x1021 1)
  | 0x902005 => decide (n < t 1 + 10)
  | _ =>
    if index = 0x3001 then decide (s.obj 0x3002 sub ≠ 0)
    else if index = 0x3802 ∨ index = 0x3805 then decide (s.obj 0x3801 sub ≠ 0)
    else if index = 0x3803 ∨ index = 0x3804 then (List.range (8 * s.nTiles)).any fun i => decide (s.obj 0x3801 (i + 1) ≠ 0)
    else false

/-- A numeric value as it is stored and reads back: bits 30 and 31 of BankClearOnWake read 1 whatever is written (R177), the reserved
bits of TamperEnable and TamperActiveLevel 0 (R15, R635). -/
def readsBack (index sub : Nat) (v : Val) : Val :=
  match v with
  | .num i =>
    if index = 0x6804 then .num ((i.toNat ||| 3221225472 : Nat) : Int)
    else if index = 0x1050 ∧ sub = 1 then .num (i % 32)
    else if index = 0x1050 ∧ sub = 2 then .num (i % 16)
    else v
  | .oct _ => v

/-- A DOMAIN image with the reserved fields of its entries 0: those of the feeder table and of the relay table (R15, R360,
R406). -/
def maskImage (index : Nat) (image : Octets) : Octets :=
  if index = 0x4810 then image.zipIdx.map fun e => if e.2 % 32 = 0 then e.1 &&& 0xC0 else if 24 ≤ e.2 % 32 then 0 else e.1
  else if index = 0x3C03 then image.zipIdx.map fun e => if e.2 % 32 = 7 ∨ 24 ≤ e.2 % 32 then 0 else e.1
  else image

/-- A value stored: pending for a compiler input (R108, R576), with the notch set that follows it (R243). -/
def State.storeValue (s : State) (index sub : Nat) (v : Val) : State :=
  let s1 := if isInput index sub then s.setPend index sub v else s.setVal index sub (readsBack index sub v)
  if index = 0x3003 then s1.takeNotch v.nat (s1.domain 0x3003 2) else s1

/-- A whole DOMAIN image applied at once (R600), after the object's own rules (R241, R300, R382, R383, R407). A write of NotchTable is a new
notch set, under R243, under whatever profile (DESIGN CHOICE, log 89). -/
def applyDomain (index sub : Nat) (image : Octets) (s : State) (x : Session) : Done :=
  match index * 256 + sub with
  | 0x412002 =>
    let n := s.paramNat x 0 0x4120 1
    if calendarOk image (entryTariffs (s.structEntry n)) then
      Done.ok (s.setStructure n { s.structure n with heldImage := image })
    else Done.refuse s Status.refused
  | 0xA01001 => Done.ok (s.setSessionVal x.id 0 0xA010 1 (.oct image))
  | 0x300302 =>
    if notchOk (notchRanges image) then
      let s1 := s.setDomain 0x3003 2 image
      Done.ok (s1.takeNotch (s.obj 0x3003 1) image)
    else Done.refuse s Status.refused
  | _ =>
    if index = 0x3806 ∧ hopListOk image (s.obj 0x3806 1) = false then Done.refuse s Status.refused
    else if index = 0x4810 ∧ feederTableOk image = false then Done.refuse s Status.refused
    else if isInput index sub then
      Done.ok (s.setPendDomain (objKey index sub) (maskImage index image))
    else Done.ok (s.setDomain index sub (maskImage index image))

/-- A write by its object's own rules: a submit, a whole DOMAIN, a session value, or a value stored (R574, R577, R578). -/
def writeAct (index sub meter : Nat) (data : Octets) (tag : Nat) (s : State) (x : Session) : Done :=
  match findRow index sub with
  | none => Done.refuse s Status.noObject
  | some w =>
    let v := w.ty.parse data
    if w.ty = .domain then applyDomain index sub data s x
    else if submits index sub then submitOf index sub meter v.nat tag s x
    else if w.action then Done.ok (s.setSessionVal x.id meter index sub v)
    else if s.outsideRange index sub v.nat then Done.refuse s Status.outOfRange
    else if (w.access == .rwc && s.dict.committed) || s.writeRefused index sub v.nat then Done.refuse s Status.refused
    else Done.ok (s.storeValue index sub v)

/-- True where a write fills a parameter of an action record (R578). -/
def fillsParameter (index sub : Nat) : Bool :=
  match findRow index sub with
  | some w => w.action && !submits index sub
  | none => false

/-- A write at the part: one to a parameter changes the session alone; any other follows the pair's rules (R547, R548,
R578). -/
def objectWrite (index sub meter : Nat) (data : Octets) (tag : Nat) (s : State) (x : Session) : Done :=
  if fillsParameter index sub then
    if s.standbyRefuses index sub then Done.refuse s Status.refused else writeAct index sub meter data tag s x
  else serveWrite s x tag (writeAsk index sub meter data) (s.recordValues x meter index) (writeAct index sub meter data tag)

/-- OBJECT_WRITE: a write to any object; one to a parameter changes the session alone (R578, R579). -/
def execObjectWrite (r : Req) (index sub meter : Nat) (data : Octets) (s : State) : Result :=
  ok (udxRequest s r (writeAsk index sub meter data) fun s x => objectWrite index sub meter data r.tag s x)

/-! ### Reads (R579, R596, R598) -/

/-- The flags of a reply to a read (R596). -/
def readFlags (last pend : Bool) : Nat := 128 * bit01 last + 64 * bit01 pend

/-- The reply to a READ of a sub-index. -/
def State.readValue (s : State) (x : Session) (a : Ask) : Reply :=
  if a.sub = 0 then { data := be 1 ((highestSub a.index).getD 0) }
  else
    let force := bitAt a.flags 7
    match findRow a.index a.sub with
    | none => replyOf Status.noObject
    | some w =>
      match s.valueOf x w a.index a.sub a.meter force with
      | none => replyOf Status.refused
      | some v =>
        let d := w.ty.wire v
        if segmentLimit x.transport < d.length then replyOf Status.tooLarge
        else { data := d, replyFlags := readFlags false (s.differs a.index a.sub w.ty && !force) }

/-- The reply to a READ_WHOLE: every sub-index as it stands at one instant (R579). -/
def State.readWhole (s : State) (x : Session) (a : Ask) : Reply :=
  let rows := wholeRows a.index
  let force := bitAt a.flags 7
  let vals := rows.map fun e => (s.valueOf x e.2 a.index e.1 a.meter force).map e.2.ty.wire
  if vals.any Option.isNone then replyOf Status.refused
  else
    let d := (vals.filterMap id).flatMap id
    if segmentLimit x.transport < d.length then replyOf Status.tooLarge
    else { data := d, replyFlags := readFlags false ((rows.any fun e => s.differs a.index e.1 e.2.ty) && !force) }

/-- The reply to a READ or READ_WHOLE. -/
def State.readReply (s : State) (x : Session) (a : Ask) : Reply := if a.op = 5 then s.readWhole x a else s.readValue x a

/-- The queue status table starts its peaks anew once a record was read (R161). -/
def State.afterRead (s : State) (a : Ask) (p : Reply) : State :=
  if a.index = 0x2201 ∧ p.status = Status.ok ∧ a.sub ≠ 0 then s.queuesRead (a.sub - 1) else s

/-- A read of a hot-record word is asked of a query slot of the meter's issue group (R87, R581). -/
def State.askQuery (s : State) (x : Session) (a : Ask) (tag : Nat) : Done :=
  let n := s.dict.lastQuery % 4294967295 + 1
  let r := s.enqueue a.meter 2 (requestPacket n a.meter)
  if r.1 then
    { reply := replyHint Status.pending s.busyHint, final := false
      state := { r.2 with dict := { r.2.dict with queries := r.2.dict.queries ++ [(n, x.id, tag)], lastQuery := n } } }
  else { reply := replyHint Status.busy s.busyHint, state := r.2 }

/-- The work of a READ or READ_WHOLE. -/
def readAct (a : Ask) (tag : Nat) (s : State) (x : Session) : Done :=
  if needsQuery a.index && (a.op == 5 || a.sub != 0) then s.askQuery x a tag
  else
    let p := s.readReply x a
    { reply := p, state := s.afterRead a p }

/-- READ: one sub-index (R595). -/
def execReadObject (r : Req) (index sub meter : Nat) (inForce : Bool) (s : State) : Result :=
  let a : Ask := { op := 1, flags := 128 * bit01 inForce, index := index, sub := sub, meter := meter }
  ok (udxRequest s r a (readAct a r.tag))

/-- READ_WHOLE (R579). -/
def execReadWhole (r : Req) (index meter : Nat) (inForce : Bool) (s : State) : Result :=
  let a : Ask := { op := 5, flags := 128 * bit01 inForce, index := index, meter := meter }
  ok (udxRequest s r a (readAct a r.tag))

/-- NOP (R595). -/
def execNop (r : Req) (s : State) : Result := ok (udxRequest s r { op := 6 } fun s _ => Done.ok s)

/-! ### Images returned by query slots (R87, R581) -/

/-- The image of a query slot answers the read that asked for it. -/
def State.queryReturned (s : State) (words : List Word) : State :=
  let head := (words.headD 0).toNat
  match s.dict.queries.find? fun q => q.1 == head / 4294967296 with
  | none => s
  | some (n, sid, tag) =>
    let s1 : State := { s with dict := { s.dict with queries := s.dict.queries.filter fun q => q.1 != n } }
    match s1.session? sid with
    | none => s1
    | some x =>
      match x.requests.find? fun q => q.tag == tag with
      | none => s1
      | some q =>
        let seen := s1.modMeter (head % 4294967296) fun y => { y with hot := words.drop 1 }
        s1.finishRequest sid tag (seen.readReply x (askOf q.body))

/-- A management reply queue drained. -/
def State.drainQueryQueue (s : State) (t p : Nat) : State :=
  s.drainQueue t (0x40 + p) Producer.management.code fun s pk => s.queryReturned (pk.map (·.1))

/-- The meter of an open query is gone or retiring, or nobody waits for the answer. -/
def State.queryGone (s : State) (sid tag : Nat) : Bool :=
  match s.session? sid with
  | none => true
  | some x =>
    match x.requests.find? fun y => y.tag == tag with
    | none => true
    | some y => s.noMeter (askOf y.body).meter

/-- A tile that does not hear tile 0 holds its replies (R652). -/
def State.holdsReplies (s : State) (t : Nat) : Bool := (Tab.getD s.recorder.health t {}).unheardAt.isSome

/-- Every management reply queue drained, but those of a tile that holds its replies; a read whose meter is gone or retiring is withdrawn
(R341, R652). -/
def State.drainQueries (s : State) : State :=
  let s1 := s.eachTile fun s t => if s.holdsReplies t then s else (List.range 8).foldl (fun s p => s.drainQueryQueue t p) s
  s1.dict.queries.foldl (fun (s : State) q =>
    let s2 : State := { s with dict := { s.dict with queries := s.dict.queries.filter fun y => y.1 != q.1 } }
    if s.queryGone q.2.1 q.2.2 then s2.finishRequest q.2.1 q.2.2 (replyOf Status.withdrawn) else s) s1

/-! ### Segments (R598 to R600) -/

/-- A segment of an image from an offset. -/
def segmentReply (image : Octets) (generation offset limit : Nat) (pend : Bool) : Reply :=
  { replyFlags := readFlags (decide (image.length ≤ offset + limit)) pend, generation := generation, total := image.length
    data := (image.drop offset).take limit }

/-- A session's capture of an object (R599). -/
def Session.captureOf (x : Session) (a : Ask) : Option Capture :=
  match x.capture with
  | none => none
  | some c => if c.index = a.index ∧ c.sub = a.sub ∧ c.meter = a.meter then some c else none

/-- The work of a READ_SEGMENT: a capture at offset 0, its later segments, or a live read above 1 MiB (R599). -/
def segmentAct (a : Ask) (s : State) (x : Session) : Done :=
  match findRow a.index a.sub with
  | none => Done.refuse s Status.noObject
  | some w =>
    let limit := segmentLimit x.transport
    let force := bitAt a.flags 7
    if w.ty ≠ .domain then Done.refuse s Status.typeMismatch
    else match (if a.offset = 0 then none else x.captureOf a) with
      | some c =>
        { reply := segmentReply c.image c.generation a.offset limit false
          state := s.setSession { x with capture := some { c with readAt := s.elapsed } } }
      | none =>
        match s.valueOf x w a.index a.sub a.meter force with
        | none => Done.refuse s Status.refused
        | some v =>
          let image := v.octets
          let pend : Bool := s.differs a.index a.sub w.ty && !force
          if 1048576 < image.length then { reply := segmentReply image 0 a.offset limit pend, state := s }
          else if a.offset ≠ 0 then Done.refuse s Status.changed
          else
            let g := s.dict.captures % 4294967295 + 1
            let c : Capture := { index := a.index, sub := a.sub, meter := a.meter, generation := g, image := image, readAt := s.elapsed }
            let s1 := s.setSession { x with capture := some c }
            let s2 : State := { s1 with dict := { s1.dict with captures := g } }
            let p := segmentReply image g 0 limit pend
            { reply := p, state := s2.afterRead a p }

/-- READ_SEGMENT. -/
def execReadSegment (r : Req) (index sub meter offset : Nat) (inForce : Bool) (s : State) : Result :=
  let a : Ask := { op := 3, flags := 128 * bit01 inForce, index := index, sub := sub, meter := meter, offset := offset }
  ok (udxRequest s r a (segmentAct a))

/-- True where staged segments hold every byte below a length. -/
def coversAll (parts : List (Nat × Octets)) (len : Nat) : Bool :=
  (List.range len).all fun i => parts.any fun p => decide (p.1 ≤ i ∧ i < p.1 + p.2.length)

/-- The image that segments spell, the last one written winning. -/
def assembled (parts : List (Nat × Octets)) (len : Nat) : Octets :=
  (List.range len).map fun i => match parts.reverse.find? fun p => decide (p.1 ≤ i ∧ i < p.1 + p.2.length) with
    | some p => p.2.getD (i - p.1) 0
    | none => 0

/-- The segments of the object that a session has staged; those of another are discarded (R600). -/
def Session.stagedParts (x : Session) (a : Ask) : List (Nat × Octets) :=
  match x.staging with
  | none => []
  | some g => if g.index = a.index ∧ g.sub = a.sub ∧ g.meter = a.meter then g.parts else []

/-- The work of a WRITE_SEGMENT: staged, or with Final the whole image applied (R600). -/
def stageAct (a : Ask) (tag : Nat) (s : State) (x : Session) : Done :=
  match findRow a.index a.sub with
  | none => Done.refuse s Status.noObject
  | some w =>
    let parts := x.stagedParts a ++ [(a.offset, a.data)]
    let len := a.offset + a.data.length
    let kept := s.setSession { x with staging := some { index := a.index, sub := a.sub, meter := a.meter, parts := parts } }
    if w.ty ≠ .domain then Done.refuse s Status.typeMismatch
    else if segmentLimit x.transport < a.data.length ∨ 1048576 < len then Done.refuse s Status.tooLarge
    else if s.standbyRefuses a.index a.sub then Done.refuse s Status.refused
    else if !bitAt a.flags 6 then Done.ok kept
    else if !coversAll parts len then { reply := { status := Status.malformed, detail := 2 }, state := kept }
    else if (domainLength a.index a.sub).any (· != len) then Done.refuse kept Status.typeMismatch
    else
      let y : Session := { x with staging := none }
      let image := assembled parts len
      serveWrite (s.setSession y) y tag (writeAsk a.index a.sub a.meter image) (s.recordValues y a.meter a.index)
        (writeAct a.index a.sub a.meter image tag)

/-- WRITE_SEGMENT. -/
def execWriteSegment (r : Req) (index sub meter offset : Nat) (final : Bool) (data : Octets) (s : State) : Result :=
  let a : Ask := { op := 4, flags := 64 * bit01 final, index := index, sub := sub, meter := meter, offset := offset, data := data }
  ok (udxRequest s r a (stageAct a r.tag))

end Sys2Proof.Machine
end

