-- ==== Sys2Proof/Machine/Heat.lean ====
section
/-! DEFINITION. The heat boundary (01 R37, R38, R41) and what follows it: the records of a pair applied at their instant (15
R548, R549), and the queues that the management cores empty. -/

namespace Sys2Proof.Machine

/-! ### Records of a pair (R548, R549; log 35) -/

/-- A move of the active planned here: its home and group where this unit's own pipeline of that group works and has a free record,
else its own choice by R206; where it has none, or is there already, the path and tier alone (R226). -/
def State.adoptMove (s : State) (a : List Nat) : State :=
  let f : Fence :=
    { id := 0, meter := a.headD 0, kind := a.getD 1 3, forced := a.getD 2 0 == 1, openHeat := s.heat.count, home := a.getD 3 0
      group := a.getD 4 0, record := a.getD 5 0, tier := a.getD 6 1, shared := true
      path := if a.length = 10 then some (a.getD 7 0, a.getD 8 0, a.getD 9 0) else none }
  match s.meter? f.meter with
  | none => s
  | some x =>
    if 3 ≤ f.kind then s.plan { f with home := x.home, group := x.group, record := x.record }
    else
      let own := s.homeFor x f.path
      let choice : Option (Nat × Nat × Nat) :=
        if x.home = f.home ∧ x.group = f.group then none
        else if s.targetStands f && (s.freeRecord f.home f.group).isSome then (s.freeRecord f.home f.group).map fun r => (f.home, f.group, r)
        else (s.chooseGroup own (s.feederOf x) (s.lossGroup x) none).map fun e => (own, e.1, e.2)
      match choice with
      | some (t, g, r) => s.plan { f with kind := min 2 (moveKind x t g r), home := t, group := g, record := r }
      | none => s.plan { f with kind := 3, home := x.home, group := x.group, record := x.record }

/-- A submission of the active, with its RequestId (R549). -/
def State.adoptRequest (s : State) (m code flags id origin : Nat) (params : Octets) : State :=
  let tile := id / 65536 % 256
  let n := id % 65536
  let r : Request :=
    { generation := BitVec.ofNat 8 (id / 16777216), busy := true, cmdGen := BitVec.ofNat 8 (id / 16777216), meter := m
      code := code, flags := flags, params := params, origin := origin, applyAt := s.pair.applying.getD s.tbNs }
  ((s.setRequest tile n r).enqueue m 0 (requestPacket id m)).2

/-- A balance of the active (R549). -/
def State.adoptBalance (s : State) (a : List Nat) : State :=
  let g (k : Nat) : Nat := a.getD k 0
  (s.setBalance (g 0) (g 1)
    { loss := toSigned 64 (g 2), uncertainty := g 3, headDelta := toSigned 64 (g 4), run := g 5, exceeding := g 6 == 1
      clearRun := g 7, state := g 8, raisedAt := g 9 }).countAlarms

/-- A host write of the active carried out here (R549). -/
def State.adoptWrite (s : State) (a : List Nat) (data : Octets) : State :=
  let m := a.getD 2 0
  let x : Session := { id := 0, role := 2, transport := 0 }
  (writeAct (a.headD 0) (a.getD 1 0) m data 0 s (x.withValues m (numberValues a.length (a.drop 3)))).state

/-- Inputs of the active's commit (R130, R549). -/
def State.adoptInput (s : State) (key : Nat) (v : Option Nat) (data : Octets) : State :=
  let index := key / 256
  let sub := key % 256
  match findRow index sub with
  | none => s
  | some w =>
    if w.ty = .domain then s.setPendDomain key data
    else s.setPend index sub (match v with
      | some n => .num (toSigned 64 n)
      | none => .oct data)

/-- The effect of a record at its instant. -/
def State.adopt (s : State) (r : MgmtRecord) : State :=
  let g (k : Nat) : Nat := r.args.getD k 0
  match r.kind with
  | 0 => s.writeHot (g 0) [(g 1, g 2)]
  | 1 => s.adoptRequest (g 0) (g 1) (g 2) (g 3) (g 4) r.data
  | 2 => s.setObj 0x4141 (g 0 + 1) (g 1)
  | 3 => s.adoptWrite r.args r.data
  | 4 => s.periodClose (g 0) (g 1)
  | 5 => s.setStructure (g 0) { s.structure (g 0) with slotMap := BitVec.ofNat 64 (g 1) }
  | 6 => s.swapFeeder (g 0) (g 1) (g 2)
  | 7 => s.adoptBalance r.args
  | 8 => s.adoptMove r.args
  | 9 =>
    let x := s.lane (g 0) (g 1)
    let tags := Tab.set x.tags (g 2) { meter := g 3, kind := g 4, heardAt := s.elapsed }
    ((s.setLane (g 0) (g 1) { x with tags := tags }).tagCount (g 0) (g 1)).modMeter (g 3) fun m => { m with line := { m.line with kind := g 4 } }
  | 10 =>
    let x := s.lane (g 0) (g 1)
    let maps := Tab.set x.maps (g 2 * 4 + fieldAt r.data 3 1 % 4) { image := r.data, at_ := s.elapsed }
    s.setLane (g 0) (g 1) { x with maps := maps }
  | 26 => s.eraseTag (g 0) (g 1) (g 2)
  | 27 => s.eraseMap (g 0) (g 1) (g 2)
  | 25 =>
    let x := s.lane (g 0) (g 1)
    s.setLane (g 0) (g 1) { x with given := Tab.set x.given (g 2) r.data }
  | 11 => s.takeChannel (g 0) (g 1) (g 2) (g 3)
  | 12 => { s with line := { s.line with cycle := g 0, cycleAt := g 1 } }
  | 13 => s.reassign (g 0) (g 1) (g 2) { span := g 3, phase := g 4, logP := g 5 }
  | 14 => s.adoptInput (g 0) (some (g 1)) []
  | 15 => s.adoptInput (g 0) none r.data
  | 16 => s.acceptCommit 0 r.data
  | 18 => (match s.compiler.run with
    | some b => s.setRun (some { b with swapHeat := s.heat.count })
    | none => s)
  | 19 => s.reseal (g 0)
  | 20 => s.peerActivate (g 0)
  | 21 => s.peerRevert
  | 22 => s.startRoll
  | 24 => (match s.fenceOf (g 0) with
    | some f => s.setFence { f with commitHeat := some s.heat.count }
    | none => s)
  | _ => s

/-- A step of the pair's work done under its apply instant, which sends no further records. -/
def State.applying (s : State) (at_ : Nat) (f : State → State) : State :=
  let s1 := f { s with pair := { s.pair with applying := some at_ } }
  { s1 with pair := { s1.pair with applying := none } }

/-- Records that are due, in the order sent. -/
def State.adoptDue (s : State) : State :=
  let due := s.pair.mgmt.filter fun r => decide (r.at_ ≤ s.tbNs)
  let s1 : State := { s with pair := { s.pair with mgmt := s.pair.mgmt.filter fun r => !decide (r.at_ ≤ s.tbNs) } }
  due.foldl (fun (s : State) r => s.applying r.at_ fun s => s.adopt r) s1

/-- A host write of the active carried out at its instant; its reply waits for the acknowledgement (R548). -/
def State.applyDeferred (s : State) (d : Deferred) : State :=
  s.applying d.at_ fun s =>
    let r := writeAct d.index d.sub d.meter d.data d.tag s d.session
    let t := r.state
    { t with pair := { t.pair with deferred := t.pair.deferred.map fun e =>
        if e.seq = d.seq then { e with applied := true, reply := r.reply, final := r.final } else e } }

/-- The host writes that are due. -/
def State.deferredDue (s : State) : State :=
  ((s.pair.deferred.filter fun d => !d.applied && decide (d.at_ ≤ s.tbNs)).foldl (fun s d => s.applyDeferred d) s).finishDeferred

/-! ### The boundary (R38) -/

/-- Baton handover: a resignation, or a take that is due. -/
def State.handoverStep (s : State) : State :=
  let s1 := s.resignStep
  match s1.takeDue with
  | some reason => s1.takeBaton reason
  | none => s1

/-- A heat-sheet swap that is due. -/
def State.sheetStep (s : State) : State :=
  match s.swapDue with
  | some b => s.swapSheet b
  | none => s.releaseOld

/-- One fence at a boundary: commit or abandonment. -/
def State.fenceStep (s : State) (m : Nat) : State :=
  match s.meter? m, s.fenceOf m with
  | some x, some f =>
    match s.abandonReason f with
    | some reason => s.abandonMove x f reason
    | none =>
      if s.mayCommit x f then s.commitMove x f
      else if s.mayCommitPath x f then s.commitPath x f
      else s.pathReady m
  | _, _ => s

/-- Placement moves, frames whose replay had to wait, and the host writes that the fences held. -/
def State.placementStep (s : State) : State :=
  let s0 := (s.place.fences.map (·.meter)).foldl (fun s m => s.fenceStep m) s
  let off := match s0.compiler.sheet with
    | some h => h.off
    | none => []
  let s1 := off.foldl (fun s k => (s.replayInbound (k / 8) (k % 8)).moveRequests (k / 8) (k % 8)) (s0.eachTile fun s t => s.replayLeft t)
  ((s1.meters.filter fun x => !x.place.heldWrites.isEmpty || (x.retiring && !x.finalFolded)).map (·.number)).foldl
    (fun s m => s.applyHeld m) s1

/-- Bank power changes: those of a bank plan, and wakes that end. -/
def State.bankStep (s : State) : State :=
  s.applyBankPlan.eachTile fun s t => (List.range 32).foldl (fun s b => s.bankOn t b) s

/-- A meter's top-up written (R399). -/
def State.writeTopUp (s : State) (m : Nat) : State :=
  match s.meter? m with
  | none => s
  | some x => match x.prepay.topUpNew with
    | none => s
    | some v => (s.writeHot m [(7, v)]).modPrepay m fun p => { p with topUpNew := none }

/-- Top-ups written in word 7 (R399). -/
def State.topUpStep (s : State) : State :=
  ((s.meters.filter fun x => x.prepay.topUpNew.isSome && !s.quarantined x).map (·.number)).foldl State.writeTopUp s

/-- The start of the billing folds, at the first boundary of each timebase millisecond (R41). -/
def State.foldStep (s : State) : State := if s.heat.foldMs < s.tbMs then s.startFolds else s

/-- What the pair does at a boundary (R537, R543, R546, R550, R564). -/
def State.pairStep (s : State) (before : Nat) : State :=
  if s.pair.state = 0 then s
  else
    let s1 := if s.pauseDue then s.syncPause else s
    let s2 := if s1.releaseDue then s1.syncRelease else s1
    let s3 := ((s2.syncAdvance.sendHello).sendHeartbeat).sendTime
    let s4 := s3.eachTile fun s t => s.forwardInOrder t
    if before / 1024000000 = s4.elapsed / 1024000000 then s4 else s4.watchField

/-- The queues that the management cores empty. -/
def State.drainStep (s : State) : State :=
  (((((s.pushSwaps.drainLoss).drainQueries).drainReadouts).startReadouts).drainTunnels).drainEvents

/-- Everything at a boundary in the order of R38, then the work that waits for one. -/
def State.atBoundary (s : State) (before : Nat) : State :=
  let s1 := ((((s.clockStep.powerStep).faultStep).handoverStep).adoptDue).deferredDue
  let s2 := (((s1.sheetStep.placementStep).bankStep).topUpStep).foldStep
  let s3 := (s2.pairStep before).drainStep
  ((((s3.leaveStep).activationStep).pairUpdateStep).endCampaigns).slewStep

/-- The pace clock runs: REFCLK25 is there, or there again (R35, R36). -/
def State.paceRuns (s : State) : Bool := (!s.heat.refclkLost || s.heat.refclkSince.isSome) && decide (s.power.pilot < 2)

/-- The longest a heat lasts, in ns: 10.05 µs with the pace clock spread, 10.0 µs without (R734). -/
def State.heatMax (s : State) : Nat := if s.heat.spread.getD 0 true then 10050 else 10000

/-- A heat ends at an instant 10.00 to 10.05 µs after the last boundary: 6,000 pace cycles within the spread (R17, R37, R734). After a
stop of the pace clock, or where no boundary was commanded in that window, the heat ends late (log 39). -/
def State.heatEnds (s : State) (t : Nat) : Bool :=
  decide (s.heat.boundaryAt + 10000 ≤ t ∧ s.elapsed ≤ t) &&
    (decide (t ≤ s.heat.boundaryAt + s.heatMax) || decide (s.heat.boundaryAt + s.heatMax < s.elapsed)) && s.paceRuns

/-- HEAT_BOUNDARY. A unit held after tamper only hands over. -/
def execHeatBoundary (t : Nat) (s : State) : Result :=
  if !s.heatEnds t then ok s
  else
    let before := s.elapsed
    let s1 := s.advanceTo t
    let s2 : State := { s1 with heat := { s1.heat with count := s1.heat.count + 1, boundaryAt := t, ringSent := [], laneDone := [] } }
    if s.boot.phase = 9 then ok (s2.atBoundary before)
    else if s.boot.phase = 12 then ok s2.resignStep
    else ok s

end Sys2Proof.Machine
end

