-- ==== Sys2Proof/Machine/Dispatch.lean ====
section
/-! DEFINITION. The effect of every command. -/

namespace Sys2Proof.Machine

open Host

/-- The effect of a command on everything but the queue. -/
def exec (i : Instr) (s : State) : Host.Outcome State Fault Refusal :=
  match i with
  | .heatBoundary t => Sys2Proof.Machine.execHeatBoundary t s
  | .ringSlotTransfer src dst inbound => Sys2Proof.Machine.execRingSlotTransfer src dst inbound s
  | .ringTransferReceived src dst crcOk => Sys2Proof.Machine.execRingTransferReceived src dst crcOk s
  | .ringCreditTimeout link direction => Sys2Proof.Machine.execRingCreditTimeout link direction s
  | .ringRetrainDone link good => Sys2Proof.Machine.execRingRetrainDone link good s
  | .ringRetrainRetry link => Sys2Proof.Machine.execRingRetrainRetry link s
  | .clockMonitorMeasure tile domain mean => Sys2Proof.Machine.execClockMonitorMeasure tile domain mean s
  | .refclkLoss => Sys2Proof.Machine.execRefclkLoss s
  | .clockMonitorClear tile domain => Sys2Proof.Machine.execClockMonitorClear tile domain s
  | .inboundSlot tile pipe k => Sys2Proof.Machine.execInboundSlot tile pipe k s
  | .outboundSlot tile pipe k => Sys2Proof.Machine.execOutboundSlot tile pipe k s
  | .readoutSlot tile pipe k => Sys2Proof.Machine.execReadoutSlot tile pipe k s
  | .querySlot tile pipe k => Sys2Proof.Machine.execQuerySlot tile pipe k s
  | .snapshotSlot tile pipe k => Sys2Proof.Machine.execSnapshotSlot tile pipe k s
  | .pacerSlot tile pipe good item => Sys2Proof.Machine.execPacerSlot tile pipe good item s
  | .cipherKatSlot tile pipe good => Sys2Proof.Machine.execCipherKatSlot tile pipe good s
  | .marchStep tile good => Sys2Proof.Machine.execMarchStep tile good s
  | .quarantineOnEcc tile => Sys2Proof.Machine.execQuarantineOnEcc tile s
  | .hotRecordRebuild meter => Sys2Proof.Machine.execHotRecordRebuild meter s
  | .returnedRequestRequeue meter => Sys2Proof.Machine.execReturnedRequestRequeue meter s
  | .pipelineFault tile pipe => Sys2Proof.Machine.execPipelineFault tile pipe s
  | .pipelineRestore tile pipe => Sys2Proof.Machine.execPipelineRestore tile pipe s
  | .pipelineRelease r => Sys2Proof.Machine.execPipelineRelease r s
  | .diagnosisRequest r => Sys2Proof.Machine.execDiagnosisRequest r s
  | .diagnosisDone tiles ring pacer cipher march => Sys2Proof.Machine.execDiagnosisDone tiles ring pacer cipher march s
  | .functionDisabled f => Sys2Proof.Machine.execFunctionDisabled f s
  | .eventRateInterval code tile sub => Sys2Proof.Machine.execEventRateInterval code tile sub s
  | .commitBuild r => Sys2Proof.Machine.execCommitBuild r s
  | .commitCheck r => Sys2Proof.Machine.execCommitCheck r s
  | .internalBuild trigger tile => Sys2Proof.Machine.execInternalBuild trigger tile s
  | .buildDone => Sys2Proof.Machine.execBuildDone s
  | .loaderCheckReport tile pass claim => Sys2Proof.Machine.execLoaderCheckReport tile pass claim s
  | .sheetSwap => Sys2Proof.Machine.execSheetSwap s
  | .oldSheetRelease => Sys2Proof.Machine.execOldSheetRelease s
  | .compileTimeout => Sys2Proof.Machine.execCompileTimeout s
  | .buildRetry => Sys2Proof.Machine.execBuildRetry s
  | .queueOpen tile q producer words => Sys2Proof.Machine.execQueueOpen tile q producer words s
  | .queueOpenGrant tile q => Sys2Proof.Machine.execQueueOpenGrant tile q s
  | .queueWrite tile q ticket word tag => Sys2Proof.Machine.execQueueWrite tile q ticket word tag s
  | .queuePacketTimeout tile q => Sys2Proof.Machine.execQueuePacketTimeout tile q s
  | .forwardPacket tile q => Sys2Proof.Machine.execForwardPacket tile q s
  | .forwarderRetry tile q => Sys2Proof.Machine.execForwarderRetry tile q s
  | .bankWakeDone tile bank => Sys2Proof.Machine.execBankWakeDone tile bank s
  | .secureWipeDone tile => Sys2Proof.Machine.execSecureWipeDone tile s
  | .mergeEntryTimeout tile address => Sys2Proof.Machine.execMergeEntryTimeout tile address s
  | .flipMaskArm r cls value => Sys2Proof.Machine.execFlipMaskArm r cls value s
  | .flipMaskDisarm r cls => Sys2Proof.Machine.execFlipMaskDisarm r cls s
  | .eccTestWrite r => Sys2Proof.Machine.execEccTestWrite r s
  | .eccTestRead r => Sys2Proof.Machine.execEccTestRead r s
  | .scratchScrub tile => Sys2Proof.Machine.execScratchScrub tile s
  | .dramScrub tile => Sys2Proof.Machine.execDramScrub tile s
  | .placementPass => Sys2Proof.Machine.execPlacementPass s
  | .fenceOpen meter => Sys2Proof.Machine.execFenceOpen meter s
  | .fenceInboundMark meter => Sys2Proof.Machine.execFenceInboundMark meter s
  | .fenceFreeze meter => Sys2Proof.Machine.execFenceFreeze meter s
  | .fenceCopyDone meter => Sys2Proof.Machine.execFenceCopyDone meter s
  | .fenceCommit meter => Sys2Proof.Machine.execFenceCommit meter s
  | .fenceAbandon meter => Sys2Proof.Machine.execFenceAbandon meter s
  | .pathMoveCommit meter => Sys2Proof.Machine.execPathMoveCommit meter s
  | .unroutedResolve tile => Sys2Proof.Machine.execUnroutedResolve tile s
  | .unroutedTimeout tile => Sys2Proof.Machine.execUnroutedTimeout tile s
  | .lineFrameReceived tile lane channel fc blocks rx erased => Sys2Proof.Machine.execLineFrameReceived tile lane channel fc blocks rx erased s
  | .joinRequest tile lane channel meter kind => Sys2Proof.Machine.execJoinRequest tile lane channel meter kind s
  | .toneMapResponse tile lane tag image => Sys2Proof.Machine.execToneMapResponse tile lane tag image s
  | .soundRequest tile lane tag channel symbols => Sys2Proof.Machine.execSoundRequest tile lane tag channel symbols s
  | .lineReceiptReceived tile lane fc => Sys2Proof.Machine.execLineReceiptReceived tile lane fc s
  | .responseWindowExpiry tile lane => Sys2Proof.Machine.execResponseWindowExpiry tile lane s
  | .lineSend tile lane => Sys2Proof.Machine.execLineSend tile lane s
  | .windowCycleOpen tile lane => Sys2Proof.Machine.execWindowCycleOpen tile lane s
  | .claimToneHeard tile lane window => Sys2Proof.Machine.execClaimToneHeard tile lane window s
  | .contentionSlot tile lane n busy => Sys2Proof.Machine.execContentionSlot tile lane n busy s
  | .lineTransmitEnd tile lane => Sys2Proof.Machine.execLineTransmitEnd tile lane s
  | .blockHoldExpiry tile lane tag => Sys2Proof.Machine.execBlockHoldExpiry tile lane tag s
  | .lineTagExpiry tile lane tag => Sys2Proof.Machine.execLineTagExpiry tile lane tag s
  | .beaconPlan tile lane => Sys2Proof.Machine.execBeaconPlan tile lane s
  | .notchSetApply => Sys2Proof.Machine.execNotchSetApply s
  | .toneMapExpiry tile lane tag channel => Sys2Proof.Machine.execToneMapExpiry tile lane tag channel s
  | .zcEdge tile input t => Sys2Proof.Machine.execZcEdge tile input t s
  | .referenceCrossing tile => Sys2Proof.Machine.execReferenceCrossing tile s
  | .linePilotTest tile lane channel correlation limit ma biasOpen => Sys2Proof.Machine.execLinePilotTest tile lane channel correlation limit ma biasOpen s
  | .lineBiasFault tile lane channel mv => Sys2Proof.Machine.execLineBiasFault tile lane channel mv s
  | .linePortRetest tile lane channel passed => Sys2Proof.Machine.execLinePortRetest tile lane channel passed s
  | .lineCalibrationRequest r channel => Sys2Proof.Machine.execLineCalibrationRequest r channel s
  | .calibrationStep tile lane magnitude phase => Sys2Proof.Machine.execCalibrationStep tile lane magnitude phase s
  | .calibrationTimeout tile lane => Sys2Proof.Machine.execCalibrationTimeout tile lane s
  | .superframeStart tile lane => Sys2Proof.Machine.execSuperframeStart tile lane s
  | .spanReply tile lane k => Sys2Proof.Machine.execSpanReply tile lane k s
  | .broadcastSpan tile lane k => Sys2Proof.Machine.execBroadcastSpan tile lane k s
  | .radioFrameReceived tile lane psdu sfd => Sys2Proof.Machine.execRadioFrameReceived tile lane psdu sfd s
  | .radioJoin tile lane meter => Sys2Proof.Machine.execRadioJoin tile lane meter s
  | .downlinkStore tile lane => Sys2Proof.Machine.execDownlinkStore tile lane s
  | .downlinkExpiry tile lane => Sys2Proof.Machine.execDownlinkExpiry tile lane s
  | .linkKeyRoll r => Sys2Proof.Machine.execLinkKeyRoll r s
  | .linkKeySwitch tile lane => Sys2Proof.Machine.execLinkKeySwitch tile lane s
  | .linkKeyOldDestroy tile lane => Sys2Proof.Machine.execLinkKeyOldDestroy tile lane s
  | .transceiverFault tile lane op => Sys2Proof.Machine.execTransceiverFault tile lane op s
  | .radioTxDone tile lane good => Sys2Proof.Machine.execRadioTxDone tile lane good s
  | .associationExpiry tile lane meter => Sys2Proof.Machine.execAssociationExpiry tile lane meter s
  | .enrol r meter incarnation epoch ruleSet interval limit forerunner => Sys2Proof.Machine.execEnrol r meter incarnation epoch ruleSet interval limit forerunner s
  | .newIncarnation r meter incarnation epoch => Sys2Proof.Machine.execNewIncarnation r meter incarnation epoch s
  | .newKeyEpoch r meter epoch => Sys2Proof.Machine.execNewKeyEpoch r meter epoch s
  | .retire r meter => Sys2Proof.Machine.execRetire r meter s
  | .retirementComplete meter => Sys2Proof.Machine.execRetirementComplete meter s
  | .keyEpochApply meter => Sys2Proof.Machine.execKeyEpochApply meter s
  | .freezeStart meter => Sys2Proof.Machine.execFreezeStart meter s
  | .freezeWrite meter => Sys2Proof.Machine.execFreezeWrite meter s
  | .freezeEnd meter => Sys2Proof.Machine.execFreezeEnd meter s
  | .disconnect r meter executeAt => Sys2Proof.Machine.execDisconnect r meter executeAt s
  | .reconnect r meter executeAt armOnly => Sys2Proof.Machine.execReconnect r meter executeAt armOnly s
  | .setTime r meter seconds ns mode => Sys2Proof.Machine.execSetTime r meter seconds ns mode s
  | .snapshot id cycle tags => Sys2Proof.Machine.execSnapshot id cycle tags s
  | .readNow r meter set => Sys2Proof.Machine.execReadNow r meter set s
  | .keyEpoch r meter epoch => Sys2Proof.Machine.execKeyEpoch r meter epoch s
  | .feederTag r meter tag => Sys2Proof.Machine.execFeederTag r meter tag s
  | .tariffActivate r meter version effective => Sys2Proof.Machine.execTariffActivate r meter version effective s
  | .firmwareActivate r meter image effective => Sys2Proof.Machine.execFirmwareActivate r meter image effective s
  | .laneJoin r meter link epoch span phase logP sfn => Sys2Proof.Machine.execLaneJoin r meter link epoch span phase logP sfn s
  | .setReporting r meter interval => Sys2Proof.Machine.execSetReporting r meter interval s
  | .creditState r meter credit state => Sys2Proof.Machine.execCreditState r meter credit state s
  | .commandReseal id => Sys2Proof.Machine.execCommandReseal id s
  | .commandExpired id => Sys2Proof.Machine.execCommandExpired id s
  | .meterSilent meter => Sys2Proof.Machine.execMeterSilent meter s
  | .tunnelUplink port datagram => Sys2Proof.Machine.execTunnelUplink port datagram s
  | .tunnelKeepalive port datagram => Sys2Proof.Machine.execTunnelKeepalive port datagram s
  | .tunnelDownlink port datagram => Sys2Proof.Machine.execTunnelDownlink port datagram s
  | .relaySilent relay => Sys2Proof.Machine.execRelaySilent relay s
  | .tunnelStageMove port => Sys2Proof.Machine.execTunnelStageMove port s
  | .relayUplinkSend => Sys2Proof.Machine.execRelayUplinkSend s
  | .relayKeepaliveSend => Sys2Proof.Machine.execRelayKeepaliveSend s
  | .billingFold tile => Sys2Proof.Machine.execBillingFold tile s
  | .slotMapRewrite structure_ => Sys2Proof.Machine.execSlotMapRewrite structure_ s
  | .tariffSwitch structure_ t => Sys2Proof.Machine.execTariffSwitch structure_ t s
  | .calendarActivate r structure_ effective => Sys2Proof.Machine.execCalendarActivate r structure_ effective s
  | .calendarApply structure_ => Sys2Proof.Machine.execCalendarApply structure_ s
  | .demandIntervalEnd structure_ t => Sys2Proof.Machine.execDemandIntervalEnd structure_ t s
  | .coldStoreDrain tile pipe => Sys2Proof.Machine.execColdStoreDrain tile pipe s
  | .periodClose structure_ t => Sys2Proof.Machine.execPeriodClose structure_ t s
  | .periodCloseRequest r structure_ instant => Sys2Proof.Machine.execPeriodCloseRequest r structure_ instant s
  | .creditThreshold tile pipe => Sys2Proof.Machine.execCreditThreshold tile pipe s
  | .meterEvent tile pipe => Sys2Proof.Machine.execMeterEvent tile pipe s
  | .prepayEnable r meter opening => Sys2Proof.Machine.execPrepayEnable r meter opening s
  | .prepayDisable r meter => Sys2Proof.Machine.execPrepayDisable r meter s
  | .topUp r meter amount id => Sys2Proof.Machine.execTopUp r meter amount id s
  | .friendlyWindowEnd meter => Sys2Proof.Machine.execFriendlyWindowEnd meter s
  | .reconnectRetry meter => Sys2Proof.Machine.execReconnectRetry meter s
  | .meterReadout r meter kind cls arg count => Sys2Proof.Machine.execMeterReadout r meter kind cls arg count s
  | .bulkReadout r structure_ kind cls => Sys2Proof.Machine.execBulkReadout r structure_ kind cls s
  | .readoutSigned tile => Sys2Proof.Machine.execReadoutSigned tile s
  | .snapshotOpen => Sys2Proof.Machine.execSnapshotOpen s
  | .snapshotRequest r tag => Sys2Proof.Machine.execSnapshotRequest r tag s
  | .snapshotClose feeder => Sys2Proof.Machine.execSnapshotClose feeder s
  | .indicatorClear r meter => Sys2Proof.Machine.execIndicatorClear r meter s
  | .membershipChange r meter sub value => Sys2Proof.Machine.execMembershipChange r meter sub value s
  | .feederRunningPower feeder => Sys2Proof.Machine.execFeederRunningPower feeder s
  | .keyDestroy r slot => Sys2Proof.Machine.execKeyDestroy r slot s
  | .keyExport r kind wrap target incarnation epoch => Sys2Proof.Machine.execKeyExport r kind wrap target incarnation epoch s
  | .keyImport r target wrap header blob => Sys2Proof.Machine.execKeyImport r target wrap header blob s
  | .keyGenerationRaise r sub value => Sys2Proof.Machine.execKeyGenerationRaise r sub value s
  | .setOwnerLock r params tag => Sys2Proof.Machine.execSetOwnerLock r params tag s
  | .clearOwnerLock r params tag => Sys2Proof.Machine.execClearOwnerLock r params tag s
  | .enterService r params tag => Sys2Proof.Machine.execEnterService r params tag s
  | .leaveService r params tag => Sys2Proof.Machine.execLeaveService r params tag s
  | .rearmTimeStep r params tag => Sys2Proof.Machine.execRearmTimeStep r params tag s
  | .enterVoid r params tag => Sys2Proof.Machine.execEnterVoid r params tag s
  | .cryptoKat tile unit_ good vector => Sys2Proof.Machine.execCryptoKat tile unit_ good vector s
  | .cryptoRetest tile unit_ good => Sys2Proof.Machine.execCryptoRetest tile unit_ good s
  | .formatRequest r tile => Sys2Proof.Machine.execFormatRequest r tile s
  | .ringLogWrite tile => Sys2Proof.Machine.execRingLogWrite tile s
  | .segmentSeal tile => Sys2Proof.Machine.execSegmentSeal tile s
  | .segmentLate tile => Sys2Proof.Machine.execSegmentLate tile s
  | .slcSegmentFold tile => Sys2Proof.Machine.execSlcSegmentFold tile s
  | .historyExpiry tile => Sys2Proof.Machine.execHistoryExpiry tile s
  | .garbageCollection tile tlc => Sys2Proof.Machine.execGarbageCollection tile tlc s
  | .checkpointPage tile => Sys2Proof.Machine.execCheckpointPage tile s
  | .storageRestore tile lost ms => Sys2Proof.Machine.execStorageRestore tile lost ms s
  | .historyPurge r before => Sys2Proof.Machine.execHistoryPurge r before s
  | .blockRetire tile block pool reason => Sys2Proof.Machine.execBlockRetire tile block pool reason s
  | .ptpSync port message => Sys2Proof.Machine.execPtpSync port message s
  | .ptpFollowUp port message => Sys2Proof.Machine.execPtpFollowUp port message s
  | .ptpDelayResp port message => Sys2Proof.Machine.execPtpDelayResp port message s
  | .ptpPdelayReq port message turnaround => Sys2Proof.Machine.execPtpPdelayReq port message turnaround s
  | .ptpPdelayResp port message => Sys2Proof.Machine.execPtpPdelayResp port message s
  | .ptpAnnounce port message => Sys2Proof.Machine.execPtpAnnounce port message s
  | .ptpSyncTransmit port => Sys2Proof.Machine.execPtpSyncTransmit port s
  | .ptpUnsupportedMessage port message => Sys2Proof.Machine.execPtpUnsupportedMessage port message s
  | .hostTimeSet r seconds ns => Sys2Proof.Machine.execHostTimeSet r seconds ns s
  | .timeStep => Sys2Proof.Machine.execTimeStep s
  | .sourceTimeout => Sys2Proof.Machine.execSourceTimeout s
  | .stepArmExpiry => Sys2Proof.Machine.execStepArmExpiry s
  | .slaveAlignment tile error => Sys2Proof.Machine.execSlaveAlignment tile error s
  | .rateUpdate => Sys2Proof.Machine.execRateUpdate s
  | .timeSourceChange => Sys2Proof.Machine.execTimeSourceChange s
  | .timeOutputArm r output => Sys2Proof.Machine.execTimeOutputArm r output s
  | .timeOutputPulse output => Sys2Proof.Machine.execTimeOutputPulse output s
  | .timeInCapture => Sys2Proof.Machine.execTimeInCapture s
  | .hello seq ack unit_ tiles preferred state measurement check => Sys2Proof.Machine.execHello seq ack unit_ tiles preferred state measurement check s
  | .heartbeat seq ack state flags heat => Sys2Proof.Machine.execHeartbeat seq ack state flags heat s
  | .digest seq ack bin xor_ count => Sys2Proof.Machine.execDigest seq ack bin xor_ count s
  | .resign seq ack reason checks at_ => Sys2Proof.Machine.execResign seq ack reason checks at_ s
  | .take seq ack at_ => Sys2Proof.Machine.execTake seq ack at_ s
  | .handoverPlan seq ack instant kind => Sys2Proof.Machine.execHandoverPlan seq ack instant kind s
  | .mgmt seq ack at_ kind args data => Sys2Proof.Machine.execMgmt seq ack at_ kind args data s
  | .tunnel seq ack port datagram => Sys2Proof.Machine.execTunnel seq ack port datagram s
  | .timeMessage seq ack t1 t2 t3 t4 stepAt step => Sys2Proof.Machine.execTimeMessage seq ack t1 t2 t3 t4 stepAt step s
  | .syncData seq ack kind key data => Sys2Proof.Machine.execSyncData seq ack kind key data s
  | .logRequest seq ack bin => Sys2Proof.Machine.execLogRequest seq ack bin s
  | .logData seq ack bin entries => Sys2Proof.Machine.execLogData seq ack bin entries s
  | .repairRequest seq ack meters => Sys2Proof.Machine.execRepairRequest seq ack meters s
  | .repairData seq ack meter record => Sys2Proof.Machine.execRepairData seq ack meter record s
  | .fenceFlag seq ack meter opens => Sys2Proof.Machine.execFenceFlag seq ack meter opens s
  | .mirrorRepeat => Sys2Proof.Machine.execMirrorRepeat s
  | .batonCodeDecoded holding => Sys2Proof.Machine.execBatonCodeDecoded holding s
  | .batonDead => Sys2Proof.Machine.execBatonDead s
  | .mirrorHeartbeatTimeout => Sys2Proof.Machine.execMirrorHeartbeatTimeout s
  | .pairStartWait => Sys2Proof.Machine.execPairStartWait s
  | .resignation => Sys2Proof.Machine.execResignation s
  | .batonTake => Sys2Proof.Machine.execBatonTake s
  | .syncFinalPause => Sys2Proof.Machine.execSyncFinalPause s
  | .syncRelease => Sys2Proof.Machine.execSyncRelease s
  | .syncRestart => Sys2Proof.Machine.execSyncRestart s
  | .digestBinClose bin => Sys2Proof.Machine.execDigestBinClose bin s
  | .revert => Sys2Proof.Machine.execRevert s
  | .plannedHandover r => Sys2Proof.Machine.execPlannedHandover r s
  | .releaseHeld r => Sys2Proof.Machine.execReleaseHeld r s
  | .resynchronise r => Sys2Proof.Machine.execResynchronise r s
  | .mgmtAckTimeout => Sys2Proof.Machine.execMgmtAckTimeout s
  | .identify transport => Sys2Proof.Machine.execIdentify transport s
  | .openSession transport peer role nonce expected => Sys2Proof.Machine.execOpenSession transport peer role nonce expected s
  | .readObject r index sub meter inForce => Sys2Proof.Machine.execReadObject r index sub meter inForce s
  | .readSegment r index sub meter offset inForce => Sys2Proof.Machine.execReadSegment r index sub meter offset inForce s
  | .writeSegment r index sub meter offset final data => Sys2Proof.Machine.execWriteSegment r index sub meter offset final data s
  | .readWhole r index meter inForce => Sys2Proof.Machine.execReadWhole r index meter inForce s
  | .nop r => Sys2Proof.Machine.execNop r s
  | .objectWrite r index sub meter data => Sys2Proof.Machine.execObjectWrite r index sub meter data s
  | .closeSession r => Sys2Proof.Machine.execCloseSession r s
  | .sessionIdleTimeout session => Sys2Proof.Machine.execSessionIdleTimeout session s
  | .halfOpenTimeout session => Sys2Proof.Machine.execHalfOpenTimeout session s
  | .udxRequestTimeout session tag => Sys2Proof.Machine.execUdxRequestTimeout session tag s
  | .captureDiscard session => Sys2Proof.Machine.execCaptureDiscard session s
  | .mailboxDoorbell channel enable baseIn baseOut entries vector producer consumer dma => Sys2Proof.Machine.execMailboxDoorbell channel enable baseIn baseOut entries vector producer consumer dma s
  | .mailboxReset => Sys2Proof.Machine.execMailboxReset s
  | .pcieLinkDown => Sys2Proof.Machine.execPcieLinkDown s
  | .outRingReplyDiscard channel => Sys2Proof.Machine.execOutRingReplyDiscard channel s
  | .configurationReset r => Sys2Proof.Machine.execConfigurationReset r s
  | .arpRequest port address => Sys2Proof.Machine.execArpRequest port address s
  | .neighbourDiscovery port address => Sys2Proof.Machine.execNeighbourDiscovery port address s
  | .icmpEcho port v6 address payload => Sys2Proof.Machine.execIcmpEcho port v6 address payload s
  | .sysResetRelease straps => Sys2Proof.Machine.execSysResetRelease straps s
  | .sysResetAssert => Sys2Proof.Machine.execSysResetAssert s
  | .fuseLoadDone tile good => Sys2Proof.Machine.execFuseLoadDone tile good s
  | .scratchpadClearDone tile => Sys2Proof.Machine.execScratchpadClearDone tile s
  | .dramInitStepDone tile good => Sys2Proof.Machine.execDramInitStepDone tile good s
  | .secureBootDone first second imageDigest version => Sys2Proof.Machine.execSecureBootDone first second imageDigest version s
  | .tileEnumerationDone tile word found => Sys2Proof.Machine.execTileEnumerationDone tile word found s
  | .sheetLoadDone good => Sys2Proof.Machine.execSheetLoadDone good s
  | .lanePowerUpDone tile => Sys2Proof.Machine.execLanePowerUpDone tile s
  | .ready => Sys2Proof.Machine.execReady s
  | .bringUpStepTimeout => Sys2Proof.Machine.execBringUpStepTimeout s
  | .restartRequest r => Sys2Proof.Machine.execRestartRequest r s
  | .enterKeyed r blob header => Sys2Proof.Machine.execEnterKeyed r blob header s
  | .enterField r => Sys2Proof.Machine.execEnterField r s
  | .tamperEvent input => Sys2Proof.Machine.execTamperEvent input s
  | .tamperCleared => Sys2Proof.Machine.execTamperCleared s
  | .dramRequestTimeout tile address write => Sys2Proof.Machine.execDramRequestTimeout tile address write s
  | .dramRetrainDone tile => Sys2Proof.Machine.execDramRetrainDone tile s
  | .nandOperationTimeout tile channel block page pool op => Sys2Proof.Machine.execNandOperationTimeout tile channel block page pool op s
  | .nandDieRemoved tile channel die stuck => Sys2Proof.Machine.execNandDieRemoved tile channel die stuck s
  | .watchdogTimeout tile core => Sys2Proof.Machine.execWatchdogTimeout tile core s
  | .coreHoldEnd tile core => Sys2Proof.Machine.execCoreHoldEnd tile core s
  | .tileHeartbeat src dst => Sys2Proof.Machine.execTileHeartbeat src dst s
  | .tileHeartbeatTimeout tile => Sys2Proof.Machine.execTileHeartbeatTimeout tile s
  | .tileRecoveryDelayExpiry tile => Sys2Proof.Machine.execTileRecoveryDelayExpiry tile s
  | .tileRecoveryDone tile good => Sys2Proof.Machine.execTileRecoveryDone tile good s
  | .primaryTileUnheard tile => Sys2Proof.Machine.execPrimaryTileUnheard tile s
  | .eventRecord => Sys2Proof.Machine.execEventRecord s
  | .eventPageWrite => Sys2Proof.Machine.execEventPageWrite s
  | .eventLogClear r expected => Sys2Proof.Machine.execEventLogClear r expected s
  | .eventLogEraseDone => Sys2Proof.Machine.execEventLogEraseDone s
  | .counterLatch late => Sys2Proof.Machine.execCounterLatch late s
  | .counterSnapshotNow r => Sys2Proof.Machine.execCounterSnapshotNow r s
  | .partitionCounterFault tile core => Sys2Proof.Machine.execPartitionCounterFault tile core s
  | .stagingOpen r length target => Sys2Proof.Machine.execStagingOpen r length target s
  | .imageBlock r offset window => Sys2Proof.Machine.execImageBlock r offset window s
  | .stagingVerify r => Sys2Proof.Machine.execStagingVerify r s
  | .verificationDone voided => Sys2Proof.Machine.execVerificationDone voided s
  | .stagingAbort r => Sys2Proof.Machine.execStagingAbort r s
  | .activate r imageId => Sys2Proof.Machine.execActivate r imageId s
  | .activationResume good => Sys2Proof.Machine.execActivationResume good s
  | .probationEnd => Sys2Proof.Machine.execProbationEnd s
  | .pairUpdateLimit => Sys2Proof.Machine.execPairUpdateLimit s
  | .campaignStart r imageId => Sys2Proof.Machine.execCampaignStart r imageId s
  | .campaignRound imageId => Sys2Proof.Machine.execCampaignRound imageId s
  | .campaignActivate r imageId effective => Sys2Proof.Machine.execCampaignActivate r imageId effective s
  | .campaignCancel r imageId => Sys2Proof.Machine.execCampaignCancel r imageId s
  | .campaignLimit imageId => Sys2Proof.Machine.execCampaignLimit imageId s
  | .readbackCompare baton pads => Sys2Proof.Machine.execReadbackCompare baton pads s
  | .polarityTry lane => Sys2Proof.Machine.execPolarityTry lane s
  | .phyStatusPoll port up => Sys2Proof.Machine.execPhyStatusPoll port up s
  | .idcode => Sys2Proof.Machine.execIdcode s
  | .samplePreload preload => Sys2Proof.Machine.execSamplePreload preload s
  | .extest => Sys2Proof.Machine.execExtest s
  | .clampPins => Sys2Proof.Machine.execClampPins s
  | .highz => Sys2Proof.Machine.execHighz s
  | .haltcode => Sys2Proof.Machine.execHaltcode s
  | .bypass opcode => Sys2Proof.Machine.execBypass opcode s
  | .powerFailWarning => Sys2Proof.Machine.execPowerFailWarning s
  | .powerFailClear => Sys2Proof.Machine.execPowerFailClear s
  | .holdupChange charged => Sys2Proof.Machine.execHoldupChange charged s
  | .supplyOutOfRange rail tile mv => Sys2Proof.Machine.execSupplyOutOfRange rail tile mv s
  | .supplyRestored rail tile mv => Sys2Proof.Machine.execSupplyRestored rail tile mv s
  | .pilotLightEnter r => Sys2Proof.Machine.execPilotLightEnter r s
  | .pilotLightEntryDone => Sys2Proof.Machine.execPilotLightEntryDone s
  | .pilotLightWake r => Sys2Proof.Machine.execPilotLightWake r s
  | .wakeAt => Sys2Proof.Machine.execWakeAt s
  | .wakeOnLineFrames => Sys2Proof.Machine.execWakeOnLineFrames s
  | .wakeOnPerst => Sys2Proof.Machine.execWakeOnPerst s
  | .wakeDone => Sys2Proof.Machine.execWakeDone s
  | .junctionSensorRead tile a b c d => Sys2Proof.Machine.execJunctionSensorRead tile a b c d s
  | .thermalRecovery => Sys2Proof.Machine.execThermalRecovery s
  | .powerEstimate => Sys2Proof.Machine.execPowerEstimate s
  | .lineLaneStartingTimeout tile lane => Sys2Proof.Machine.execLineLaneStartingTimeout tile lane s
  | .ptpDelayReqTransmit port => Sys2Proof.Machine.execPtpDelayReqTransmit port s
  | .ptpAnnounceReceiptTimeout => Sys2Proof.Machine.execPtpAnnounceReceiptTimeout s
  | .pcieConfigurationRequest => Sys2Proof.Machine.execPcieConfigurationRequest s
  | .serdesLossOfSignal lane => Sys2Proof.Machine.execSerdesLossOfSignal lane s
  | .serdesBlockLock lane => Sys2Proof.Machine.execSerdesBlockLock lane s

end Sys2Proof.Machine
end

