-- ==== Sys2Proof/Safety.lean ====
section
/-! DEFINITION. What counts as a safe step: the block answers a next state, and the memory of its ECC test words keeps its
canonical form. The words in which statements speak of a host request that is served, of events and of outputs. -/

namespace Sys2Proof.Machine

/-- The invariant of the model's data: the sparse memory lists rising addresses and no default byte. -/
def State.Inv (s : State) : Prop := memWf s.mem.test = true

/-- A step that answers a next state in which the invariant holds. -/
def State.StepSafe (s : State) : Prop := ∃ t, step s = .next t ∧ t.Inv

/-- What the session's message comes to: its frame counted on its port, its tag and MsgSeq held to R589 and R594. -/
def State.admits (s : State) (r : Req) (a : Ask) : Admitted := (s.heardFrom r.session).admitMessage r 5 (a.body r.tag)

/-- The state in which a request is taken: its message admitted and the request counted (R589, R595). -/
def State.taken (s : State) (r : Req) (a : Ask) : State := ((s.admits r a).state.bump 0x1024 1).count 0 26 3

/-- The request is taken from session x on an open transport, is no repeat, and passes the checks of R602: it reaches the
rules of its object. -/
def Asks (s : State) (r : Req) (a : Ask) (x : Session) : Prop :=
  s.sessionOpen r.session = true ∧ s.tooLong r a = false ∧ (s.admits r a).session = some x ∧
    x.repeatOf s.elapsed r.tag = none ∧ (s.taken r a).checkAsk x a = none

/-- A write of a sub-index reaches its object's rules, on a unit that carries it out itself and at once: no standby (R547),
no record to a standby that must apply it at the same instant (R548). -/
def Writes (s : State) (r : Req) (index sub meter : Nat) (data : Octets) (x : Session) : Prop :=
  Asks s r (writeAsk index sub meter data) x ∧ s.standbyRefuses index sub = false ∧
    (s.mirrors && mirroredWrite index sub) = false

/-- The session outlives its next reply: neither of its sequences is at its end (R593). -/
def Session.lasts (x : Session) : Prop := x.inTop ≠ 4294967295 ∧ x.outSeq + 1 ≠ 4294967295

/-- Between s and t an event with this code, tile and items was offered to the recorder (R655, R657). -/
def Offers (s t : State) (code tile : Nat) (data : List Nat) : Prop :=
  ∃ o ∈ t.recorder.offered.drop s.recorder.offered.length, o.code = code ∧ o.tile = tile ∧ o.data = data

/-- Between s and t octets were sent at a port. -/
def Sends (s t : State) (port : OutPort) (bytes : Octets) : Prop :=
  { port := port, bytes := bytes } ∈ t.out.drop s.out.length

/-- The octets a message is on a transport: on the PCIe ring it has its ring entry's header (R585). -/
def onTransport (transport : Nat) (bytes : Octets) : Octets := if transport = 2 then ringEntry bytes else bytes

/-- A transport takes a message at once: Ethernet always, the PCIe ring while it has room and holds none back (R585,
R586). -/
def State.hasRoom (s : State) (transport : Nat) : Prop :=
  transport = 2 → wrapSub 32 (s.channel 0).outProducer (s.channel 0).outConsumer < (s.channel 0).entries ∧
    (s.channel 0).heldReplies = []

/-- Between s and t a relay sent a datagram toward its head: on an Ethernet port to the head's address, on the mailbox as an entry of
its second channel, where its ring has room (R358, R585). -/
def State.SendsUp (s t : State) (d : Octets) : Prop :=
  (s.upstreamPort ≠ 2 → Sends s t (.tunnel s.upstreamPort (s.tunnelAddress 0)) d) ∧
    (s.upstreamPort = 2 → wrapSub 32 (s.channel 1).outProducer (s.channel 1).outConsumer < (s.channel 1).entries →
      (s.channel 1).heldReplies = [] → Sends s t (.tunnel 2 []) (ringEntry d))

/-- Between s and t the reply to a request was sealed under the session's part-to-host key and sent (R589, R596). -/
def Replies (s t : State) (x : Session) (a : Ask) (tag : Nat) (p : Reply) : Prop :=
  Sends s t (.udx x.transport) (onTransport x.transport
    (sealUdx (s.keyMaterial (tileSlotKey 0 (x.keySlot + 1))) 6 x.id x.outSeq (p.body a tag)))

/-- In slot k the pipeline admits the packet pk for the meter x: the slot runs, the packet is at the head of its queue, the
index resolves it, the deferral check passes, its header is well formed, and nothing the slot reads is uncorrectable (R61 to
R75, R85, R325). -/
def Arrives (s : State) (tile pipe k : Nat) (pk : List (Word × Byte)) (x : Meter) : Prop :=
  s.slotOpen 0 tile pipe k = true ∧ (s.queue tile pipe).head? = some pk ∧
    s.indexed tile pipe (frMeter (packetBytes pk)) = some x ∧ (s.pipe tile pipe).defers (s.slotNumber k) x.record = false ∧
    headerOk (packetBytes pk) (field (packetHead pk) 47 40) = true ∧ s.quarantined x = false ∧
    s.firstBad tile (s.packetWords tile pipe pk.length ++ probeWords pipe (frMeter (packetBytes pk)) ++
      s.meterWords x (frType (packetBytes pk))) = none

/-- The key of a frame: its meter's under the root of its lane class (R454, R456). -/
def State.frameKey (s : State) (pk : List (Word × Byte)) (x : Meter) : Octets :=
  meterKey (s.root (field (packetHead pk) 53 50)) x.number x.incarnation x.epoch

/-- The frame bears the tag of its meter's key (R323, R433). -/
def Authentic (s : State) (pk : List (Word × Byte)) (x : Meter) : Prop :=
  (frTag (s.frameKey pk x) (packetBytes pk)).take 12 = slice (packetBytes pk) (16 + frLength (packetBytes pk)) 12

/-- A block's performance counter (R663). -/
def State.counter (s : State) (tile block index : Nat) : Nat :=
  (Tab.getD s.recorder.counters (counterKey tile block index) (0, false)).1

/-- In slot k of a request kind the pipeline performs the packet pk for the meter x (R87, R757). -/
def Performs (s : State) (kind tile pipe k q : Nat) (pk : List (Word × Byte)) (x : Meter) : Prop :=
  s.slotOpen kind tile pipe k = true ∧ (s.queue tile q).head? = some pk ∧
    s.indexed tile pipe (packetHead pk % 4294967296) = some x ∧ (s.pipe tile pipe).defers (s.slotNumber k) x.record = false ∧
    s.quarantined x = false ∧ s.hotUncorrectable x = false ∧
    s.firstBad tile (s.packetWords tile q pk.length ++ probeWords pipe (packetHead pk % 4294967296)) = none

/-- Every other tile has ended the bring-up step in progress (R613). -/
def State.lastTile (s : State) (tile : Nat) : Prop := ∀ u < s.nTiles, u = tile ∨ u ∈ s.boot.stepDone

/-- Bring-up stands halted in a step with a code (R625). -/
def State.haltedIn (t : State) (step code : Nat) : Prop :=
  t.boot.phase = 10 ∧ t.boot.haltStep = step ∧ t.boot.haltCode = code ∧ t.obj 0x1040 1 = 1 ∧ t.obj 0x1040 3 = code

/-- The next message of the peer is taken: the mirror link carries messages and its LinkSeq follows the last (R536). -/
def State.hears (s : State) (seq : Nat) : Prop := s.mirrorUp = true ∧ seq = s.pair.recvSeq + 1

/-- A packet of n words of a producer goes into a queue at once: it is one of the queue's producers, no packet is open or waits
there, it is not empty, it fits, and no bank it goes to is barred to its producer (R135, R137, R150, R151, R176). -/
def State.takes (s : State) (tile q : Nat) (p : Producer) (n : Nat) : Prop :=
  isProducer q p = true ∧ (s.queue tile q).openBy = none ∧ (s.queue tile q).waiters = [] ∧ 0 < n ∧ n ≤ packetLimit q ∧ (s.queue tile q).fits (s.capacity tile q) n = true ∧
    s.barredWord tile q p n = none

/-- The packet pk at the head of a queue reads whole for an agent: its banks are on, and no word or tag of it is uncorrectable (R176,
R181). -/
def State.reads (s : State) (tile q agent : Nat) (pk : List (Word × Byte)) : Prop :=
  (s.queue tile q).head? = some pk ∧ s.barred tile agent ((s.packetWords tile q pk.length).map (·.2)) = none ∧
    s.firstBad tile (s.packetWords tile q pk.length) = none

/-- The management cores may write a meter's hot record: the banks of its words are on (R83, R176). -/
def State.hotOn (s : State) (x : Meter) : Prop :=
  s.barred x.home Producer.management.code (x.hotWords.map (·.2)) = none

/-- The parts of the unit a command may change, each a kind of state the spec names: what is fitted, which no command
changes, outputs, the instant, the free draws, the heat and its slots, the fabric, the compiler, the queues, the ECC test
words, the memory's upkeep, placement, the line and radio lanes, the meters, tunnels, billing, loss accounting, keys, storage,
the timebase, the pair, the dictionary, bring-up, the recorder, firmware, pins and power. -/
inductive Part where
  | fit | outputs | elapsed | drawn | heat | fabric | compiler | queues | testWords | memory | placement | line | radio
  | meters | tunnel | billing | loss | keys | storage | clock | pair | dictionary | boot | recorder | firmware | pins
  | power
  deriving DecidableEq, Repr

/-- A part is the same in two states. -/
def Part.same (s t : State) : Part → Prop
  | .fit => s.fit = t.fit
  | .outputs => s.out = t.out
  | .elapsed => s.elapsed = t.elapsed
  | .drawn => s.freeCount = t.freeCount
  | .heat => s.heat = t.heat
  | .fabric => s.fabric = t.fabric
  | .compiler => s.compiler = t.compiler
  | .queues => s.queues = t.queues
  | .testWords => s.mem.test = t.mem.test
  | .memory => s.mem = t.mem
  | .placement => s.place = t.place
  | .line => s.line = t.line
  | .radio => s.radio = t.radio
  | .meters => s.meters = t.meters
  | .tunnel => s.tunnel = t.tunnel
  | .billing => s.billing = t.billing
  | .loss => s.loss = t.loss
  | .keys => s.keys = t.keys
  | .storage => s.store = t.store
  | .clock => s.clock = t.clock
  | .pair => s.pair = t.pair
  | .dictionary => s.dict = t.dict
  | .boot => s.boot = t.boot
  | .recorder => s.recorder = t.recorder
  | .firmware => s.update = t.update
  | .pins => s.pins = t.pins
  | .power => s.power = t.power

end Sys2Proof.Machine

namespace Sys2Proof

open Machine

/-- The parts of the unit each command may change; every other part it leaves as it was. -/
def Instr.footprint : Instr → List Part
  | .heatBoundary .. =>
    [.outputs, .elapsed, .drawn, .heat, .fabric, .compiler, .queues, .testWords, .memory, .placement, .line, .radio
     , .meters, .tunnel, .billing, .loss, .keys, .storage, .clock, .pair, .dictionary, .boot, .recorder, .firmware
     , .pins, .power]
  | .ringSlotTransfer .. =>
    [.drawn, .heat, .fabric, .queues, .pair, .dictionary, .recorder]
  | .ringTransferReceived .. =>
    [.outputs, .heat, .fabric, .queues, .memory, .meters, .billing, .pair, .dictionary, .recorder]
  | .ringCreditTimeout .. | .ringRetrainRetry .. =>
    [.heat, .queues, .recorder]
  | .ringRetrainDone .. =>
    [.heat]
  | .clockMonitorMeasure .. | .refclkLoss =>
    [.heat, .pair, .recorder]
  | .clockMonitorClear .. =>
    [.heat, .recorder]
  | .inboundSlot .. =>
    [.outputs, .drawn, .fabric, .queues, .memory, .meters, .tunnel, .billing, .loss, .pair, .dictionary, .recorder]
  | .outboundSlot .. =>
    [.outputs, .fabric, .queues, .memory, .meters, .tunnel, .billing, .pair, .dictionary, .recorder]
  | .readoutSlot .. | .newIncarnation .. | .calendarActivate .. | .prepayEnable .. | .topUp .. =>
    [.outputs, .fabric, .queues, .memory, .meters, .billing, .keys, .pair, .dictionary, .recorder]
  | .querySlot .. =>
    [.fabric, .queues, .memory, .meters, .billing, .pair, .dictionary, .recorder]
  | .snapshotSlot .. =>
    [.fabric, .queues, .memory, .tunnel, .loss, .keys, .pair, .dictionary, .recorder]
  | .pacerSlot .. =>
    [.fabric, .queues, .memory, .pair, .dictionary, .recorder]
  | .cipherKatSlot .. =>
    [.fabric, .pair, .recorder]
  | .marchStep .. | .scratchScrub .. | .dramScrub .. =>
    [.drawn, .fabric, .memory, .pair, .dictionary, .recorder]
  | .quarantineOnEcc .. =>
    [.drawn, .fabric, .queues, .memory, .meters, .pair, .dictionary, .recorder]
  | .hotRecordRebuild .. =>
    [.outputs, .memory, .meters, .pair, .dictionary, .recorder]
  | .returnedRequestRequeue .. =>
    [.fabric, .queues, .memory, .meters, .dictionary, .recorder]
  | .pipelineFault .. | .pipelineRestore .. | .tileHeartbeatTimeout .. =>
    [.outputs, .fabric, .compiler, .placement, .pair, .dictionary, .recorder]
  | .pipelineRelease .. | .keyDestroy .. | .keyExport .. | .setOwnerLock .. | .clearOwnerLock .. | .hello ..
  | .digest .. | .resign .. | .take .. | .handoverPlan .. | .logRequest .. | .fenceFlag .. | .mirrorHeartbeatTimeout
  | .plannedHandover .. | .releaseHeld .. | .resynchronise .. | .mgmtAckTimeout | .eventLogClear ..
  | .counterSnapshotNow .. =>
    [.outputs, .fabric, .keys, .pair, .dictionary, .recorder]
  | .diagnosisRequest .. =>
    [.outputs, .heat, .fabric, .keys, .pair, .dictionary, .recorder]
  | .diagnosisDone .. | .syncRelease =>
    [.heat, .fabric, .pair, .dictionary, .recorder]
  | .functionDisabled .. =>
    [.outputs, .drawn, .heat, .fabric, .compiler, .queues, .memory, .placement, .line, .radio, .meters, .billing
     , .pair, .dictionary, .recorder]
  | .eventRateInterval .. =>
    [.fabric]
  | .commitBuild .. | .commitCheck .. =>
    [.outputs, .fabric, .compiler, .keys, .pair, .dictionary, .recorder]
  | .internalBuild .. | .buildDone | .compileTimeout | .buildRetry =>
    [.outputs, .compiler, .pair, .dictionary, .recorder]
  | .loaderCheckReport .. =>
    [.outputs, .fabric, .compiler, .memory, .keys, .pair, .dictionary, .recorder]
  | .sheetSwap =>
    [.outputs, .drawn, .heat, .fabric, .compiler, .queues, .memory, .placement, .line, .radio, .meters, .billing
     , .loss, .keys, .storage, .pair, .dictionary, .recorder]
  | .oldSheetRelease =>
    [.fabric, .compiler]
  | .queueOpen .. | .queuePacketTimeout .. =>
    [.fabric, .queues, .recorder]
  | .queueOpenGrant .. | .queueWrite .. | .snapshot .. =>
    [.fabric, .queues, .memory, .dictionary, .recorder]
  | .forwardPacket .. | .forwarderRetry .. =>
    [.outputs, .drawn, .heat, .fabric, .queues, .memory, .placement, .meters, .tunnel, .billing, .pair, .dictionary
     , .recorder]
  | .bankWakeDone .. =>
    [.fabric, .queues, .testWords, .memory, .meters, .loss, .keys]
  | .secureWipeDone .. =>
    [.memory, .recorder]
  | .mergeEntryTimeout .. =>
    [.drawn, .fabric, .memory, .meters, .pair, .dictionary, .recorder]
  | .flipMaskArm .. | .flipMaskDisarm .. | .keyImport .. | .keyGenerationRaise .. =>
    [.outputs, .fabric, .memory, .keys, .pair, .dictionary, .recorder]
  | .eccTestWrite .. | .eccTestRead .. =>
    [.outputs, .drawn, .fabric, .testWords, .memory, .keys, .pair, .dictionary, .recorder]
  | .placementPass =>
    [.outputs, .fabric, .compiler, .placement, .meters, .pair, .dictionary, .recorder]
  | .fenceOpen .. =>
    [.outputs, .placement, .pair, .recorder]
  | .fenceInboundMark .. =>
    [.fabric, .queues, .memory, .placement, .loss, .dictionary, .recorder]
  | .fenceFreeze .. =>
    [.placement]
  | .fenceCopyDone .. =>
    [.outputs, .placement, .billing, .pair, .recorder]
  | .fenceCommit .. =>
    [.outputs, .drawn, .heat, .fabric, .queues, .memory, .placement, .line, .radio, .meters, .billing, .loss, .keys
     , .storage, .pair, .dictionary, .recorder]
  | .fenceAbandon .. =>
    [.outputs, .drawn, .heat, .fabric, .queues, .memory, .placement, .meters, .billing, .loss, .keys, .storage, .pair
     , .dictionary, .recorder]
  | .pathMoveCommit .. =>
    [.outputs, .drawn, .fabric, .queues, .memory, .placement, .line, .radio, .meters, .billing, .loss, .keys, .storage
     , .pair, .dictionary, .recorder]
  | .unroutedResolve .. =>
    [.drawn, .heat, .fabric, .queues, .memory, .placement, .pair, .dictionary, .recorder]
  | .unroutedTimeout .. =>
    [.drawn, .fabric, .queues, .pair, .dictionary, .recorder]
  | .lineFrameReceived .. =>
    [.outputs, .drawn, .heat, .fabric, .queues, .memory, .line, .meters, .tunnel, .loss, .pair, .dictionary, .recorder]
  | .joinRequest .. =>
    [.outputs, .fabric, .line, .meters, .pair, .dictionary, .recorder]
  | .toneMapResponse .. =>
    [.outputs, .line, .pair, .recorder]
  | .soundRequest .. | .blockHoldExpiry .. | .beaconPlan .. =>
    [.line]
  | .lineReceiptReceived .. =>
    [.outputs, .drawn, .fabric, .queues, .line, .pair, .recorder]
  | .responseWindowExpiry .. =>
    [.drawn, .fabric, .queues, .line, .recorder]
  | .lineSend .. =>
    [.drawn, .fabric, .queues, .line, .pair, .dictionary, .recorder]
  | .windowCycleOpen .. | .claimToneHeard .. =>
    [.outputs, .line]
  | .contentionSlot .. =>
    [.outputs, .fabric, .placement, .line, .pair, .dictionary, .recorder]
  | .lineTransmitEnd .. =>
    [.fabric, .queues, .line, .recorder]
  | .lineTagExpiry .. =>
    [.outputs, .line, .pair, .dictionary, .recorder]
  | .notchSetApply | .toneMapExpiry .. =>
    [.outputs, .fabric, .line, .pair, .recorder]
  | .zcEdge .. =>
    [.fabric, .line, .dictionary, .recorder]
  | .referenceCrossing .. =>
    [.fabric, .placement, .line, .loss, .dictionary, .recorder]
  | .linePilotTest .. =>
    [.outputs, .placement, .line, .dictionary, .recorder]
  | .lineBiasFault .. | .linePortRetest .. | .lineLaneStartingTimeout .. =>
    [.placement, .line, .dictionary, .recorder]
  | .lineCalibrationRequest .. | .configurationReset .. =>
    [.outputs, .fabric, .line, .keys, .pair, .dictionary, .recorder]
  | .calibrationStep .. =>
    [.outputs, .line, .dictionary, .recorder]
  | .calibrationTimeout .. =>
    [.line, .dictionary, .recorder]
  | .superframeStart .. =>
    [.outputs, .fabric, .queues, .memory, .placement, .radio, .meters, .keys, .pair, .dictionary, .recorder]
  | .spanReply .. | .broadcastSpan .. | .linkKeyRoll .. =>
    [.outputs, .fabric, .queues, .memory, .radio, .meters, .keys, .pair, .dictionary, .recorder]
  | .radioFrameReceived .. =>
    [.outputs, .heat, .fabric, .queues, .memory, .radio, .pair, .dictionary, .recorder]
  | .radioJoin .. =>
    [.outputs, .fabric, .queues, .memory, .radio, .meters, .pair, .dictionary, .recorder]
  | .downlinkStore .. =>
    [.drawn, .fabric, .queues, .radio, .pair, .dictionary, .recorder]
  | .downlinkExpiry .. =>
    [.fabric, .radio, .recorder]
  | .linkKeySwitch .. =>
    [.radio, .dictionary]
  | .linkKeyOldDestroy .. =>
    [.radio, .keys, .dictionary, .recorder]
  | .transceiverFault .. | .radioTxDone .. =>
    [.outputs, .fabric, .placement, .radio, .dictionary, .recorder]
  | .associationExpiry .. =>
    [.radio]
  | .enrol .. =>
    [.outputs, .fabric, .queues, .memory, .placement, .meters, .loss, .keys, .pair, .dictionary, .recorder]
  | .newKeyEpoch .. | .disconnect .. | .reconnect .. | .setTime .. | .readNow .. | .keyEpoch .. | .feederTag ..
  | .tariffActivate .. | .firmwareActivate .. | .laneJoin .. | .setReporting .. | .creditState .. =>
    [.outputs, .fabric, .queues, .memory, .meters, .keys, .pair, .dictionary, .recorder]
  | .retire .. =>
    [.outputs, .drawn, .fabric, .queues, .memory, .meters, .billing, .loss, .keys, .storage, .pair, .dictionary
     , .recorder]
  | .retirementComplete .. =>
    [.placement, .meters]
  | .keyEpochApply .. =>
    [.meters, .recorder]
  | .freezeStart .. | .freezeEnd .. =>
    [.meters]
  | .freezeWrite .. =>
    [.outputs, .drawn, .fabric, .memory, .meters, .billing, .loss, .storage, .pair, .dictionary, .recorder]
  | .commandReseal .. | .friendlyWindowEnd .. | .reconnectRetry .. =>
    [.outputs, .fabric, .queues, .memory, .meters, .pair, .dictionary, .recorder]
  | .commandExpired .. =>
    [.outputs, .fabric, .queues, .memory, .meters, .billing, .pair, .dictionary, .recorder]
  | .meterSilent .. =>
    [.fabric, .meters, .dictionary, .recorder]
  | .tunnelUplink .. =>
    [.outputs, .fabric, .queues, .memory, .meters, .tunnel, .loss, .pair, .dictionary, .recorder]
  | .tunnelKeepalive .. =>
    [.fabric, .tunnel, .dictionary, .recorder]
  | .tunnelDownlink .. =>
    [.fabric, .queues, .memory, .tunnel, .dictionary, .recorder]
  | .relaySilent .. =>
    [.placement, .tunnel, .recorder]
  | .tunnelStageMove .. =>
    [.heat, .fabric, .queues, .memory, .tunnel, .dictionary, .recorder]
  | .relayUplinkSend | .relayKeepaliveSend =>
    [.outputs, .tunnel, .dictionary, .recorder]
  | .billingFold .. =>
    [.outputs, .drawn, .heat, .fabric, .memory, .meters, .billing, .storage, .pair, .dictionary, .recorder]
  | .slotMapRewrite .. | .calendarApply .. =>
    [.outputs, .memory, .billing, .pair, .dictionary, .recorder]
  | .tariffSwitch .. =>
    [.billing, .dictionary, .recorder]
  | .demandIntervalEnd .. =>
    [.billing]
  | .coldStoreDrain .. =>
    [.drawn, .fabric, .queues, .memory, .meters, .billing, .storage, .pair, .dictionary, .recorder]
  | .periodClose .. =>
    [.outputs, .billing, .pair, .dictionary, .recorder]
  | .periodCloseRequest .. =>
    [.outputs, .fabric, .billing, .keys, .pair, .dictionary, .recorder]
  | .creditThreshold .. =>
    [.outputs, .drawn, .fabric, .queues, .memory, .meters, .billing, .pair, .dictionary, .recorder]
  | .meterEvent .. =>
    [.outputs, .drawn, .fabric, .queues, .memory, .radio, .meters, .billing, .pair, .dictionary, .recorder]
  | .prepayDisable .. =>
    [.outputs, .fabric, .queues, .meters, .keys, .pair, .dictionary, .recorder]
  | .meterReadout .. | .bulkReadout .. =>
    [.outputs, .drawn, .fabric, .queues, .memory, .meters, .billing, .keys, .storage, .pair, .dictionary, .recorder]
  | .readoutSigned .. =>
    [.outputs, .fabric, .billing, .keys, .dictionary, .recorder]
  | .snapshotOpen =>
    [.outputs, .fabric, .queues, .memory, .meters, .loss, .pair, .dictionary, .recorder]
  | .snapshotRequest .. | .membershipChange .. =>
    [.outputs, .fabric, .queues, .memory, .meters, .loss, .keys, .pair, .dictionary, .recorder]
  | .snapshotClose .. =>
    [.outputs, .drawn, .fabric, .queues, .memory, .meters, .loss, .pair, .dictionary, .recorder]
  | .indicatorClear .. =>
    [.outputs, .fabric, .memory, .meters, .keys, .pair, .dictionary, .recorder]
  | .feederRunningPower .. =>
    [.loss]
  | .enterService .. | .leaveService .. | .enterVoid .. | .restartRequest .. | .enterKeyed .. | .enterField .. =>
    [.outputs, .fabric, .keys, .pair, .dictionary, .boot, .recorder]
  | .rearmTimeStep .. | .hostTimeSet .. | .timeOutputArm .. =>
    [.outputs, .fabric, .keys, .clock, .pair, .dictionary, .recorder]
  | .cryptoKat .. | .cryptoRetest .. =>
    [.keys, .pair, .dictionary, .recorder]
  | .formatRequest .. =>
    [.outputs, .fabric, .billing, .keys, .storage, .pair, .dictionary, .recorder]
  | .ringLogWrite .. =>
    [.storage, .dictionary, .recorder]
  | .segmentSeal .. | .slcSegmentFold .. =>
    [.drawn, .storage, .dictionary, .recorder]
  | .segmentLate .. | .garbageCollection .. | .nandDieRemoved .. =>
    [.storage, .recorder]
  | .historyExpiry .. | .checkpointPage .. =>
    [.storage]
  | .storageRestore .. =>
    [.meters, .billing, .storage, .boot, .recorder, .power]
  | .historyPurge .. =>
    [.outputs, .fabric, .keys, .storage, .pair, .dictionary, .recorder]
  | .blockRetire .. | .nandOperationTimeout .. =>
    [.fabric, .billing, .storage, .pair, .dictionary, .recorder]
  | .ptpSync .. | .ptpFollowUp .. | .ptpDelayResp .. | .ptpPdelayResp .. | .ptpAnnounce .. | .sourceTimeout
  | .stepArmExpiry | .timeSourceChange =>
    [.clock, .dictionary, .recorder]
  | .ptpPdelayReq .. | .identify .. | .mailboxDoorbell .. =>
    [.outputs, .dictionary, .recorder]
  | .ptpSyncTransmit .. =>
    [.outputs, .clock, .dictionary, .recorder]
  | .ptpUnsupportedMessage .. | .tileHeartbeat .. | .primaryTileUnheard .. =>
    [.dictionary, .recorder]
  | .timeStep =>
    [.outputs, .fabric, .memory, .placement, .line, .radio, .billing, .clock, .pair, .dictionary, .recorder]
  | .slaveAlignment .. =>
    [.fabric, .clock, .recorder]
  | .rateUpdate =>
    [.drawn, .clock, .dictionary, .recorder]
  | .timeOutputPulse .. =>
    [.outputs, .clock, .dictionary]
  | .timeInCapture =>
    [.clock, .recorder]
  | .heartbeat .. | .repairRequest .. =>
    [.outputs, .drawn, .fabric, .memory, .meters, .keys, .pair, .dictionary, .recorder]
  | .mgmt .. =>
    [.outputs, .fabric, .compiler, .placement, .keys, .pair, .dictionary, .recorder]
  | .tunnel .. =>
    [.outputs, .fabric, .queues, .memory, .meters, .tunnel, .loss, .keys, .pair, .dictionary, .recorder]
  | .timeMessage .. =>
    [.outputs, .fabric, .memory, .placement, .line, .radio, .billing, .keys, .clock, .pair, .dictionary, .recorder]
  | .syncData .. =>
    [.outputs, .fabric, .compiler, .memory, .line, .radio, .meters, .billing, .keys, .pair, .dictionary, .recorder
     , .firmware]
  | .logData .. =>
    [.outputs, .fabric, .placement, .keys, .pair, .dictionary, .recorder]
  | .repairData .. =>
    [.outputs, .drawn, .heat, .fabric, .queues, .memory, .placement, .meters, .keys, .pair, .dictionary, .recorder]
  | .mirrorRepeat | .revert =>
    [.outputs, .pair, .recorder]
  | .batonCodeDecoded .. | .syncRestart =>
    [.pair, .dictionary, .recorder]
  | .batonDead =>
    [.pair, .recorder]
  | .pairStartWait | .syncFinalPause =>
    [.pair]
  | .resignation =>
    [.outputs, .drawn, .heat, .fabric, .queues, .memory, .placement, .line, .radio, .meters, .billing, .loss, .keys
     , .clock, .pair, .dictionary, .recorder]
  | .batonTake =>
    [.outputs, .drawn, .heat, .fabric, .compiler, .queues, .memory, .placement, .meters, .billing, .loss, .clock
     , .pair, .dictionary, .recorder]
  | .digestBinClose .. =>
    [.outputs, .pair, .dictionary, .recorder]
  | .openSession .. =>
    [.outputs, .drawn, .fabric, .memory, .keys, .dictionary, .recorder]
  | .readObject .. | .readWhole .. =>
    [.outputs, .fabric, .queues, .memory, .meters, .keys, .dictionary, .recorder]
  | .readSegment .. =>
    [.outputs, .fabric, .queues, .keys, .dictionary, .recorder]
  | .writeSegment .. | .objectWrite .. =>
    [.outputs, .drawn, .heat, .fabric, .compiler, .queues, .testWords, .memory, .placement, .line, .radio, .meters
     , .billing, .loss, .keys, .storage, .clock, .pair, .dictionary, .boot, .recorder, .firmware, .power]
  | .nop .. =>
    [.outputs, .fabric, .keys, .dictionary, .recorder]
  | .closeSession .. =>
    [.fabric, .keys, .dictionary, .recorder]
  | .sessionIdleTimeout .. | .halfOpenTimeout .. | .mailboxReset | .pcieLinkDown | .watchdogTimeout .. =>
    [.keys, .dictionary, .recorder]
  | .udxRequestTimeout .. =>
    [.outputs, .keys, .dictionary, .recorder]
  | .captureDiscard .. | .outRingReplyDiscard .. =>
    [.dictionary]
  | .arpRequest .. | .neighbourDiscovery .. | .icmpEcho .. =>
    [.outputs, .recorder]
  | .sysResetRelease .. | .sysResetAssert | .tamperEvent .. | .tamperCleared | .extest | .clampPins | .highz
  | .bypass .. | .powerFailClear =>
    [.heat, .fabric, .compiler, .queues, .testWords, .memory, .placement, .line, .radio, .meters, .tunnel, .billing
     , .loss, .keys, .storage, .clock, .pair, .dictionary, .boot, .recorder, .firmware, .pins, .power]
  | .fuseLoadDone .. | .dramInitStepDone .. | .bringUpStepTimeout =>
    [.dictionary, .boot, .recorder]
  | .scratchpadClearDone .. | .lanePowerUpDone .. =>
    [.dictionary, .boot]
  | .secureBootDone .. =>
    [.memory, .billing, .keys, .storage, .dictionary, .boot, .recorder, .firmware]
  | .tileEnumerationDone .. =>
    [.heat, .fabric, .dictionary, .boot, .recorder]
  | .sheetLoadDone .. =>
    [.outputs, .compiler, .memory, .billing, .clock, .pair, .dictionary, .boot, .recorder]
  | .ready =>
    [.outputs, .drawn, .heat, .fabric, .compiler, .queues, .memory, .placement, .line, .radio, .meters, .tunnel
     , .billing, .loss, .keys, .storage, .clock, .pair, .dictionary, .boot, .recorder]
  | .dramRequestTimeout .. =>
    [.memory, .pair, .dictionary, .recorder]
  | .dramRetrainDone .. | .coreHoldEnd .. | .eventPageWrite | .eventLogEraseDone =>
    [.recorder]
  | .tileRecoveryDelayExpiry .. =>
    [.heat, .fabric, .queues, .testWords, .memory, .line, .radio, .meters, .billing, .loss, .keys, .storage
     , .dictionary, .recorder]
  | .tileRecoveryDone .. =>
    [.outputs, .fabric, .compiler, .memory, .placement, .line, .radio, .keys, .pair, .dictionary, .boot, .recorder]
  | .eventRecord =>
    [.dictionary, .recorder, .power]
  | .counterLatch .. | .partitionCounterFault .. =>
    [.fabric, .recorder]
  | .stagingOpen .. | .imageBlock .. | .stagingVerify .. | .stagingAbort .. | .activate .. =>
    [.outputs, .fabric, .keys, .pair, .dictionary, .recorder, .firmware]
  | .verificationDone .. | .haltcode =>
    [.outputs, .heat, .fabric, .compiler, .queues, .testWords, .memory, .placement, .line, .radio, .meters, .tunnel
     , .billing, .loss, .keys, .storage, .clock, .pair, .dictionary, .boot, .recorder, .firmware, .pins, .power]
  | .activationResume .. =>
    [.memory, .keys, .dictionary, .boot, .recorder, .firmware]
  | .probationEnd =>
    [.boot, .recorder, .firmware]
  | .pairUpdateLimit =>
    [.outputs, .pair, .recorder, .firmware]
  | .campaignStart .. | .campaignCancel .. =>
    [.outputs, .fabric, .meters, .keys, .pair, .dictionary, .recorder, .firmware]
  | .campaignRound .. =>
    [.fabric, .queues, .memory, .meters, .dictionary, .recorder, .firmware]
  | .campaignActivate .. =>
    [.outputs, .fabric, .queues, .memory, .meters, .keys, .pair, .dictionary, .recorder, .firmware]
  | .campaignLimit .. =>
    [.fabric, .meters, .dictionary, .recorder, .firmware]
  | .readbackCompare .. =>
    [.dictionary, .recorder, .pins]
  | .polarityTry .. =>
    [.pair, .dictionary, .pins]
  | .phyStatusPoll .. =>
    [.outputs, .recorder, .pins]
  | .idcode =>
    [.outputs, .pins]
  | .samplePreload .. =>
    [.outputs, .drawn, .heat, .fabric, .compiler, .queues, .testWords, .memory, .placement, .line, .radio, .meters
     , .tunnel, .billing, .loss, .keys, .storage, .clock, .pair, .dictionary, .boot, .recorder, .firmware, .pins
     , .power]
  | .powerFailWarning =>
    [.outputs, .drawn, .heat, .fabric, .queues, .memory, .placement, .line, .meters, .billing, .loss, .storage, .clock
     , .pair, .dictionary, .recorder, .firmware, .power]
  | .holdupChange .. | .supplyRestored .. =>
    [.recorder, .power]
  | .supplyOutOfRange .. =>
    [.pair, .recorder, .power]
  | .pilotLightEnter .. =>
    [.outputs, .heat, .fabric, .keys, .pair, .dictionary, .recorder, .power]
  | .pilotLightEntryDone =>
    [.outputs, .drawn, .fabric, .queues, .testWords, .memory, .placement, .line, .radio, .meters, .billing, .loss
     , .keys, .storage, .clock, .pair, .dictionary, .recorder, .power]
  | .pilotLightWake .. =>
    [.outputs, .fabric, .keys, .pair, .dictionary, .recorder, .power]
  | .wakeAt | .wakeOnLineFrames | .wakeOnPerst =>
    [.dictionary, .power]
  | .wakeDone =>
    [.outputs, .heat, .fabric, .queues, .memory, .placement, .line, .radio, .meters, .billing, .keys, .pair
     , .dictionary, .recorder, .power]
  | .junctionSensorRead .. =>
    [.outputs, .drawn, .heat, .fabric, .memory, .line, .radio, .meters, .billing, .storage, .pair, .dictionary
     , .recorder, .power]
  | .thermalRecovery =>
    [.meters, .billing, .recorder, .power]
  | .powerEstimate =>
    [.drawn, .dictionary, .power]
  | .ptpDelayReqTransmit .. =>
    [.outputs, .clock, .recorder]
  | .ptpAnnounceReceiptTimeout =>
    [.clock, .dictionary]
  | .pcieConfigurationRequest =>
    [.outputs, .drawn, .dictionary]
  | .serdesLossOfSignal .. | .serdesBlockLock .. =>
    [.pair, .dictionary, .recorder, .pins]

/-- The MeterCommand submit that a command of the host to a meter stands for: its request, meter, code and parameters
(R330, R346). -/
def Instr.submitted : Instr → Option (Req × Nat × Nat × Octets)
  | .disconnect r m at_ => some (r, m, 1, be 4 at_)
  | .reconnect r m at_ arm => some (r, m, 2, be 4 at_ ++ be 1 arm)
  | .setTime r m sec ns mode => some (r, m, 3, be 4 sec ++ be 4 ns ++ be 1 mode)
  | .readNow r m set => some (r, m, 5, be 1 set)
  | .keyEpoch r m epoch => some (r, m, 6, be 2 epoch)
  | .feederTag r m tag => some (r, m, 7, be 2 tag)
  | .tariffActivate r m version at_ => some (r, m, 8, be 2 version ++ be 4 at_)
  | .firmwareActivate r m image at_ => some (r, m, 9, be 4 image ++ be 4 at_)
  | .laneJoin r m link epoch span phase logP sfn => some (r, m, 10,
      padTo 24 (link.take 24) ++ be 2 epoch ++ be 1 span ++ be 1 phase ++ be 1 logP ++ be 4 sfn)
  | .setReporting r m interval => some (r, m, 11, be 4 interval)
  | .creditState r m credit state => some (r, m, 12, be 8 credit ++ be 1 state)
  | _ => none

/-- The request a read or write of the dictionary stands for (R595). -/
def Instr.asked : Instr → Option (Req × Ask)
  | .readObject r index sub meter f =>
    some (r, { op := 1, flags := 128 * bit01 f, index := index, sub := sub, meter := meter })
  | .objectWrite r index sub meter data => some (r, writeAsk index sub meter data)
  | .readSegment r index sub meter offset f =>
    some (r, { op := 3, flags := 128 * bit01 f, index := index, sub := sub, meter := meter, offset := offset })
  | .writeSegment r index sub meter offset last data =>
    some (r, { op := 4, flags := 64 * bit01 last, index := index, sub := sub, meter := meter, offset := offset, data := data })
  | .readWhole r index meter f => some (r, { op := 5, flags := 128 * bit01 f, index := index, meter := meter })
  | _ => none

/-- The request is heard: it comes on an open transport, is not too long, is admitted from session x and repeats no other. -/
def Heard (s : State) (r : Req) (a : Ask) (x : Session) : Prop :=
  s.sessionOpen r.session = true ∧ s.tooLong r a = false ∧ (s.admits r a).session = some x ∧
    x.repeatOf s.elapsed r.tag = none

end Sys2Proof
end

