-- ==== Sys2Proof/Certificates/Slice0/Obligations.lean ====
section
/-! DEFINITION. The statements for the provers: what each command does to the state, clause by clause, with the conditions
under which it does it; the frame of every command; the invariant every step keeps. -/

open Sys2Proof Sys2Proof.Machine

/-- A command at the front of the queue is what a step runs, on the state with the queue's rest. -/
def Obligations.FrontOfQueue : Prop :=
  ∀ (s : State) (c : Instr) (rest : List Instr), s.pending = c :: rest → step s = exec c { s with pending := rest }

/-- The model's choice (log 2): with no command waiting a step is one cycle of the 125 MHz reference, which moves the
instant and the timebase on and nothing else. -/
def Obligations.IdleStep : Prop :=
  ∀ (s : State), s.pending = [] → ∃ t, step s = .next t ∧ t.elapsed = s.elapsed + 8 ∧ t.pending = [] ∧
    ∀ p : Part, p ≠ .elapsed → p ≠ .clock → p.same s t

/-- The state after reset (log 4): nothing has run, no meter is enrolled, no session is open, no key is held, every queue
and every memory is empty, and every object reads its default. -/
def Obligations.ResetState : Prop :=
  State.reset.pending = [] ∧ State.reset.boot.phase = 0 ∧ State.reset.heat.count = 0 ∧ State.reset.elapsed = 0 ∧
    State.reset.meters = [] ∧ State.reset.dict.sessions = [] ∧ State.reset.keys.slots = [] ∧ State.reset.compiler.sheet = none ∧
    State.reset.power.pilot = 0 ∧ State.reset.pair.state = 0 ∧ State.reset.update.state = 0 ∧ State.reset.Inv ∧
    (∀ tile pipe, (State.reset.pipe tile pipe).state = 0 ∧ (State.reset.pipe tile pipe).failed = false) ∧
    (∀ tile q, (State.reset.queue tile q).words = [] ∧ (State.reset.queue tile q).waiting = 0) ∧
    (∀ index sub, State.reset.objVal index sub = defaultVal index sub) ∧
    (∀ tile block index, State.reset.counter tile block index = 0)

/-- Every command answers a next state and leaves the queue of waiting commands to the step. -/
def Obligations.ExecAnswers : Prop :=
  ∀ (c : Instr) (s : State), ∃ t, exec c s = .next t ∧ t.pending = s.pending

/-- The memory of the ECC test words keeps its canonical form through every step, whatever the state and the command. -/
def Obligations.StepKeepsInv : Prop :=
  ∀ (s t : State), s.Inv → step s = .next t → t.Inv

/-- The frame of every command: each part of the unit outside the command's footprint is as it was. -/
def Obligations.CommandFootprint : Prop :=
  ∀ (c : Instr) (s : State), ∃ t, exec c s = .next t ∧ ∀ p : Part, p ∉ c.footprint → p.same s t

/-- The identification register of R717: its value for the parts of 2, 4 and 8 tiles, its four fields, and IDCODE, which
shifts it out. -/
def Obligations.IdentificationRegister : Prop :=
  idcodeOf 2 = 0x1C702B47 ∧ idcodeOf 4 = 0x1C704B47 ∧ idcodeOf 8 = 0x1C708B47 ∧
  (∀ n, n = 2 ∨ n = 4 ∨ n = 8 → field (idcodeOf n) 31 28 = 1 ∧ field (idcodeOf n) 27 12 = 0xC700 + n ∧
    field (idcodeOf n) 11 1 = 0x5A3 ∧ field (idcodeOf n) 0 0 = 1) ∧
  (∀ (s : State), ∃ t, exec .idcode s = .next t ∧ Sends s t (.pulse 40 0) (be 4 (idcodeOf s.nTiles)))

/-- IDENTIFY of R590: the answer, its fields in order, for any sessions and for any state of a pair. -/
def Obligations.IdentityAnswer : Prop :=
  ∀ (s : State) (p : Nat), s.portOpen p = true → s.hasRoom p →
    ∃ t, exec (.identify p) s = .next t ∧ t.dict.sessions = s.dict.sessions ∧ t.pair = s.pair ∧
      Sends s t (.udx p) (onTransport p (clearUdx 2 0 0 (be 8 Config.unitId.toNat ++ be 1 s.nTiles ++ be 1 s.boot.lifeCycle ++
        be 1 s.pair.state ++ (be 2 Config.siliconStep.length ++ Config.siliconStep))))

/-- The meter number of a request, R580: 0 is refused, a meter that is not enrolled has no answer but NO_METER unless 0xC000
is written, and a number given to an object of the unit is malformed. Each is said of a request that passes the other checks. -/
def Obligations.MeterNumberField : Prop :=
  (∀ (c : Instr) (s : State) (r : Req) (x : Session) (a : Ask) (m : Nat), c.asked = some (r, a) → Heard s r a x →
    s.hasRoom x.transport → meterScoped a.index = true → a.meter = 0 → s.meter? 0 = none → m ≠ 0 →
    (s.taken r a).checkAsk x { a with meter := m } = none →
    ∃ t, exec c s = .next t ∧ Replies s t x a r.tag (replyOf Status.refused) ∧ t.meters = s.meters) ∧
  (∀ (c : Instr) (s : State) (r : Req) (x : Session) (a : Ask) (m : Nat), c.asked = some (r, a) → Heard s r a x →
    s.hasRoom x.transport → meterScoped a.index = true → a.meter ≠ 0 → s.meter? a.meter = none →
    (a.index ≠ 0xC000 ∨ (a.op ≠ 2 ∧ a.op ≠ 4)) → m ≠ 0 → (s.taken r a).checkAsk x { a with meter := m } = none →
    ∃ t, exec c s = .next t ∧ Replies s t x a r.tag (replyOf Status.noMeter) ∧ t.meters = s.meters) ∧
  (∀ (c : Instr) (s : State) (r : Req) (x : Session) (a : Ask) (m : Nat), c.asked = some (r, a) → Heard s r a x →
    a.index = 0xC000 → (a.op = 2 ∨ a.op = 4) → a.meter ≠ 0 → s.meter? a.meter = none → m ≠ 0 →
    (s.taken r a).checkAsk x { a with meter := m } = none → Asks s r a x) ∧
  (∀ (c : Instr) (s : State) (r : Req) (x : Session) (a : Ask), c.asked = some (r, a) → Heard s r a x →
    s.hasRoom x.transport → meterScoped a.index = false → a.meter ≠ 0 →
    (s.taken r a).checkAsk x { a with meter := 0 } = none →
    ∃ t, exec c s = .next t ∧ Replies s t x a r.tag (replyOf Status.malformed) ∧ t.meters = s.meters)

/-- The pacer slot with its known answers, the cipher test, the march and the pipeline states (from R89 to R94; the model's
choices: log 71, 72): what a slot that passes leaves and what a failure does; a failure of an earlier heat takes the
pipeline out at a heat boundary, for good until it is released at its third in 24 h. -/
def Obligations.PipelineTests : Prop :=
  (∀ (s : State) (tile pipe item : Nat), s.testRuns tile pipe = true → s.root 15 = pacerKey →
    (s.pipe tile pipe).record = pacerRecord → s.firstBad tile (pacerWords pipe) = none →
    ∃ t, exec (.pacerSlot tile pipe true item) s = .next t ∧ (t.pipe tile pipe).pacer = pacerAnswer ∧
      (t.pipe tile pipe).record = pacerRecord ∧
      (t.pipe tile pipe).pacerHeat = s.heat.count + 1 ∧ (t.pipe tile pipe).failed = (s.pipe tile pipe).failed ∧
      ((s.pipe tile pipe).katHeat = s.heat.count + 1 → (s.pipe tile pipe).countedHeat = s.heat.count →
        (t.pipe tile pipe).passes = (s.pipe tile pipe).passes + 1) ∧
      t.counter tile pipe 15 = satAdd 40 (s.counter tile pipe 15) 1) ∧
  (∀ (s : State) (tile pipe item i : Nat) (good : Bool), s.testRuns tile pipe = true →
    (if good then (s.pacerReading tile pipe).1.differs pacerAnswer else some item) = some i →
    ∃ t, exec (.pacerSlot tile pipe good item) s = .next t ∧ (t.pipe tile pipe).failed = true ∧
      (t.pipe tile pipe).passes = 0 ∧ Offers s t 0xE100 tile [tile, pipe, i]) ∧
  (∀ (s : State) (tile pipe : Nat), s.testRuns tile pipe = true → s.katPipe tile pipe = true →
    ∃ t, exec (.cipherKatSlot tile pipe false) s = .next t ∧ (t.pipe tile pipe).failed = true ∧
      (t.pipe tile pipe).passes = 0 ∧ Offers s t 0xE101 tile [tile, pipe]) ∧
  (∀ (s : State) (tile pipe : Nat), s.testRuns tile pipe = true → s.katPipe tile pipe = true →
    ∃ t, exec (.cipherKatSlot tile pipe true) s = .next t ∧ (t.pipe tile pipe).katHeat = s.heat.count + 1 ∧
      (t.pipe tile pipe).failed = (s.pipe tile pipe).failed ∧
      ((s.pipe tile pipe).pacerHeat = s.heat.count + 1 → (s.pipe tile pipe).countedHeat = s.heat.count →
        (t.pipe tile pipe).passes = (s.pipe tile pipe).passes + 1)) ∧
  (∀ (s : State) (tile : Nat) (good : Bool), s.testRuns tile 0 = true → s.marchDue tile = true →
    ∃ t, exec (.marchStep tile good) s = .next t ∧ Tab.getD t.fabric.marchHeat tile 0 = s.heat.count + 1 ∧
      Tab.getD t.fabric.marchAt tile 0 =
        (if Tab.getD s.fabric.marchAt tile 0 + 1 < scratchWords then Tab.getD s.fabric.marchAt tile 0 + 1 else 0) ∧
      t.obj 0x2012 3 = (if good then s.obj 0x2012 3 else satAdd 64 (s.obj 0x2012 3) 1) ∧
      (good = false → Offers s t 0xE102 tile [tile, (bankRow (Tab.getD s.fabric.marchAt tile 0)).1,
        (bankRow (Tab.getD s.fabric.marchAt tile 0)).2])) ∧
  (∀ (s : State) (tile pipe : Nat), tile < s.nTiles → s.onBoundary = true → s.faultDue tile pipe = true →
    (s.pipe tile pipe).state = 0 →
    ∃ t, exec (.pipelineFault tile pipe) s = .next t ∧
      (t.pipe tile pipe).state = (if (recentFaults (s.pipe tile pipe) s.elapsed).length < 2 then 1 else 2) ∧
      (t.pipe tile pipe).failed = false ∧ (t.pipe tile pipe).passes = 0 ∧ t.place.passDue = true ∧
      Offers s t 0xE103 tile [tile, pipe, (t.pipe tile pipe).state]) ∧
  (∀ (s : State) (tile pipe : Nat), tile < s.nTiles → (s.pipe tile pipe).mayReturn = true →
    ∃ t, exec (.pipelineRestore tile pipe) s = .next t ∧ (t.pipe tile pipe).state = 0 ∧ t.place.passDue = true ∧
      Offers s t 0xE104 tile [tile, pipe])

/-- The ring: transfers in the slots the sheet reserves, their one repeat, retrains (from R29, R31, R32, R116, R141, R642). -/
def Obligations.RingTransfers : Prop :=
  (∀ (s : State) (src dst : Nat) (inbound : Bool) (pk : List (Word × Byte)), src < s.nTiles → dst < s.nTiles → src ≠ dst →
    s.slotLeft src dst inbound = true → s.routeUp (s.slotRoute src dst inbound) = true →
    (Tab.getD s.recorder.health dst {}).state = 0 → s.reads src ((if inbound then 0x78 else 0x80) + dst) Producer.ringRouter.code pk →
    ∃ t, exec (.ringSlotTransfer src dst inbound) s = .next t ∧
      t.heat.transfers = s.heat.transfers ++ [{
        src := src, dst := dst, staging := (if inbound then 0x78 else 0x80) + dst,
        queue := if inbound then (Tab.getD s.heat.stagedGroups (src * 8 + dst) []).getD (s.queue src (0x78 + dst)).held.toNat 0
          else transmitQueue (field (packetHead pk) 63 56),
        start := (s.queue src ((if inbound then 0x78 else 0x80) + dst)).readPos, route := s.slotRoute src dst inbound,
        words := pk }] ∧
      (t.queue src ((if inbound then 0x78 else 0x80) + dst)).words =
        (s.queue src ((if inbound then 0x78 else 0x80) + dst)).words ∧
      t.slotsUsed src dst inbound = s.slotsUsed src dst inbound + 1) ∧
  (∀ (s : State) (src dst : Nat) (x : Transfer) (r : List Transfer), s.awake = true →
    takeTransfer src dst s.heat.transfers = some (x, r) → queueKey src x.staging ≠ queueKey dst x.queue →
    (x.queue ≤ 0x60 ∨ s.portDisabled (field (packetHead x.words) 63 56) = false) →
    s.takes dst x.queue .ringRouter x.words.length →
    ∃ t, exec (.ringTransferReceived src dst true) s = .next t ∧ t.heat.transfers = r ∧
      (t.queue dst x.queue).words = (s.queue dst x.queue).words ++ x.words ∧
      (t.queue dst x.queue).waiting = (s.queue dst x.queue).waiting + 1) ∧
  (∀ (s : State) (src dst : Nat) (x : Transfer) (r : List Transfer), s.awake = true →
    takeTransfer src dst s.heat.transfers = some (x, r) → x.failures = 0 →
    ∃ t, exec (.ringTransferReceived src dst false) s = .next t ∧ t.heat.transfers = { x with failures := 1 } :: r ∧
      t.queues = s.queues) ∧
  (∀ (s : State) (src dst : Nat) (x : Transfer) (r : List Transfer), s.awake = true →
    takeTransfer src dst s.heat.transfers = some (x, r) → x.failures ≠ 0 →
    ∃ t, exec (.ringTransferReceived src dst false) s = .next t ∧ t.heat.transfers = r ∧
      (t.link (x.route.getLastD 1)).dropped = (s.link (x.route.getLastD 1)).dropped + 1 ∧
      Offers s t 0xE081 dst [src, dst, x.queue]) ∧
  (∀ (s : State) (link direction : Nat), s.awake = true → (s.link link).state = 3 →
    ∃ t, exec (.ringCreditTimeout link direction) s = .next t ∧ (t.link link).state = 2 ∧
      (t.link link).retrains = (s.link link).retrains + 1 ∧ (∀ y ∈ t.heat.transfers, link ∉ y.route) ∧
      Offers s t 0xE080 (link - 1) [min (link - 1) (link % s.nTiles), direction]) ∧
  (∀ (s : State) (link : Nat) (good : Bool), s.awake = true → (s.link link).state = 2 →
    ∃ t, exec (.ringRetrainDone link good) s = .next t ∧ (t.link link).state = (if good then 3 else 1) ∧
      t.heat.transfers = s.heat.transfers) ∧
  (∀ (s : State) (link : Nat), s.awake = true → (s.link link).state = 1 → s.due (s.link link).retrainAt 1000000 = true →
    ∃ t, exec (.ringRetrainRetry link) s = .next t ∧ (t.link link).state = 2)

/-- The clock monitors: a mean out of range is a fault, which stops the tile's slots where it is the pace, ring or REFCLK25
domain, and ends at a heat boundary once the domain has been in range for 1 ms (from R35, R36; the model's choices: log 61).
-/
def Obligations.ClockMonitors : Prop :=
  (∀ (s : State) (tile domain mean : Nat), s.clockRuns tile domain = true → inRange domain mean = true →
    (s.monitor tile domain).fault = false → exec (.clockMonitorMeasure tile domain mean) s = .next s) ∧
  (∀ (s : State) (tile domain mean : Nat), s.clockRuns tile domain = true → inRange domain mean = false →
    ∃ t, exec (.clockMonitorMeasure tile domain mean) s = .next t ∧ (t.monitor tile domain).fault = true ∧
      (t.monitor tile domain).inRangeSince = none ∧ tile ∈ t.heat.faultSeen ∧
      ((s.monitor tile domain).fault = false → Offers s t 0xE082 tile [tile, domain])) ∧
  (∀ (s : State) (tile domain mean : Nat), s.clockRuns tile domain = true → inRange domain mean = true →
    (s.monitor tile domain).fault = true → (s.monitor tile domain).inRangeSince = none →
    ∃ t, exec (.clockMonitorMeasure tile domain mean) s = .next t ∧ (t.monitor tile domain).fault = true ∧
      (t.monitor tile domain).inRangeSince = some s.elapsed) ∧
  (∀ (s : State) (tile mean : Nat), s.heat.refclkLost = true → s.heat.refclkSince = none → inRange refclkDomain mean = true →
    ∃ t, exec (.clockMonitorMeasure tile refclkDomain mean) s = .next t ∧ t.heat.refclkLost = true ∧
      t.heat.refclkSince = some s.elapsed) ∧
  (∀ s : State,
    ∃ t, exec .refclkLoss s = .next t ∧ t.heat.refclkLost = true ∧ t.heat.refclkSince = none ∧
      (s.heat.refclkLost = false → Offers s t 0xE082 packageWide [packageWide, refclkDomain])) ∧
  (∀ (s : State) (tile : Nat), s.onBoundary = true → s.refclkCalm = true →
    ∃ t, exec (.clockMonitorClear tile refclkDomain) s = .next t ∧ t.heat.refclkLost = false ∧
      Offers s t 0xE083 packageWide [packageWide, refclkDomain]) ∧
  (∀ (s : State) (tile domain : Nat), domain ≠ refclkDomain → s.onBoundary = true → s.monitorCalm tile domain = true →
    ∃ t, exec (.clockMonitorClear tile domain) s = .next t ∧ (t.monitor tile domain).fault = false ∧
      Offers s t 0xE083 tile [tile, domain]) ∧
  (∀ (s : State) (tile pipe k : Nat),
    ((s.monitor tile 0).fault = true ∨ (s.monitor tile 2).fault = true ∨ s.heat.refclkLost = true) →
    ∃ t, exec (.inboundSlot tile pipe k) s = .next t ∧ t.queues = s.queues ∧ t.meters = s.meters)

/-- The queue block: an open granted, one that waits, a write under its ticket, an END word, a late write, the completion
timeout; the forwarder: a received frame of a LIVE route reaches its meter's inbound queue on its home tile, a move refused
is tried again (from R138, R150 to R157, R202; the model's choices: log 13, 62, 64). -/
def Obligations.QueueWriters : Prop :=
  (∀ (s : State) (tile q producer words : Nat) (p : Producer), s.awake = true → producerOf producer = some p →
    tile < s.nTiles → q < 256 → isProducer q p = true → words ≤ packetLimit q → (s.queue tile q).openBy = none →
    (s.queue tile q).waiters = [] → (s.queue tile q).fits (s.capacity tile q) words = true →
    ∃ t, exec (.queueOpen tile q producer words) s = .next t ∧ (t.queue tile q).openBy = some (p, words) ∧
      (t.queue tile q).openAnswer = 0 ∧ (t.queue tile q).openPos = (s.queue tile q).writePos ∧
      (t.queue tile q).words = (s.queue tile q).words) ∧
  (∀ (s : State) (tile q producer words : Nat) (p : Producer), s.awake = true → producerOf producer = some p →
    tile < s.nTiles → q < 256 → isProducer q p = true → words ≤ packetLimit q →
    ((s.queue tile q).openBy.isSome = true ∨ (s.queue tile q).waiters ≠ []) →
    ∃ t, exec (.queueOpen tile q producer words) s = .next t ∧ (t.queue tile q).waiters =
      waitIn { producer := p, words := words, at_ := s.elapsed, packet := [] } (s.queue tile q).waiters ∧
      (t.queue tile q).openAnswer = 1) ∧
  (∀ (s : State) (tile q : Nat) (w : Waiter) (r : List Waiter), s.awake = true → (s.queue tile q).openBy = none →
    (s.queue tile q).waiters = w :: r → (w.packet = [] ∨ w.producer.keeps = true) → w.words ≤ packetLimit q →
    (s.queue tile q).fits (s.capacity tile q) w.words = true →
    ∃ t, exec (.queueOpenGrant tile q) s = .next t ∧ (t.queue tile q).openBy = some (w.producer, w.words) ∧
      (t.queue tile q).waiters = r) ∧
  (∀ (s : State) (tile q : Nat) (w : Waiter), s.awake = true → (s.queue tile q).openBy = none →
    (s.queue tile q).waiters = [w] → w.packet ≠ [] → w.producer.keeps = false →
    (s.queue tile q).fits (s.capacity tile q) w.packet.length = true →
    s.barredWord tile q w.producer w.packet.length = none →
    ∃ t, exec (.queueOpenGrant tile q) s = .next t ∧ (t.queue tile q).words = (s.queue tile q).words ++ w.packet ∧
      (t.queue tile q).waiters = []) ∧
  (∀ (s : State) (tile q ticket word tag reserved : Nat) (p : Producer), s.awake = true →
    (s.queue tile q).openBy = some (p, reserved) → ticket = (s.queue tile q).generation.toNat →
    ((s.queue tile q).writePos - (s.queue tile q).openPos).toNat < reserved → (s.writeAccess tile q p).1 = true →
    ∃ t, exec (.queueWrite tile q ticket word tag) s = .next t ∧
      (t.queue tile q).words = (s.queue tile q).words ++ [(BitVec.ofNat 64 word, writtenTag (BitVec.ofNat 8 tag))] ∧
      (t.queue tile q).writePos = (s.queue tile q).writePos + 1 ∧
      ((writtenTag (BitVec.ofNat 8 tag)).getLsbD 6 = true → (t.queue tile q).openBy = none ∧
        (t.queue tile q).waiting = (s.queue tile q).waiting + 1 ∧
        (t.queue tile q).completePos = (s.queue tile q).writePos + 1) ∧
      ((writtenTag (BitVec.ofNat 8 tag)).getLsbD 6 = false → (t.queue tile q).openBy = some (p, reserved) ∧
        (t.queue tile q).completePos = (s.queue tile q).completePos)) ∧
  (∀ (s : State) (tile q ticket word tag : Nat), s.awake = true → (s.queue tile q).openBy = none →
    ∃ t, exec (.queueWrite tile q ticket word tag) s = .next t ∧ t.queues = s.queues ∧
      t.counter tile 9 4 = satAdd 40 (s.counter tile 9 4) 1) ∧
  (∀ (s : State) (tile q : Nat), s.awake = true → (s.queue tile q).openBy.isSome = true →
    (s.queue tile q).openedAt + s.packetTimeout < s.elapsed →
    ∃ t, exec (.queuePacketTimeout tile q) s = .next t ∧ (t.queue tile q).openBy = none ∧
      (t.queue tile q).writePos = (s.queue tile q).openPos ∧
      (t.queue tile q).generation = (s.queue tile q).generation + 1) ∧
  (∀ (s : State) (tile q : Nat) (pk : List (Word × Byte)) (r : Route), s.awake = true → tile < s.nTiles →
    forwarderSource q = true → 0x30 ≤ q → s.pair.state = 0 → s.tunnel.relayMode = false →
    s.reads tile q Producer.forwarder.code pk → s.holdsLeft tile (packetMeter pk) = false →
    s.route? tile (packetMeter pk) = some r → r.state = 0 → r.home = tile → r.group ≠ q →
    r.group < 256 → s.takes tile r.group .forwarder pk.length →
    ∃ t, exec (.forwardPacket tile q) s = .next t ∧ (t.queue tile r.group).words = (s.queue tile r.group).words ++ pk ∧
      (t.queue tile q).waiting = (s.queue tile q).waiting - 1 ∧
      t.route? tile (packetMeter pk) = some { r with heardAt := s.elapsed }) ∧
  (∀ (s : State) (tile q : Nat) (pk : List (Word × Byte)) (r : Route), s.awake = true →
    s.queues.retry.contains (queueKey tile q) = true →
    0x30 ≤ q → q < 256 → q ≠ 0xA0 → s.tunnel.relayMode = false → s.reads tile q Producer.forwarder.code pk →
    s.holdsLeft tile (packetMeter pk) = false → s.route? tile (packetMeter pk) = some r → r.state = 0 → r.home = tile → r.group ≠ q → r.group < 256 →
    s.takes tile r.group .forwarder pk.length →
    ∃ t, exec (.forwarderRetry tile q) s = .next t ∧ (t.queue tile r.group).words = (s.queue tile r.group).words ++ pk ∧
      queueKey tile q ∉ t.queues.retry)

/-- Bank power, the wipe of zone S, the merge buffer, the scrubbers, hot records set aside and rebuilt (from R86, R175 to
R179, R184, R185, R193, R380; the model's choices: log 14, 38). -/
def Obligations.MemoryUpkeep : Prop :=
  (∀ (s : State) (tile bank : Nat), s.onBoundary = true → (s.bank tile bank).power = 3 →
    (s.bank tile bank).wakeHeat + (s.bank tile bank).wakeHeats ≤ s.heat.count →
    ∃ t, exec (.bankWakeDone tile bank) s = .next t ∧ (t.bank tile bank).power = 0 ∧
      ((s.bank tile bank).clear = true → ∀ y ∈ t.meters, y.home = tile → ∀ w ∈ y.wordsIn bank, y.word w = 0)) ∧
  (∀ (s : State) (tile cause start : Nat), Tab.find? s.mem.wiping tile = some (cause, start) →
    ∃ t, exec (.secureWipeDone tile) s = .next t ∧ Tab.find? t.mem.wiping tile = none ∧
      Offers s t 0xE286 tile [cause, (s.elapsed - start) / 1000]) ∧
  (∀ (s : State) (tile address : Nat) (e : MergeEntry), (s.mergeOf tile).find? (fun e => e.address == address) = some e →
    s.due e.at_ 2000 = true → s.dramHeld tile = false →
    ∃ t, exec (.mergeEntryTimeout tile address) s = .next t ∧ (∀ e' ∈ t.mergeOf tile, e'.address ≠ address) ∧
      (∀ e' ∈ s.mergeOf tile, e'.address ≠ address → e' ∈ t.mergeOf tile)) ∧
  (∀ (s : State) (tile : Nat), s.awake = true →
    ∃ t, exec (.scratchScrub tile) s = .next t ∧ Tab.getD t.mem.scratchNext tile 0 =
      (let e := Tab.getD s.mem.scratchNext tile 0 + min (s.obj 0x6830 1) (scratchWords - Tab.getD s.mem.scratchNext tile 0);
       if e < scratchWords then e else 0)) ∧
  (∀ (s : State) (tile : Nat), s.awake = true → s.dramHeld tile = false →
    ∃ t, exec (.dramScrub tile) s = .next t ∧ Tab.getD t.mem.dramNext tile 0 =
      (let e := Tab.getD s.mem.dramNext tile 0 + min (s.obj 0x6830 2) (s.dramLapWords tile - Tab.getD s.mem.dramNext tile 0);
       if e < s.dramLapWords tile then e else 0)) ∧
  (∀ (s : State) (tile pipe : Nat) (pk : List (Word × Byte)), s.awake = true → pipe < 8 →
    (∀ p < 8, p ≠ pipe → (s.queue tile (0x38 + p)).waiting = 0) → s.reads tile (0x38 + pipe) Producer.management.code pk →
    field (packetHead pk) 15 8 = 3 → regionOf (fieldAt (s.eventBody pk) 0 4) = 0 →
    ∃ t, exec (.quarantineOnEcc tile) s = .next t ∧
      Offers s t 0xE105 tile [tile, pipe, packetHead pk % 256, field (packetHead pk) 63 32] ∧
      t.meters.length = s.meters.length ∧ ∀ y ∈ t.meters, y.home = tile →
        y.record = (fieldAt (s.eventBody pk) 0 4 - 0x100000) / 16 → y.eccQuarantine = true) ∧
  (∀ (s : State) (tile : Nat) (e : Nat × Nat × Nat), s.awake = true → (∀ p < 8, (s.queue tile (0x38 + p)).waiting = 0) →
    s.fabric.eccSeen.find? (fun e => e.1 == tile) = some e → regionOf e.2.1 = 0 →
    ∃ t, exec (.quarantineOnEcc tile) s = .next t ∧ t.fabric.eccSeen.length + 1 = s.fabric.eccSeen.length ∧
      t.meters.length = s.meters.length ∧
      ∀ y ∈ t.meters, y.home = tile → y.record = (e.2.1 - 0x100000) / 16 → y.eccQuarantine = true) ∧
  (∀ (s : State) (meter : Nat) (x : Meter), s.awake = true → s.meter? meter = some x → x.eccQuarantine = true →
    ∃ t, exec (.hotRecordRebuild meter) s = .next t ∧ (∀ y ∈ t.meters, y.number = meter → y.eccQuarantine = false) ∧
      Offers s t 0xE106 x.home [x.number])

/-- Flip-masks and the test area: what each command of 0x6820, 0x6821 and 0x6822 does once its write reaches the object
(from R191, R192; the model's choices: log 37, 67, 69). -/
def Obligations.EccTestFacility : Prop :=
  (∀ (s : State) (r : Req) (x : Session) (cls value : Nat), cls ≠ 1 → value % 256 ≠ 0 →
    Writes s r 0x6820 5 0 (be 1 value) x → s.maskNames s.scratchMask false = true → s.mayArm s.scratchMask false = true →
    ∃ t, exec (.flipMaskArm r cls value) s = .next t ∧ t.mem.scratchFlip = some s.scratchMask) ∧
  (∀ (s : State) (r : Req) (x : Session) (value : Nat), value % 256 ≠ 0 → Writes s r 0x6821 4 0 (be 1 value) x →
    s.maskNames (s.dramMask (value % 256)) true = true → s.mayArm (s.dramMask (value % 256)) true = true →
    ∃ t, exec (.flipMaskArm r 1 value) s = .next t ∧ t.mem.dramFlip = some (s.dramMask (value % 256))) ∧
  (∀ (s : State) (r : Req) (x : Session) (cls : Nat), cls ≠ 1 → Writes s r 0x6820 5 0 (be 1 0) x →
    ∃ t, exec (.flipMaskDisarm r cls) s = .next t ∧ t.mem.scratchFlip = none ∧ t.mem.dramFlip = s.mem.dramFlip) ∧
  (∀ (s : State) (r : Req) (x : Session), Writes s r 0x6821 4 0 (be 1 0) x →
    ∃ t, exec (.flipMaskDisarm r 1) s = .next t ∧ t.mem.dramFlip = none ∧ t.mem.scratchFlip = s.mem.scratchFlip) ∧
  (∀ (s : State) (r : Req) (x : Session), Writes s r 0x6822 5 0 (be 1 1) x → s.testNames = true →
    s.testAccess.1 = true →
    ∃ t, exec (.eccTestWrite r) s = .next t ∧
      t.mem.test = memWrites s.mem.test (testAddress (s.obj 0x6822 1) (s.obj 0x6822 2) (s.obj 0x6822 3))
        (slice (s.objOct 0x6822 4) 0 (testBytes (s.obj 0x6822 2)))) ∧
  (∀ (s : State) (r : Req) (x : Session), Writes s r 0x6822 5 0 (be 1 2) x → s.testNames = true →
    s.testAccess.1 = true →
    ∃ t, exec (.eccTestRead r) s = .next t ∧ t.mem.test = s.mem.test ∧
      (s.testLost (s.obj 0x6822 1) (s.obj 0x6822 2) (s.obj 0x6822 3) = false →
        Tab.getD s.mem.errors (errorKey (3 + s.obj 0x6822 2) (s.obj 0x6822 1) (s.obj 0x6822 3)) 0 = 0 →
        t.obj 0x6822 6 = 0 ∧ t.mem.errors = s.mem.errors ∧
        t.objOct 0x6822 4 = padTo 32 (memReads s.mem.test
          (testAddress (s.obj 0x6822 1) (s.obj 0x6822 2) (s.obj 0x6822 3)) (testBytes (s.obj 0x6822 2)))))

/-- The store of ECC_TEST_WRITE, byte for byte: the word it names holds the data of 0x6822.04, every other byte of the test
memory reads as before (from R192). -/
def Obligations.EccTestStoreBytes : Prop :=
  ∀ (s : State) (r : Req) (x : Session), s.Inv → Writes s r 0x6822 5 0 (be 1 1) x → s.testNames = true →
    s.testAccess.1 = true →
    ∃ t, exec (.eccTestWrite r) s = .next t ∧
      (∀ i, i < testBytes (s.obj 0x6822 2) →
        memRead t.mem.test (testAddress (s.obj 0x6822 1) (s.obj 0x6822 2) (s.obj 0x6822 3) + i) =
          (slice (s.objOct 0x6822 4) 0 (testBytes (s.obj 0x6822 2))).getD i 0) ∧
      (∀ a, (a < testAddress (s.obj 0x6822 1) (s.obj 0x6822 2) (s.obj 0x6822 3) ∨
          testAddress (s.obj 0x6822 1) (s.obj 0x6822 2) (s.obj 0x6822 3) + testBytes (s.obj 0x6822 2) ≤ a) →
        memRead t.mem.test a = memRead s.mem.test a)

/-- The heat compiler: what starts a build, what ends it, the arming of a swap (from R103 to R107, R118 to R120, R124, R125;
the model's choices: log 14, 48, 74, 86). -/
def Obligations.HeatSheetBuilds : Prop :=
  (∀ (s : State) (r : Req) (x : Session), Writes s r 0x2100 1 0 (be 1 1) x → s.pair.plan = none →
    s.update.activating = false → s.compiler.run = none →
    ∃ t b, exec (.commitBuild r) s = .next t ∧ t.compiler.run = some b ∧ b.kind = 0 ∧ b.trigger = 1 ∧ b.phase = 1 ∧
      b.sequence = s.obj 0x2100 5 + 1 ∧ b.inputs = s.pendingInputs.vals) ∧
  (∀ (s : State) (r : Req) (x : Session), Writes s r 0x2100 1 0 (be 1 2) x → s.pair.plan = none →
    s.update.activating = false → s.compiler.run = none →
    ∃ t b, exec (.commitCheck r) s = .next t ∧ t.compiler.run = some b ∧ b.kind = 1 ∧ b.phase = 1 ∧
      b.sequence = s.obj 0x2100 5 + 1) ∧
  (∀ (s : State) (trigger tile : Nat), s.partRuns = true → s.compiler.run = none → s.triggerHolds trigger = true →
    ∃ t b, exec (.internalBuild trigger tile) s = .next t ∧ t.compiler.run = some b ∧ b.kind = 2 ∧ b.trigger = trigger ∧
      b.phase = 1 ∧ b.sequence = s.sheetSequence ∧ b.inputs = inForce.vals ∧ Offers s t 0xE185 tile [trigger, tile]) ∧
  (∀ (s : State) (b : Build) (d : Nat), s.awake = true → s.compiler.run = some b → b.phase = 1 →
    s.buildVerdict b.from s.offPipes = (0, d) →
    ∃ t b', exec .buildDone s = .next t ∧ t.compiler.run = some b' ∧ b'.phase = 2 ∧ b'.kind = b.kind ∧
      b'.off = s.offPipes ∧ b'.digest = sha256 b'.image ∧
      b'.signature = ecdsaSign (ofBe (s.keyMaterial 3)) (sha256 b'.image)) ∧
  (∀ (s : State) (b : Build) (reason d : Nat), s.awake = true → s.compiler.run = some b → b.phase = 1 → b.kind = 0 →
    b.combined = false → s.buildVerdict b.from s.offPipes = (reason, d) → reason ≠ 0 →
    ∃ t, exec .buildDone s = .next t ∧ t.obj 0x2100 3 = reason ∧ t.obj 0x2100 4 = d ∧ t.compiler.sheet = s.compiler.sheet ∧
      (s.compiler.waiting = none → t.compiler.run = none)) ∧
  (∀ (s : State) (tile claim : Nat) (b : Build), s.compiler.run = some b → b.phase = 2 → b.kind = 2 → b.combined = false →
    tile < s.nTiles → s.managed tile = true → s.loaderHolds b tile = true → (∀ u < s.nTiles, u ≠ tile → b.reports.contains u = true) →
    ∃ t b', exec (.loaderCheckReport tile true claim) s = .next t ∧ t.compiler.run = some b' ∧ b'.phase = 3 ∧
      b'.swapHeat = s.heat.count + 16 ∧ t.compiler.sheet = s.compiler.sheet) ∧
  (∀ (s : State) (tile other claim : Nat) (b : Build), s.compiler.run = some b → b.phase = 2 → tile < s.nTiles →
    s.managed tile = true → s.loaderHolds b tile = true → other < s.nTiles → other ≠ tile → b.reports.contains other = false →
    ∃ t b', exec (.loaderCheckReport tile true claim) s = .next t ∧ t.compiler.run = some b' ∧ b'.phase = 2 ∧
      tile ∈ b'.reports) ∧
  (∀ (s : State) (tile claim : Nat) (b : Build), s.compiler.run = some b → b.phase = 2 → tile < s.nTiles →
    s.managed tile = true → b.combined = false →
    ∃ t, exec (.loaderCheckReport tile false claim) s = .next t ∧ t.obj 0x2100 3 = 15 ∧
      t.obj 0x2100 4 = tile * 2 ^ 24 + claim % 256 ∧ t.compiler.sheet = s.compiler.sheet ∧
      Offers s t 0xE183 0 [tile, claim % 256]) ∧
  (∀ (s : State) (b : Build), s.compiler.run = some b → b.phase < 3 →
    s.due b.startedAt (s.obj 0x2102 1 * 1000000) = true → b.kind ≠ 2 → b.combined = false →
    ∃ t, exec .compileTimeout s = .next t ∧ t.obj 0x2100 3 = 13 ∧ (s.compiler.waiting = none → t.compiler.run = none)) ∧
  (∀ (s : State) (trigger tile at_ : Nat) (rest : List (Nat × Nat × Nat)), s.awake = true →
    s.compiler.retry = (trigger, tile, at_) :: rest → s.compiler.run = none → s.due at_ 1000000000 = true →
    ∃ t b, exec .buildRetry s = .next t ∧ t.compiler.retry = rest ∧ t.compiler.run = some b ∧ b.kind = 2 ∧
      b.trigger = trigger ∧ b.tile = tile)

/-- The swap of a heat sheet and the release of the one before it; a pass of the placement (from R104, R126, R127, R206; the
model's choices: log 14). -/
def Obligations.SheetSwapAndPass : Prop :=
  (∀ (s : State) (b : Build), s.onBoundary = true → s.swapDue = some b →
    ∃ t y, exec .sheetSwap s = .next t ∧ t.compiler.sheet = some y ∧ y.generation = nextGeneration s.sheetGeneration ∧
      y.digest = b.digest ∧ y.trigger = b.trigger ∧ t.compiler.oldHeld = true ∧ t.compiler.swapHeat = s.heat.count) ∧
  (∀ s : State, s.onBoundary = true → s.compiler.oldHeld = true → s.compiler.swapHeat < s.heat.count →
    ∃ t, exec .oldSheetRelease s = .next t ∧ t.compiler.oldHeld = false ∧ t.fabric.oldRoots = [] ∧
      t.compiler.sheet = s.compiler.sheet) ∧
  (∀ s : State, s.passIsDue = true →
    ∃ t, exec .placementPass s = .next t ∧ t.place.lastPass = s.elapsed ∧ t.place.passDue = false ∧
      (∀ f ∈ s.place.planned, f ∈ t.place.planned) ∧
      (∀ (x : Meter) (c : Candidate), s.decidesMoves = true → s.meters = [x] → s.settled x = true → x.place.parked = false → x.served = false →
        s.bestPath x = some c →
        ∃ f ∈ t.place.planned, f.meter = x.number ∧ f.path = some (c.port, c.phase, c.relay) ∧ f.forced = true))

/-- Fenced moves, step by step; unrouted frames: one of a meter the directory knows gives its tile a route, one of an
unknown meter is dropped and counted, one that waits 10 ms is dropped (from R203, R213, R216, R219, R225; the model's
choices: log 21, 65). -/
def Obligations.FencedMoves : Prop :=
  (∀ (s : State) (meter : Nat) (x : Meter) (f : Fence), s.onBoundary = true → s.meter? meter = some x →
    s.place.planned.find? (fun g => g.meter == meter) = some f → f.openHeat ≤ s.heat.count → s.fenceOf meter = none →
    x.freezeStep ≤ 1 → s.mapAllows f = true → s.targetFree f = true →
    (s.place.fences.countP fun g => match s.meter? g.meter with
      | some y => y.home == x.home
      | none => false) < s.obj 0x2300 4 →
    ∃ t g, exec (.fenceOpen meter) s = .next t ∧ t.fenceOf meter = some g ∧ g.id = s.place.lastFenceId + 1 ∧ g.step = 0 ∧
      g.openHeat = s.heat.count ∧ g.kind = f.kind ∧ g.home = f.home ∧ g.group = f.group ∧ g.record = f.record ∧
      g.path = f.path ∧ ∀ h ∈ t.place.planned, h.meter ≠ meter) ∧
  (∀ (s : State) (meter : Nat) (x : Meter) (f : Fence), s.onBoundary = true → s.meter? meter = some x →
    s.fenceOf meter = some f → f.kind ≤ 2 → f.step = 0 → f.openHeat < s.heat.count →
    ∃ t, exec (.fenceInboundMark meter) s = .next t ∧ t.fenceOf meter = some { f with
      step := 1, marks := f.marks ++ [(queueKey x.home x.group, (s.queue x.home x.group).completePos.toNat)] }) ∧
  (∀ (s : State) (meter : Nat) (f : Fence), s.onBoundary = true → s.fenceOf meter = some f → f.step = 1 →
    f.openHeat + 2 ≤ s.heat.count → s.marksReached f = true →
    ∃ t, exec (.fenceFreeze meter) s = .next t ∧ t.fenceOf meter = some { f with step := 2, freezeHeat := s.heat.count } ∧
      ∀ x, s.meter? meter = some x → x.number = meter → t.quarantined x = true) ∧
  (∀ (s : State) (meter : Nat) (x : Meter) (f : Fence), s.awake = true → s.meter? meter = some x →
    s.fenceOf meter = some f → f.step = 2 → s.copyRoute x f = true →
    ∃ t g, exec (.fenceCopyDone meter) s = .next t ∧ t.fenceOf meter = some g ∧ g.step = 3 ∧ g.home = f.home) ∧
  (∀ (s : State) (meter : Nat) (x : Meter) (f : Fence), s.meter? meter = some x → s.fenceOf meter = some f →
    s.onBoundary = true → s.mayCommit x f = true → x.place.heldWrites = [] → x.retiring = false →
    ∃ t y, exec (.fenceCommit meter) s = .next t ∧ t.fenceOf meter = none ∧ t.meter? meter = some y ∧ y.home = f.home ∧
      y.group = f.group ∧ y.record = f.record ∧ y.place.parked = false) ∧
  (∀ (s : State) (meter reason : Nat) (x : Meter) (f : Fence), s.onBoundary = true → s.meter? meter = some x →
    s.fenceOf meter = some f → s.abandonReason f = some reason → x.place.heldWrites = [] → x.retiring = false →
    ∃ t y, exec (.fenceAbandon meter) s = .next t ∧ t.fenceOf meter = none ∧ t.meter? meter = some y ∧ y.home = x.home ∧
      y.group = x.group ∧ y.record = x.record) ∧
  (∀ (s : State) (meter : Nat) (x : Meter) (f : Fence), s.meter? meter = some x → s.fenceOf meter = some f →
    s.onBoundary = true → s.mayCommitPath x f = true → x.place.heldWrites = [] → x.retiring = false →
    ∃ t y, exec (.pathMoveCommit meter) s = .next t ∧ t.fenceOf meter = none ∧ t.meter? meter = some y ∧ y.home = x.home ∧
      y.place.lastCommit = s.tbSeconds ∧ y.place.challenger = none) ∧
  (∀ (s : State) (tile : Nat) (pk : List (Word × Byte)), s.awake = true →
    s.reads tile 0xA1 Producer.management.code pk → s.directory (packetMeter pk) = none →
    ∃ t, exec (.unroutedResolve tile) s = .next t ∧ t.obj 0x2306 8 = satAdd 64 (s.obj 0x2306 8) 1 ∧
      t.place.routes = s.place.routes ∧ t.queues = (s.dropUnrouted tile).queues) ∧
  (∀ (s : State) (tile : Nat) (pk : List (Word × Byte)) (d : Route), s.awake = true →
    s.reads tile 0xA1 Producer.management.code pk → s.directory (packetMeter pk) = some d → d.state ≠ 0 →
    ((s.route? tile (packetMeter pk)).isSome = true ∨ (s.routesOf tile).length < 65536) →
    ∃ t, exec (.unroutedResolve tile) s = .next t ∧
      t.route? tile (packetMeter pk) = some { d with heardAt := s.elapsed }) ∧
  (∀ (s : State) (tile : Nat) (pk : List (Word × Byte)) (d : Route), s.awake = true →
    s.reads tile 0xA1 Producer.management.code pk → s.directory (packetMeter pk) = some d → d.state = 0 → d.home = tile →
    ((s.route? tile (packetMeter pk)).isSome = true ∨ (s.routesOf tile).length < 65536) →
    d.group < 0xA0 → s.takes tile d.group .management pk.length →
    ∃ t, exec (.unroutedResolve tile) s = .next t ∧ (t.queue tile d.group).waiting = (s.queue tile d.group).waiting + 1 ∧
      t.route? tile (packetMeter pk) = some { d with heardAt := s.elapsed }) ∧
  (∀ (s : State) (tile : Nat) (e : Nat × Nat), s.awake = true → s.queues.unroutedAt.find? (fun e => e.1 == tile) = some e →
    s.due e.2 10000000 = true →
    ∃ t, exec (.unroutedTimeout tile) s = .next t ∧ t.queues = (s.dropUnrouted tile).queues ∧
      t.queues.unroutedAt.length + 1 = s.queues.unroutedAt.length ∧
      t.obj 0x2306 5 = satAdd 64 (s.obj 0x2306 5) 1)

/-- The outcomes of an inbound slot that book nothing: no packet, an unknown meter, a tag that fails, a stale and a duplicate
Sequence (from R76, R337, R339). -/
def Obligations.InboundWithoutBooking : Prop :=
  (∀ (s : State) (tile pipe k : Nat), s.slotOpen 0 tile pipe k = true → (s.queue tile pipe).head? = none →
    ∃ t, exec (.inboundSlot tile pipe k) s = .next t ∧ t.meters = s.meters ∧
      t.counter tile pipe 0 = satAdd 40 (s.counter tile pipe 0) 1) ∧
  (∀ (s : State) (tile pipe k : Nat) (pk : List (Word × Byte)), s.slotOpen 0 tile pipe k = true →
    (s.queue tile pipe).head? = some pk → s.indexed tile pipe (frMeter (packetBytes pk)) = none →
    headerOk (packetBytes pk) (field (packetHead pk) 47 40) = true →
    s.firstBad tile (s.packetWords tile pipe pk.length ++ probeWords pipe (frMeter (packetBytes pk))) = none →
    ∃ t, exec (.inboundSlot tile pipe k) s = .next t ∧ t.meters = s.meters ∧
      t.counter tile pipe 4 = satAdd 40 (s.counter tile pipe 4) 1 ∧
      t.queue tile pipe = (s.takePacket tile pipe).2.queue tile pipe) ∧
  (∀ (s : State) (tile pipe k : Nat) (pk : List (Word × Byte)) (x : Meter), Arrives s tile pipe k pk x →
    ¬ Authentic s pk x →
    ∃ t, exec (.inboundSlot tile pipe k) s = .next t ∧ t.meters = s.meters ∧ t.loss = s.loss ∧
      t.counter tile pipe 5 = satAdd 40 (s.counter tile pipe 5) 1) ∧
  (∀ (s : State) (tile pipe k : Nat) (pk : List (Word × Byte)) (x : Meter), Arrives s tile pipe k pk x → Authentic s pk x →
    payloadOk (frType (packetBytes pk)) (frPlain (s.frameKey pk x) (packetBytes pk)) = true →
    classifySeq (frSequence (packetBytes pk)) x.seqTop x.seqMask = .stale →
    ∃ t, exec (.inboundSlot tile pipe k) s = .next t ∧ t.meters = s.meters ∧ t.loss = s.loss ∧
      t.counter tile pipe 3 = satAdd 40 (s.counter tile pipe 3) 1) ∧
  (∀ (s : State) (tile pipe k : Nat) (pk : List (Word × Byte)) (x : Meter), Arrives s tile pipe k pk x → Authentic s pk x →
    payloadOk (frType (packetBytes pk)) (frPlain (s.frameKey pk x) (packetBytes pk)) = true →
    classifySeq (frSequence (packetBytes pk)) x.seqTop x.seqMask = .duplicate → frType (packetBytes pk) ≠ 6 →
    ∃ t y, exec (.inboundSlot tile pipe k) s = .next t ∧ t.meter? x.number = some y ∧ y.hot = x.hot ∧
      y.duplicates = satAdd 32 x.duplicates 1 ∧ y.heardAt = s.elapsed ∧ t.loss = s.loss)

/-- A READING that authenticates, is AHEAD and fails no rule that rejects is booked: the Sequence and MeterTime move and
each register present and not below its stored total takes the reported total (from R76, R335, R368; the model's choices:
log 22). -/
def Obligations.ReadingBooked : Prop :=
  ∀ (s : State) (tile pipe k : Nat) (pk : List (Word × Byte)) (x : Meter), Arrives s tile pipe k pk x → Authentic s pk x →
    frType (packetBytes pk) = 1 → x.seqTop < frSequence (packetBytes pk) →
    (∀ e ∈ s.rulesFailed (packetHead pk) x (packetBytes pk)
      (readingReport (frPlain (s.frameKey pk x) (packetBytes pk))) true, bitAt e.1 26 = true) →
    ∃ t y, exec (.inboundSlot tile pipe k) s = .next t ∧ t.meter? x.number = some y ∧
      y.seqTop = frSequence (packetBytes pk) ∧
      y.lastTime = fieldAt (frPlain (s.frameKey pk x) (packetBytes pk)) 0 4 ∧
      ∀ i < 4, (readingReport (frPlain (s.frameKey pk x) (packetBytes pk))).has i = true → x.total i ≠ unsetTotal →
        x.total i ≤ (readingReport (frPlain (s.frameKey pk x) (packetBytes pk))).totals.getD i 0 →
        y.total i = (readingReport (frPlain (s.frameKey pk x) (packetBytes pk))).totals.getD i 0

/-- The request slots: a command sealed for its meter, a record's image read, a sum's snapshot tag swapped (from R87, R346,
R414, R757; the model's choices: log 16, 70). -/
def Obligations.RequestSlots : Prop :=
  (∀ (s : State) (tile pipe k rt n : Nat) (pk : List (Word × Byte)) (x : Meter) (r : Request),
    Performs s 1 tile pipe k (0x08 + pipe) pk x → pk.length = 1 →
    s.requestOf (packetHead pk / 4294967296) = some (rt, n, r) → x.served = true → r.port = none → r.origin = 0 →
    x.nextOutSeq ≠ 0 → s.hotOn x →
    ∃ t y, exec (.outboundSlot tile pipe k) s = .next t ∧ t.meter? x.number = some y ∧
      y.nextOutSeq = (x.nextOutSeq + 1) % 2 ^ 32 ∧ (t.request rt n).state = 1 ∧
      (t.request rt n).sealings = min 255 (r.sealings + 1) ∧ (t.request rt n).lastAt = s.elapsed) ∧
  (∀ (s : State) (tile pipe k : Nat) (pk : List (Word × Byte)) (x : Meter), Performs s 3 tile pipe k (0x18 + pipe) pk x →
    s.takes tile (0x40 + pipe) .pipeline 17 →
    ∃ t, exec (.querySlot tile pipe k) s = .next t ∧ (t.queue tile (0x40 + pipe)).words =
      (s.queue tile (0x40 + pipe)).words ++ packetOfWords (BitVec.ofNat 64 (packetHead pk) :: x.words) ∧
      t.meters = s.meters) ∧
  (∀ (s : State) (tile pipe k : Nat) (pk : List (Word × Byte)), s.slotOpen 4 tile pipe k = true →
    (s.queue tile (0x20 + pipe)).head? = some pk → pk.length = 2 → field (recordNat (pk.map (·.1))) 127 124 = 1 →
    s.firstBad tile (s.snapshotWords tile pipe pk) = none →
    ∃ t, exec (.snapshotSlot tile pipe k) s = .next t ∧
      (t.sum tile pipe (field (recordNat (pk.map (·.1))) 123 112)).snapshot =
        BitVec.ofNat 64 (field (recordNat (pk.map (·.1))) 111 104 * 2 ^ 56) ∧
      (t.sum tile pipe (field (recordNat (pk.map (·.1))) 123 112)).running =
        (s.sum tile pipe (field (recordNat (pk.map (·.1))) 123 112)).running)

/-- What a line lane does with what it receives: tags heard, the receipt that reports an unknown map, frames that are whole,
joins, tone maps, sounding, expiries (from R246 to R261; the model's choices: log 75, 77, 89). -/
def Obligations.LineReceiving : Prop :=
  (∀ (s : State) (tile lane channel rx : Nat) (fc blocks : Octets) (g : LineTag), tile < s.nTiles → lane < 4 → channel < 3 →
    2 ≤ (s.lane tile lane).state → s.healthOf tile = 0 → s.blanked tile lane rx = false → fcOk fc = true →
    fcField fc 127 124 = 3 →
    fcField fc 103 88 = 0 → Tab.find? (s.lane tile lane).tags (fcField fc 119 104) = some g →
    ∃ t, exec (.lineFrameReceived tile lane channel fc blocks rx 0) s = .next t ∧
      Tab.find? (t.lane tile lane).tags (fcField fc 119 104) = some { g with heardAt := s.elapsed } ∧
      (s.isStandby = false → s.lineSends tile lane = true →
        (t.lane tile lane).own.length = (s.lane tile lane).own.length + 1)) ∧
  (∀ (s : State) (tile lane channel rx : Nat) (fc blocks : Octets), tile < s.nTiles → lane < 4 → channel < 3 →
    2 ≤ (s.lane tile lane).state → s.healthOf tile = 0 → s.blanked tile lane rx = false → fcOk fc = true →
    fcField fc 127 124 = 1 →
    fcField fc 103 88 = 0 → s.givenMap tile lane fc = none → s.lineSends tile lane = true →
    s.lineBusy tile lane = false → s.drives tile lane (s.receiver tile lane channel) ≠ 0 →
    ∃ t, exec (.lineFrameReceived tile lane channel fc blocks rx 0) s = .next t ∧
      Sends s t (.line tile lane (s.drives tile lane (s.receiver tile lane channel)) 2) (makeFc 2 (fcField fc 123 122)
        (bit01 (3 ≤ s.receiver tile lane channel)) 0 0 (fcField fc 119 104) 0 0 (2 ^ 31 + 255) (fcField fc 31 24))) ∧
  (∀ (s : State) (tile lane channel rx n count : Nat) (fc blocks im : Octets) (h : BlockHold), tile < s.nTiles → lane < 4 →
    channel < 3 → 2 ≤ (s.lane tile lane).state → s.healthOf tile = 0 → s.blanked tile lane rx = false → fcOk fc = true →
    fcField fc 127 124 = 1 → fcField fc 103 88 = 0 → s.givenMap tile lane fc = some im →
    h = s.holdOf tile lane channel fc rx → n = blockBytes (if fcField fc 87 80 = 0 then 0 else mapRateCode im) →
    count = divUp h.length n → h.done = false →
    (h.deliver n count s.elapsed (fcField fc 120 120 == 1) blocks).1.whole count = true →
    s.heat.laneDone.contains (portCode 0 tile lane * 4 + channel) = false →
    ∃ t, exec (.lineFrameReceived tile lane channel fc blocks rx 0) s = .next t ∧
      (∃ g ∈ (t.lane tile lane).holds, g.src = h.src ∧ g.seq = h.seq ∧ g.channel = h.channel ∧ g.done = true) ∧
      t.heat.laneDone.contains (portCode 0 tile lane * 4 + channel) = true ∧
      t.counter tile (13 + lane) 0 = satAdd 40 (s.counter tile (13 + lane) 0) 1) ∧
  (∀ (s : State) (tile lane channel meter kind g : Nat), s.isStandby = false → tile < s.nTiles → lane < 4 → 2 ≤ (s.lane tile lane).state →
    (s.lane tile lane).tagOf meter = none → (s.lane tile lane).tags.length < 8191 → 1 ≤ g →
    g ≤ (s.lane tile lane).tags.length + 1 → g ≤ 0x1FFF → Tab.has (s.lane tile lane).tags g = false →
    ∃ t n, exec (.joinRequest tile lane channel meter kind) s = .next t ∧ 1 ≤ n ∧ n ≤ 0x1FFF ∧
      Tab.has (s.lane tile lane).tags n = false ∧
      Tab.find? (t.lane tile lane).tags n = some { meter := meter, kind := kind, heardAt := s.elapsed } ∧
      (t.lane tile lane).own = (s.lane tile lane).own ++
        [{ kind := 4, cls := 2, dst := 0xFFFE, phase := s.receiver tile lane channel,
           payload := be 1 2 ++ be 4 meter ++ be 2 n }]) ∧
  (∀ (s : State) (tile lane tag : Nat) (image : Octets), 2 ≤ (s.lane tile lane).state →
    Tab.has (s.lane tile lane).tags tag = true → image.length = 296 →
    ∃ t, exec (.toneMapResponse tile lane tag image) s = .next t ∧
      Tab.find? (t.lane tile lane).maps (tag * 4 + fieldAt image 3 1 % 4) = some { image := image, at_ := s.elapsed }) ∧
  (∀ (s : State) (tile lane tag channel symbols : Nat), s.isStandby = false → 2 ≤ (s.lane tile lane).state →
    ∃ t, exec (.soundRequest tile lane tag channel symbols) s = .next t ∧ (t.lane tile lane).own =
      (s.lane tile lane).own ++ [soundingFrame tag (channel % 4) (max 2 (min 8 symbols))]) ∧
  (∀ (s : State) (tile lane tag channel : Nat) (m : ToneMap),
    Tab.find? (s.lane tile lane).maps (tag * 4 + channel) = some m → s.due m.at_ (s.obj 0x3006 2 * 1000000000) = true →
    s.isStandby = false →
    ∃ t, exec (.toneMapExpiry tile lane tag channel) s = .next t ∧
      Tab.find? (t.lane tile lane).maps (tag * 4 + channel) = none) ∧
  (∀ (s : State) (tile lane tag : Nat) (g : LineTag), Tab.find? (s.lane tile lane).tags tag = some g →
    s.due g.heardAt 86400000000000 = true → s.isStandby = false →
    ∃ t, exec (.lineTagExpiry tile lane tag) s = .next t ∧ Tab.find? (t.lane tile lane).tags tag = none ∧
      ∀ e ∈ (t.lane tile lane).maps, e.1 / 4 ≠ tag) ∧
  (∀ (s : State) (tile lane tag : Nat),
    ∃ t, exec (.blockHoldExpiry tile lane tag) s = .next t ∧ ∀ h : BlockHold, h ∈ (t.lane tile lane).holds ↔
      h ∈ (s.lane tile lane).holds ∧ ¬(h.src = tag ∧ s.due h.firstAt 50000000 = true))

/-- Channel access of a line lane: the send procedure, the window, the contention slot, the receipt, the response window,
the planned beacon, a new notch set, the end of STARTING (from R241, R244, R257 to R264, R283; the model's choices: log 24,
59, 76, 89). -/
def Obligations.LineAccess : Prop :=
  (∀ (s : State) (tile lane : Nat) (f : LineFrame) (l : List LineFrame), s.lineSends tile lane = true →
    (s.lane tile lane).sending = none → (s.lane tile lane).own = f :: l → f.queued = false →
    ∃ t e, exec (.lineSend tile lane) s = .next t ∧ (t.lane tile lane).sending = some e ∧ e.frame = f ∧ e.step = 0 ∧
      e.cw = cwMin f.cls ∧ (t.lane tile lane).own = l) ∧
  (∀ (s : State) (tile lane : Nat) (pk : List (Word × Byte)) (f : LineFrame), s.lineSends tile lane = true →
    (s.lane tile lane).sending = none → (s.lane tile lane).own = [] →
    s.reads tile (0x64 + lane) Producer.lineLane.code pk → s.txFrame tile lane pk = some f →
    ∃ t e, exec (.lineSend tile lane) s = .next t ∧ (t.lane tile lane).sending = some e ∧ e.frame = f ∧ e.step = 0 ∧
      e.cw = cwMin f.cls ∧ t.queues = s.queues) ∧
  (∀ (s : State) (tile lane : Nat), lane < 4 → s.cycleMayOpen tile lane = true →
    ∃ t, exec (.windowCycleOpen tile lane) s = .next t ∧ (t.lane tile lane).window = true ∧
      (t.lane tile lane).openedAt = s.elapsed ∧ (t.lane tile lane).heard = none ∧
      (t.lane tile lane).claimed = (if s.beaconReady tile lane then some 0 else none)) ∧
  (∀ (s : State) (tile lane window : Nat), (s.lane tile lane).window = true → (s.lane tile lane).heard = none →
    window < 4 → (s.lane tile lane).claimed = none → (s.lane tile lane).contends = none →
    ∃ t, exec (.claimToneHeard tile lane window) s = .next t ∧ (t.lane tile lane).heard = some window) ∧
  (∀ (s : State) (tile lane window : Nat) (e : LineSend), (s.lane tile lane).window = true → (s.lane tile lane).heard = none →
    (s.lane tile lane).claimed = none → (s.lane tile lane).sending = some e → (e.step = 1 ∨ e.step = 3) → window < e.frame.cls →
    e.frame.cls < 4 →
    ∃ t, exec (.claimToneHeard tile lane window) s = .next t ∧ (t.lane tile lane).heard = some window ∧
      (t.lane tile lane).sending = some { e with step := 2 }) ∧
  (∀ (s : State) (tile lane : Nat) (e : LineSend), s.lineSends tile lane = true → s.lineBusy tile lane = false →
    (s.lane tile lane).window = true → s.laneWaits tile lane = false → (s.lane tile lane).claimed ≠ some 0 →
    (s.lane tile lane).sending = some e → (e.step = 1 ∨ e.step = 3) → e.bc < cwMax e.frame.cls →
    s.drives tile lane e.frame.phase ≠ 0 →
    ∃ t e', exec (.contentionSlot tile lane e.bc false) s = .next t ∧ (t.lane tile lane).transmitting = true ∧
      (t.lane tile lane).window = false ∧ (t.lane tile lane).sending = some e' ∧ e' = { s.refit tile lane e with step := 4 } ∧
      ((s.lane tile lane).claimed = none → (s.lane tile lane).beacon = none → s.threePhase tile lane = false →
        Sends s t (.line tile lane (s.drives tile lane e.frame.phase) 16)
          (be 1 e.frame.cls ++ be 8 ((s.lane tile lane).openedAt + 35840 * e.frame.cls))) ∧
      Sends s t (.line tile lane (s.drives tile lane e.frame.phase) e.frame.kind)
        (makeFc e.frame.kind e.frame.cls (bit01 (e.frame.phase = 3)) (bit01 e'.retry) 0 e.frame.dst e'.map
          e.frame.payload.length e.frame.kindField e'.seq ++ s.sendBlocks tile lane e')) ∧
  (∀ (s : State) (tile lane n : Nat) (e : LineSend), s.lineSends tile lane = true → s.lineBusy tile lane = false →
    (s.lane tile lane).window = true → s.laneWaits tile lane = false → (s.lane tile lane).claimed ≠ some 0 →
    (s.lane tile lane).sending = some e → (e.step = 1 ∨ e.step = 3) → n < e.bc → n < cwMax e.frame.cls →
    ∃ t, exec (.contentionSlot tile lane n true) s = .next t ∧ (t.lane tile lane).window = false ∧
      (t.lane tile lane).sending = some { e with bc := e.bc - n, step := 0 }) ∧
  (∀ (s : State) (tile lane : Nat) (e : LineSend), (s.lane tile lane).transmitting = true →
    (s.lane tile lane).beaconOnLine = false → (s.lane tile lane).sending = some e → e.step = 4 → e.frame.solicits = true →
    ∃ t, exec (.lineTransmitEnd tile lane) s = .next t ∧ (t.lane tile lane).transmitting = false ∧
      (t.lane tile lane).sending = some { e with step := 5, endedAt := s.elapsed }) ∧
  (∀ (s : State) (tile lane : Nat) (e : LineSend), (s.lane tile lane).sending = some e → e.step = 5 →
    s.due e.endedAt 158720 = true → e.tries + 1 < s.obj 0x3006 1 →
    ∃ t e', exec (.responseWindowExpiry tile lane) s = .next t ∧ (t.lane tile lane).sending = some e' ∧ e'.step = 0 ∧
      e'.tries = e.tries + 1 ∧ e'.cw = min (2 * e.cw) (cwMax e.frame.cls) ∧ e'.frame = e.frame) ∧
  (∀ (s : State) (tile lane : Nat) (fc : Octets) (e : LineSend), 2 ≤ (s.lane tile lane).state →
    (s.lane tile lane).sending = some e → e.step = 5 →
    fcOk fc = true → fcField fc 127 124 = 2 → fcField fc 119 104 = e.frame.dst → fcField fc 103 88 = 0 →
    fcField fc 31 24 = e.seq → fcField fc 63 63 = 0 → fcField fc 39 32 = 0 →
    ∃ t, exec (.lineReceiptReceived tile lane fc) s = .next t ∧ (t.lane tile lane).sending = none) ∧
  (∀ (s : State) (tile lane : Nat), (s.lane tile lane).on = true → s.lineSends tile lane = true →
    (s.mains tile).number % 2 = 0 → (s.mains tile).last + s.obj 0x3007 1 * 1000 ≤ s.tbNs → (s.lane tile lane).beacon = none →
    (s.lane tile lane).planned ≠ some (s.mains tile).number →
    ∃ t, exec (.beaconPlan tile lane) s = .next t ∧ (t.lane tile lane).beacon = some (s.mains tile).number ∧
      (t.lane tile lane).planned = some (s.mains tile).number ∧ (t.lane tile lane).plannedAt = s.elapsed) ∧
  (∀ (s : State) (p at_ : Nat) (tb : Octets), s.line.newNotch = some (p, tb, at_) →
    s.notchDue = true →
    ∃ t, exec .notchSetApply s = .next t ∧ t.line.profile = p ∧ t.line.table = tb ∧ t.line.newNotch = none ∧
      (∀ tile < s.nTiles, ∀ lane < 4, (t.lane tile lane).maps = [] ∧ (t.lane tile lane).given = []) ∧
      Offers s t 0xE38D packageWide [p, dataCarriers (profileRanges p tb)]) ∧
  (∀ (s : State) (tile lane : Nat), (s.lane tile lane).starting = true →
    s.due (s.lane tile lane).startAt 1000000000 = true → (s.mains tile).state ≠ 0 →
    ∃ t, exec (.lineLaneStartingTimeout tile lane) s = .next t ∧ (t.lane tile lane).starting = false ∧
      (t.lane tile lane).state = t.laneState tile lane)

/-- The mains time base and the coupling ports: edges, crossings, the pilot test, bias faults, retests, calibration (from
R266 to R272, R276 to R280; the model's choices: log 60, 89). -/
def Obligations.LineHealth : Prop :=
  (∀ (s : State) (tile input tz : Nat), tile < s.nTiles → input < 3 → s.power.pilot < 2 → (s.mains tile).inputs.length = 3 →
    ((s.mains tile).inputs.getD input {}).state = 1 → ((s.mains tile).inputs.getD input {}).reversed = false →
    ((s.mains tile).inputs.getD input {}).accepted = none → s.objI 0x3010 (tile * 3 + input + 1) = 0 →
    gap (tz / 8 * 8) (((s.mains tile).inputs.getD input {}).last + (s.mains tile).period) ≤ s.obj 0x3011 1 * 1000 →
    ∃ t, exec (.zcEdge tile input tz) s = .next t ∧
      ((t.mains tile).inputs.getD input {}).accepted = some (tz / 8 * 8)) ∧
  (∀ (s : State) (tile : Nat), tile < s.nTiles →
    ∃ t, exec (.referenceCrossing tile) s = .next t ∧ t.mains tile = (s.nextMains tile).rotated ∧
      ((s.line.authority = tile ∨ t.line.authority = tile) → t.line.cycle = (s.nextMains tile).number)) ∧
  (∀ (s : State) (tile lane channel ma : Nat) (correlation : Int), tile < s.nTiles →
    s.lineBusy tile lane = false → channel < 3 → lane < 4 → (s.port tile lane channel).out = false →
    ((s.port tile lane channel).checked = false ∨
      s.due (s.port tile lane channel).pilotAt (s.obj 0x3021 1 * 1000000) = true) → correlation.natAbs < 5 →
    ∃ t, exec (.linePilotTest tile lane channel correlation true ma false) s = .next t ∧
      (t.port tile lane channel).out = true ∧ bitAt (t.port tile lane channel).bits 2 = true) ∧
  (∀ (s : State) (tile lane channel ma : Nat) (correlation : Int) (limit : Bool), tile < s.nTiles →
    s.lineBusy tile lane = false → channel < 3 → lane < 4 → (s.port tile lane channel).out = false →
    ((s.port tile lane channel).checked = false ∨
      s.due (s.port tile lane channel).pilotAt (s.obj 0x3021 1 * 1000000) = true) → 5 ≤ correlation →
    ∃ t, exec (.linePilotTest tile lane channel correlation limit ma false) s = .next t ∧
      (t.port tile lane channel).out = false ∧ (t.port tile lane channel).checked = true ∧
      (t.port tile lane channel).pilotAt = s.elapsed) ∧
  (∀ (s : State) (tile lane channel mv : Nat), tile < s.nTiles → lane < 4 → channel < 3 → mv < 150 →
    (s.port tile lane channel).out = false →
    ∃ t, exec (.lineBiasFault tile lane channel mv) s = .next t ∧ (t.port tile lane channel).out = true ∧
      bitAt (t.port tile lane channel).bits 0 = true ∧ t.place.passDue = true) ∧
  (∀ (s : State) (tile lane channel : Nat), (s.port tile lane channel).out = true →
    s.due (s.port tile lane channel).retestAt 1000000000 = true →
    ∃ t, exec (.linePortRetest tile lane channel true) s = .next t ∧
      (t.port tile lane channel).passes =
        (if (s.port tile lane channel).passes + 1 < 10 then (s.port tile lane channel).passes + 1 else 0) ∧
      (9 ≤ (s.port tile lane channel).passes → (t.port tile lane channel).out = false)) ∧
  (∀ (s : State) (r : Req) (x : Session) (channel : Nat), Writes s r 0x3022 1 0 (be 1 channel) x → 1 ≤ channel % 256 →
    channel % 256 ≤ 12 * s.nTiles → channel % 256 ≤ 96 → (s.lane ((channel % 256 - 1) / 12) ((channel % 256 - 1) % 12 / 3)).calibration = none →
    ((s.lane ((channel % 256 - 1) / 12) ((channel % 256 - 1) % 12 / 3)).state = 2 ∨
      (s.lane ((channel % 256 - 1) / 12) ((channel % 256 - 1) % 12 / 3)).state = 3) →
    ∃ t, exec (.lineCalibrationRequest r channel) s = .next t ∧
      (t.lane ((channel % 256 - 1) / 12) ((channel % 256 - 1) % 12 / 3)).calibration =
        some { channel := channel % 256, startedAt := s.elapsed }) ∧
  (∀ (s : State) (tile lane magnitude : Nat) (phase : Int) (c : Calibration),
    (s.lane tile lane).calibration = some c → s.stepMayGo tile lane c = true → c.step < 15 →
    ∃ t, exec (.calibrationStep tile lane magnitude phase) s = .next t ∧ (t.lane tile lane).calibration = some { c with
      step := c.step + 1, lastAt := s.elapsed, result := c.result ++ be 2 magnitude ++ be 2 (ofSigned 16 phase) }) ∧
  (∀ (s : State) (tile lane magnitude : Nat) (phase : Int) (c : Calibration),
    (s.lane tile lane).calibration = some c → s.stepMayGo tile lane c = true → c.step = 15 →
    ∃ t, exec (.calibrationStep tile lane magnitude phase) s = .next t ∧ (t.lane tile lane).calibration = none ∧
      t.obj 0x3022 2 = 2 ∧
      t.objVal 0x3023 c.channel = .oct (c.result ++ be 2 magnitude ++ be 2 (ofSigned 16 phase))) ∧
  (∀ (s : State) (tile lane : Nat) (c : Calibration), (s.lane tile lane).calibration = some c →
    s.due c.startedAt 10000000000 = true →
    ∃ t, exec (.calibrationTimeout tile lane) s = .next t ∧ (t.lane tile lane).calibration = none ∧ t.obj 0x3022 2 = 3)

/-- A radio lane's superframe: its start, what is sent in it and how sending ends (from R288, R293, R301, R308, R313 to
R316; the model's choices: log 25, 53, 58, 90). -/
def Obligations.RadioSuperframe : Prop :=
  (∀ (s : State) (tile lane : Nat), tile < s.nTiles → lane < 8 → (s.radioLane tile lane).on = true →
    (s.radioLane tile lane).sfn ≠ some (s.sfnNow tile lane) →
    s.superframeStart tile lane (s.sfnNow tile lane) ≤ s.tbNs →
    (s.radioLane tile lane).resumeTb ≤ s.superframeStart tile lane (s.sfnNow tile lane) →
    ∃ t, exec (.superframeStart tile lane) s = .next t ∧ (t.radioLane tile lane).sfn = some (s.sfnNow tile lane) ∧
      (t.radioLane tile lane).startTb = s.superframeStart tile lane (s.sfnNow tile lane) ∧
      (t.radioLane tile lane).nextSpan = 0 ∧ (t.radioLane tile lane).uplink = none) ∧
  (∀ (s : State) (tile lane op : Nat), (s.radioLane tile lane).on = true →
    ∃ t, exec (.transceiverFault tile lane op) s = .next t ∧ (t.radioLane tile lane).transmitting = 0 ∧
      Sends s t (.pulse 44 tile) (be 1 lane)) ∧
  (∀ (s : State) (tile lane : Nat), (s.radioLane tile lane).transmitting ≠ 0 →
    ∃ t, exec (.radioTxDone tile lane true) s = .next t ∧ (t.radioLane tile lane).transmitting = 0 ∧
      ((s.radioLane tile lane).transmitting = 1 → (t.radioLane tile lane).lanternSent = true ∧
        (t.radioLane tile lane).missed = 0 ∧ (t.radioLane tile lane).starting = false)) ∧
  (∀ (s : State) (tile lane k n : Nat) (d : Downlink), (s.radioLane tile lane).sfn = some n →
    (s.radioLane tile lane).broadcast ≤ k → (s.radioLane tile lane).nextSpan ≤ k → k < (s.radioLane tile lane).spans → (s.radioLane tile lane).channel ≠ 255 →
    s.spanStart (s.radioLane tile lane) k + (s.radioLane tile lane).dataTime + s.replyNs ≤ s.tbNs + s.obj 0x3808 1 * 1000 →
    s.tbNs ≤ s.spanStart (s.radioLane tile lane) k + (s.radioLane tile lane).dataTime + s.replyNs →
    s.radioSends tile lane = true → (s.radioLane tile lane).reply k n s.tunnel.relayMode = some d → d.kind ≠ 0 →
    s.overDwell tile lane (18 + ((s.radioLane tile lane).bodyOf d n).1.length +
      micLen (if d.kind = 3 ∨ (Tab.getD (s.radioLane tile lane).assocs d.meter {}).state = 0 then 0 else s.dataLevel))
      (s.spanStart (s.radioLane tile lane) k + (s.radioLane tile lane).dataTime + s.replyNs) = false →
    ∃ t, exec (.spanReply tile lane k) s = .next t ∧ (t.radioLane tile lane).transmitting = 2 ∧
      (∃ l, (t.radioLane tile lane).store = (s.radioLane tile lane).store.erase d ++ l ∧ ∀ e ∈ l, e.kind = 5) ∧
      (t.radioLane tile lane).counter = ((s.radioLane tile lane).counter + 1) % 2 ^ 32) ∧
  (∀ (s : State) (tile lane k : Nat) (d : Downlink), k < (s.radioLane tile lane).broadcast →
    (s.radioLane tile lane).nextSpan ≤ k →
    (s.radioLane tile lane).sfn.isSome = true → (s.radioLane tile lane).channel ≠ 255 → s.radioSends tile lane = true →
    s.spanStart (s.radioLane tile lane) k ≤ s.tbNs + s.obj 0x3808 1 * 1000 →
    (s.radioLane tile lane).store.find? (fun d => d.meter == 4294967295) = some d →
    s.overDwell tile lane (18 + d.body.length + micLen s.dataLevel) (s.spanStart (s.radioLane tile lane) k) = false →
    ∃ t, exec (.broadcastSpan tile lane k) s = .next t ∧ (t.radioLane tile lane).transmitting = 2 ∧
      (∃ l, (t.radioLane tile lane).store = (s.radioLane tile lane).store.erase d ++ l ∧ ∀ e ∈ l, e.kind = 5) ∧
      (t.radioLane tile lane).counter = ((s.radioLane tile lane).counter + 1) % 2 ^ 32)

/-- A radio lane's frames, joins and downlink store: the counter of a meter moves with its authenticated frame, one that
does not open changes no association; link keys: a roll starts, each lane switches at its SFN, the old slots are destroyed
64 superframes later (from R295, R303 to R306, R310, R311, R314; the model's choices: log 26, 27, 75, 78). -/
def Obligations.RadioFrames : Prop :=
  (∀ (s : State) (tile lane sfd : Nat) (psdu b : Octets) (a : Assoc), tile < s.nTiles → lane < 8 →
    (s.radioLane tile lane).on = true → s.healthOf tile = 0 → (s.radioLane tile lane).transmitting = 0 →
    18 + micLen (fieldAt psdu 0 1 % 8) ≤ psdu.length →
    fieldAt psdu (psdu.length - 4) 4 = crc32 (psdu.take (psdu.length - 4)) → fieldAt psdu 0 1 / 16 = 1 →
    fieldAt psdu 6 4 = 0 → Tab.find? (s.radioLane tile lane).assocs (fieldAt psdu 2 4) = some a → a.state ≠ 0 →
    fieldAt psdu 0 1 % 8 = s.dataLevel → s.dataLevel ≠ 0 → a.counter < fieldAt psdu 10 4 →
    s.openOnLane tile (s.radioLane tile lane) psdu = some b →
    s.heat.laneDone.contains (portCode 1 tile lane * 4) = false →
    ∃ t, exec (.radioFrameReceived tile lane psdu sfd) s = .next t ∧
      Tab.find? (t.radioLane tile lane).assocs (fieldAt psdu 2 4) =
        some { a with counter := fieldAt psdu 10 4, heardAt := s.elapsed } ∧
      (∀ k, s.spanAt (s.radioLane tile lane) sfd = some k →
        (t.radioLane tile lane).uplink = some (k, fieldAt psdu 2 4, 1)) ∧
      (s.spanAt (s.radioLane tile lane) sfd = none → (t.radioLane tile lane).uplink = (s.radioLane tile lane).uplink)) ∧
  (∀ (s : State) (tile lane sfd : Nat) (psdu : Octets) (a : Assoc), tile < s.nTiles → lane < 8 →
    (s.radioLane tile lane).on = true → s.healthOf tile = 0 → (s.radioLane tile lane).transmitting = 0 →
    18 + micLen (fieldAt psdu 0 1 % 8) ≤ psdu.length →
    fieldAt psdu (psdu.length - 4) 4 = crc32 (psdu.take (psdu.length - 4)) → fieldAt psdu 0 1 / 16 = 1 →
    fieldAt psdu 6 4 = 0 → Tab.find? (s.radioLane tile lane).assocs (fieldAt psdu 2 4) = some a → a.state ≠ 0 →
    fieldAt psdu 0 1 % 8 = s.dataLevel → s.dataLevel ≠ 0 → a.counter < fieldAt psdu 10 4 →
    s.openOnLane tile (s.radioLane tile lane) psdu = none →
    ∃ t, exec (.radioFrameReceived tile lane psdu sfd) s = .next t ∧ t.radio = s.radio ∧ t.queues = s.queues ∧
      t.counter tile (17 + lane) 2 = satAdd 40 (s.counter tile (17 + lane) 2) 1) ∧
  (∀ (s : State) (tile lane meter : Nat) (y : Meter), s.meter? meter = some y → (s.radioLane tile lane).on = true →
    y.heardOnLane tile lane = true → s.joinLimit tile lane y = 0 →
    ∃ t a, exec (.radioJoin tile lane meter) s = .next t ∧ Tab.find? (t.radioLane tile lane).assocs meter = some a ∧
      a.state = 0 ∧ a.heardAt = s.elapsed) ∧
  (∀ (s : State) (tile lane meter : Nat) (a : Assoc), s.awake = true → Tab.find? (s.radioLane tile lane).assocs meter = some a →
    s.due a.heardAt 86400000000000 = true →
    ∃ t, exec (.associationExpiry tile lane meter) s = .next t ∧
      Tab.find? (t.radioLane tile lane).assocs meter = none ∧
      ∀ d ∈ (t.radioLane tile lane).store, d.meter ≠ meter) ∧
  (∀ (s : State) (tile lane : Nat) (pk : List (Word × Byte)), lane < 8 →
    ((s.fillStore tile lane).radioLane tile lane).store.length < 512 →
    s.reads tile (0x70 + lane) Producer.radioLane.code pk → frType (packetBytes pk) ≠ 6 →
    ∃ t d, exec (.downlinkStore tile lane) s = .next t ∧
      (t.radioLane tile lane).store = ((s.fillStore tile lane).radioLane tile lane).store ++ [d] ∧ d.meter = frMeter (packetBytes pk) ∧
      d.body = packetBytes pk ∧ d.at_ = s.elapsed ∧ d.ack = false) ∧
  (∀ (s : State) (tile lane : Nat), s.awake = true →
    ∃ t, exec (.downlinkExpiry tile lane) s = .next t ∧
      (∀ d ∈ (s.radioLane tile lane).store, s.due d.at_ (s.obj 0x3809 1 * 1000000000) = false →
        d ∈ (t.radioLane tile lane).store) ∧
      ∀ d ∈ (t.radioLane tile lane).store, d ∈ (s.radioLane tile lane).store ∧
        s.due d.at_ (s.obj 0x3809 1 * 1000000000) = false ∨ d.kind = 5 ∧ d.at_ = s.elapsed) ∧
  (∀ (s : State) (r : Req) (x : Session), Writes s r 0x380C 2 0 (be 1 1) x → s.radio.rolling = none →
    ∃ t, exec (.linkKeyRoll r) s = .next t ∧ (t.radio.rolling = some ((s.obj 0x380C 1 + 1) % 65536) ∨
      (t.radio.rolling = none ∧ t.obj 0x380C 1 = (s.obj 0x380C 1 + 1) % 65536))) ∧
  (∀ (s : State) (r : Req) (x : Session) (tile lane n : Nat) (y : RadioLane), Writes s r 0x380C 2 0 (be 1 1) x →
    s.radio.rolling = none → s.radio.lanes = [(tile * 8 + lane, y)] → tile < s.nTiles → lane < 8 → y.on = true →
    s.freeTileSlots tile = some n →
    ∃ t, exec (.linkKeyRoll r) s = .next t ∧ t.radio.rolling = some ((s.obj 0x380C 1 + 1) % 65536) ∧
      (t.radioLane tile lane).newKeySlot = some n ∧ (t.radioLane tile lane).switchSfn = s.sfnNow tile lane + 129 ∧
      (t.radioLane tile lane).keySlot = y.keySlot) ∧
  (∀ (s : State) (tile lane e n : Nat), s.awake = true → s.radio.rolling = some e → (s.radioLane tile lane).newKeySlot = some n →
    (s.radioLane tile lane).switchSfn ≤ s.sfnNow tile lane →
    ∃ t, exec (.linkKeySwitch tile lane) s = .next t ∧ (t.radioLane tile lane).keySlot = some n ∧
      (t.radioLane tile lane).oldKeySlot = (s.radioLane tile lane).keySlot ∧
      (t.radioLane tile lane).newKeySlot = none ∧ (t.radioLane tile lane).counter = 0 ∧ t.obj 0x380C 1 = e) ∧
  (∀ (s : State) (tile lane n : Nat), s.awake = true → (s.radioLane tile lane).oldKeySlot = some n →
    (s.radioLane tile lane).switchSfn + 64 ≤ s.sfnNow tile lane →
    ∃ t, exec (.linkKeyOldDestroy tile lane) s = .next t ∧ (t.radioLane tile lane).oldKeySlot = none ∧
      Tab.find? t.keys.slots (tileSlotKey tile n) = none ∧ Tab.find? t.keys.slots (tileSlotKey tile (n + 1)) = none)

/-- A meter's life: enrolment, a new incarnation, a new key epoch, retirement and its end (from R341,
R342; the model's choices: log 91). -/
def Obligations.MeterLife : Prop :=
  (∀ (s : State) (r : Req) (x : Session) (m inc epoch ruleSet interval limit g rec_ : Nat) (forerunner : Bool),
    Writes s r 0xC000 1 m (be 1 1) x → m ≠ 0 → m < 4294967295 → inc < 65536 → epoch < 65536 → s.meter? m = none →
    s.tunnel.relayMode = false →
    s.chooseGroup s.emptiestTile (s.feederOf { number := m }) (s.lossGroup { number := m }) none = some (g, rec_) →
    ∃ t y, exec (.enrol r m inc epoch ruleSet interval limit forerunner) s = .next t ∧ t.meter? m = some y ∧
      y.home = s.emptiestTile ∧ y.group = g ∧ y.record = rec_ ∧ y.incarnation = inc ∧ y.epoch = epoch ∧
      y.reportInterval = interval ∧ t.place.passDue = true) ∧
  (∀ (s : State) (r : Req) (x : Session) (m inc epoch : Nat) (y : Meter), Writes s r 0xC000 1 m (be 1 2) x →
    s.fenceOf m = none → s.meter? m = some y → y.retiring = false → y.incarnation < inc →
    ∃ t z, exec (.newIncarnation r m inc epoch) s = .next t ∧ t.meter? m = some z ∧
      z.incarnationChange = some (inc, epoch) ∧ 1 ≤ z.freezeStep) ∧
  (∀ (s : State) (r : Req) (x : Session) (m epoch n : Nat) (y : Meter), Writes s r 0xC000 1 m (be 1 3) x →
    s.fenceOf m = none → s.meter? m = some y → y.retiring = false → y.epoch < epoch → y.epochChange = none →
    y.served = true → s.newRequest y.home = some n →
    (s.holdsRequests y 0 = true ∨ s.takes y.home (requestQueue 0 y.group) .management 1) →
    ∃ t z, exec (.newKeyEpoch r m epoch) s = .next t ∧ t.meter? m = some z ∧
      z.epochChange = some (epoch, requestId (s.request y.home n).generation.toNat y.home n, false)) ∧
  (∀ (s : State) (r : Req) (x : Session) (m : Nat) (y : Meter), Writes s r 0xC000 1 m (be 1 4) x → s.fenceOf m = none →
    s.meter? m = some y → y.retiring = false →
    ∃ t z, exec (.retire r m) s = .next t ∧ t.meter? m = some z ∧ z.retiring = true ∧ z.unindexed = true ∧
      z.finalFolded = true) ∧
  (∀ (s : State) (m : Nat) (y : Meter), s.onBoundary = true → s.meter? m = some y → y.retiring = true →
    y.finalFolded = true → y.unindexed = true →
    ∃ t, exec (.retirementComplete m) s = .next t ∧ t.meter? m = none ∧
      (∀ e ∈ t.place.routes, e.1 % 4294967296 ≠ m) ∧ ∀ k, k ≠ m → t.meter? k = s.meter? k) ∧
  (∀ (s : State) (m e i : Nat) (y : Meter), s.onBoundary = true → s.meter? m = some y →
    y.epochChange = some (e, i, true) → s.fenceOf m = none → y.freezeStep ≤ 1 →
    ∃ t z, exec (.keyEpochApply m) s = .next t ∧ t.meter? m = some z ∧ z.epochChange = none ∧ z.freezeStep = 2 ∧
      z.freezeHeat = s.heat.count ∧ z.nearEnd = false)

/-- The freeze of a record's words, the requests held meanwhile, and silence (from R343, R348, R757). -/
def Obligations.FreezesAndSilence : Prop :=
  (∀ (s : State) (m : Nat) (y : Meter), s.onBoundary = true → s.meter? m = some y → y.freezeStep = 1 →
    s.fenceOf m = none →
    ∃ t z, exec (.freezeStart m) s = .next t ∧ t.meter? m = some z ∧ z.freezeStep = 2 ∧ z.freezeHeat = s.heat.count ∧
      z.hot = y.hot) ∧
  (∀ (s : State) (m w : Nat) (v : Word) (y : Meter), s.meter? m = some y → y.freezeStep = 2 → y.incarnationChange = none →
    y.freezeWords = [(w, v)] → w < 16 → s.hotOn y →
    ∃ t z, exec (.freezeWrite m) s = .next t ∧ t.meter? m = some z ∧ z.freezeStep = 3 ∧ z.freezeWords = [] ∧
      z.word w = v.toNat ∧ ∀ i < 16, i ≠ w → z.word i = y.word i) ∧
  (∀ (s : State) (m : Nat) (y : Meter), s.onBoundary = true → s.meter? m = some y → y.freezeStep = 3 →
    y.freezeHeat < s.heat.count →
    ∃ t z, exec (.freezeEnd m) s = .next t ∧ t.meter? m = some z ∧
      z.freezeStep = (if y.freezeWords = [] ∧ y.incarnationChange = none then 0 else 1) ∧ z.hot = y.hot) ∧
  (∀ (s : State) (m : Nat) (y : Meter) (h : HeldRequest), s.onBoundary = true → s.meter? m = some y → y.held = [h] →
    s.fenceOf m = none →
    s.quarantined y = false →
    s.takes y.home (requestQueue h.kind y.group) .management h.words.length →
    ∃ t z, exec (.returnedRequestRequeue m) s = .next t ∧ t.meter? m = some z ∧ z.held = [] ∧
      (t.queue y.home (requestQueue h.kind y.group)).words =
        (s.queue y.home (requestQueue h.kind y.group)).words ++ h.words) ∧
  (∀ (s : State) (m : Nat) (y : Meter), s.awake = true → s.meter? m = some y → y.silent = false →
    s.due y.heardAt (3 * y.reportInterval * 1000000000) = true →
    ∃ t z, exec (.meterSilent m) s = .next t ∧ t.meter? m = some z ∧ z.silent = true ∧ z.silentAt = s.elapsed ∧
      t.obj 0x2403 8 = satAdd 64 (s.obj 0x2403 8) 1)

/-- A command of the host to a meter, once its write reaches MeterCommand: its entry in the request table of the meter's
home tile holds the command's code and parameters, in state 0, and its request is queued or held (from R159, R346; the
model's choices: log 16). One clause covers the eleven commands of `Instr.submitted`. -/
def Obligations.MeterCommands : Prop :=
  ∀ (s : State) (c : Instr) (r : Req) (m code n : Nat) (params : Octets) (x : Session) (y : Meter),
    c.submitted = some (r, m, code, params) → Writes s r 0xC040 3 m (be 1 1) x → s.meter? m = some y → y.served = true →
    s.newRequest y.home = some n → (s.holdsRequests y 0 = true ∨ s.takes y.home (requestQueue 0 y.group) .management 1) →
    ∃ t, exec c s = .next t ∧ (t.request y.home n).busy = true ∧ (t.request y.home n).meter = m ∧
      (t.request y.home n).code = code ∧ (t.request y.home n).params = params.take (commandBytes code) ∧
      (t.request y.home n).state = 0 ∧ (t.request y.home n).generation = (s.request y.home n).generation ∧
      (s.holdsRequests y 0 = false → t.meters = s.meters)

/-- A sealed command that is not acknowledged: sealed again after the retry interval, expired after three (from R346, R347; the
model's choices: log 91). -/
def Obligations.CommandRetryAndExpiry : Prop :=
  (∀ (s : State) (id tile n : Nat) (r : Request) (y : Meter), s.awake = true → s.requestOf id = some (tile, n, r) →
    s.meter? r.meter = some y → r.state = 1 → y.served = true → (s.pair.state = 0 ∨ s.pair.baton = true) →
    s.due r.lastAt (s.retryInterval y * 1000000000) = true → s.expiryDue r = false →
    s.takes y.home (requestQueue 0 y.group) .management 1 → s.holdsRequests y 0 = false →
    s.requestWaits y id = false →
    ∃ t, exec (.commandReseal id) s = .next t ∧ (t.queue y.home (requestQueue 0 y.group)).words =
      (s.queue y.home (requestQueue 0 y.group)).words ++ requestPacket id r.meter ∧ t.meters = s.meters) ∧
  (∀ (s : State) (id tile n : Nat) (r : Request), s.awake = true → s.requestOf id = some (tile, n, r) →
    r.state = 1 → s.expiryDue r = true →
    ∃ t, exec (.commandExpired id) s = .next t ∧ t.requestOf id = none ∧
      satAdd 64 (s.obj 0x2403 6) 1 = t.obj 0x2403 6)

/-- Prepayment: enabling, disabling, a top-up, a held DISCONNECT whose friendly window has ended, a RECONNECT retried (from R396 to
R399; the model's choices: log 91). -/
def Obligations.Prepayment : Prop :=
  (∀ (s : State) (r : Req) (x : Session) (m opening : Nat) (y : Meter), Writes s r 0xC060 7 m (be 1 1) x →
    s.fenceOf m = none → s.meter? m = some y → y.isPrepay = false → entryLow (s.structEntry y.slotMap) ≠ 0 →
    s.hotOn y →
    ∃ t z, exec (.prepayEnable r m opening) s = .next t ∧ t.meter? m = some z ∧ z.isPrepay = true ∧
      z.topUpTotal = opening % 2 ^ 64 ∧ 1 ≤ z.freezeStep) ∧
  (∀ (s : State) (r : Req) (x : Session) (m : Nat) (y : Meter), Writes s r 0xC060 7 m (be 1 0) x → s.fenceOf m = none →
    s.meter? m = some y → y.isPrepay = true →
    ∃ t z, exec (.prepayDisable r m) s = .next t ∧ t.meter? m = some z ∧ z.isPrepay = false ∧
      z.prepay.disconnectId = 0 ∧ z.prepay.reconnectId = 0 ∧ z.prepay.topUpNew = y.prepay.topUpNew) ∧
  (∀ (s : State) (r : Req) (x : Session) (m amount id : Nat) (y : Meter), Writes s r 0xC060 6 m (be 1 1) x →
    s.fenceOf m = none → s.meter? m = some y → amount ≠ 0 → y.isPrepay = true → y.billing.lastTopUpId < id →
    y.prepay.topUpNew.getD y.topUpTotal + amount ≤ 2 ^ 63 - 1 →
    ∃ t z, exec (.topUp r m amount id) s = .next t ∧ t.meter? m = some z ∧
      z.prepay.topUpNew = some (y.prepay.topUpNew.getD y.topUpTotal + amount) ∧ z.billing.lastTopUpId = id) ∧
  (∀ (s : State) (m e n : Nat) (y : Meter), s.meter? m = some y → y.prepay.heldUntil = some e → e ≤ s.tbSeconds →
    y.isPrepay = true → y.prepayState = 3 → y.prepay.refusedForGood = false → y.prepay.disconnectId = 0 → y.served = true →
    s.friendlyHold y = none → s.newRequest y.home = some n →
    (s.holdsRequests y 0 = true ∨ s.takes y.home (requestQueue 0 y.group) .management 1) →
    ∃ t z, exec (.friendlyWindowEnd m) s = .next t ∧ t.meter? m = some z ∧ z.prepay.heldUntil = none ∧
      z.prepay.disconnectId = requestId (s.request y.home n).generation.toNat y.home n ∧
      (t.request y.home n).code = Cmd.disconnect) ∧
  (∀ (s : State) (m at_ n : Nat) (y : Meter), s.awake = true → s.meter? m = some y → y.prepay.reconnectAt = some at_ → at_ ≤ s.elapsed →
    0 < y.creditNow → y.prepayState = 5 → y.isPrepay = true → y.prepay.reconnectId = 0 → y.served = true →
    s.newRequest y.home = some n → (s.holdsRequests y 0 = true ∨ s.takes y.home (requestQueue 0 y.group) .management 1) →
    ∃ t z, exec (.reconnectRetry m) s = .next t ∧ t.meter? m = some z ∧ z.prepay.reconnectAt = none ∧
      z.prepay.reconnectId = requestId (s.request y.home n).generation.toNat y.home n ∧
      (t.request y.home n).code = Cmd.reconnect)

/-- A heat ends: the boundary is counted and its instant kept, on a unit that neither restarts nor has a host write put off
or a record of its peer to apply (from R34, R38, R41; the model's choices: log 39). -/
def Obligations.HeatBoundary : Prop :=
  ∀ (s : State) (t : Nat), s.heatEnds t = true → s.boot.phase = 9 → s.boot.change = none → s.boot.restart = none →
    s.pair.deferred = [] → s.pair.mgmt = [] →
    ∃ u, exec (.heatBoundary t) s = .next u ∧ u.heat.count = s.heat.count + 1 ∧ u.heat.boundaryAt = t ∧
      u.elapsed = t

/-- Pipelines released, diagnosis asked for and done, a function disabled, an event's rate interval over (from R94, R95,
R99, R657; the model's choices: log 29, 73). -/
def Obligations.PipelineUpkeep : Prop :=
  (∀ (s : State) (r : Req) (x : Session), Writes s r 0x2013 1 0 (be 1 1) x →
    ∃ t, exec (.pipelineRelease r) s = .next t ∧ t.meters = s.meters ∧
      t.fabric.pipes = s.fabric.pipes.map fun e => (e.1, if e.2.state = 2 then { e.2 with released := true } else e.2)) ∧
  (∀ (s : State) (r : Req) (x : Session), Writes s r 0x2018 1 0 (be 1 1) x → (s.isStandby = true ∨ s.boot.lifeCycle = 3) →
    s.fabric.diagnosis = none →
    ∃ t, exec (.diagnosisRequest r) s = .next t ∧ t.fabric.diagnosis.isSome = true ∧
      Tab.find? t.heat.halts 1 = some (s.heat.count + 1)) ∧
  (∀ (s : State) (tiles : Nat) (ring pacer cipher march : Bool), s.fabric.diagnosis.isSome = true → s.pair.state ≠ 6 →
    ∃ t, exec (.diagnosisDone tiles ring pacer cipher march) s = .next t ∧ t.fabric.diagnosis = none ∧
      Tab.find? t.heat.halts 1 = none ∧ t.obj 0x2018 2 = diagnosisWord tiles ring pacer cipher march) ∧
  (∀ (s : State) (f : Nat), Tab.has s.fabric.disabling f = true →
    (∀ x ∈ s.meters, x.served = true → x.port = f → 256 ≤ f) →
    (f < 128 → ∀ q ∈ laneReceive f, (s.queue (portTile f) q).unread = [] ∧ (s.queue (portTile f) q).openBy = none) →
    ∃ t, exec (.functionDisabled f) s = .next t ∧ Tab.has t.fabric.disabling f = false ∧
      Offers s t 0xE10C (if f < 128 then portTile f else 0) [f]) ∧
  (∀ (s : State) (code tile sub : Nat) (l : Limiter), Tab.find? s.fabric.limiters (limiterKey code tile sub) = some l →
    l.since + s.obj 0x2014 1 ≤ s.heat.count → l.suppressed = 0 →
    ∃ t, exec (.eventRateInterval code tile sub) s = .next t ∧
      Tab.find? t.fabric.limiters (limiterKey code tile sub) = none ∧ t.recorder = s.recorder)

/-- The transitions of a structure at their instants: a tariff switch, the slot-map word, a demand interval's end, a period
close, a calendar activated and applied (from R366, R384 to R387; the model's choices: log 24, 45). -/
def Obligations.TariffsAndPeriods : Prop :=
  (∀ (s : State) (n t : Nat), s.onBoundary = true → (s.structure n).inForce = true → t ≤ s.tbSeconds →
    (s.structure n).lastSwitch < t → (s.structure n).appliedAt < t → switchesAt (s.structure n).image t = true →
    ∃ u, exec (.tariffSwitch n t) s = .next u ∧ (u.structure n).lastSwitch = t ∧
      u.obj 0x4121 (n + 1) = tariffIn (s.structure n).image t ∧
      Offers s u 0xE501 0 [n, tariffAt (s.structure n).image t, tariffIn (s.structure n).image t]) ∧
  (∀ (s : State) (n : Nat), s.onBoundary = true → s.slotMapDue n = true →
    ∃ u, exec (.slotMapRewrite n) s = .next u ∧
      (u.structure n).slotMap = s.slotMapOf (s.structure n) ∧ u.meters = s.meters ∧
      ((s.structure n).replaced = none → (u.structure n).slotMap = slotMapFor (s.structure n).image s.tbSeconds)) ∧
  (∀ (s : State) (n t : Nat), s.onBoundary = true → s.demandEndsAt n t = true → t ≤ s.tbSeconds → (s.structure n).lastDemandEnd < t →
    ∃ u, exec (.demandIntervalEnd n t) s = .next u ∧ (u.structure n).lastDemandEnd = t ∧ u.meters = s.meters) ∧
  (∀ (s : State) (n t : Nat), s.onBoundary = true → s.closeDue n t = true →
    ∃ u, exec (.periodClose n t) s = .next u ∧ (u.structure n).periodIndex = (s.structure n).periodIndex + 1 ∧
      (u.structure n).lastClose = t ∧ u.obj 0x4131 (n + 1) = (s.structure n).periodIndex + 1 ∧
      Offers s u 0xE503 0 [n, (s.structure n).periodIndex]) ∧
  (∀ (s : State) (r : Req) (x : Session) (n t : Nat), Writes s r 0x4130 3 0 (be 1 1) x → n ≤ 254 →
    (s.structure n).lastClose < t →
    ∃ u, exec (.periodCloseRequest r n t) s = .next u ∧
      (u.structure n).closeRequests = (s.structure n).closeRequests ++ [t]) ∧
  (∀ (s : State) (r : Req) (x : Session) (n e : Nat), Writes s r 0x4120 6 0 (be 1 1) x →
    (s.structure n).heldImage ≠ [] → calendarOk (s.structure n).heldImage (entryTariffs (s.structEntry n)) = true →
    (s.structure n).lastClose < e → s.tbSeconds + 60 ≤ e →
    ∃ u, exec (.calendarActivate r n e) s = .next u ∧ (u.structure n).pending = true ∧
      (u.structure n).pendingAt = divUp e 60 * 60 ∧ (u.structure n).pendingImage = (s.structure n).heldImage) ∧
  (∀ (s : State) (n : Nat), s.onBoundary = true → (s.structure n).pending = true → (s.structure n).pendingAt ≤ s.tbSeconds →
    ∃ u, exec (.calendarApply n) s = .next u ∧ (u.structure n).inForce = true ∧ (u.structure n).pending = false ∧
      (u.structure n).image = (s.structure n).pendingImage ∧
      u.obj 0x4121 (n + 1) = tariffIn (s.structure n).pendingImage (s.structure n).pendingAt)

/-- A fold that is due runs, a drained record enters the interval ring, a threshold descriptor moves PrepayState, a tamper
event sets the indicator (from R372, R375, R397, R422, R481; the model's choices: log 18, 19). -/
def Obligations.FoldsAndDescriptors : Prop :=
  (∀ (s : State) (tile : Nat), tile ∈ s.heat.foldDue → s.stepDue = none → s.dramHeld tile = false →
    ∃ t, exec (.billingFold tile) s = .next t ∧ t.heat.foldDue = s.heat.foldDue.filter (· != tile) ∧
      Tab.getD t.billing.sweep tile 0 = (Tab.getD s.billing.sweep tile 0 + s.sweepShare) % 262144) ∧
  (∀ (s : State) (tile pipe : Nat) (pk : List (Word × Byte)), s.reads tile (0x30 + pipe) Producer.dma.code pk →
    s.dramHeld tile = false →
    ∃ t, exec (.coldStoreDrain tile pipe) s = .next t ∧ (t.flash tile).ring.getLast? =
        some (s.ringRecord ((Tab.getD s.billing.recordKinds (tile * 8 + pipe) []).headD 0) (pk.map (·.1))) ∧
      (t.flash tile).hourCount = (s.flash tile).hourCount + 1) ∧
  (∀ (s : State) (tile pipe d : Nat) (b : Octets) (y : Meter), s.eventHead tile pipe 2 = some (d, b) →
    d % 8 = 1 → s.meter? (d / 4294967296) = some y → y.isPrepay = true → y.prepayState = 0 →
    s.hotOn y →
    ∃ t z, exec (.creditThreshold tile pipe) s = .next t ∧ t.meter? (d / 4294967296) = some z ∧ z.prepayState = 1 ∧
      z.emergencyAvailable = y.emergencyAvailable) ∧
  (∀ (s : State) (tile pipe d : Nat) (b : Octets) (y : Meter), s.eventHead tile pipe 2 = some (d, b) →
    d % 8 = 2 → s.meter? (d / 4294967296) = some y → y.isPrepay = true → y.prepayState ≤ 1 →
    y.emergencyAvailable = true → s.hotOn y →
    ∃ t z, exec (.creditThreshold tile pipe) s = .next t ∧ t.meter? (d / 4294967296) = some z ∧ z.prepayState = 2 ∧
      z.emergencyAvailable = false ∧ Offers s t 0xE50B 0 [d / 4294967296]) ∧
  (∀ (s : State) (tile pipe d : Nat) (b : Octets) (y : Meter), s.eventHead tile pipe 1 = some (d, b) →
    (fieldAt b 4 2 = 1 ∨ fieldAt b 4 2 = 2) → s.meter? (field d 63 32) = some y → s.hotOn y →
    ∃ t z, exec (.meterEvent tile pipe) s = .next t ∧ t.meter? (field d 63 32) = some z ∧ bitAt (z.word 15) 7 = true)

/-- The loss engine: a snapshot broadcast, opened, asked for and closed; the running power; an indicator cleared; a member's
feeder or phase changed (from R349, R409, R415 to R417, R422; the model's choices: log 49). -/
def Obligations.LossEngine : Prop :=
  (∀ (s : State) (id cycle : Nat) (tags : List Nat), s.obj 0x2401 1 ≤ toSigned 32 (wrapSub 32 cycle s.line.cycle) →
    ∃ t, exec (.snapshot id cycle tags) s = .next t ∧ Offers s t 0xE48C 0 [id, cycle, (s.snapshotPorts (tags.take 8)).length] ∧ t.meters = s.meters) ∧
  (∀ (s : State) (f : Nat), s.lossRuns = true → s.onBoundary = true → s.obj 0x4800 1 ≠ 0 → s.clock.state ≠ 0 →
    s.tbSeconds % max 1 (s.obj 0x4801 1) = 0 → f ∈ s.enabledFeeders → (s.feeder f).lastDue ≠ s.tbSeconds →
    s.openSnapshot f = none →
    ∃ t x, exec .snapshotOpen s = .next t ∧ t.openSnapshot f = some x ∧ x.openedAt = s.elapsed ∧ x.closing = false ∧
      (t.feeder f).lastDue = s.tbSeconds) ∧
  (∀ (s : State) (r : Req) (x : Session) (f : Nat), Writes s r 0x4802 2 0 (be 1 1) x → f ≠ 0 → f ≤ 8192 →
    f ∈ s.enabledFeeders → s.openSnapshot f = none →
    ∃ t x, exec (.snapshotRequest r f) s = .next t ∧ t.openSnapshot f = some x ∧ x.openedAt = s.elapsed ∧
      x.closing = false) ∧
  (∀ (s a : State) (f : Nat) (x : Snapshot), a = s.drainLoss.pushSwaps → a.openSnapshot f = some x → x.closing = false →
    s.onBoundary = true →
    (a.allReplied x = true ∨ x.target + s.obj 0x2401 2 * 1000000000 ≤ s.tbNs) →
    ∃ t y, exec (.snapshotClose f) s = .next t ∧ t.openSnapshot f = some y ∧ y.id = x.id ∧ y.closing = true ∧
      y.awaited = (a.liveSums f).length) ∧
  (∀ (s a : State) (f : Nat) (x : Snapshot), a = s.drainLoss.pushSwaps → a.openSnapshot f = some x → x.closing = true →
    x.awaited ≤ (a.loss.returned.countP fun e => e.1 == x.id && e.2.1 == f) →
    ∃ t, exec (.snapshotClose f) s = .next t ∧ t.openSnapshot f = none ∧
      Offers s t 0xE580 0 [x.id, 1, bit01 !(a.shortResults (a.gather x)).isEmpty]) ∧
  (∀ (s : State) (f : Nat), s.lossRuns = true → 1000000000 ≤ s.elapsed - (s.feeder f).wordsAt →
    ∃ t, exec (.feederRunningPower f) s = .next t ∧ (t.feeder f).wordsAt = s.elapsed ∧
      (t.feeder f).words = (List.range 4).map (fun g => s.runningNet f g) ∧ t.meters = s.meters) ∧
  (∀ (s : State) (r : Req) (x : Session) (m : Nat) (y : Meter), Writes s r 0xC070 8 m (be 1 1) x → s.fenceOf m = none →
    s.meter? m = some y → s.hotOn y →
    ∃ t z, exec (.indicatorClear r m) s = .next t ∧ t.meter? m = some z ∧ bitAt (z.word 15) 7 = false ∧
      bitAt (z.word 15) 4 = false) ∧
  (∀ (s : State) (r : Req) (x : Session) (m v : Nat) (y : Meter), Writes s r 0xC070 1 m (be 2 v) x → s.fenceOf m = none →
    s.meter? m = some y → v ≤ 8192 →
    ∃ t z, exec (.membershipChange r m 1 v) s = .next t ∧ t.meter? m = some z ∧ z.loss.feederTag = v) ∧
  (∀ (s : State) (r : Req) (x : Session) (m v : Nat) (y : Meter), Writes s r 0xC070 2 m (be 1 v) x → s.fenceOf m = none →
    s.meter? m = some y → v ≤ 4 →
    ∃ t z, exec (.membershipChange r m 2 v) s = .next t ∧ t.meter? m = some z ∧ z.loss.declaredPhase = v)

/-- Readouts: asked for, chained 64 B a slot, and signed (from R88, R401 to R403, R441; the model's choices: log 33). -/
def Obligations.Readouts : Prop :=
  (∀ (s : State) (r : Req) (x : Session) (m kind cls arg count : Nat) (y : Meter), Writes s r 0xC051 5 m (be 1 1) x →
    s.meter? m = some y → s.readoutRefusal y kind cls arg count = none →
    (∀ q ∈ s.billing.readouts, q.id < s.billing.nextReadout) →
    (kind ≤ 2 ∨ (s.mem.errors = [] ∧ s.billing.readouts = [])) →
    ∃ t q, exec (.meterReadout r m kind cls arg count) s = .next t ∧ q ∈ t.billing.readouts ∧
      q.id = s.billing.nextReadout ∧ q.meter = m ∧ q.kind = kind ∧ q.cls = cls ∧
      t.billing.nextReadout = s.billing.nextReadout + 1) ∧
  (∀ (s : State) (r : Req) (x : Session) (n kind cls : Nat) (y : Meter), Writes s r 0x4142 4 0 (be 1 1) x → y ∈ s.meters →
    y.retiring = false → (n = 0xFF ∨ y.slotMap = n) →
    s.readoutRefusal y kind cls (if kind = 2 then ((s.periodsHeld y.number).getLast?.map (·.periodIndex)).getD 0 else 0)
      96 = none →
    (∀ q ∈ s.billing.readouts, q.id < s.billing.nextReadout) →
    (kind ≤ 2 ∨ (s.mem.errors = [] ∧ s.billing.readouts = [] ∧ s.meters = [y])) →
    ∃ t q, exec (.bulkReadout r n kind cls) s = .next t ∧ q ∈ t.billing.readouts ∧ q.meter = y.number ∧ q.kind = kind ∧
      q.bulk = true) ∧
  (∀ (s : State) (tile pipe k : Nat) (pk : List (Word × Byte)) (x : Meter) (q : Readout) (key : Octets),
    Performs s 2 tile pipe k (0x10 + pipe) pk x →
    s.billing.readouts.find? (fun q => decide (q.id = packetHead pk / 4294967296) && q.phase == 1) = some q →
    s.readoutRoot q.cls = some key → q.mode = 1 → q.done_ + 64 < q.text.length →
    ∃ t z, exec (.readoutSlot tile pipe k) s = .next t ∧ z ∈ t.billing.readouts ∧ z.id = q.id ∧
      z.done_ = q.done_ + 64 ∧ z.chain = chainBlocks key q.chain (blocks16 ((q.text.drop q.done_).take 64))) ∧
  (∀ (s : State) (tile : Nat) (q : Readout), s.awake = true →
    (s.billing.readouts.find? fun q => q.phase == 2 && (match s.meter? q.meter with
      | some x => x.home == tile
      | none => tile == 0)) = some q →
    (s.kat tile 1).faulted = false → (s.kat tile 2).faulted = false →
    ∃ t, exec (.readoutSigned tile) s = .next t ∧ (∀ z ∈ t.billing.readouts, z.id = q.id → z.phase = 3) ∧
      t.backlogOf tile = s.backlogOf tile - signWork q.text.length)

/-- The flash translation: formatting, ring-log pages, segments sealed, folded, expired and purged, garbage collection,
checkpoints, restore, worn blocks (from R477 to R500; the model's choices: log 31, 79). -/
def Obligations.FlashTranslation : Prop :=
  (∀ (s : State) (r : Req) (x : Session) (tile : Nat), Writes s r 0x600A 1 0 (be 1 tile) x → tile < s.nTiles →
    s.boot.lifeCycle ≠ 2 → s.boot.lifeCycle ≠ 4 → s.nandUsable = true →
    s.zoneLargeEnough tile (s.goodBlocks tile) (s.obj 0x6004 4) = true →
    ∃ t, exec (.formatRequest r tile) s = .next t ∧ (t.flash tile).formatted = true ∧
      (t.flash tile).zone = s.goodBlocks tile * s.obj 0x6002 1 / 1000 ∧
      (t.flash tile).slc = s.goodBlocks tile * s.obj 0x6002 2 / 1000 ∧ t.obj 0x6005 (tile + 1) = 0 ∧
      (∀ g ∈ t.store.segments, g.tile ≠ tile)) ∧
  (∀ (s : State) (tile : Nat) (rs : List RingRecord) (e : RingRecord), s.nandWrites tile = true →
    512 ≤ ((s.flash tile).ring.countP fun r => !r.logged) →
    rs = ((s.flash tile).ring.filter fun r => !r.logged).take 512 → rs.getLast? = some e →
    ((s.flash tile).write false s.elapsed (recordPages (ringLogOwner e.hour) (s.flash tile).nextLogical rs)).2 = [] →
    ∃ t, exec (.ringLogWrite tile) s = .next t ∧
      ((t.flash tile).ring.countP fun r => !r.logged) + 512 = ((s.flash tile).ring.countP fun r => !r.logged)) ∧
  (∀ (s a : State) (tile h : Nat) (rs : List RingRecord), a = s.hourTurn tile → tile < s.nTiles →
    a.hourToSeal tile = some h → a.nandWrites tile = true →
    rs = ((a.flash tile).ring.filter fun r => r.hour == h && !r.saved).take 1048576 →
    (∀ r ∈ rs, a.recordTier2 r = false) →
    (((a.gcAhead tile false).flash tile).write false s.elapsed (recordPages s.store.nextSegment
      ((a.gcAhead tile false).flash tile).nextLogical (rs.mergeSort RingRecord.before))).2 = [] →
    ∃ t, exec (.segmentSeal tile) s = .next t ∧ t.store.segments = s.store.segments ++
      [{ id := s.store.nextSegment, tile := tile, hour := h, tlc := false, records := rs.mergeSort RingRecord.before,
         sealedAt := s.elapsed, index := (List.range (divUp (rs.mergeSort RingRecord.before).length 512)).map fun i =>
           (((rs.mergeSort RingRecord.before)[512 * i]?).map (·.meter)).getD 0 }]) ∧
  (∀ (s : State) (tile h : Nat), s.awake = true → s.hourToSeal tile = some h → (h + 1) * 3600 + 600 < s.tbSeconds →
    (s.flash tile).lateHour ≠ some h →
    ∃ t, exec (.segmentLate tile) s = .next t ∧ (t.flash tile).lateHour = some h ∧
      Offers s t 0xE68D tile [tile, h, (s.tbSeconds - (h + 1) * 3600) / 60]) ∧
  (∀ (s a : State) (tile : Nat) (g : Segment) (v : Bool), a = (s.readSegment g fun _ => true).gcAhead tile true →
    s.slcSegment tile = some g → s.nandWrites tile = true →
    s.due g.sealedAt (s.obj 0x6004 1 * 1000000000) = true →
    ((a.flash tile).write true s.elapsed (recordPages g.id (a.flash tile).nextLogical g.records)).2 = [] →
    v = ((a.writePages tile true 3 65536 (recordPages g.id (a.flash tile).nextLogical g.records)).2.verifyPages tile true
      g.id).1 →
    ∃ t, exec (.slcSegmentFold tile) s = .next t ∧
      t.store.segments.map (fun h => (h.id, h.tile, h.hour, h.records, h.tlc)) =
        s.store.segments.map fun h => (h.id, h.tile, h.hour, h.records, h.tlc || (v && h.id == g.id))) ∧
  (∀ (s : State) (tile : Nat), s.awake = true → ∃ t, exec (.historyExpiry tile) s = .next t ∧
    ∀ g ∈ t.store.segments, g ∈ s.store.segments ∧
      ¬ (g.tile = tile ∧ (g.hour + 1) * 3600 + s.obj 0x6004 3 * 86400 < s.tbSeconds)) ∧
  (∀ (s : State) (tile k : Nat) (tlc : Bool) (b : Block), s.gcBlock tile tlc = some (k, b) → s.nandWrites tile = true →
    s.gcRuns tile tlc = true →
    ∃ t, exec (.garbageCollection tile tlc) s = .next t ∧
      Tab.getD (t.flash tile).erases (2 * k + bit01 tlc) 0 = Tab.getD (s.flash tile).erases (2 * k + bit01 tlc) 0 + 1) ∧
  (∀ (s : State) (tile : Nat), tile < s.nTiles → (s.flash tile).formatted = true → s.partRuns = true →
    s.checkpointDue tile = true →
    ∃ t, exec (.checkpointPage tile) s = .next t ∧ (t.flash tile).zoneWrites = (s.flash tile).zoneWrites + 1 ∧
      (∀ m ∈ s.meters, m.home = tile → (s.flash tile).checkpointNext ≤ m.record →
        m.record < (s.flash tile).checkpointNext + 21 → (∀ y ∈ s.meters, y.number = m.number → y = m) →
        Tab.find? t.store.checkpoints m.number =
          some { meter := m.number, position := s.billing.nextPage, page := (s.flash tile).checkpointNext / 21,
                 seq := (s.flash tile).writeSeq, cold := m.cold, billing := m.billing })) ∧
  (∀ (s : State) (tile ms : Nat) (lost : List Nat), tile ∈ s.boot.restoringTiles →
    ∃ t, exec (.storageRestore tile lost ms) s = .next t ∧
      t.boot.restoringTiles = s.boot.restoringTiles.filter (· != tile) ∧
      t.boot.restored = (s.boot.restoringTiles.filter (· != tile)).isEmpty ∧
      (lostCheckpoints lost = [] → Offers s t 0xE68B tile
        [tile, (s.replayPages tile).length - ((s.replayPages tile).countP fun p => (lostJournal lost).contains p.number), ms])) ∧
  (∀ (s : State) (r : Req) (x : Session) (before : Nat), Writes s r 0x6009 2 0 (be 1 1) x →
    ∃ t, exec (.historyPurge r before) s = .next t ∧
      ∀ g ∈ t.store.segments, g ∈ s.store.segments ∧ before ≤ (g.hour + 1) * 3600) ∧
  (∀ (s : State) (tile block pool reason : Nat), tile < s.nTiles → (s.flash tile).formatted = true →
    (s.flash tile).retired.contains block = false →
    ∃ t, exec (.blockRetire tile block pool reason) s = .next t ∧
      (t.flash tile).retired = (s.flash tile).retired ++ [block])

/-- The key store: a slot destroyed, a key exported and imported, a generation raised, the self-tests of a cryptographic
unit (from R457 to R460, R464, R467, R468; the model's choices: log 27, 28). -/
def Obligations.KeyStore : Prop :=
  (∀ (s : State) (r : Req) (x : Session) (n : Nat), Writes s r 0x5003 2 0 (be 1 1) x → n ≤ 1023 → s.slotBusy n = false →
    ∃ t, exec (.keyDestroy r n) s = .next t ∧ t.keySlot n = none ∧
      Offers s t 0xE600 0 [n, ((s.keySlot n).getD {}).label, keyCheck ((s.keySlot n).getD {}).material]) ∧
  (∀ (s : State) (r : Req) (x : Session) (kind wrap target inc epoch : Nat) (kek hdr k : Octets),
    Writes s r 0x5031 6 0 (be 1 1) x → x.lasts → kind ≤ 2 → (kind = 1 → target ≤ 14) →
    (s.boot.lifeCycle = 1 ∨ s.boot.lifeCycle = 2) → (Tab.getD s.keys.kats 0 {}).faulted = false →
    s.wrapSlot wrap = some kek → s.exportKey kind target inc epoch = some (hdr, k) →
    ∃ t y, exec (.keyExport r kind wrap target inc epoch) s = .next t ∧ t.session? x.id = some y ∧
      y.oct 0 0x5031 7 = padTo 40 (wrapKey kek hdr k)) ∧
  (∀ (s : State) (r : Req) (x : Session) (target wrap : Nat) (hdr blob kek k : Octets),
    Writes s r 0x5030 5 0 (be 1 1) x → x.lasts → 64 ≤ target → target ≤ 1023 → s.keySlot target = none →
    (Tab.getD s.keys.kats 0 {}).faulted = false → s.gated 0 = false →
    1 ≤ fieldAt hdr 4 1 → fieldAt hdr 4 1 ≤ 3 → fieldAt hdr 5 1 ≤ 3 → s.wrapSlot wrap = some kek →
    unwrapKey kek (slice hdr 0 16) (slice blob 0 (if fieldAt hdr 4 1 = 1 then 24 else 40)) = some k →
    ∃ t y, exec (.keyImport r target wrap hdr blob) s = .next t ∧ t.keySlot target = some y ∧ y.material = k ∧
      y.type = fieldAt hdr 4 1 ∧ y.use = fieldAt hdr 5 1 ∧ y.origin = 1) ∧
  (∀ (s : State) (r : Req) (x : Session) (sub v : Nat), Writes s r 0x5010 sub 0 (be 2 v) x → sub ≤ 23 →
    s.pendNum 0x5010 sub < v →
    ∃ t, exec (.keyGenerationRaise r sub v) s = .next t ∧ t.pendNum 0x5010 sub = v ∧ t.obj 0x5010 sub = s.obj 0x5010 sub) ∧
  (∀ (s : State) (r : Req) (x : Session) (sub v : Nat), Writes s r 0x5010 sub 0 (be 2 v) x → 23 < sub →
    s.pendNum 0x5010 sub < v →
    ∃ t, exec (.keyGenerationRaise r sub v) s = .next t ∧ t.obj 0x5010 sub = v ∧ t.keys.attestSeq = s.keys.attestSeq + 1 ∧
      Offers s t 0xE605 0 [sub, v]) ∧
  (∀ (s : State) (tile u vector : Nat), s.awake = true → tile < s.nTiles → u < 16 → (s.kat tile u).faulted = false →
    ∃ t, exec (.cryptoKat tile u true vector) s = .next t ∧ (t.kat tile u).faulted = false ∧
      (t.kat tile u).lastAt = s.elapsed) ∧
  (∀ (s : State) (tile u vector : Nat), s.awake = true → tile < s.nTiles → u < 16 → (s.kat tile u).faulted = false →
    ∃ t, exec (.cryptoKat tile u false vector) s = .next t ∧ (t.kat tile u).faulted = true ∧
      Offers s t 0xE608 tile [tile, u, vector]) ∧
  (∀ (s : State) (tile u : Nat), (s.kat tile u).faulted = true → s.due (s.kat tile u).lastAt 100000000 = true →
    ∃ t, exec (.cryptoRetest tile u false) s = .next t ∧ (t.kat tile u).faulted = true ∧ (t.kat tile u).passes = 0) ∧
  (∀ (s : State) (tile u : Nat), (s.kat tile u).faulted = true → s.due (s.kat tile u).lastAt 100000000 = true →
    (s.kat tile u).passes < 2 →
    ∃ t, exec (.cryptoRetest tile u true) s = .next t ∧ (t.kat tile u).faulted = true ∧
      (t.kat tile u).passes = (s.kat tile u).passes + 1) ∧
  (∀ (s : State) (tile u : Nat), (s.kat tile u).faulted = true → s.due (s.kat tile u).lastAt 100000000 = true →
    2 ≤ (s.kat tile u).passes →
    ∃ t, exec (.cryptoRetest tile u true) s = .next t ∧ (t.kat tile u).faulted = false ∧
      Offers s t 0xE609 tile [tile, u])

/-- Owner tokens: a valid one with zero parameters takes effect and moves the challenge on (from R461, R516, R629, R631, R685). -/
def Obligations.OwnerTokens : Prop :=
  (∀ (s : State) (r : Req) (x : Session) (params tag : Octets), Writes s r 0x5040 5 0 (be 1 1) x → (∀ b ∈ params, b = 0) →
    s.tokenValid 1 params tag = true →
    ∃ t, exec (.setOwnerLock r params tag) s = .next t ∧ t.obj 0xA025 1 = 1 ∧ t.keys.tokens = s.keys.tokens + 1) ∧
  (∀ (s : State) (r : Req) (x : Session) (params tag : Octets), Writes s r 0x5040 5 0 (be 1 1) x → (∀ b ∈ params, b = 0) →
    s.tokenValid 2 params tag = true →
    ∃ t, exec (.clearOwnerLock r params tag) s = .next t ∧ t.obj 0xA025 1 = 0 ∧ t.keys.tokens = s.keys.tokens + 1) ∧
  (∀ (s : State) (r : Req) (x : Session) (params tag : Octets), Writes s r 0x5040 5 0 (be 1 1) x → (∀ b ∈ params, b = 0) →
    s.tokenValid 3 params tag = true → s.mayEnterService = true →
    ∃ t, exec (.enterService r params tag) s = .next t ∧ t.boot.change = some (3, 0) ∧ t.keys.tokens = s.keys.tokens + 1) ∧
  (∀ (s : State) (r : Req) (x : Session) (params tag : Octets), Writes s r 0x5040 5 0 (be 1 1) x → (∀ b ∈ params, b = 0) →
    s.tokenValid 4 params tag = true → s.mayLeaveService = true →
    ∃ t, exec (.leaveService r params tag) s = .next t ∧ t.boot.change = some (2, 0) ∧ t.keys.tokens = s.keys.tokens + 1) ∧
  (∀ (s : State) (r : Req) (x : Session) (params tag : Octets), Writes s r 0x5040 5 0 (be 1 1) x → (∀ b ∈ params, b = 0) →
    s.tokenValid 5 params tag = true → s.clock.armed = 0 →
    ∃ t, exec (.rearmTimeStep r params tag) s = .next t ∧ t.clock.armed = 1 ∧
      t.clock.armUntil = some (s.elapsed + s.obj 0x7004 3 * 1000000000) ∧ t.keys.tokens = s.keys.tokens + 1) ∧
  (∀ (s : State) (r : Req) (x : Session) (params tag : Octets), Writes s r 0x5040 5 0 (be 1 1) x → (∀ b ∈ params, b = 0) →
    s.tokenValid 6 params tag = true → s.mayEnterVoid = true →
    ∃ t, exec (.enterVoid r params tag) s = .next t ∧ t.boot.change = some (4, 0) ∧ t.keys.tokens = s.keys.tokens + 1)

/-- Tunnels: datagrams that pass their checks, a silent relay, a frame moved to the unrouted queue, what a relay sends (from
R354 to R359; the model's choices: log 20, 32). -/
def Obligations.Tunnels : Prop :=
  (∀ (s : State) (port i : Nat) (d : Octets) (rs : List (Octets × Octets)), s.power.pilot < 2 → s.tunnelOpen port = true →
    (s.pair.state = 0 ∨ s.pair.baton = true) → s.checkDatagram d 0 = .ok (i, rs) →
    (Tab.getD s.tunnel.buffers port []).length + rs.length ≤ 16384 →
    ∃ t, exec (.tunnelUplink port d) s = .next t ∧
      Tab.getD t.tunnel.buffers port [] = Tab.getD s.tunnel.buffers port [] ++ rs.map (s.tunnelPacket port i) ∧
      (Tab.getD t.tunnel.relays i {}).lastSeq = dgSeq d ∧ (Tab.getD t.tunnel.relays i {}).heardAt = s.elapsed) ∧
  (∀ (s : State) (port c : Nat) (d : Octets), s.power.pilot < 2 → s.tunnelOpen port = true →
    (s.pair.state = 0 ∨ s.pair.baton = true) → s.checkDatagram d 0 = .error c →
    ∃ t, exec (.tunnelUplink port d) s = .next t ∧ t.tunnel = s.tunnel ∧ t.obj 0x3C05 2 = satAdd 64 (s.obj 0x3C05 2) 1) ∧
  (∀ (s : State) (port i : Nat) (d : Octets) (rs : List (Octets × Octets)), s.power.pilot < 2 → s.tunnelOpen port = true →
    s.checkDatagram d 2 = .ok (i, rs) →
    ∃ t, exec (.tunnelKeepalive port d) s = .next t ∧ (Tab.getD t.tunnel.relays i {}).lastSeq = dgSeq d ∧
      (Tab.getD t.tunnel.relays i {}).heardAt = s.elapsed ∧ t.tunnel.buffers = s.tunnel.buffers) ∧
  (∀ (s : State) (port i : Nat) (d : Octets) (rs : List (Octets × Octets)), s.power.pilot < 2 →
    s.tunnel.relayMode = true → s.tunnelOpen port = true → s.checkDatagram d 1 = .ok (i, rs) →
    ∃ t, exec (.tunnelDownlink port d) s = .next t ∧ (Tab.getD t.tunnel.relays i {}).lastSeq = dgSeq d ∧
      (Tab.getD t.tunnel.relays i {}).heardAt = s.elapsed) ∧
  (∀ (s : State) (i : Nat), s.awake = true → (Tab.getD s.tunnel.relays i {}).state = 1 →
    s.due (Tab.getD s.tunnel.relays i {}).heardAt (3 * s.obj 0x3C02 1 * 1000000) = true →
    ∃ t, exec (.relaySilent i) s = .next t ∧ (Tab.getD t.tunnel.relays i {}).state = 2 ∧ t.place.passDue = true ∧
      Offers s t 0xE48A 0 [i, fieldAt (s.relayEntry i) 0 4]) ∧
  (∀ (s : State) (port : Nat) (pk : List (Word × Byte)) (rest : List (List (Word × Byte))), port < 3 → s.partRuns = true →
    Tab.getD s.tunnel.buffers port [] = pk :: rest → s.directory (packetMeter pk) = none →
    s.takes 0 0xA1 .forwarder pk.length →
    ∃ t, exec (.tunnelStageMove port) s = .next t ∧ Tab.getD t.tunnel.buffers port [] = rest ∧
      (t.queue 0 0xA1).words = (s.queue 0 0xA1).words ++ pk ∧
      t.queues.unroutedAt = s.queues.unroutedAt ++ [(0, s.elapsed)]) ∧
  (∀ (s : State), s.awake = true → s.tunnel.relayMode = true → s.tunnel.uplink ≠ [] → s.tunnelKeyed = true →
    (s.due s.tunnel.uplinkAt 1000000 = true ∨ 12 ≤ s.tunnel.uplink.length) →
    ∃ t, exec .relayUplinkSend s = .next t ∧ t.tunnel.uplink = [] ∧ t.tunnel.lastUplinkAt = s.elapsed ∧
      s.SendsUp t (s.makeDatagram 0 0 s.ownTunnelKey s.tunnel.uplink).1) ∧
  (∀ (s : State), s.awake = true → s.tunnel.relayMode = true → s.tunnelKeyed = true →
    s.due s.tunnel.lastUplinkAt (s.obj 0x3C02 1 * 1000000) = true →
    ∃ t, exec .relayKeepaliveSend s = .next t ∧ t.tunnel.lastUplinkAt = s.elapsed ∧
      s.SendsUp t (s.makeDatagram 2 0 s.ownTunnelKey []).1)

/-- The timebase: a sample of the host, a step, its expiry, a silent source, alignment, the rate, a new source; the time
outputs and the time input (from R507 to R518, R524 to R527; the model's choices: log 34, 57, 80). -/
def Obligations.Timebase : Prop :=
  (∀ (s : State) (r : Req) (x : Session) (sec ns : Nat), Writes s r 0x7020 3 0 (be 1 1) x → ns ≤ 999999999 →
    s.clock.source = 3 →
    ∃ t, exec (.hostTimeSet r sec ns) s = .next t ∧
      t.clock.offset = ((sec * 1000000000 + ns : Nat) : Int) - (s.tbNs : Int) ∧ t.clock.sampleAt = s.elapsed) ∧
  (∀ (s : State) (d : Int), s.stepDue = some d →
    ∃ t, exec .timeStep s = .next t ∧ t.clock.tb = ((s.clock.tb : Int) + d * 4294967296).toNat ∧ t.clock.step = none ∧
      t.clock.armed = 0 ∧ t.clock.state = 1 ∧ Offers s t 0xE700 0 [ofSigned 64 d, s.clock.source]) ∧
  (∀ (s : State), (s.clock.state = 1 ∨ s.clock.state = 2) → s.due s.clock.sampleAt (s.obj 0x7005 4 * 1000000000) = true →
    ∃ t, exec .sourceTimeout s = .next t ∧ t.clock.state = 3 ∧ t.obj 0x7002 1 = 3 ∧
      Offers s t 0xE703 0 [s.clock.state, 3, s.clock.source]) ∧
  (∀ (s : State) (e : Nat), s.clock.armUntil = some e → s.clock.armed = 1 → e ≤ s.elapsed →
    ∃ t, exec .stepArmExpiry s = .next t ∧ t.clock.armed = 0 ∧ t.clock.armUntil = none ∧ Offers s t 0xE702 0 [1]) ∧
  (∀ (s : State) (tile : Nat) (e : Int), s.alignsNow tile = true →
    ∃ t, exec (.slaveAlignment tile e) s = .next t ∧ Tab.find? t.clock.slaves tile = some e ∧
      Tab.find? t.clock.alignedMs tile = some (s.tbMs + 1) ∧
      t.clock = { s.clock with slaves := t.clock.slaves, alignedMs := t.clock.alignedMs }) ∧
  (∀ (s a : State), s.tbMs ≠ s.clock.servoMs → s.stepDue = none →
    a = ({ s with clock := { s.clock with servoMs := s.tbMs } } : State).rampStep →
    ∃ t, exec .rateUpdate s = .next t ∧ t.clock.servoMs = s.tbMs ∧ t.clock.utc = a.clock.utc ∧
      t.clock.rate = max (-a.rateClamp) (min a.rateClamp
        (if a.clock.armed = 0 ∧ a.clock.fresh = true ∧ (a.clock.state = 1 ∨ a.clock.state = 2) then
          Config.servoRate a.clock.rate a.clock.offset (a.obj 0x7005 3) a.freeCount
         else a.clock.rate))) ∧
  (∀ (s : State) (code sec : Nat), s.clock.newSource = some (code, sec) → sec ≤ s.tbSeconds →
    ∃ t, exec .timeSourceChange s = .next t ∧ t.clock.source = code ∧ t.clock.newSource = none) ∧
  (∀ (s : State) (r : Req) (x : Session) (n : Nat), n < 4 → Writes s r (0x7030 + n) 6 0 (be 1 1) x →
    s.armRefused (s.outRecord n) = false →
    ∃ t, exec (.timeOutputArm r n) s = .next t ∧ (t.timeOut n).status = (if s.obj (0x7030 + n) 1 = 0 then 0 else 1) ∧
      (t.timeOut n).mode = s.obj (0x7030 + n) 1 ∧ (t.timeOut n).start = s.obj (0x7030 + n) 2 ∧
      t.obj (0x7030 + n) 7 = (if s.obj (0x7030 + n) 1 = 0 then 0 else 1)) ∧
  (∀ (s : State) (n : Nat) (e : Int), n < 4 → s.nextPulse (s.timeOut n) = some e → e ≤ (s.tbNs : Int) →
    s.clock.state ≠ 0 →
    ∃ t, exec (.timeOutputPulse n) s = .next t ∧ t.timeOut n = (s.timeOut n).pulsed s.elapsed ∧ Sends s t (.pulse 0 n) []) ∧
  (∀ (s : State), s.boot.phase = 9 → ∃ t, exec .timeInCapture s = .next t ∧
    t.clock.captures = ((s.tbNs / 8 * 8) :: s.clock.captures).take 16 ∧ t.meters = s.meters)

/-- PTP as a slave: Sync, Follow_Up, delay responses, Announce and its time-out (from R509, R520; message formats: log 10). -/
def Obligations.PtpSlave : Prop :=
  (∀ (s : State) (port : Nat) (m : Octets), s.ptpTakes port m = true → s.clock.parent = ptpSource m → ptpTwoStep m = true →
    syncIntervalOk m = true →
    ∃ t, exec (.ptpSync port m) s = .next t ∧
      { kind := 0, seq := ptpSeq m, t1 := ptpCorrection m, t2 := s.rxStamp port } ∈ t.clock.pending) ∧
  (∀ (s : State) (port : Nat) (m : Octets), s.ptpTakes port m = true → s.clock.parent = ptpSource m → ptpTwoStep m = false →
    syncIntervalOk m = true →
    ∃ t, exec (.ptpSync port m) s = .next t ∧
      t.clock.lastSync = (ptpStamp m 34 + ptpCorrection m, s.rxStamp port) ∧ t.clock.portState = 9 ∧
      t.clock.offset = ptpStamp m 34 + ptpCorrection m + (s.clock.meanPath : Int) - s.rxStamp port) ∧
  (∀ (s : State) (port : Nat) (m : Octets) (e : PtpPending), s.ptpTakes port m = true → s.clock.parent = ptpSource m →
    (s.clock.pending.find? fun e => e.kind == 0 && e.seq == ptpSeq m) = some e →
    ∃ t, exec (.ptpFollowUp port m) s = .next t ∧
      t.clock.lastSync = (ptpStamp m 34 + ptpCorrection m + e.t1, e.t2) ∧
      t.clock.offset = ptpStamp m 34 + ptpCorrection m + e.t1 + (s.clock.meanPath : Int) - e.t2) ∧
  (∀ (s : State) (port : Nat) (m : Octets) (e : PtpPending), s.ptpTakes port m = true → s.ptpPower = false →
    s.clock.parent = ptpSource m → slice m 44 10 = ptpPortIdentity →
    (s.clock.pending.find? fun e => e.kind == 1 && e.seq == ptpSeq m) = some e →
    ∃ t, exec (.ptpDelayResp port m) s = .next t ∧ t.clock.meanPath =
      (((s.clock.lastSync.2 - s.clock.lastSync.1) + (ptpStamp m 34 - ptpCorrection m - e.t1)) / 2).toNat) ∧
  (∀ (s : State) (port : Nat) (m : Octets) (e : PtpPending), s.ptpTakes port m = true → s.ptpPower = true →
    slice m 44 10 = ptpPortIdentity → (s.clock.pending.find? fun e => e.kind == 2 && e.seq == ptpSeq m) = some e →
    ptpType m = 0xA →
    ∃ t, exec (.ptpPdelayResp port m) s = .next t ∧ t.clock.meanPath =
      (((e.t3 - e.t1) - (ptpStamp m 34 - e.t2) - ptpCorrection m) / 2).toNat) ∧
  (∀ (s : State) (port : Nat) (m : Octets) (e : PtpPending), s.ptpTakes port m = true → s.ptpPower = true →
    slice m 44 10 = ptpPortIdentity → (s.clock.pending.find? fun e => e.kind == 2 && e.seq == ptpSeq m) = some e →
    ptpType m ≠ 0xA → ptpTwoStep m = false →
    ∃ t, exec (.ptpPdelayResp port m) s = .next t ∧ t.clock.meanPath =
      ((s.rxStamp port - e.t1 - ptpCorrection m) / 2).toNat) ∧
  (∀ (s : State) (port : Nat) (m : Octets) (e : PtpPending), s.ptpTakes port m = true → s.ptpPower = true →
    slice m 44 10 = ptpPortIdentity → (s.clock.pending.find? fun e => e.kind == 2 && e.seq == ptpSeq m) = some e →
    ptpType m ≠ 0xA → ptpTwoStep m = true →
    ∃ t, exec (.ptpPdelayResp port m) s = .next t ∧
      { e with t2 := ptpStamp m 34 - ptpCorrection m, t3 := s.rxStamp port } ∈ t.clock.pending) ∧
  (∀ (s : State) (port : Nat) (m : Octets), s.ptpTakes port m = true → s.clock.parent ≠ ptpSource m →
    (s.obj 0x7021 3 ≠ 0 ∨ rankLess s.ownRank (announceRank m) = false) →
    (s.clock.parent = [] ∨ rankLess (announceRank m) s.clock.parentPriority = true) →
    ∃ t, exec (.ptpAnnounce port m) s = .next t ∧ t.clock.parent = ptpSource m ∧ t.clock.portState = 8 ∧
      t.clock.announceAt = s.elapsed ∧ Offers s t 0xE705 0 [fieldAt m 22 6]) ∧
  (∀ (s : State), s.clock.parent ≠ [] → s.due s.clock.announceAt (3 * intervalNs s.clock.announceInterval) = true →
    ∃ t, exec .ptpAnnounceReceiptTimeout s = .next t ∧ t.clock.parent = [] ∧ t.clock.portState = s.orphanState)

/-- PTP messages that the part sends, and those it only counts (from R520 to R523; message formats: log 10). -/
def Obligations.PtpMessages : Prop :=
  (∀ (s : State) (port n : Nat) (m : Octets), s.ptpTakes port m = true → s.ptpPower = true → s.ptpSends port = true →
    ∃ t, exec (.ptpPdelayReq port m n) s = .next t ∧ t.clock = s.clock ∧ Sends s t (.ptp port)
      (s.ptpWrap (s.ptpMessage 3 54 (ptpSeq m) (toSigned 64 (fieldAt m 8 8) + n * 65536) 0x7F
        (List.replicate 10 0 ++ ptpSource m)))) ∧
  (∀ (s : State) (port : Nat), s.clock.portState = 6 → s.ptpSends port = true → s.due s.clock.syncAt 1000000000 = true →
    ∃ t, exec (.ptpSyncTransmit port) s = .next t ∧ t.clock.syncAt = s.elapsed ∧
      t.clock.ptpSeq = (s.clock.ptpSeq + 1) % 65536 ∧ Sends s t (.ptp port)
      (s.ptpWrap (s.ptpMessage 0 44 ((s.clock.ptpSeq + 1) % 65536) ((s.clock.tb : Int) % 4294967296 / 65536) 0
        (stampBytes (s.txStamp port))))) ∧
  (∀ (s : State) (port : Nat), s.ptpSends port = true → s.due s.clock.requestAt 1000000000 = true →
    (s.ptpPower = true ∨ s.clock.parent ≠ []) →
    ∃ t, exec (.ptpDelayReqTransmit port) s = .next t ∧ t.clock.requestAt = s.elapsed ∧
      { kind := if s.ptpPower then 2 else 1, seq := (s.clock.ptpSeq + 1) % 65536, t1 := s.txStamp port } ∈ t.clock.pending ∧
      Sends s t (.ptp port) (s.ptpWrap
        (if s.ptpPower then s.ptpMessage 2 54 ((s.clock.ptpSeq + 1) % 65536) 0 0x7F (List.replicate 20 0)
         else s.ptpMessage 1 44 ((s.clock.ptpSeq + 1) % 65536) 0 0x7F (List.replicate 10 0)))) ∧
  (∀ (s : State) (port : Nat) (m : Octets), s.ptpTakes port m = true →
    (ptpType m = 0xC ∨ ptpType m = 0xD ∨ ptpUnicast m = true) →
    ∃ t, exec (.ptpUnsupportedMessage port m) s = .next t ∧ t.clock = s.clock ∧
      t.obj 0x7026 7 = satAdd 64 (s.obj 0x7026 7) 1)

/-- The roles of a pair: what a unit hears of its peer, the baton line, the baton taken and given up, handovers planned
(from R541, R560 to R569; the model's choices: log 35, 56). -/
def Obligations.PairRoles : Prop :=
  (∀ (s : State) (seq ack u tiles state check : Nat) (p : Bool) (m : Octets), s.hears seq →
    ∃ t, exec (.hello seq ack u tiles p state m check) s = .next t ∧ t.pair.recvSeq = seq ∧ t.pair.peerId = u ∧
      t.pair.peerState = state ∧ t.pair.helloSeen = true ∧
      t.pair.mismatch = (s.helloMismatch tiles m check).isSome) ∧
  (∀ (s : State) (seq ack state flags heat : Nat), s.hears seq →
    ∃ t, exec (.heartbeat seq ack state flags heat) s = .next t ∧ t.pair.recvSeq = seq ∧ t.pair.peerState = state ∧
      t.pair.peerFlags = flags ∧ t.pair.heartbeatHeat = max 1 s.heat.count ∧ t.pair.heartbeatLost = none) ∧
  (∀ (s : State), s.pair.state = 1 → s.pair.batonIn ≠ 2 →
    s.due (max s.pair.startedAt s.pair.heardAt) (s.obj 0x8002 3 * 1000000) = true →
    ∃ t, exec .pairStartWait s = .next t ∧ t.pair.takeAt = some (s.elapsed, 1)) ∧
  (∀ (s : State) (holding : Bool), s.pair.state ≠ 0 → s.partRuns = true →
    ∃ t, exec (.batonCodeDecoded holding) s = .next t ∧ t.pair.batonIn = (if holding then 2 else 1)) ∧
  (∀ (s : State), s.pair.state = 4 → s.pair.baton = false → s.partRuns = true → s.pair.batonIn = 2 → s.pair.takeAt = none →
    ∃ t, exec (.batonCodeDecoded false) s = .next t ∧ t.pair.takeAt = some (s.elapsed + s.laneGuard, 0)) ∧
  (∀ (s : State) (e : Nat), s.isStandby = true → s.partRuns = true → s.pair.batonIn ≠ 0 → s.pair.heartbeatLost = some e →
    ∃ t, exec .batonDead s = .next t ∧ t.pair.batonIn = 0 ∧ t.pair.deadAt = s.elapsed ∧
      t.pair.takeAt = some (s.elapsed + s.laneGuard, 1) ∧ Offers s t 0xE784 0 [s.pair.peer]) ∧
  (∀ (s : State), s.awake = true → 1 < s.pair.state → s.pair.heartbeatLost = none → s.pair.heartbeatHeat + s.obj 0x9020 6 ≤ s.heat.count →
    ∃ t, exec .mirrorHeartbeatTimeout s = .next t ∧ t.pair.heartbeatLost = some s.elapsed ∧ t.pair.peerSync = false) ∧
  (∀ (s : State) (reason : Nat), s.onBoundary = true → s.takeDue = some reason →
    ∃ t, exec .batonTake s = .next t ∧ t.pair.baton = true ∧ t.pair.state = 2 ∧ t.pair.quarantine = false ∧
      t.pair.paused = false ∧ Sends s t (.pulse 2 0) []) ∧
  (∀ (s : State), s.onBoundary = true → s.pair.state ≠ 0 → s.pair.baton = true →
    s.pair.failures.contains 13 = true →
    ∃ t, exec .resignation s = .next t ∧ t.pair.baton = false ∧ t.obj 0x8008 2 = 3 ∧ Sends s t (.pulse 1 0) []) ∧
  (∀ (s : State) (n : Nat), s.onBoundary = true → s.pair.state ≠ 0 → s.pair.baton = true → n ∈ s.pair.failures → n < 8 →
    s.pair.failures.contains 13 = false → s.planDue = false → s.peerEligible = true →
    ∃ t, exec .resignation s = .next t ∧ t.pair.baton = false ∧ t.obj 0x8008 2 = 0 ∧ Sends s t (.pulse 1 0) []) ∧
  (∀ (s : State) (seq ack reason checks at_ : Nat), s.hears seq → s.isStandby = true →
    ∃ t, exec (.resign seq ack reason checks at_) s = .next t ∧ t.pair.resignedTb = at_ ∧ t.pair.resignedChecks = checks ∧
      t.pair.takeAt = some (s.elapsed + s.laneGuard, min 3 reason)) ∧
  (∀ (s : State) (seq ack at_ : Nat), s.hears seq →
    ∃ t, exec (.take seq ack at_) s = .next t ∧ t.pair.peerState = 2 ∧ t.pair.takeAt = none) ∧
  (∀ (s : State) (seq ack p kind : Nat), s.hears seq → s.pair.state = 2 → s.planRefused = false →
    ∃ t, exec (.handoverPlan seq ack p kind) s = .next t ∧ t.pair.plan = some (p, kind)) ∧
  (∀ (s : State) (seq ack p kind : Nat), s.hears seq → s.pair.state ≠ 2 → kind ≠ 255 →
    ∃ t, exec (.handoverPlan seq ack p kind) s = .next t ∧ t.pair.plan = some (p, kind)) ∧
  (∀ (s : State) (e : Nat), s.pair.diagnosedAt = some e → s.pair.preferred = true → s.pairEligible = true →
    s.obj 0x8002 1 = 1 → s.pair.plan = none → s.heartbeatCurrent = true →
    s.due (max e s.pair.standbyAt) (s.obj 0x8002 2 * 1000000000) = true →
    ∃ t, exec .revert s = .next t ∧ t.pair.plan = some (s.tbNs + 10000000, 0)) ∧
  (∀ (s : State) (r : Req) (x : Session), Writes s r 0x8006 1 0 (be 1 1) x → s.pair.state = 2 → s.planRefused = false →
    ∃ t, exec (.plannedHandover r) s = .next t ∧ t.pair.plan = some (s.tbNs + 10000000, 1)) ∧
  (∀ (s : State) (r : Req) (x : Session), Writes s r 0x8006 1 0 (be 1 2) x →
    ∃ t, exec (.releaseHeld r) s = .next t ∧ t.pair.held = false ∧ t.pair.resigned = [] ∧ t.pair.baton = s.pair.baton)

/-- Synchronisation and shadowing of a pair (from R536, R543 to R550; the model's choices: log 35, 44, 87). -/
def Obligations.PairSync : Prop :=
  (∀ (s : State) (seq ack key : Nat) (data : Octets) (x : Meter), s.hears seq → s.pair.state = 3 → s.meter? key = some x →
    ∃ t z, exec (.syncData seq ack 0 key data) s = .next t ∧ t.meter? key = some z ∧ z.word 0 = fieldAt data 0 8 ∧
      z.cold = (List.range 64).map fun i => BitVec.ofNat 64 (fieldAt data (120 + 8 * i) 8)) ∧
  (∀ (s : State) (seq ack key : Nat) (data : Octets), s.hears seq → s.pair.state = 3 →
    ∃ t, exec (.syncData seq ack 8 key data) s = .next t ∧ t.pair.sync.phase = 4 ∧
      t.pair.sync.releaseAt = fieldAt data 0 8 ∧ t.meters = s.meters) ∧
  (∀ (s : State), s.pauseDue = true →
    ∃ t, exec .syncFinalPause s = .next t ∧ t.pair.paused = true ∧ t.pair.sync.phase = 3 ∧
      t.pair.sync.pausedHeat = s.heat.count) ∧
  (∀ (s : State), s.releaseDue = true → s.pair.state = 3 →
    ∃ t, exec .syncRelease s = .next t ∧ t.pair.paused = false ∧ t.pair.quarantine = false ∧ t.pair.standbyAt = s.elapsed ∧
      (s.pair.preferred = false → t.pair.state = 4) ∧
      Offers s t 0xE787 0 [(s.elapsed - s.pair.sync.startedAt) / 1000000, s.pair.sync.passes,
        (s.pair.sync.releaseAt - s.pair.sync.pauseAt) / 1000]) ∧
  (∀ (s : State), s.releaseDue = true → s.pair.state ≠ 3 →
    ∃ t, exec .syncRelease s = .next t ∧ t.pair.paused = false ∧ t.pair.state = s.pair.state) ∧
  (∀ (s : State) (e : Nat), s.pair.sync.restartAt = some e → e ≤ s.elapsed → s.pair.state = 5 → s.pair.mismatch = false →
    ∃ t, exec .syncRestart s = .next t ∧ t.pair.state = 3 ∧ t.pair.sync.phase = 1 ∧ t.pair.quarantine = true) ∧
  (∀ (s : State) (r : Req) (x : Session), Writes s r 0x8006 1 0 (be 1 3) x → s.isStandby = true → s.pair.mismatch = false →
    s.pair.state ≠ 6 →
    ∃ t, exec (.resynchronise r) s = .next t ∧ t.pair.state = 3 ∧ t.pair.sync.phase = 1 ∧ t.pair.quarantine = true) ∧
  (∀ (s : State) (seq ack at_ kind : Nat) (args : List Nat) (data : Octets), s.hears seq → s.isStandby = true →
    kind ≠ 17 → kind ≠ 23 → kind ≠ 26 →
    ∃ t, exec (.mgmt seq ack at_ kind args data) s = .next t ∧
      t.pair.mgmt = s.pair.mgmt ++ [{ at_ := at_, kind := kind, args := args, data := data }]) ∧
  (∀ (s : State), s.mirrorUp = true → s.pair.state = 2 →
    (∃ m ∈ s.pair.unacked, m.kind = 7 ∧ s.due m.sentAt 1000000 = true) →
    ∃ t, exec .mgmtAckTimeout s = .next t ∧ t.pair.peerDetached = true ∧ t.pair.peerSync = false) ∧
  (∀ (s : State) (m : MirrorMessage), s.mirrorUp = true → m ∈ s.pair.unacked → s.due m.sentAt 2000 = true →
    ∃ t, exec .mirrorRepeat s = .next t ∧ t.pair.sendSeq = s.pair.sendSeq ∧
      Sends s t (.mirror m.kind) (mirrorBytes m.kind 128 m.seq s.pair.recvSeq m.body)) ∧
  (∀ (s : State) (seq ack t1 t2 t3 t4 stepAt : Nat) (step : Int), s.hears seq → s.isStandby = true → s.clock.source = 4 →
    ((((t2 : Int) - t1) + ((t3 : Int) - t4)) / 2).natAbs ≤ 1000 →
    ∃ t, exec (.timeMessage seq ack t1 t2 t3 t4 stepAt step) s = .next t ∧
      t.clock.offset = (((t2 : Int) - t1) + ((t3 : Int) - t4)) / 2 ∧ t.clock.sampleAt = s.elapsed ∧ t.clock.armed = 0) ∧
  (∀ (s : State) (seq ack t1 t2 t3 t4 : Nat) (step : Int), s.hears seq → s.isStandby = true → s.clock.source = 4 →
    1000 < ((((t2 : Int) - t1) + ((t3 : Int) - t4)) / 2).natAbs → s.clock.step = none → s.pair.state = 4 →
    s.pair.mismatch = false →
    ∃ t, exec (.timeMessage seq ack t1 t2 t3 t4 0 step) s = .next t ∧ t.pair.state = 3 ∧
      t.clock.tb = ((s.clock.tb : Int) + (((t2 : Int) - t1) + ((t3 : Int) - t4)) / 2 * 4294967296).toNat) ∧
  (∀ (s : State) (seq ack port i : Nat) (d : Octets) (rs : List (Octets × Octets)), s.hears seq → s.isStandby = true →
    s.tunnelOpen port = true → s.checkDatagram d 0 = .ok (i, rs) →
    (Tab.getD s.tunnel.buffers port []).length + rs.length ≤ 16384 →
    ∃ t, exec (.tunnel seq ack port d) s = .next t ∧
      Tab.getD t.tunnel.buffers port [] = Tab.getD s.tunnel.buffers port [] ++ rs.map (s.tunnelPacket port i)) ∧
  (∀ (s : State) (tiles : Nat) (ring pacer cipher march : Bool), s.fabric.diagnosis.isSome = true → s.pair.state = 6 →
    s.pair.mismatch = false →
    ∃ t, exec (.diagnosisDone tiles ring pacer cipher march) s = .next t ∧ t.pair.diagnosisDone = true ∧
      t.pair.state = 3)

/-- Digests, their logs, the repair of meters, and the flags of unit-local fences (from R553 to R558; the model's choices:
log 35, 87). -/
def Obligations.DigestsAndRepair : Prop :=
  (∀ (s : State) (seq ack bin x n : Nat), s.hears seq →
    (s.pair.state ≠ 4 ∨ (s.pair.bins.countP fun e => e.2.closed) < 256) →
    ∃ t, exec (.digest seq ack bin x n) s = .next t ∧ (Tab.getD t.pair.bins bin {}).peer = some (x, n)) ∧
  (∀ (s : State) (bin : Nat), s.pair.state ≠ 0 → (Tab.getD s.pair.bins bin {}).closed = false →
    bin + 1 + s.obj 0x8004 1 ≤ s.tbMs → (s.pair.bins.countP fun e => e.2.closed) < 256 →
    ∃ t, exec (.digestBinClose bin) s = .next t ∧ (Tab.getD t.pair.bins bin {}).closed = true) ∧
  (∀ (s : State) (seq ack bin : Nat), s.hears seq →
    ∃ t, exec (.logRequest seq ack bin) s = .next t ∧ t.pair.sendSeq = s.pair.sendSeq + 1 ∧
      Sends s t (.mirror 12) (mirrorBytes 12 0 (s.pair.sendSeq + 1) seq
        (be 4 bin ++ (s.binEntries bin).flatMap fun e => be 4 e.1 ++ be 8 e.2))) ∧
  (∀ (s : State) (seq ack bin : Nat) (es : List Nat), s.hears seq → s.pair.state = 4 →
    ∃ t, exec (.logData seq ack bin es) s = .next t ∧
      t.pair.repairing = s.pair.repairing ++ s.unmatched bin (pairsOf es) ∧
      Offers s t 0xE788 0 [bin, (s.unmatched bin (pairsOf es)).length]) ∧
  (∀ (s : State) (seq ack m : Nat) (ms : List Nat) (x : Meter), s.hears seq → m ∈ ms → s.meter? m = some x →
    s.barred x.home Producer.dma.code (x.hotWords.map (·.2)) = none → (∀ w ∈ x.hotWords, s.unwritten x.home w.2 = false) →
    s.mem.errors = [] →
    ∃ t n, exec (.repairRequest seq ack ms) s = .next t ∧
      Sends s t (.mirror 14) (mirrorBytes 14 0 n seq (be 4 m ++ meterRecord x))) ∧
  (∀ (s : State) (seq ack m : Nat) (o : Octets) (x : Meter), s.hears seq → s.meter? m = some x → m ∈ s.pair.repairing →
    ∃ t z, exec (.repairData seq ack m o) s = .next t ∧ t.meter? m = some z ∧ z.word 0 = fieldAt o 0 8 ∧
      (z.cold = (List.range 64).map fun i => BitVec.ofNat 64 (fieldAt o (120 + 8 * i) 8)) ∧ m ∉ t.pair.repairing) ∧
  (∀ (s : State) (seq ack m : Nat), s.hears seq →
    ∃ t, exec (.fenceFlag seq ack m true) s = .next t ∧ t.pair.flagged = s.pair.flagged ++ [(m, s.tbMs, none)]) ∧
  (∀ (s : State) (seq ack m : Nat), s.hears seq →
    ∃ t, exec (.fenceFlag seq ack m false) s = .next t ∧ ∀ f ∈ t.pair.flagged, f.1 = m → f.2.2.isSome = true)

/-- Requests served: NOP, reads, segments and writes of objects (from R578, R579, R595 to R600; the model's choices: log 42,
43, 81). -/
def Obligations.Requests : Prop :=
  (∀ (s : State) (r : Req) (x : Session), Asks s r { op := 6 } x → s.hasRoom x.transport →
    ∃ t, exec (.nop r) s = .next t ∧ Replies s t x { op := 6 } r.tag {} ∧ t.meters = s.meters) ∧
  (∀ (s : State) (r : Req) (x : Session) (index sub m : Nat) (f : Bool) (a : Ask),
    a = { op := 1, flags := 128 * bit01 f, index := index, sub := sub, meter := m } → Asks s r a x →
    s.hasRoom x.transport → (needsQuery index = false ∨ sub = 0) →
    ∃ t, exec (.readObject r index sub m f) s = .next t ∧ Replies s t x a r.tag ((s.taken r a).readReply x a) ∧
      t.meters = s.meters) ∧
  (∀ (s : State) (r : Req) (x : Session) (index sub m : Nat) (f : Bool) (a : Ask),
    a = { op := 1, flags := 128 * bit01 f, index := index, sub := sub, meter := m } → Asks s r a x →
    needsQuery index = true → sub ≠ 0 →
    ((s.taken r a).enqueue m 2 (requestPacket (s.dict.lastQuery % 4294967295 + 1) m)).1 = true →
    ∃ t, exec (.readObject r index sub m f) s = .next t ∧
      t.dict.queries = s.dict.queries ++ [(s.dict.lastQuery % 4294967295 + 1, x.id, r.tag)]) ∧
  (∀ (s : State) (r : Req) (x : Session) (index m : Nat) (f : Bool) (a : Ask),
    a = { op := 5, flags := 128 * bit01 f, index := index, meter := m } → Asks s r a x →
    s.hasRoom x.transport → needsQuery index = false →
    ∃ t, exec (.readWhole r index m f) s = .next t ∧ Replies s t x a r.tag ((s.taken r a).readWhole x a)) ∧
  (∀ (s : State) (r : Req) (x : Session) (index sub m : Nat) (f : Bool) (a : Ask) (w : ObjRow) (v : Val),
    a = { op := 3, flags := 128 * bit01 f, index := index, sub := sub, meter := m } → Asks s r a x → x.lasts →
    findRow index sub = some w → w.ty = .domain → (s.taken r a).valueOf x w index sub m f = some v →
    v.octets.length ≤ 1048576 →
    ∃ t y c, exec (.readSegment r index sub m 0 f) s = .next t ∧ t.session? x.id = some y ∧ y.capture = some c ∧
      c.index = index ∧ c.sub = sub ∧ c.image = v.octets ∧ c.readAt = s.elapsed) ∧
  (∀ (s : State) (r : Req) (x : Session) (index sub m off : Nat) (data : Octets) (a : Ask) (w : ObjRow),
    a = { op := 4, index := index, sub := sub, meter := m, offset := off, data := data } → Asks s r a x → x.lasts →
    findRow index sub = some w → w.ty = .domain → data.length ≤ segmentLimit x.transport →
    off + data.length ≤ 1048576 → s.standbyRefuses index sub = false →
    ∃ t y, exec (.writeSegment r index sub m off false data) s = .next t ∧ t.session? x.id = some y ∧
      y.stagedParts a = x.stagedParts a ++ [(off, data)]) ∧
  (∀ (s : State) (r : Req) (x : Session) (index sub m : Nat) (data : Octets) (w : ObjRow),
    Asks s r (writeAsk index sub m data) x → x.lasts → s.standbyRefuses index sub = false →
    fillsParameter index sub = true → findRow index sub = some w → w.ty ≠ .domain →
    ∃ t y, exec (.objectWrite r index sub m data) s = .next t ∧ t.session? x.id = some y ∧
      y.val m index sub = w.ty.parse data) ∧
  (∀ (s : State) (r : Req) (x : Session) (index sub m : Nat) (data : Octets) (w : ObjRow),
    Writes s r index sub m data x → findRow index sub = some w → w.ty ≠ .domain → submits index sub = false →
    w.action = false → s.outsideRange index sub (w.ty.parse data).nat = false →
    s.writeRefused index sub (w.ty.parse data).nat = false → (w.access = .rwc → s.dict.committed = false) →
    ∃ t, exec (.objectWrite r index sub m data) s = .next t ∧ (if isInput index sub = true then
        t.pendVal index sub = w.ty.parse data else t.objVal index sub = readsBack index sub (w.ty.parse data)) ∧ t.meters = s.meters)

/-- Sessions: IDENTIFY, an OPEN answered by its CHALLENGE, the ends of sessions, a request that runs long, a capture unread
(from R590 to R593, R599, R605; the model's choices: log 8, 15). -/
def Obligations.Sessions : Prop :=
  (∀ (s : State) (p : Nat), s.portOpen p = true → s.hasRoom p →
    ∃ t, exec (.identify p) s = .next t ∧ Sends s t (.udx p) (onTransport p (clearUdx 2 0 0 s.identityBody)) ∧
      t.dict.sessions = s.dict.sessions) ∧
  (∀ (s : State) (p role expected n : Nat) (peer nonce : Octets), s.portOpen p = true → role ≤ 3 → nonce.length = 16 →
    s.openRefusal role expected = none → s.freeTileSlots 0 = some n → s.gated 0 = false →
    s.session? (s.dict.lastSession % 4294967295 + 1) = none →
    ∃ t y, exec (.openSession p peer role nonce expected) s = .next t ∧
      t.session? (s.dict.lastSession % 4294967295 + 1) = some y ∧ y.role = role ∧ y.transport = p ∧ y.halfOpen = true ∧
      y.keySlot = n ∧ y.outSeq = 2 ∧ Tab.has t.keys.slots (tileSlotKey 0 n) = true ∧
      Tab.has t.keys.slots (tileSlotKey 0 (n + 1)) = true) ∧
  (∀ (s : State) (r : Req) (x : Session), s.sessionOpen r.session = true →
    ((s.heardFrom r.session).admitMessage r 7 []).session = some x →
    ∃ t, exec (.closeSession r) s = .next t ∧ t.session? x.id = none ∧ Offers s t 0xE801 0 [x.id, 0]) ∧
  (∀ (s : State) (id : Nat) (x : Session), s.session? id = some x → x.halfOpen = false →
    s.due x.lastAt (s.obj 0x1022 2 * 1000000000) = true →
    ∃ t, exec (.sessionIdleTimeout id) s = .next t ∧ t.session? id = none ∧
      Tab.find? t.keys.slots (tileSlotKey 0 x.keySlot) = none ∧ Offers s t 0xE801 0 [id, 1]) ∧
  (∀ (s : State) (id : Nat) (x : Session), s.session? id = some x → x.halfOpen = true → s.due x.openedAt 1000000000 = true →
    ∃ t, exec (.halfOpenTimeout id) s = .next t ∧ t.session? id = none ∧ Offers s t 0xE801 0 [id, 6]) ∧
  (∀ (s : State) (id tag : Nat) (x : Session) (q : SessionRequest), s.session? id = some x → s.hasRoom x.transport →
    x.requests.find? (fun q => q.tag == tag) = some q → q.final = false → q.answered = false →
    s.due q.at_ (s.obj 0x1021 1 * 1000000) = true →
    ∃ t, exec (.udxRequestTimeout id tag) s = .next t ∧
      Replies s t x (askOf q.body) tag (replyHint Status.pending s.busyHint)) ∧
  (∀ (s : State) (id : Nat) (x : Session) (c : Capture), s.session? id = some x → x.capture = some c →
    s.due c.readAt 10000000000 = true →
    ∃ t y, exec (.captureDiscard id) s = .next t ∧ t.session? id = some y ∧ y.capture = none ∧
      y = { x with capture := none })

/-- The mailbox, the configuration reset and the network answers (from R538, R577, R582, R585, R586; the model's choices:
log 50). -/
def Obligations.MailboxAndNetwork : Prop :=
  (∀ (s : State) (c bi bo n v p q : Nat), c ≤ 1 → s.dict.mailboxState ≠ 0 → mailboxCheck bi bo n true = 0 →
    ∃ t, exec (.mailboxDoorbell c true bi bo n v p q true) s = .next t ∧ (t.channel c).entries = n ∧
      (t.channel c).baseIn = bi ∧ (t.channel c).baseOut = bo ∧ (t.channel c).inConsumer = p ∧
      (t.channel c).outConsumer = q ∧ t.dict.mailboxEnable = true) ∧
  (∀ (s : State) (c bi bo n v p q : Nat) (dma : Bool), c ≤ 1 → s.dict.mailboxState ≠ 0 → mailboxCheck bi bo n dma ≠ 0 →
    ∃ t, exec (.mailboxDoorbell c true bi bo n v p q dma) s = .next t ∧ t.dict.mailboxState = 2 ∧
      t.dict.mailboxError = mailboxCheck bi bo n dma ∧ Offers s t 0xE805 0 [c, mailboxCheck bi bo n dma]) ∧
  (∀ (s : State), ∃ t, exec .mailboxReset s = .next t ∧ (∀ y ∈ t.dict.sessions, y.transport ≠ 2) ∧
    t.dict.mailboxError = 0 ∧ ∀ c < 2, (t.channel c).outProducer = 0 ∧ (t.channel c).heldReplies = []) ∧
  (∀ (s : State), ∃ t, exec .pcieLinkDown s = .next t ∧ (∀ y ∈ t.dict.sessions, y.transport ≠ 2) ∧
    t.dict.mailboxError = 0 ∧ bitAt (t.obj 0x1026 1) 23 = false) ∧
  (∀ (s : State) (c e : Nat) (b : Octets) (rest : List (Octets × Nat)), c < 2 →
    (s.channel c).heldReplies = (b, e) :: rest → s.due e 1000000000 = true →
    ∃ t, exec (.outRingReplyDiscard c) s = .next t ∧ (t.channel c).heldReplies = rest ∧
      t.obj 0x1024 10 = satAdd 64 (s.obj 0x1024 10) 1 ∧ t.out = s.out) ∧
  (∀ (s : State) (r : Req) (x : Session), Writes s r 0x1030 1 0 (be 1 1) x →
    (s.boot.lifeCycle = 0 ∨ s.boot.lifeCycle = 1 ∨ s.boot.lifeCycle = 3) →
    ∃ t, exec (.configurationReset r) s = .next t ∧ t.meters = s.meters ∧
      ∀ k, resetsKey k = true → isInput (k / 256) (k % 256) = false → Tab.find? t.dict.objs k = none) ∧
  (∀ (s : State) (p : Nat) (b : Octets), s.ethernetUp p = true → s.answersFor p false b = true →
    ∃ t, exec (.arpRequest p b) s = .next t ∧ Sends s t (.net p) (Config.mac p ++ b)) ∧
  (∀ (s : State) (p : Nat) (b : Octets), s.ethernetUp p = true → s.answersFor p true b = true →
    ∃ t, exec (.neighbourDiscovery p b) s = .next t ∧ Sends s t (.net p) (Config.mac p ++ b)) ∧
  (∀ (s : State) (p : Nat) (v6 : Bool) (b d : Octets), s.ethernetUp p = true → s.answersFor p v6 b = true →
    (if v6 then 66 else 46) + d.length ≤ 1518 →
    ∃ t, exec (.icmpEcho p v6 b d) s = .next t ∧ Sends s t (.net p) d)

/-- Reset and the seven steps of bring-up: each ends with its last tile, or halts with its code (from R611 to R625, R706;
the model's choices: log 54, 82). -/
def Obligations.BringUp : Prop :=
  (∀ (s : State) (straps : Nat), s.boot.phase = 0 →
    ∃ t, exec (.sysResetRelease straps) s = .next t ∧ t.boot.phase = 1 ∧ t.boot.releasedAt = s.elapsed ∧
      t.boot.startedAt = s.elapsed ∧ t.boot.cause = 0 ∧ t.pins.straps = straps % 8) ∧
  (∀ (s : State), ∃ t, exec .sysResetAssert s = .next t ∧ t.boot.phase = 0 ∧ t.queues = {} ∧ t.heat = {} ∧
    t.dict.sessions = [] ∧ t.recorder.log = s.recorder.log.drop (s.recorder.log.length - s.recorder.paged)) ∧
  (∀ (s : State) (tile : Nat), s.boot.phase = 1 → tile < s.nTiles →
    ∃ t, exec (.fuseLoadDone tile true) s = .next t ∧ t.boot.lifeCycle = s.boot.fused ∧
      (s.lastTile tile → s.power.warning = false → t.boot.phase = 2) ∧
      (¬ s.lastTile tile → t.boot.phase = 1 ∧ tile ∈ t.boot.stepDone)) ∧
  (∀ (s : State) (tile : Nat), s.boot.phase = 1 → tile < s.nTiles →
    ∃ t, exec (.fuseLoadDone tile false) s = .next t ∧ t.haltedIn 1 1 ∧ Offers s t 0xE881 tile [1, 1, tile]) ∧
  (∀ (s : State) (tile : Nat), s.boot.phase = 2 → tile < s.nTiles →
    ∃ t, exec (.scratchpadClearDone tile) s = .next t ∧ (s.lastTile tile → s.power.warning = false → t.boot.phase = 3) ∧
      (¬ s.lastTile tile → t.boot.phase = 2 ∧ tile ∈ t.boot.stepDone)) ∧
  (∀ (s : State) (tile : Nat), s.boot.phase = 3 → tile < s.nTiles → tile ∉ s.boot.stepDone →
    ∃ t, exec (.dramInitStepDone tile true) s = .next t ∧ t.obj 0x6816 (tile + 1) = (if s.hasMap then 4 else 2) ∧
      (s.lastTile tile → s.power.warning = false → t.boot.phase = 4) ∧
      (¬ s.lastTile tile → t.boot.phase = 3 ∧ tile ∈ t.boot.stepDone)) ∧
  (∀ (s : State) (tile : Nat), s.boot.phase = 3 → tile < s.nTiles → tile ∉ s.boot.stepDone →
    ∃ t, exec (.dramInitStepDone tile false) s = .next t ∧ t.haltedIn 3 2 ∧ Offers s t 0xE881 tile [3, 2, tile]) ∧
  (∀ (s u : State) (second version : Nat) (d : Octets), u = s.revertBoot → s.boot.phase = 4 → s.tamperHolds = false →
    s.power.warning = false → s.boot.rollback ≤ u.slotSecurity u.update.first version →
    ∃ t, exec (.secureBootDone 0 second d version) s = .next t ∧ t.boot.phase = 5 ∧ t.boot.bootImage = 0 ∧
      t.boot.powerCycles = (s.obj 0x1040 6 + 1) % 16777216 ∧ t.boot.measurement =
        bootMeasurement ((Tab.find? u.update.slots u.update.first).getD { digest := d, security := version }).digest) ∧
  (∀ (s : State) (d : Octets) (version : Nat), s.boot.phase = 4 → s.tamperHolds = false → s.power.warning = false →
    ∃ t, exec (.secureBootDone 3 3 d version) s = .next t ∧ t.haltedIn 4 3) ∧
  (∀ (s : State) (d : Octets) (version : Nat), s.boot.phase = 4 → s.tamperHolds = false → s.power.warning = false →
    ∃ t, exec (.secureBootDone 1 1 d version) s = .next t ∧ t.boot.phase = 11 ∧ Offers s t 0xE883 0 [0, 0]) ∧
  (∀ (s : State) (tile word found w : Nat), s.boot.phase = 5 → tile < s.nTiles → tile ∉ s.boot.stepDone →
    w = putField (putField (word % 4294967296) 17 12 0) 11 0 (Config.columnsRepaired tile).toNat →
    ∃ t, exec (.tileEnumerationDone tile word found) s = .next t ∧ t.obj 0x1043 (tile + 1) = w ∧
      (¬ s.lastTile tile → t.boot.phase = 5 ∧ tile ∈ t.boot.stepDone) ∧
      (s.lastTile tile → found ≠ s.nTiles → t.boot.phase = 10) ∧
      (s.lastTile tile → found = s.nTiles → s.power.warning = false →
        (∀ u < s.nTiles, ∀ b ∈ [19, 20, 21, 22, 23],
          bitAt (if u = tile then w else Tab.getD s.boot.enumeration u 0) b = true) → t.boot.phase = 6)) ∧
  (∀ (s : State), s.boot.phase = 6 → s.power.warning = false →
    ∃ t, exec (.sheetLoadDone true) s = .next t ∧ t.boot.phase = 7 ∧ t.compiler.staged.isSome = true) ∧
  (∀ (s : State), s.boot.phase = 6 → ∃ t, exec (.sheetLoadDone false) s = .next t ∧ t.haltedIn 6 6) ∧
  (∀ (s : State) (tile : Nat), s.boot.phase = 7 → tile < s.nTiles →
    ∃ t, exec (.lanePowerUpDone tile) s = .next t ∧ (s.lastTile tile → s.power.warning = false → t.boot.phase = 8) ∧
      (¬ s.lastTile tile → t.boot.phase = 7 ∧ tile ∈ t.boot.stepDone)) ∧
  (∀ (s : State), s.boot.phase = 8 → s.power.warning = false →
    ∃ t, exec .ready s = .next t ∧ t.boot.phase = 9 ∧ t.heat.count = 0 ∧ t.heat.boundaryAt = s.elapsed ∧
      t.boot.restoringTiles = List.range s.nTiles ∧ t.obj 0x1040 1 = 0 ∧ Offers s t 0xE880 0
      [(s.elapsed - s.boot.startedAt) / 1000000, s.boot.cause, s.boot.failedPipes.length]) ∧
  (∀ (s : State), 1 ≤ s.boot.phase → s.boot.phase ≤ 7 → s.due s.boot.stepAt (2 * s.stepMax s.boot.phase * 1000000) = true →
    ∃ t, exec .bringUpStepTimeout s = .next t ∧ t.haltedIn s.boot.phase 7 ∧ Offers s t 0xE881 0 [s.boot.phase, 7, 0])

/-- Restart, life-cycle changes and tamper (from R612, R629 to R637; the model's choices: log 45, 82). -/
def Obligations.LifeCycleAndTamper : Prop :=
  (∀ (s : State) (r : Req) (x : Session), Writes s r 0x1044 1 0 (be 1 1) x → s.leaveRefused = false →
    ∃ t, exec (.restartRequest r) s = .next t ∧ t.boot.restart = some 3 ∧ Offers s t 0xE889 0 [x.role]) ∧
  (∀ (s : State) (r : Req) (x : Session) (blob kek seed : Octets), Writes s r 0x1041 6 0 (be 1 1) x →
    s.leaveRefused = false → s.boot.lifeCycle = 0 → s.wrapSlot 14 = some kek →
    unwrapKey kek seedHeader (slice blob 0 40) = some seed →
    ∃ t, exec (.enterKeyed r blob seedHeader) s = .next t ∧ t.boot.change = some (1, 0) ∧ t.boot.newSeed = seed) ∧
  (∀ (s : State) (r : Req) (x : Session), Writes s r 0x1041 6 0 (be 1 1) x → s.leaveRefused = false →
    s.boot.lifeCycle = 1 →
    ∃ t, exec (.enterField r) s = .next t ∧ t.boot.change = some (2, 0)) ∧
  (∀ (s : State) (input : Nat), s.tamperSenses input = true → 9 ≤ s.boot.phase →
    ∃ t, exec (.tamperEvent input) s = .next t ∧ t.fabric.keysCleared = true ∧ t.fabric.roots = [] ∧ t.keys.slots = [] ∧
      t.keys.tickets = [] ∧ t.dict.sessions = [] ∧ t.boot.tamperAt = s.elapsed ∧
      t.boot.phase = (if s.obj 0x1050 3 = 1 then 12 else s.boot.phase) ∧
      t.obj 0x1050 6 = satAdd 64 (s.obj 0x1050 6) 1 ∧
      Offers s t 0xE887 0 [input, s.obj 0x1050 3, s.heat.count]) ∧
  (∀ (s : State), s.boot.tamperActive ≠ [] → s.due s.boot.tamperAt (s.obj 0x1050 4 * 1000000) = true →
    ∃ t, exec .tamperCleared s = .next t ∧ t.boot.tamperActive = [] ∧
      (s.boot.phase = 12 → t.boot.phase = 12) ∧ (s.boot.phase = 9 → t.boot.phase = 1 ∧ t.boot.cause = 2))

/-- What runs out of time in the memories, the cores and the tiles (from R643 to R653; the model's choices: log 82). -/
def Obligations.Recovery : Prop :=
  (∀ (s : State) (tile a : Nat) (w : Bool), s.awake = true → tile < s.nTiles → 4 ≤ s.boot.phase → Tab.has s.recorder.dramRetrain tile = false →
    ∃ t, exec (.dramRequestTimeout tile a w) s = .next t ∧ Tab.find? t.recorder.dramRetrain tile = some s.elapsed ∧
      (w = true → (∀ e ∈ s.recorder.dramWrites, e.2.2.2 = false) → (tile, a, s.elapsed, false) ∈ t.recorder.dramWrites) ∧
      Offers s t 0xE904 tile [tile, a, bit01 w]) ∧
  (∀ (s : State) (tile : Nat), Tab.has s.recorder.dramRetrain tile = true →
    ∃ t, exec (.dramRetrainDone tile) s = .next t ∧ Tab.has t.recorder.dramRetrain tile = false ∧
      ∀ e ∈ t.recorder.dramWrites, e.1 = tile → e.2.2 = (s.elapsed, true)) ∧
  (∀ (s : State) (tile ch block page pool : Nat), s.awake = true → tile < s.nTiles → block < nandBlocks →
    (s.flash tile).diesGone.contains (block / Config.nandBlocksPerDie) = false →
    (s.flash tile).rereads.contains (pageNumber block page) = false →
    ∃ t, exec (.nandOperationTimeout tile ch block page pool 0) s = .next t ∧
      (t.flash tile).rereads = (s.flash tile).rereads ++ [pageNumber block page] ∧
      Offers s t 0xE905 tile [tile, ch, block / Config.nandBlocksPerDie, 0]) ∧
  (∀ (s : State) (tile ch block page pool op : Nat), s.awake = true → tile < s.nTiles → block < nandBlocks →
    (s.flash tile).diesGone.contains (block / Config.nandBlocksPerDie) = false →
    1 ≤ op → (s.flash tile).formatted = true → (s.flash tile).retired.contains block = false →
    ∃ t, exec (.nandOperationTimeout tile ch block page pool op) s = .next t ∧
      (t.flash tile).retired = (s.flash tile).retired ++ [block] ∧
      Offers s t 0xE905 tile [tile, ch, block / Config.nandBlocksPerDie, op]) ∧
  (∀ (s : State) (tile ch die : Nat) (stuck : Bool), s.awake = true → tile < s.nTiles → die < Config.nandDies →
    (s.flash tile).diesGone.contains die = false →
    3 ≤ ((s.flash tile).timeouts.filter fun e => e.1 == die && decide (s.elapsed < e.2 + 3600000000000)).length →
    ∃ t, exec (.nandDieRemoved tile ch die stuck) s = .next t ∧
      (t.flash tile).diesGone = (s.flash tile).diesGone ++ [die] ∧ Offers s t 0xE906 tile [tile, ch, die]) ∧
  (∀ (s : State) (tile core k : Nat) (x : Core), tile < s.nTiles → core < 4 → 4 ≤ s.boot.phase → k = tile * 4 + core →
    (s.awake = true ∨ tile = 0 ∧ core = 0) →
    x = Tab.getD s.recorder.cores k {} → x.heldUntil = none →
    ∃ t l, exec (.watchdogTimeout tile core) s = .next t ∧
      l = s.elapsed :: x.restarts.filter (fun e => decide (s.elapsed < e + 60000000000)) ∧
      (Tab.getD t.recorder.cores k {}).restarts = l ∧
      (Tab.getD t.recorder.cores k {}).heldUntil = (if 4 ≤ l.length then some (s.elapsed + 1000000000) else none) ∧
      t.obj 0x9040 (k + 1) = satAdd 32 (s.obj 0x9040 (k + 1)) 1) ∧
  (∀ (s : State) (tile core e : Nat), (Tab.getD s.recorder.cores (tile * 4 + core) {}).heldUntil = some e → e ≤ s.elapsed →
    ∃ t, exec (.coreHoldEnd tile core) s = .next t ∧
      (Tab.getD t.recorder.cores (tile * 4 + core) {}).heldUntil = none ∧ t.meters = s.meters) ∧
  (∀ (s : State) (src : Nat), s.partRuns = true → 0 < src → src < s.nTiles → s.arcUp src 0 = true →
    ∃ t, exec (.tileHeartbeat src 0) s = .next t ∧ (t.health src).heardAt = s.elapsed ∧
      (t.health src).lastCount = s.heat.count % 65536 ∧
      ((s.health src).state = 1 → s.due (s.health src).lostAt (s.obj 0x9020 7 * 1000000) = false →
        (t.health src).state = 0)) ∧
  (∀ (s : State) (dst : Nat), s.partRuns = true → 0 < dst → dst < s.nTiles → s.arcUp 0 dst = true →
    ∃ t, exec (.tileHeartbeat 0 dst) s = .next t ∧ (t.health dst).primaryAt = s.elapsed ∧
      (t.health dst).unheardAt = none) ∧
  (∀ (s : State) (tile : Nat), s.partRuns = true → 0 < tile → tile < s.nTiles → (s.health tile).state = 0 →
    s.due (s.health tile).heardAt (s.obj 0x9020 5 * 1000) = true →
    ∃ t, exec (.tileHeartbeatTimeout tile) s = .next t ∧
      (t.health tile).state = (if 3 ≤ ((s.health tile).recent s.elapsed).length then 3 else 1) ∧
      (t.health tile).lostAt = s.elapsed ∧ Offers s t 0xE901 tile [tile, (s.health tile).lastCount]) ∧
  (∀ (s : State) (tile : Nat), s.partRuns = true → tile < s.nTiles → (s.health tile).state = 1 → s.power.warning = false →
    s.due (s.health tile).lostAt (s.obj 0x9020 7 * 1000000) = true →
    ∃ t, exec (.tileRecoveryDelayExpiry tile) s = .next t ∧ (t.health tile).state = 2 ∧
      (t.health tile).attempts = (s.health tile).recent s.elapsed ++ [s.elapsed] ∧
      (∀ q < 256, t.queue tile q = {})) ∧
  (∀ (s : State) (tile : Nat), s.partRuns = true → (s.health tile).state = 2 → s.onBoundary = true →
    ∃ t, exec (.tileRecoveryDone tile true) s = .next t ∧ (t.health tile).state = 0 ∧ tile ∈ t.boot.restoringTiles ∧
      Offers s t 0xE902 tile [tile, (s.elapsed - (s.health tile).lostAt) / 1000000, 1]) ∧
  (∀ (s : State) (tile : Nat), s.partRuns = true → (s.health tile).state = 2 →
    ∃ t, exec (.tileRecoveryDone tile false) s = .next t ∧
      (t.health tile).state = (if 3 ≤ ((s.health tile).recent s.elapsed).length then 3 else 1)) ∧
  (∀ (s : State) (tile : Nat), s.partRuns = true → 0 < tile → tile < s.nTiles → (s.health tile).unheardAt = none →
    s.due (s.health tile).primaryAt (s.obj 0x9020 5 * 1000) = true →
    ∃ t, exec (.primaryTileUnheard tile) s = .next t ∧ (t.health tile).unheardAt = some s.elapsed)

/-- The event recorder and the performance counters (from R654 to R667; the model's choices: log 8, 51). -/
def Obligations.EventsAndCounters : Prop :=
  (∀ (s : State) (o : Offer) (rest : List Offer), s.recorder.offered = o :: rest → s.coresRun = true →
    s.power.pilot < 2 → (s.health o.tile).unheardAt = none → s.recorder.erasing = none →
    (s.obj 0x9004 1 ≤ eventSeverity o.code ∨ o.code = 0xE908) → s.recorder.log.length + 1 < logSlots →
    ∃ t r, exec .eventRecord s = .next t ∧ t.recorder.log = r :: s.recorder.log ∧ r.seq = s.recorder.nextSeq ∧
      r.code = o.code ∧ r.tile = o.tile ∧ r.data = o.data ∧ r.severity = eventSeverity o.code ∧
      t.recorder.nextSeq = (s.recorder.nextSeq + 1) % 4294967296) ∧
  (∀ (s : State) (o : Offer) (rest : List Offer), s.recorder.offered = o :: rest → s.coresRun = true →
    2 ≤ s.power.pilot → s.power.held.length < 1024 →
    ∃ t, exec .eventRecord s = .next t ∧ t.power.held = s.power.held ++ [{ o with buffered := true }] ∧
      t.recorder.offered = rest ∧ t.recorder.log = s.recorder.log) ∧
  (∀ (s : State), s.coresRun = true → s.awake = true → 512 ≤ s.recorder.log.length - s.recorder.paged →
    ∃ t, exec .eventPageWrite s = .next t ∧ t.recorder.paged = s.recorder.paged + 512 ∧
      t.recorder.log = s.recorder.log) ∧
  (∀ (s : State), s.coresRun = true → s.awake = true → s.recorder.paged < s.recorder.log.length →
    s.recorder.log.length - s.recorder.paged < 512 → s.due s.recorder.pageAt 1000000000 = true →
    ∃ t, exec .eventPageWrite s = .next t ∧ t.recorder.paged = s.recorder.log.length) ∧
  (∀ (s : State) (r : Req) (x : Session), Writes s r 0x9002 2 0 (be 1 1) x → s.recorder.erasing = none →
    ∃ t, exec (.eventLogClear r s.recorder.generation) s = .next t ∧ t.recorder.log = [] ∧
      t.recorder.generation = (s.recorder.generation + 1) % 4294967296 ∧ t.recorder.dropped = 0 ∧
      t.recorder.erasing.isSome = true) ∧
  (∀ (s : State) (g n d q : Nat), s.recorder.erasing = some (g, n, d, q) → s.recorder.heldEvents = [] →
    s.recorder.log.length + 1 < logSlots →
    ∃ t r, exec .eventLogEraseDone s = .next t ∧ t.recorder.erasing = none ∧ t.recorder.log = r :: s.recorder.log ∧
      r.seq = q ∧ r.code = 0xE908 ∧ r.data = [g, n, d]) ∧
  (∀ (s : State) (late : List Nat), s.partRuns = true → s.heat.boundaryAt = s.elapsed →
    (s.recorder.latchMs < s.tbMs ∨ s.recorder.snapshotAsked = true) →
    ∃ t, exec (.counterLatch late) s = .next t ∧ t.recorder.pageSeq = s.recorder.pageSeq + 1 ∧
      t.recorder.latchTime = s.tbNs ∧ t.recorder.latchHeat = s.heat.count ∧
      t.recorder.totals = latched s.recorder.counters s.recorder.totals ((List.range s.nTiles).filter late.contains)) ∧
  (∀ (s : State) (r : Req) (x : Session), Writes s r 0x9101 1 0 (be 1 1) x → 100000 < 1000000 - s.tbNs % 1000000 →
    ∃ t, exec (.counterSnapshotNow r) s = .next t ∧ t.recorder.snapshotAsked = true ∧ t.meters = s.meters) ∧
  (∀ (s : State) (tile core : Nat), tile < s.nTiles → core < 4 → s.obj 0x9110 1 = 0 →
    ∃ t, exec (.partitionCounterFault tile core) s = .next t ∧
      t.counter tile (26 + core) 5 = satAdd 40 (s.counter tile (26 + core) 5) 1 ∧ t.meters = s.meters)

/-- Firmware: a container staged and verified, the image activated, resumed or given up, probation, a pair update's limit
(from R675 to R689; the model's choices: log 47, 83). -/
def Obligations.FirmwareUpdate : Prop :=
  (∀ (s : State) (r : Req) (x : Session) (len target : Nat), Writes s r 0xA001 2 0 (be 1 1) x → s.mayStage x target = true →
    target ≤ 4 → 80 ≤ len → len ≤ containerMax target → s.update.state ≠ 1 → s.update.state ≠ 2 → s.update.state ≠ 4 →
    (s.inRom = true → target = 0) → (target = 0 → s.obj 0xA025 1 ≠ 1 ∨ s.inRom = true) →
    (target ≠ 0 → s.slotInUse (target - 1) = false) →
    ∃ t, exec (.stagingOpen r len target) s = .next t ∧ t.update.state = 1 ∧ t.update.target = target ∧
      t.update.length = len ∧ t.update.area = []) ∧
  (∀ (s : State) (r : Req) (x : Session) (off : Nat) (w : Octets), Writes s r 0xA010 3 0 (be 1 1) x →
    s.mayStage x s.update.target = true → s.update.state = 1 → s.obj 0x6005 1 ≠ 1 → off % 4096 = 0 →
    off < s.update.length →
    ∃ t, exec (.imageBlock r off w) s = .next t ∧ t.update.state = 1 ∧
      t.update.area = Tab.set s.update.area (off / 4096) (slice w 0 4096)) ∧
  (∀ (s : State) (r : Req) (x : Session), Writes s r 0xA001 3 0 (be 1 1) x → s.mayStage x s.update.target = true →
    s.update.state = 1 → s.update.missing = none →
    (s.inRom = true ∨ s.keys.tickets.countP (fun t => t.tile == 0) < 4) →
    ∃ t, exec (.stagingVerify r) s = .next t ∧ t.update.state = 2 ∧ t.update.area = s.update.area) ∧
  (∀ (s : State) (r : Req) (x : Session), Writes s r 0xA001 4 0 (be 1 1) x → s.mayStage x s.update.target = true →
    (s.update.state = 1 ∨ s.update.state = 2) →
    ∃ t, exec (.stagingAbort r) s = .next t ∧ t.update.state = 0 ∧ t.update.area = []) ∧
  (∀ (s : State) (v : Bool) (n : Nat), s.update.state = 2 → s.inRom = false → s.verifyCode v = some n →
    ∃ t, exec (.verificationDone v) s = .next t ∧ t.update.state = 5 ∧ t.update.result = n ∧
      Offers s t 0xE981 0 [s.update.target, fieldAt s.update.container 4 4, n]) ∧
  (∀ (s : State) (v : Bool), s.update.state = 2 → s.inRom = false → s.verifyCode v = none →
    ∃ t, exec (.verificationDone v) s = .next t ∧ t.update.state = 3 ∧
      t.update.stagedId = fieldAt s.update.container 4 4 ∧
      (s.update.target = 0 → t.update.staged = some
        (bootSlotOf (fieldAt s.update.container 4 4) (s.containerBody s.update.container), s.update.freeSlot)) ∧
      (s.update.target ≠ 0 → Tab.find? t.update.meterImages (s.update.target - 1) = some
        { imageId := fieldAt s.update.container 4 4, bytes := s.containerBody s.update.container })) ∧
  (∀ (s : State) (r : Req) (x : Session) (id : Nat), Writes s r 0xA021 2 0 (be 1 1) x → s.activateRefusal id = none →
    s.pair.state ≠ 2 →
    ∃ t, exec (.activate r id) s = .next t ∧ t.update.state = 4 ∧ t.update.activating = true ∧
      t.update.activation = some { oldVersion := s.firmwareVersion }) ∧
  (∀ (s : State) (r : Req) (x : Session) (id : Nat), Writes s r 0xA021 2 0 (be 1 1) x → s.activateRefusal id = none →
    s.pair.state = 2 →
    ∃ t u, exec (.activate r id) s = .next t ∧ t.update.pairUpdate = some u ∧ u.step = 2 ∧ u.imageId = id ∧
      u.startedAt = s.elapsed) ∧
  (∀ (s : State) (a : Activation), s.update.activation = some a → a.step = 1 →
    ∃ t, exec (.activationResume true) s = .next t ∧ t.update.activation = some { a with step := 2 } ∧
      t.update.staged = none ∧ t.update.first = s.update.first) ∧
  (∀ (s : State) (a : Activation), s.update.activation = some a → a.step = 1 →
    ∃ t, exec (.activationResume false) s = .next t ∧ t.update.activation = some { a with step := 2 } ∧
      t.update.first = s.update.second ∧ t.update.second = s.update.freeSlot ∧ t.update.result = 5 ∧
      Offers s t 0xE882 0 [0]) ∧
  (∀ (s : State), s.partRuns = true → s.update.confirmed = false →
    s.due (max s.boot.readyAt s.update.resumedAt) (s.obj 0xA023 1 * 1000000000) = true →
    s.quietSince (s.elapsed - s.obj 0xA023 1 * 1000000000) = true →
    ∃ t, exec .probationEnd s = .next t ∧ t.update.confirmed = true ∧ t.update.dirSeq = s.update.dirSeq + 1 ∧
      Offers s t 0xE984 0 [(Tab.getD s.update.slots s.update.first {}).imageId]) ∧
  (∀ (s : State) (u : PairUpdate), s.update.pairUpdate = some u → u.step = 2 →
    s.due u.startedAt (s.obj 0xA027 1 * 1000000000) = true →
    ∃ t, exec .pairUpdateLimit s = .next t ∧ t.update.pairUpdate = none ∧ Offers s t 0xE989 0 [0])

/-- Campaigns of meter images: started, their blocks broadcast, activated, ended (from R691 to R695; the model's choices:
log 47). -/
def Obligations.Campaigns : Prop :=
  (∀ (s : State) (r : Req) (x : Session) (id slot : Nat) (i : MeterImage), Writes s r 0xA040 2 0 (be 1 1) x → id ≠ 0 →
    List.find? (fun e : Nat × MeterImage => e.2.imageId == id) s.update.meterImages = some (slot, i) →
    (∀ c ∈ s.update.campaigns, c.imageId ≠ id) → (s.meters.countP fun x => x.firmware.target != 0) ≤ 65536 →
    ∃ t c, exec (.campaignStart r id) s = .next t ∧ t.update.campaigns = s.update.campaigns ++ [c] ∧ c.imageId = id ∧
      c.slot = slot ∧ c.startedAt = s.elapsed ∧ c.todo = (List.range (blockCount i.bytes)).map fun n => (n, 0)) ∧
  (∀ (s : State) (id n : Nat) (rest : List (Nat × Nat)) (c : Campaign),
    s.update.campaigns.find? (fun c => c.imageId == id) = some c → s.partRuns = true → s.isStandby = false →
    c.endedAt = none → c.todo = (n, 0) :: rest → s.due s.lastBlockAt (divUp 1000000000 (s.obj 0xA041 1)) = true →
    ∃ t d, exec (.campaignRound id) s = .next t ∧ d ∈ t.update.campaigns ∧ d.imageId = id ∧ d.todo = rest ∧
      d.sentAt = s.elapsed ∧ t.obj 0xA042 1 = satAdd 64 (s.obj 0xA042 1) 1) ∧
  (∀ (s : State) (id : Nat) (c : Campaign), s.update.campaigns.find? (fun c => c.imageId == id) = some c →
    s.partRuns = true → s.isStandby = false → c.endedAt = none → c.todo = [] →
    ∃ t d, exec (.campaignRound id) s = .next t ∧ d ∈ t.update.campaigns ∧ d.imageId = id ∧ d.endedAt = some s.elapsed) ∧
  (∀ (s : State) (r : Req) (x : Session) (id e : Nat) (c : Campaign), Writes s r 0xA040 4 0 (be 1 1) x →
    s.update.campaigns.find? (fun c => c.imageId == id) = some c → s.tbSeconds + 60 ≤ e →
    ∃ t d, exec (.campaignActivate r id e) s = .next t ∧ d ∈ t.update.campaigns ∧ d.imageId = id ∧
      d.effective = some e) ∧
  (∀ (s : State) (r : Req) (x : Session) (id : Nat), Writes s r 0xA040 5 0 (be 1 1) x →
    (∃ c ∈ s.update.campaigns, c.imageId = id) →
    ∃ t, exec (.campaignCancel r id) s = .next t ∧ ∀ c ∈ t.update.campaigns, c.imageId ≠ id) ∧
  (∀ (s : State) (id : Nat) (c : Campaign), s.update.campaigns.find? (fun c => c.imageId == id) = some c →
    s.due c.startedAt (s.obj 0xA041 4 * 86400000000000) = true →
    ∃ t, exec (.campaignLimit id) s = .next t ∧ ∀ c ∈ t.update.campaigns, c.imageId ≠ id)

/-- Pins, receivers, PHY polls, PCIe before ready and the test access port (from R623, R708, R712 to R719; the model's
choices: log 6, 8). -/
def Obligations.PinsAndReceivers : Prop :=
  (∀ (s : State) (b : Bool) (pads n : Nat), 1 ≤ s.boot.phase → s.due s.pins.comparedAt 1000 = true → n < 7 →
    n < s.pins.agree.length → n < s.pins.differ.length → s.drivenLevel b n = bit01 (bitAt pads n) →
    ∃ t, exec (.readbackCompare b pads) s = .next t ∧ t.pins.comparedAt = s.elapsed ∧ t.pins.differ.getD n 0 = 0 ∧
      t.pins.agree.getD n 0 = min (s.pins.agree.getD n 0 + 1) 1000) ∧
  (∀ (s : State) (lane : Nat), s.serdesPowered lane = true → (s.serdes lane).locked = false →
    ∃ t, exec (.polarityTry lane) s = .next t ∧ (t.serdes lane).inverted = !(s.serdes lane).inverted ∧
      (t.serdes lane).locked = false) ∧
  (∀ (s : State) (lane : Nat), s.serdesPowered lane = true → (s.serdes lane).locked = false →
    ∃ t, exec (.serdesBlockLock lane) s = .next t ∧ (t.serdes lane).locked = true ∧ (t.serdes lane).before = true ∧
      (t.serdes lane).inverted = (s.serdes lane).inverted) ∧
  (∀ (s : State) (lane : Nat), lane < 6 →
    ∃ t, exec (.serdesLossOfSignal lane) s = .next t ∧ (t.serdes lane).locked = false ∧
      (t.serdes lane).inverted = false ∧ (lane < 4 → t.pair.linkUp = false)) ∧
  (∀ (s : State) (port : Nat), port < 2 → s.hostUp = true → s.obj 0x1010 (port + 1) = 3 →
    s.due (Tab.getD s.pins.polledAt port 0) 100000000 = true →
    ∃ t, exec (.phyStatusPoll port true) s = .next t ∧ port + 2 ∉ t.pins.linkDown ∧
      Sends s t (.pulse 42 port) (be 1 (s.obj 0x1017 (port + 1)))) ∧
  (∀ (s : State) (port : Nat), port < 2 → s.hostUp = true → s.obj 0x1010 (port + 1) = 3 →
    s.due (Tab.getD s.pins.polledAt port 0) 100000000 = true →
    ∃ t, exec (.phyStatusPoll port false) s = .next t ∧ port + 2 ∈ t.pins.linkDown ∧
      Sends s t (.pulse 42 port) (be 1 (s.obj 0x1017 (port + 1)))) ∧
  (∀ (s : State), 2 ≤ s.boot.phase → s.power.pilot < 2 →
    ∃ t, exec .pcieConfigurationRequest s = .next t ∧
      Sends s t (.pulse 41 0) (if s.hostUp || decide (s.boot.phase = 12) then be 1 0 ++ pcieConfig else be 1 1) ∧ t.boot = s.boot) ∧
  (∀ (s : State), ∃ t, exec .idcode s = .next t ∧ t.pins.ir = 1 ∧ t.pins.mode = 0 ∧
    Sends s t (.pulse 40 0) (be 4 (0x10000000 + (0xC700 + s.nTiles) * 4096 + 0x5A3 * 2 + 1))) ∧
  (∀ (s : State) (b : Octets), ∃ t, exec (.samplePreload b) s = .next t ∧ t.pins.ir = 2 ∧ t.pins.boundary = b) ∧
  (∀ (s : State), ∃ t, exec .extest s = .next t ∧ t.pins.ir = 3 ∧ t.pins.mode = 1 ∧
    t.pins.boundary = s.pins.boundary) ∧
  (∀ (s : State), ∃ t, exec .clampPins s = .next t ∧ t.pins.ir = 4 ∧ t.pins.mode = 2) ∧
  (∀ (s : State), ∃ t, exec .highz s = .next t ∧ t.pins.ir = 5 ∧ t.pins.mode = 3) ∧
  (∀ (s : State), ∃ t, exec .haltcode s = .next t ∧ t.pins.ir = 16 ∧ t.pins.mode = 0 ∧
    Sends s t (.pulse 40 0) (be 1 s.boot.haltCode)) ∧
  (∀ (s : State) (o : Nat), o % 256 ∉ [1, 2, 3, 4, 5, 16] →
    ∃ t, exec (.bypass o) s = .next t ∧ t.pins.ir = o % 256 ∧ t.pins.mode = 0)

/-- Power fail, hold-up, supplies, temperature and the power estimate (from R379, R724 to R732, R742 to R744; the model's
choices: log 6, 46). -/
def Obligations.PowerAndTemperature : Prop :=
  (∀ (s : State), s.boot.phase = 9 → s.power.warning = false → s.power.pilot = 0 →
    ∃ t, exec .powerFailWarning s = .next t ∧ t.power.warning = true ∧ t.power.warnAt = s.elapsed ∧
      t.billing.warnedAt = s.tbNs ∧ Tab.find? t.heat.halts 0 = some (s.heat.count + 1) ∧ t.loss.openSnapshots = [] ∧
      Offers s t 0xEA85 0 [bit01 s.power.holdup]) ∧
  (∀ (s : State), s.power.warning = true →
    ∃ t, exec .powerFailClear s = .next t ∧ t.power.warning = false ∧
      (1 ≤ s.boot.phase → s.boot.phase ≤ 8 → t.boot.phase = 1 ∧ t.boot.cause = 4) ∧
      (8 < s.boot.phase → s.power.pilot = 0 → 0 ∈ t.power.resumes)) ∧
  (∀ (s : State) (c : Bool), 1 ≤ s.boot.phase → s.power.holdup ≠ c →
    ∃ t, exec (.holdupChange c) s = .next t ∧ t.power.holdup = c ∧ Offers s t 0xEA8D 0 [bit01 c]) ∧
  (∀ (s : State) (rail tile mv : Nat), 1 ≤ s.boot.phase → s.takesRail rail tile = true → railBad rail mv = true →
    Tab.has s.power.rails (rail * 8 + tile) = false →
    ∃ t, exec (.supplyOutOfRange rail tile mv) s = .next t ∧ Tab.find? t.power.rails (rail * 8 + tile) = some s.elapsed ∧
      Offers s t 0xEA83 tile [rail, tile, mv]) ∧
  (∀ (s : State) (rail tile mv e : Nat), Tab.find? s.power.rails (rail * 8 + tile) = some e → railGood rail mv = true →
    s.due e 100000000 = true →
    ∃ t, exec (.supplyRestored rail tile mv) s = .next t ∧ Tab.find? t.power.rails (rail * 8 + tile) = none ∧
      Offers s t 0xEA84 tile [rail, tile, (s.elapsed - e) / 1000000]) ∧
  (∀ (s : State) (tile : Nat) (a b c d : Int), s.boot.phase ≠ 0 → tile < s.nTiles →
    s.due (Tab.getD s.power.readAt tile 0) 1000000 = true →
    ∃ t, exec (.junctionSensorRead tile a b c d) s = .next t ∧ Tab.find? t.power.readAt tile = some s.elapsed ∧
      Tab.find? t.power.temps (tile * 4) = some a ∧ Tab.find? t.power.temps (tile * 4 + 1) = some b ∧
      Tab.find? t.power.temps (tile * 4 + 2) = some c ∧ Tab.find? t.power.temps (tile * 4 + 3) = some d) ∧
  (∀ (s : State) (tile since c : Nat), s.power.shutdown = some (tile, since) → s.power.coolSince = some c →
    s.due c 10000000000 = true →
    ∃ t, exec .thermalRecovery s = .next t ∧ t.power.shutdown = none ∧ t.power.resumes = s.power.resumes ++ [6] ∧
      Offers s t 0xEA8C tile [tile, (s.elapsed - since) / 1000000000]) ∧
  (∀ (s : State), s.coresRun = true → s.awake = true → s.due s.power.estimatedAt 1000000 = true →
    ∃ t, exec .powerEstimate s = .next t ∧ t.power.estimatedAt = s.elapsed ∧ t.freeCount = s.freeCount + s.nTiles + 1 ∧
      ∀ n < s.nTiles, t.obj 0xB040 (n + 1) = Config.freeNat (s.freeCount + n) % 65536)

/-- Pilot light: entered, woken by its four conditions, and left (from R735 to R740; the model's choices: log 84). -/
def Obligations.PilotLight : Prop :=
  (∀ (s : State) (r : Req) (x : Session), Writes s r 0xB000 1 0 (be 1 1) x → s.power.pilot = 0 → s.pilotRefusal = 0 →
    ∃ t, exec (.pilotLightEnter r) s = .next t ∧ t.power.pilot = 1 ∧ t.power.enteredAt = s.elapsed ∧
      Tab.find? t.heat.halts 3 = some (s.heat.count + 1)) ∧
  (∀ (s : State), s.power.pilot = 1 → s.halted false = true → s.onBoundary = true → s.power.wakeNext = none →
    ∃ t, exec .pilotLightEntryDone s = .next t ∧ t.power.pilot = 2 ∧ t.power.pilotAt = s.elapsed) ∧
  (∀ (s : State) (c : Nat), s.power.pilot = 1 → s.halted false = true → s.onBoundary = true → s.power.wakeNext = some c →
    s.power.warning = false →
    ∃ t, exec .pilotLightEntryDone s = .next t ∧ t.power.pilot = 3 ∧ t.power.wakeCause = c) ∧
  (∀ (s : State) (r : Req) (x : Session), Writes s r 0xB000 2 0 (be 1 1) x → s.power.pilot = 2 →
    s.power.warning = false →
    ∃ t, exec (.pilotLightWake r) s = .next t ∧ t.power.pilot = 3 ∧ t.power.wakeCause = 1 ∧ t.power.wakeAt = s.elapsed) ∧
  (∀ (s : State), s.power.pilot = 2 → s.power.warning = false → s.obj 0xB002 1 ≠ 0 → s.obj 0xB002 1 ≤ s.tbNs →
    ∃ t, exec .wakeAt s = .next t ∧ t.power.pilot = 3 ∧ t.power.wakeCause = 2 ∧ t.power.wakeAt = s.elapsed) ∧
  (∀ (s : State), s.power.pilot = 2 → s.power.warning = false → s.obj 0xB002 2 ≠ 0 →
    s.obj 0xB002 2 ≤ s.line.pilotHeld.length →
    ∃ t, exec .wakeOnLineFrames s = .next t ∧ t.power.pilot = 3 ∧ t.power.wakeCause = 3 ∧ t.power.wakeAt = s.elapsed) ∧
  (∀ (s : State), s.power.pilot = 2 → s.power.warning = false → s.obj 0xB002 3 = 1 →
    ∃ t, exec .wakeOnPerst s = .next t ∧ t.power.pilot = 3 ∧ t.power.wakeCause = 4 ∧ t.power.wakeAt = s.elapsed) ∧
  (∀ (s : State), s.power.pilot = 3 → s.power.warning = false →
    ∃ t, exec .wakeDone s = .next t ∧ t.power.pilot = 0 ∧ t.line.pilotHeld = [] ∧ t.heat.boundaryAt = s.elapsed ∧
      t.obj 0xB003 1 = s.power.wakeCause ∧ t.obj 0xB003 2 = (s.elapsed - s.power.wakeAt) / 1000) ∧
  (∀ (s : State), s.power.pilot = 3 → s.power.warning = true →
    ∃ t, exec .wakeDone s = .next t ∧ t.power.pilot = 2 ∧ t.power.wakeNext = some 1 ∧ t.line = s.line)
end

