-- ==== Sys2Proof/Laws/Ecc.lean ====
section
/-! SUPPORT. Words without errors in banks that lost nothing read whole, wherever they lie (R177, R180, R181). -/

namespace Sys2Proof.Machine

/-- Where no word has an error and no bank lost its contents, every read is clean. -/
theorem eccAt_clean (s : State) (cls tile a : Nat) (he : s.mem.errors = []) (hb : s.mem.banks = []) : s.eccAt cls tile a = 0 := by
  have hl : s.unwritten tile a = false := by simp [State.unwritten, State.bank, hb, Tab.getD, Tab.find?]
  have hp : ¬ (poison ≤ 0) := Nat.not_le.mpr (by unfold poison; positivity)
  have h0 : eccOutcome cls s.freeCount 0 = 0 := by
    unfold eccOutcome errorCount poisonOf
    rw [show popBytes 0 = 0 from rfl, show popCount 13 0 = 0 by decide, show popCount 72 0 = 0 by decide]
    simp only [hp, false_or]
    split_ifs <;> simp_all
  simp [State.eccAt, hl, he, Tab.getD, Tab.find?, h0]

/-- None of the words that a slot reads is uncorrectable there. -/
theorem firstBad_clean (s : State) (tile : Nat) (ws : List (Nat × Nat)) (he : s.mem.errors = []) (hb : s.mem.banks = []) :
    s.firstBad tile ws = none := by
  simp [State.firstBad, eccAt_clean s _ tile _ he hb]

end Sys2Proof.Machine
end

