-- ==== Sys2Proof/Laws/Events.lean ====
section
/-! SUPPORT. When an event was offered between two states, and the updates that offer none. -/

namespace Sys2Proof.Machine

theorem offers_offer (s : State) (c t : Nat) (d : List Nat) : Offers s (s.offer c t d) c t d := by
  simp [Offers, State.offer, State.offerFull]

theorem offers_of (s a : State) (c t : Nat) (d : List Nat) (h : s.recorder.offered <+: a.recorder.offered) :
    Offers s (a.offer c t d) c t d := by
  obtain ⟨l, hl⟩ := h
  simp [Offers, State.offer, State.offerFull, ← hl]

@[simp] theorem count_offered (s : State) (a b c) : (s.count a b c).recorder.offered = s.recorder.offered := rfl
@[simp] theorem countN_offered (s : State) (a b c n) : (s.countN a b c n).recorder.offered = s.recorder.offered := rfl
theorem setVal_recorder (s : State) (a b v) : (s.setVal a b v).recorder = s.recorder := rfl
theorem setObj_recorder (s : State) (a b v) : (s.setObj a b v).recorder = s.recorder := rfl
theorem bump_recorder (s : State) (a b) : (s.bump a b).recorder = s.recorder := rfl

end Sys2Proof.Machine
end

