-- ==== Sys2Proof/Laws/State.lean ====
section
/-! SUPPORT. The facets of the state, so that what an operation leaves alone is one equation: `p.of (op s) = p.of s` for
every facet p outside its footprint. How facets pass through the shapes the operations are written in: a record update, a
choice, a fold. The operations' own lemmas stand in Sys2Proof/Laws/Frame, one file for each file of the machine.
To use them on a field, turn it into its facet first (`State.heat_facet` and the like, or `show Facet.heat.of _ = _`), and
let simp discharge side conditions through nested acts: `simp (maxDischargeDepth := 6)`. A facet outside a footprint is a
literal or stands for every facet outside a list (`Facet.each`). Sys2Proof/Laws/Parts.lean gives the parts of a command's
footprint their facets. -/

namespace Sys2Proof.Machine

/-- The facets of the state: its fields, and the ECC test words inside the memories. -/
inductive Facet where
  | fit | pending | out | elapsed | freeCount | heat | fabric | compiler | queues | mem | place | line | radio
  | meters | tunnel | billing | loss | keys | store | clock | pair | dict | boot | recorder | update | pins | power
  | test

/-- What a facet holds. -/
abbrev Facet.Ty : Facet → Type
  | .fit => Config.Fit
  | .pending => List Instr
  | .out => List Output
  | .elapsed => Nat
  | .freeCount => Nat
  | .heat => HeatState
  | .fabric => FabricState
  | .compiler => CompilerState
  | .queues => QueueState
  | .mem => MemState
  | .place => PlacementState
  | .line => LineState
  | .radio => RadioState
  | .meters => List Meter
  | .tunnel => TunnelState
  | .billing => BillingState
  | .loss => LossState
  | .keys => KeyState
  | .store => StorageState
  | .clock => ClockState
  | .pair => PairState
  | .dict => DictState
  | .boot => BootState
  | .recorder => RecorderState
  | .update => UpdateState
  | .pins => PinState
  | .power => PowerState
  | .test => List Host.Cell

/-- A facet of a state. -/
def Facet.of : (p : Facet) → State → p.Ty
  | .fit, s => s.fit
  | .pending, s => s.pending
  | .out, s => s.out
  | .elapsed, s => s.elapsed
  | .freeCount, s => s.freeCount
  | .heat, s => s.heat
  | .fabric, s => s.fabric
  | .compiler, s => s.compiler
  | .queues, s => s.queues
  | .mem, s => s.mem
  | .place, s => s.place
  | .line, s => s.line
  | .radio, s => s.radio
  | .meters, s => s.meters
  | .tunnel, s => s.tunnel
  | .billing, s => s.billing
  | .loss, s => s.loss
  | .keys, s => s.keys
  | .store, s => s.store
  | .clock, s => s.clock
  | .pair, s => s.pair
  | .dict, s => s.dict
  | .boot, s => s.boot
  | .recorder, s => s.recorder
  | .update, s => s.update
  | .pins, s => s.pins
  | .power, s => s.power
  | .test, s => s.mem.test

/-- The marker of the test words of a new state on their way back to a facet: simp removes it where they are a state's. -/
def Facet.held {α : Type} (a : α) : α := a

theorem State.fit_facet (s : State) : s.fit = Facet.fit.of s := rfl
theorem State.pending_facet (s : State) : s.pending = Facet.pending.of s := rfl
theorem State.out_facet (s : State) : s.out = Facet.out.of s := rfl
theorem State.elapsed_facet (s : State) : s.elapsed = Facet.elapsed.of s := rfl
theorem State.freeCount_facet (s : State) : s.freeCount = Facet.freeCount.of s := rfl
theorem State.heat_facet (s : State) : s.heat = Facet.heat.of s := rfl
theorem State.fabric_facet (s : State) : s.fabric = Facet.fabric.of s := rfl
theorem State.compiler_facet (s : State) : s.compiler = Facet.compiler.of s := rfl
theorem State.queues_facet (s : State) : s.queues = Facet.queues.of s := rfl
theorem State.mem_facet (s : State) : s.mem = Facet.mem.of s := rfl
theorem State.place_facet (s : State) : s.place = Facet.place.of s := rfl
theorem State.line_facet (s : State) : s.line = Facet.line.of s := rfl
theorem State.radio_facet (s : State) : s.radio = Facet.radio.of s := rfl
theorem State.meters_facet (s : State) : s.meters = Facet.meters.of s := rfl
theorem State.tunnel_facet (s : State) : s.tunnel = Facet.tunnel.of s := rfl
theorem State.billing_facet (s : State) : s.billing = Facet.billing.of s := rfl
theorem State.loss_facet (s : State) : s.loss = Facet.loss.of s := rfl
theorem State.keys_facet (s : State) : s.keys = Facet.keys.of s := rfl
theorem State.store_facet (s : State) : s.store = Facet.store.of s := rfl
theorem State.clock_facet (s : State) : s.clock = Facet.clock.of s := rfl
theorem State.pair_facet (s : State) : s.pair = Facet.pair.of s := rfl
theorem State.dict_facet (s : State) : s.dict = Facet.dict.of s := rfl
theorem State.boot_facet (s : State) : s.boot = Facet.boot.of s := rfl
theorem State.recorder_facet (s : State) : s.recorder = Facet.recorder.of s := rfl
theorem State.update_facet (s : State) : s.update = Facet.update.of s := rfl
theorem State.pins_facet (s : State) : s.pins = Facet.pins.of s := rfl
theorem State.power_facet (s : State) : s.power = Facet.power.of s := rfl
theorem State.test_facet (s : State) : s.mem.test = Facet.test.of s := rfl

@[simp] theorem Facet.held_test (s : State) : Facet.held s.mem.test = Facet.test.of s := (rfl)

@[simp] theorem Facet.fit_mk (v1 v2 v3 v4 v5 v6 v7 v8 v9 v10 v11 v12 v13 v14 v15 v16 v17 v18 v19 v20 v21 v22 v23
    v24 v25 v26) (t : State) :
    Facet.fit.of (State.mk t.fit v1 v2 v3 v4 v5 v6 v7 v8 v9 v10 v11 v12 v13 v14 v15 v16 v17 v18 v19 v20 v21 v22
      v23 v24 v25 v26) = Facet.fit.of t := (rfl)
@[simp] theorem Facet.pending_mk (v0 v2 v3 v4 v5 v6 v7 v8 v9 v10 v11 v12 v13 v14 v15 v16 v17 v18 v19 v20 v21 v22
    v23 v24 v25 v26) (t : State) :
    Facet.pending.of (State.mk v0 t.pending v2 v3 v4 v5 v6 v7 v8 v9 v10 v11 v12 v13 v14 v15 v16 v17 v18 v19 v20
      v21 v22 v23 v24 v25 v26) = Facet.pending.of t := (rfl)
@[simp] theorem Facet.out_mk (v0 v1 v3 v4 v5 v6 v7 v8 v9 v10 v11 v12 v13 v14 v15 v16 v17 v18 v19 v20 v21 v22 v23
    v24 v25 v26) (t : State) :
    Facet.out.of (State.mk v0 v1 t.out v3 v4 v5 v6 v7 v8 v9 v10 v11 v12 v13 v14 v15 v16 v17 v18 v19 v20 v21 v22
      v23 v24 v25 v26) = Facet.out.of t := (rfl)
@[simp] theorem Facet.elapsed_mk (v0 v1 v2 v4 v5 v6 v7 v8 v9 v10 v11 v12 v13 v14 v15 v16 v17 v18 v19 v20 v21 v22
    v23 v24 v25 v26) (t : State) :
    Facet.elapsed.of (State.mk v0 v1 v2 t.elapsed v4 v5 v6 v7 v8 v9 v10 v11 v12 v13 v14 v15 v16 v17 v18 v19 v20
      v21 v22 v23 v24 v25 v26) = Facet.elapsed.of t := (rfl)
@[simp] theorem Facet.freeCount_mk (v0 v1 v2 v3 v5 v6 v7 v8 v9 v10 v11 v12 v13 v14 v15 v16 v17 v18 v19 v20 v21
    v22 v23 v24 v25 v26) (t : State) :
    Facet.freeCount.of (State.mk v0 v1 v2 v3 t.freeCount v5 v6 v7 v8 v9 v10 v11 v12 v13 v14 v15 v16 v17 v18 v19
      v20 v21 v22 v23 v24 v25 v26) = Facet.freeCount.of t := (rfl)
@[simp] theorem Facet.heat_mk (v0 v1 v2 v3 v4 v6 v7 v8 v9 v10 v11 v12 v13 v14 v15 v16 v17 v18 v19 v20 v21 v22
    v23 v24 v25 v26) (t : State) :
    Facet.heat.of (State.mk v0 v1 v2 v3 v4 t.heat v6 v7 v8 v9 v10 v11 v12 v13 v14 v15 v16 v17 v18 v19 v20 v21
      v22 v23 v24 v25 v26) = Facet.heat.of t := (rfl)
@[simp] theorem Facet.fabric_mk (v0 v1 v2 v3 v4 v5 v7 v8 v9 v10 v11 v12 v13 v14 v15 v16 v17 v18 v19 v20 v21 v22
    v23 v24 v25 v26) (t : State) :
    Facet.fabric.of (State.mk v0 v1 v2 v3 v4 v5 t.fabric v7 v8 v9 v10 v11 v12 v13 v14 v15 v16 v17 v18 v19 v20
      v21 v22 v23 v24 v25 v26) = Facet.fabric.of t := (rfl)
@[simp] theorem Facet.compiler_mk (v0 v1 v2 v3 v4 v5 v6 v8 v9 v10 v11 v12 v13 v14 v15 v16 v17 v18 v19 v20 v21
    v22 v23 v24 v25 v26) (t : State) :
    Facet.compiler.of (State.mk v0 v1 v2 v3 v4 v5 v6 t.compiler v8 v9 v10 v11 v12 v13 v14 v15 v16 v17 v18 v19
      v20 v21 v22 v23 v24 v25 v26) = Facet.compiler.of t := (rfl)
@[simp] theorem Facet.queues_mk (v0 v1 v2 v3 v4 v5 v6 v7 v9 v10 v11 v12 v13 v14 v15 v16 v17 v18 v19 v20 v21 v22
    v23 v24 v25 v26) (t : State) :
    Facet.queues.of (State.mk v0 v1 v2 v3 v4 v5 v6 v7 t.queues v9 v10 v11 v12 v13 v14 v15 v16 v17 v18 v19 v20
      v21 v22 v23 v24 v25 v26) = Facet.queues.of t := (rfl)
@[simp] theorem Facet.mem_mk (v0 v1 v2 v3 v4 v5 v6 v7 v8 v10 v11 v12 v13 v14 v15 v16 v17 v18 v19 v20 v21 v22 v23
    v24 v25 v26) (t : State) :
    Facet.mem.of (State.mk v0 v1 v2 v3 v4 v5 v6 v7 v8 t.mem v10 v11 v12 v13 v14 v15 v16 v17 v18 v19 v20 v21 v22
      v23 v24 v25 v26) = Facet.mem.of t := (rfl)
@[simp] theorem Facet.place_mk (v0 v1 v2 v3 v4 v5 v6 v7 v8 v9 v11 v12 v13 v14 v15 v16 v17 v18 v19 v20 v21 v22
    v23 v24 v25 v26) (t : State) :
    Facet.place.of (State.mk v0 v1 v2 v3 v4 v5 v6 v7 v8 v9 t.place v11 v12 v13 v14 v15 v16 v17 v18 v19 v20 v21
      v22 v23 v24 v25 v26) = Facet.place.of t := (rfl)
@[simp] theorem Facet.line_mk (v0 v1 v2 v3 v4 v5 v6 v7 v8 v9 v10 v12 v13 v14 v15 v16 v17 v18 v19 v20 v21 v22 v23
    v24 v25 v26) (t : State) :
    Facet.line.of (State.mk v0 v1 v2 v3 v4 v5 v6 v7 v8 v9 v10 t.line v12 v13 v14 v15 v16 v17 v18 v19 v20 v21 v22
      v23 v24 v25 v26) = Facet.line.of t := (rfl)
@[simp] theorem Facet.radio_mk (v0 v1 v2 v3 v4 v5 v6 v7 v8 v9 v10 v11 v13 v14 v15 v16 v17 v18 v19 v20 v21 v22
    v23 v24 v25 v26) (t : State) :
    Facet.radio.of (State.mk v0 v1 v2 v3 v4 v5 v6 v7 v8 v9 v10 v11 t.radio v13 v14 v15 v16 v17 v18 v19 v20 v21
      v22 v23 v24 v25 v26) = Facet.radio.of t := (rfl)
@[simp] theorem Facet.meters_mk (v0 v1 v2 v3 v4 v5 v6 v7 v8 v9 v10 v11 v12 v14 v15 v16 v17 v18 v19 v20 v21 v22
    v23 v24 v25 v26) (t : State) :
    Facet.meters.of (State.mk v0 v1 v2 v3 v4 v5 v6 v7 v8 v9 v10 v11 v12 t.meters v14 v15 v16 v17 v18 v19 v20 v21
      v22 v23 v24 v25 v26) = Facet.meters.of t := (rfl)
@[simp] theorem Facet.tunnel_mk (v0 v1 v2 v3 v4 v5 v6 v7 v8 v9 v10 v11 v12 v13 v15 v16 v17 v18 v19 v20 v21 v22
    v23 v24 v25 v26) (t : State) :
    Facet.tunnel.of (State.mk v0 v1 v2 v3 v4 v5 v6 v7 v8 v9 v10 v11 v12 v13 t.tunnel v15 v16 v17 v18 v19 v20 v21
      v22 v23 v24 v25 v26) = Facet.tunnel.of t := (rfl)
@[simp] theorem Facet.billing_mk (v0 v1 v2 v3 v4 v5 v6 v7 v8 v9 v10 v11 v12 v13 v14 v16 v17 v18 v19 v20 v21 v22
    v23 v24 v25 v26) (t : State) :
    Facet.billing.of (State.mk v0 v1 v2 v3 v4 v5 v6 v7 v8 v9 v10 v11 v12 v13 v14 t.billing v16 v17 v18 v19 v20
      v21 v22 v23 v24 v25 v26) = Facet.billing.of t := (rfl)
@[simp] theorem Facet.loss_mk (v0 v1 v2 v3 v4 v5 v6 v7 v8 v9 v10 v11 v12 v13 v14 v15 v17 v18 v19 v20 v21 v22 v23
    v24 v25 v26) (t : State) :
    Facet.loss.of (State.mk v0 v1 v2 v3 v4 v5 v6 v7 v8 v9 v10 v11 v12 v13 v14 v15 t.loss v17 v18 v19 v20 v21 v22
      v23 v24 v25 v26) = Facet.loss.of t := (rfl)
@[simp] theorem Facet.keys_mk (v0 v1 v2 v3 v4 v5 v6 v7 v8 v9 v10 v11 v12 v13 v14 v15 v16 v18 v19 v20 v21 v22 v23
    v24 v25 v26) (t : State) :
    Facet.keys.of (State.mk v0 v1 v2 v3 v4 v5 v6 v7 v8 v9 v10 v11 v12 v13 v14 v15 v16 t.keys v18 v19 v20 v21 v22
      v23 v24 v25 v26) = Facet.keys.of t := (rfl)
@[simp] theorem Facet.store_mk (v0 v1 v2 v3 v4 v5 v6 v7 v8 v9 v10 v11 v12 v13 v14 v15 v16 v17 v19 v20 v21 v22
    v23 v24 v25 v26) (t : State) :
    Facet.store.of (State.mk v0 v1 v2 v3 v4 v5 v6 v7 v8 v9 v10 v11 v12 v13 v14 v15 v16 v17 t.store v19 v20 v21
      v22 v23 v24 v25 v26) = Facet.store.of t := (rfl)
@[simp] theorem Facet.clock_mk (v0 v1 v2 v3 v4 v5 v6 v7 v8 v9 v10 v11 v12 v13 v14 v15 v16 v17 v18 v20 v21 v22
    v23 v24 v25 v26) (t : State) :
    Facet.clock.of (State.mk v0 v1 v2 v3 v4 v5 v6 v7 v8 v9 v10 v11 v12 v13 v14 v15 v16 v17 v18 t.clock v20 v21
      v22 v23 v24 v25 v26) = Facet.clock.of t := (rfl)
@[simp] theorem Facet.pair_mk (v0 v1 v2 v3 v4 v5 v6 v7 v8 v9 v10 v11 v12 v13 v14 v15 v16 v17 v18 v19 v21 v22 v23
    v24 v25 v26) (t : State) :
    Facet.pair.of (State.mk v0 v1 v2 v3 v4 v5 v6 v7 v8 v9 v10 v11 v12 v13 v14 v15 v16 v17 v18 v19 t.pair v21 v22
      v23 v24 v25 v26) = Facet.pair.of t := (rfl)
@[simp] theorem Facet.dict_mk (v0 v1 v2 v3 v4 v5 v6 v7 v8 v9 v10 v11 v12 v13 v14 v15 v16 v17 v18 v19 v20 v22 v23
    v24 v25 v26) (t : State) :
    Facet.dict.of (State.mk v0 v1 v2 v3 v4 v5 v6 v7 v8 v9 v10 v11 v12 v13 v14 v15 v16 v17 v18 v19 v20 t.dict v22
      v23 v24 v25 v26) = Facet.dict.of t := (rfl)
@[simp] theorem Facet.boot_mk (v0 v1 v2 v3 v4 v5 v6 v7 v8 v9 v10 v11 v12 v13 v14 v15 v16 v17 v18 v19 v20 v21 v23
    v24 v25 v26) (t : State) :
    Facet.boot.of (State.mk v0 v1 v2 v3 v4 v5 v6 v7 v8 v9 v10 v11 v12 v13 v14 v15 v16 v17 v18 v19 v20 v21 t.boot
      v23 v24 v25 v26) = Facet.boot.of t := (rfl)
@[simp] theorem Facet.recorder_mk (v0 v1 v2 v3 v4 v5 v6 v7 v8 v9 v10 v11 v12 v13 v14 v15 v16 v17 v18 v19 v20 v21
    v22 v24 v25 v26) (t : State) :
    Facet.recorder.of (State.mk v0 v1 v2 v3 v4 v5 v6 v7 v8 v9 v10 v11 v12 v13 v14 v15 v16 v17 v18 v19 v20 v21
      v22 t.recorder v24 v25 v26) = Facet.recorder.of t := (rfl)
@[simp] theorem Facet.update_mk (v0 v1 v2 v3 v4 v5 v6 v7 v8 v9 v10 v11 v12 v13 v14 v15 v16 v17 v18 v19 v20 v21
    v22 v23 v25 v26) (t : State) :
    Facet.update.of (State.mk v0 v1 v2 v3 v4 v5 v6 v7 v8 v9 v10 v11 v12 v13 v14 v15 v16 v17 v18 v19 v20 v21 v22
      v23 t.update v25 v26) = Facet.update.of t := (rfl)
@[simp] theorem Facet.pins_mk (v0 v1 v2 v3 v4 v5 v6 v7 v8 v9 v10 v11 v12 v13 v14 v15 v16 v17 v18 v19 v20 v21 v22
    v23 v24 v26) (t : State) :
    Facet.pins.of (State.mk v0 v1 v2 v3 v4 v5 v6 v7 v8 v9 v10 v11 v12 v13 v14 v15 v16 v17 v18 v19 v20 v21 v22
      v23 v24 t.pins v26) = Facet.pins.of t := (rfl)
@[simp] theorem Facet.power_mk (v0 v1 v2 v3 v4 v5 v6 v7 v8 v9 v10 v11 v12 v13 v14 v15 v16 v17 v18 v19 v20 v21
    v22 v23 v24 v25) (t : State) :
    Facet.power.of (State.mk v0 v1 v2 v3 v4 v5 v6 v7 v8 v9 v10 v11 v12 v13 v14 v15 v16 v17 v18 v19 v20 v21 v22
      v23 v24 v25 t.power) = Facet.power.of t := (rfl)
@[simp] theorem Facet.test_mk (v0 v1 v2 v3 v4 v5 v6 v7 v8 v9 v10 v11 v12 v13 v14 v15 v16 v17 v18 v19 v20 v21 v22
    v23 v24 v25 v26) :
    Facet.test.of (State.mk v0 v1 v2 v3 v4 v5 v6 v7 v8 v9 v10 v11 v12 v13 v14 v15 v16 v17 v18 v19 v20 v21 v22
      v23 v24 v25 v26) = Facet.held v9.test := (rfl)

/-- An update of one field leaves the other facets alone. -/
@[simp] theorem Facet.set_fit (p : Facet) (s : State) (x : Config.Fit) (h : p ≠ .fit) :
    p.of { s with fit := x } = p.of s := by cases p <;> first | rfl | contradiction
@[simp] theorem Facet.set_pending (p : Facet) (s : State) (x : List Instr) (h : p ≠ .pending) :
    p.of { s with pending := x } = p.of s := by cases p <;> first | rfl | contradiction
@[simp] theorem Facet.set_out (p : Facet) (s : State) (x : List Output) (h : p ≠ .out) :
    p.of { s with out := x } = p.of s := by cases p <;> first | rfl | contradiction
@[simp] theorem Facet.set_elapsed (p : Facet) (s : State) (x : Nat) (h : p ≠ .elapsed) :
    p.of { s with elapsed := x } = p.of s := by cases p <;> first | rfl | contradiction
@[simp] theorem Facet.set_freeCount (p : Facet) (s : State) (x : Nat) (h : p ≠ .freeCount) :
    p.of { s with freeCount := x } = p.of s := by cases p <;> first | rfl | contradiction
@[simp] theorem Facet.set_heat (p : Facet) (s : State) (x : HeatState) (h : p ≠ .heat) :
    p.of { s with heat := x } = p.of s := by cases p <;> first | rfl | contradiction
@[simp] theorem Facet.set_fabric (p : Facet) (s : State) (x : FabricState) (h : p ≠ .fabric) :
    p.of { s with fabric := x } = p.of s := by cases p <;> first | rfl | contradiction
@[simp] theorem Facet.set_compiler (p : Facet) (s : State) (x : CompilerState) (h : p ≠ .compiler) :
    p.of { s with compiler := x } = p.of s := by cases p <;> first | rfl | contradiction
@[simp] theorem Facet.set_queues (p : Facet) (s : State) (x : QueueState) (h : p ≠ .queues) :
    p.of { s with queues := x } = p.of s := by cases p <;> first | rfl | contradiction
@[simp] theorem Facet.set_mem (p : Facet) (s : State) (x : MemState) (h : p ≠ .mem) (h1 : p ≠ .test) :
    p.of { s with mem := x } = p.of s := by cases p <;> first | rfl | contradiction
@[simp] theorem Facet.set_place (p : Facet) (s : State) (x : PlacementState) (h : p ≠ .place) :
    p.of { s with place := x } = p.of s := by cases p <;> first | rfl | contradiction
@[simp] theorem Facet.set_line (p : Facet) (s : State) (x : LineState) (h : p ≠ .line) :
    p.of { s with line := x } = p.of s := by cases p <;> first | rfl | contradiction
@[simp] theorem Facet.set_radio (p : Facet) (s : State) (x : RadioState) (h : p ≠ .radio) :
    p.of { s with radio := x } = p.of s := by cases p <;> first | rfl | contradiction
@[simp] theorem Facet.set_meters (p : Facet) (s : State) (x : List Meter) (h : p ≠ .meters) :
    p.of { s with meters := x } = p.of s := by cases p <;> first | rfl | contradiction
@[simp] theorem Facet.set_tunnel (p : Facet) (s : State) (x : TunnelState) (h : p ≠ .tunnel) :
    p.of { s with tunnel := x } = p.of s := by cases p <;> first | rfl | contradiction
@[simp] theorem Facet.set_billing (p : Facet) (s : State) (x : BillingState) (h : p ≠ .billing) :
    p.of { s with billing := x } = p.of s := by cases p <;> first | rfl | contradiction
@[simp] theorem Facet.set_loss (p : Facet) (s : State) (x : LossState) (h : p ≠ .loss) :
    p.of { s with loss := x } = p.of s := by cases p <;> first | rfl | contradiction
@[simp] theorem Facet.set_keys (p : Facet) (s : State) (x : KeyState) (h : p ≠ .keys) :
    p.of { s with keys := x } = p.of s := by cases p <;> first | rfl | contradiction
@[simp] theorem Facet.set_store (p : Facet) (s : State) (x : StorageState) (h : p ≠ .store) :
    p.of { s with store := x } = p.of s := by cases p <;> first | rfl | contradiction
@[simp] theorem Facet.set_clock (p : Facet) (s : State) (x : ClockState) (h : p ≠ .clock) :
    p.of { s with clock := x } = p.of s := by cases p <;> first | rfl | contradiction
@[simp] theorem Facet.set_pair (p : Facet) (s : State) (x : PairState) (h : p ≠ .pair) :
    p.of { s with pair := x } = p.of s := by cases p <;> first | rfl | contradiction
@[simp] theorem Facet.set_dict (p : Facet) (s : State) (x : DictState) (h : p ≠ .dict) :
    p.of { s with dict := x } = p.of s := by cases p <;> first | rfl | contradiction
@[simp] theorem Facet.set_boot (p : Facet) (s : State) (x : BootState) (h : p ≠ .boot) :
    p.of { s with boot := x } = p.of s := by cases p <;> first | rfl | contradiction
@[simp] theorem Facet.set_recorder (p : Facet) (s : State) (x : RecorderState) (h : p ≠ .recorder) :
    p.of { s with recorder := x } = p.of s := by cases p <;> first | rfl | contradiction
@[simp] theorem Facet.set_update (p : Facet) (s : State) (x : UpdateState) (h : p ≠ .update) :
    p.of { s with update := x } = p.of s := by cases p <;> first | rfl | contradiction
@[simp] theorem Facet.set_pins (p : Facet) (s : State) (x : PinState) (h : p ≠ .pins) :
    p.of { s with pins := x } = p.of s := by cases p <;> first | rfl | contradiction
@[simp] theorem Facet.set_power (p : Facet) (s : State) (x : PowerState) (h : p ≠ .power) :
    p.of { s with power := x } = p.of s := by cases p <;> first | rfl | contradiction
@[simp] theorem Facet.set_mem_test (p : Facet) (s : State) (x : MemState) (h : p ≠ .mem) (ht : x.test = s.mem.test) :
    p.of { s with mem := x } = p.of s := by cases p <;> first | rfl | contradiction | exact ht

/-- A facet of a choice is the choice of the facets. -/
@[simp] theorem Facet.of_ite (p : Facet) (c : Prop) [Decidable c] (a b : State) :
    p.of (if c then a else b) = if c then p.of a else p.of b := by split <;> rfl

@[simp] theorem Facet.held_ite {α : Type} (c : Prop) [Decidable c] (a b : α) :
    Facet.held (if c then a else b) = if c then Facet.held a else Facet.held b := by split <;> rfl

@[simp] theorem MemState.ite_test (c : Prop) [Decidable c] (a b : MemState) :
    (if c then a else b).test = if c then a.test else b.test := by split <;> rfl

/-- A fold whose steps leave a facet alone leaves it alone. -/
@[simp] theorem foldl_facet (p : Facet) {α : Type} (l : List α) (g : State → α → State)
    (h : ∀ s x t, t = g s x → p.of t = p.of s) (s : State) : p.of (l.foldl g s) = p.of s := by
  induction l generalizing s with
  | nil => rfl
  | cons x r ih => rw [List.foldl_cons, ih]; exact h _ _ _ rfl

@[simp] theorem foldl_fst_facet (p : Facet) {α β : Type} (l : List α) (g : State × β → α → State × β)
    (h : ∀ a x t, t = g a x → p.of t.1 = p.of a.1) (a : State × β) : p.of (l.foldl g a).1 = p.of a.1 := by
  induction l generalizing a with
  | nil => rfl
  | cons x r ih => rw [List.foldl_cons, ih]; exact h _ _ _ rfl

@[simp] theorem foldl_snd_facet (p : Facet) {α β : Type} (l : List α) (g : β × State → α → β × State)
    (h : ∀ a x t, t = g a x → p.of t.2 = p.of a.2) (a : β × State) : p.of (l.foldl g a).2 = p.of a.2 := by
  induction l generalizing a with
  | nil => rfl
  | cons x r ih => rw [List.foldl_cons, ih]; exact h _ _ _ rfl

@[simp] theorem foldl_mid_facet (p : Facet) {α β γ : Type} (l : List α) (g : β × State × γ → α → β × State × γ)
    (h : ∀ a x t, t = g a x → p.of t.2.1 = p.of a.2.1) (a : β × State × γ) : p.of (l.foldl g a).2.1 = p.of a.2.1 := by
  induction l generalizing a with
  | nil => rfl
  | cons x r ih => rw [List.foldl_cons, ih]; exact h _ _ _ rfl

/-- To show that every facet outside a footprint is kept, look at each facet. -/
theorem Facet.each {l : List Facet} {s t : State}
    (h : (Facet.fit ∉ l → Facet.fit.of t = Facet.fit.of s) ∧
      (Facet.pending ∉ l → Facet.pending.of t = Facet.pending.of s) ∧
      (Facet.out ∉ l → Facet.out.of t = Facet.out.of s) ∧
      (Facet.elapsed ∉ l → Facet.elapsed.of t = Facet.elapsed.of s) ∧
      (Facet.freeCount ∉ l → Facet.freeCount.of t = Facet.freeCount.of s) ∧
      (Facet.heat ∉ l → Facet.heat.of t = Facet.heat.of s) ∧
      (Facet.fabric ∉ l → Facet.fabric.of t = Facet.fabric.of s) ∧
      (Facet.compiler ∉ l → Facet.compiler.of t = Facet.compiler.of s) ∧
      (Facet.queues ∉ l → Facet.queues.of t = Facet.queues.of s) ∧
      (Facet.mem ∉ l → Facet.mem.of t = Facet.mem.of s) ∧
      (Facet.place ∉ l → Facet.place.of t = Facet.place.of s) ∧
      (Facet.line ∉ l → Facet.line.of t = Facet.line.of s) ∧
      (Facet.radio ∉ l → Facet.radio.of t = Facet.radio.of s) ∧
      (Facet.meters ∉ l → Facet.meters.of t = Facet.meters.of s) ∧
      (Facet.tunnel ∉ l → Facet.tunnel.of t = Facet.tunnel.of s) ∧
      (Facet.billing ∉ l → Facet.billing.of t = Facet.billing.of s) ∧
      (Facet.loss ∉ l → Facet.loss.of t = Facet.loss.of s) ∧
      (Facet.keys ∉ l → Facet.keys.of t = Facet.keys.of s) ∧
      (Facet.store ∉ l → Facet.store.of t = Facet.store.of s) ∧
      (Facet.clock ∉ l → Facet.clock.of t = Facet.clock.of s) ∧
      (Facet.pair ∉ l → Facet.pair.of t = Facet.pair.of s) ∧
      (Facet.dict ∉ l → Facet.dict.of t = Facet.dict.of s) ∧
      (Facet.boot ∉ l → Facet.boot.of t = Facet.boot.of s) ∧
      (Facet.recorder ∉ l → Facet.recorder.of t = Facet.recorder.of s) ∧
      (Facet.update ∉ l → Facet.update.of t = Facet.update.of s) ∧
      (Facet.pins ∉ l → Facet.pins.of t = Facet.pins.of s) ∧
      (Facet.power ∉ l → Facet.power.of t = Facet.power.of s) ∧
      (Facet.test ∉ l → Facet.test.of t = Facet.test.of s))
    (p : Facet) (hp : p ∉ l) : p.of t = p.of s := by
  obtain ⟨ h0, h1, h2, h3, h4, h5, h6, h7, h8, h9, h10, h11, h12, h13, h14, h15, h16, h17, h18, h19, h20, h21,
    h22, h23, h24, h25, h26, h27⟩ := h
  cases p
  · exact h0 hp
  · exact h1 hp
  · exact h2 hp
  · exact h3 hp
  · exact h4 hp
  · exact h5 hp
  · exact h6 hp
  · exact h7 hp
  · exact h8 hp
  · exact h9 hp
  · exact h10 hp
  · exact h11 hp
  · exact h12 hp
  · exact h13 hp
  · exact h14 hp
  · exact h15 hp
  · exact h16 hp
  · exact h17 hp
  · exact h18 hp
  · exact h19 hp
  · exact h20 hp
  · exact h21 hp
  · exact h22 hp
  · exact h23 hp
  · exact h24 hp
  · exact h25 hp
  · exact h26 hp
  · exact h27 hp

end Sys2Proof.Machine
end

