-- ==== Sys2Proof/Laws/Frame/Ops.lean ====
section
/-! SUPPORT. What the operations of Machine/Ops.lean leave unchanged: the parts of the state outside each one's footprint. -/

namespace Sys2Proof.Machine

@[simp] theorem State.advance_frame (p : Facet) (s : State) (dt : Nat)
    (hp : p ∉ ([.elapsed, .clock] : List Facet)) :
    p.of (State.advance s dt) = p.of s := by
  refine Facet.each ?_ p hp
  simp [State.advance]

@[simp] theorem State.advanceTo_frame (p : Facet) (s : State) (t : Nat)
    (hp : p ∉ ([.elapsed, .clock] : List Facet)) :
    p.of (State.advanceTo s t) = p.of s := by
  simp at hp
  simp [hp, State.advanceTo]

@[simp] theorem State.setVal_frame (p : Facet) (s : State) (index sub : Nat) (v : Val)
    (hp : p ∉ ([.dict] : List Facet)) :
    p.of (State.setVal s index sub v) = p.of s := by
  simp at hp
  simp [hp, State.setVal]

@[simp] theorem State.setObjI_frame (p : Facet) (s : State) (index sub : Nat) (i : Int)
    (hp : p ∉ ([.dict] : List Facet)) :
    p.of (State.setObjI s index sub i) = p.of s := by
  simp at hp
  simp [hp, State.setObjI]

@[simp] theorem State.setObj_frame (p : Facet) (s : State) (index sub n : Nat)
    (hp : p ∉ ([.dict] : List Facet)) :
    p.of (State.setObj s index sub n) = p.of s := by
  simp at hp
  simp [hp, State.setObj]

@[simp] theorem State.addObj_frame (p : Facet) (s : State) (index sub n : Nat)
    (hp : p ∉ ([.dict] : List Facet)) :
    p.of (State.addObj s index sub n) = p.of s := by
  simp at hp
  simp [hp, State.addObj]

@[simp] theorem State.bump_frame (p : Facet) (s : State) (index sub : Nat)
    (hp : p ∉ ([.dict] : List Facet)) :
    p.of (State.bump s index sub) = p.of s := by
  simp at hp
  simp [hp, State.bump]

@[simp] theorem State.setDomain_frame (p : Facet) (s : State) (index sub : Nat) (b : Octets)
    (hp : p ∉ ([.dict] : List Facet)) :
    p.of (State.setDomain s index sub b) = p.of s := by
  simp at hp
  simp [hp, State.setDomain]

@[simp] theorem State.offerFull_frame (p : Facet) (s : State) (code tile : Nat) (data : List Nat)
    (summary buffered : Bool)
    (hp : p ∉ ([.recorder] : List Facet)) :
    p.of (State.offerFull s code tile data summary buffered) = p.of s := by
  simp at hp
  simp [hp, State.offerFull]

@[simp] theorem State.offer_frame (p : Facet) (s : State) (code tile : Nat) (data : List Nat)
    (hp : p ∉ ([.recorder] : List Facet)) :
    p.of (State.offer s code tile data) = p.of s := by
  simp at hp
  simp [hp, State.offer]

@[simp] theorem State.offerCounted_frame (p : Facet) (s : State) (code tile sub : Nat) (data : List Nat) (base : Nat)
    (hp : p ∉ ([.fabric, .recorder] : List Facet)) :
    p.of (State.offerCounted s code tile sub data base) = p.of s := by
  simp at hp
  generalize ht : State.offerCounted s code tile sub data base = t'
  unfold State.offerCounted at ht
  try dsimp only at ht
  repeat' (first
    | (subst ht; simp [hp]; done)
    | (subst ht; obtain ⟨_, rfl⟩ := Prod.ext_iff.mp ‹_ = (_, _)›; simp [hp]; done)
    | split at ht)

@[simp] theorem State.offerLimited_frame (p : Facet) (s : State) (code tile sub : Nat) (data : List Nat)
    (hp : p ∉ ([.fabric, .recorder] : List Facet)) :
    p.of (State.offerLimited s code tile sub data) = p.of s := by
  simp at hp
  simp [hp, State.offerLimited]

@[simp] theorem State.countN_frame (p : Facet) (s : State) (tile block index n : Nat)
    (hp : p ∉ ([.recorder] : List Facet)) :
    p.of (State.countN s tile block index n) = p.of s := by
  simp at hp
  simp [hp, State.countN]

@[simp] theorem State.count_frame (p : Facet) (s : State) (tile block index : Nat)
    (hp : p ∉ ([.recorder] : List Facet)) :
    p.of (State.count s tile block index) = p.of s := by
  simp at hp
  simp [hp, State.count]

@[simp] theorem State.send_frame (p : Facet) (s : State) (port : OutPort) (bytes : Octets)
    (hp : p ∉ ([.out] : List Facet)) :
    p.of (State.send s port bytes) = p.of s := by
  simp at hp
  simp [hp, State.send]

@[simp] theorem State.sendOn_frame (p : Facet) (s : State) (port : OutPort) (bytes : Octets)
    (hp : p ∉ ([.out, .recorder] : List Facet)) :
    p.of (State.sendOn s port bytes) = p.of s := by
  simp at hp
  generalize ht : State.sendOn s port bytes = t'
  unfold State.sendOn at ht
  try dsimp only at ht
  repeat' (first
    | (subst ht; simp [hp]; done)
    | split at ht)

@[simp] theorem State.heardOn_frame (p : Facet) (s : State) (port kind : Nat)
    (hp : p ∉ ([.recorder] : List Facet)) :
    p.of (State.heardOn s port kind) = p.of s := by
  simp at hp
  simp [hp, State.heardOn]

@[simp] theorem State.drew_frame (p : Facet) (s : State) (n : Nat)
    (hp : p ∉ ([.freeCount] : List Facet)) :
    p.of (State.drew s n) = p.of s := by
  simp at hp
  simp [hp, State.drew]

@[simp] theorem State.eachTile_frame (p : Facet) (s : State) (f : State → Nat → State)
    (hf : ∀ a0 a1 d', d' = f a0 a1 → p.of d' = p.of a0) :
    p.of (State.eachTile s f) = p.of s := by
  have h'f := fun a0 a1 => hf a0 a1 _ rfl
  simp [*, State.eachTile]

end Sys2Proof.Machine
end

