-- ==== Sys2Proof/Laws/Frame/Ecc.lean ====
section
/-! SUPPORT. What the operations of Machine/Ecc.lean leave unchanged: the parts of the state outside each one's footprint. -/

namespace Sys2Proof.Machine

@[simp] theorem MemState.setError_test (m : MemState) (k pattern : Nat) : (m.setError k pattern).test = m.test := by
  unfold MemState.setError; split <;> rfl

@[simp] theorem MemState.freshen_test (m : MemState) (tile a : Nat) : (m.freshen tile a).test = m.test := by
  unfold MemState.freshen; dsimp only; split <;> (try split) <;> rfl

@[simp] theorem foldl_setError_test {α : Type} (l : List α) (k p : α → Nat) (m : MemState) :
    (l.foldl (fun m x => m.setError (k x) (p x)) m).test = m.test := by
  induction l generalizing m with
  | nil => rfl
  | cons x r ih => rw [List.foldl_cons, ih]; exact MemState.setError_test m _ _

@[simp] theorem State.setBank_frame (p : Facet) (s : State) (tile b : Nat) (x : Bank)
    (hp : p ∉ ([.mem] : List Facet)) :
    p.of (State.setBank s tile b x) = p.of s := by
  simp at hp
  simp [hp, State.setBank]

@[simp] theorem State.wordWritten_frame (p : Facet) (s : State) (cls tile a : Nat)
    (hp : p ∉ ([.mem, .dict, .recorder] : List Facet)) :
    p.of (State.wordWritten s cls tile a) = p.of s := by
  simp at hp
  generalize ht : State.wordWritten s cls tile a = t'
  unfold State.wordWritten at ht
  try dsimp only at ht
  repeat' (first
    | (subst ht; simp [hp]; done)
    | split at ht)

@[simp] theorem State.access_frame (p : Facet) (s : State) (tile a agent : Nat)
    (hp : p ∉ ([.recorder] : List Facet)) :
    p.of (State.access s tile a agent).2 = p.of s := by
  simp at hp
  generalize ht : State.access s tile a agent = t'
  unfold State.access at ht
  try dsimp only at ht
  repeat' (first
    | (subst ht; simp [hp]; done)
    | split at ht)

@[simp] theorem State.accessAll_frame (p : Facet) (s : State) (tile agent : Nat) (ws : List Nat)
    (hp : p ∉ ([.recorder] : List Facet)) :
    p.of (State.accessAll s tile agent ws).2 = p.of s := by
  simp at hp
  generalize ht : State.accessAll s tile agent ws = t'
  unfold State.accessAll at ht
  try dsimp only at ht
  repeat' (first
    | (subst ht; simp [hp]; done)
    | (subst ht; obtain ⟨_, rfl⟩ := Prod.ext_iff.mp ‹_ = (_, _)›; simp [hp]; done)
    | split at ht)

end Sys2Proof.Machine
end

