-- ==== Sys2Proof/Laws/Frame/QueueOps.lean ====
section
/-! SUPPORT. What the operations of Machine/QueueOps.lean leave unchanged: the parts of the state outside each one's footprint. -/

namespace Sys2Proof.Machine

@[simp] theorem State.setQueue_frame (p : Facet) (s : State) (tile q : Nat) (x : Queue)
    (hp : p ∉ ([.queues] : List Facet)) :
    p.of (State.setQueue s tile q x) = p.of s := by
  simp at hp
  simp [hp, State.setQueue]

@[simp] theorem State.wordsWritten_frame (p : Facet) (s : State) (tile q : Nat) (pos : BitVec 32) (n : Nat)
    (hp : p ∉ ([.mem, .dict, .recorder] : List Facet)) :
    p.of (State.wordsWritten s tile q pos n) = p.of s := by
  simp at hp
  simp [hp, State.wordsWritten]

@[simp] theorem queueEvent_frame (p : Facet) (s : State) (code tile q : Nat) (data : List Nat)
    (hp : p ∉ ([.fabric, .recorder] : List Facet)) :
    p.of (queueEvent s code tile q data) = p.of s := by
  simp at hp
  simp [hp, queueEvent]

@[simp] theorem State.releaseTo_frame (p : Facet) (s : State) (tile q : Nat) (pos : BitVec 32)
    (hp : p ∉ ([.fabric, .queues, .recorder] : List Facet)) :
    p.of (State.releaseTo s tile q pos) = p.of s := by
  simp at hp
  simp [hp, State.releaseTo]

@[simp] theorem State.takePacket_frame (p : Facet) (s : State) (tile q : Nat)
    (hp : p ∉ ([.fabric, .queues, .recorder] : List Facet)) :
    p.of (State.takePacket s tile q).2 = p.of s := by
  simp at hp
  generalize ht : State.takePacket s tile q = t'
  unfold State.takePacket at ht
  try dsimp only at ht
  repeat' (first
    | (subst ht; simp [hp]; done)
    | split at ht)

@[simp] theorem State.refuseOpen_frame (fct : Facet) (s : State) (tile q : Nat) (p : Producer)
    (hp : fct ∉ ([.fabric, .queues, .recorder] : List Facet)) :
    fct.of (State.refuseOpen s tile q p) = fct.of s := by
  simp at hp
  simp [hp, State.refuseOpen]

@[simp] theorem State.tryOpen_frame (fct : Facet) (s : State) (tile q : Nat) (p : Producer) (words : Nat)
    (hp : fct ∉ ([.fabric, .queues, .recorder] : List Facet)) :
    fct.of (State.tryOpen s tile q p words) = fct.of s := by
  simp at hp
  simp [hp, State.tryOpen]

@[simp] theorem State.highWater_frame (p : Facet) (s : State) (tile q : Nat)
    (hp : p ∉ ([.fabric, .queues, .recorder] : List Facet)) :
    p.of (State.highWater s tile q) = p.of s := by
  simp at hp
  simp [hp, State.highWater]

@[simp] theorem State.dropOpen_frame (p : Facet) (s : State) (tile q cause : Nat)
    (hp : p ∉ ([.fabric, .queues, .recorder] : List Facet)) :
    p.of (State.dropOpen s tile q cause) = p.of s := by
  simp at hp
  simp [hp, State.dropOpen]

@[simp] theorem State.refuseStranger_frame (p : Facet) (s : State) (tile q : Nat)
    (hp : p ∉ ([.queues] : List Facet)) :
    p.of (State.refuseStranger s tile q) = p.of s := by
  simp at hp
  simp [hp, State.refuseStranger]

@[simp] theorem State.waitOpen_frame (fct : Facet) (s : State) (tile q : Nat) (p : Producer) (words : Nat)
    (ws : List (Word × Byte))
    (hp : fct ∉ ([.queues] : List Facet)) :
    fct.of (State.waitOpen s tile q p words ws) = fct.of s := by
  simp at hp
  simp [hp, State.waitOpen]

@[simp] theorem State.writePacket_frame (fct : Facet) (s : State) (tile q : Nat) (p : Producer)
    (ws : List (Word × Byte))
    (hp : fct ∉ ([.fabric, .queues, .mem, .dict, .recorder] : List Facet)) :
    fct.of (State.writePacket s tile q p ws).2 = fct.of s := by
  simp at hp
  generalize ht : State.writePacket s tile q p ws = t'
  unfold State.writePacket at ht
  try dsimp only at ht
  repeat' (first
    | (subst ht; simp [hp]; done)
    | split at ht)

@[simp] theorem State.askAgain_frame (fct : Facet) (s : State) (tile q : Nat) (p : Producer) (ws : List (Word × Byte))
    (hp : fct ∉ ([.queues] : List Facet)) :
    fct.of (State.askAgain s tile q p ws) = fct.of s := by
  simp at hp
  simp [hp, State.askAgain]

@[simp] theorem State.pushPacket_frame (fct : Facet) (s : State) (tile q : Nat) (p : Producer)
    (ws : List (Word × Byte))
    (hp : fct ∉ ([.fabric, .queues, .mem, .dict, .recorder] : List Facet)) :
    fct.of (State.pushPacket s tile q p ws).2 = fct.of s := by
  simp at hp
  generalize ht : State.pushPacket s tile q p ws = t'
  unfold State.pushPacket at ht
  try dsimp only at ht
  repeat' (first
    | (subst ht; simp [hp]; done)
    | split at ht)

@[simp] theorem State.writeWaiting_frame (p : Facet) (fuel : Nat) (s : State) (tile q : Nat)
    (hp : p ∉ ([.fabric, .queues, .mem, .dict, .recorder] : List Facet)) :
    p.of (State.writeWaiting fuel s tile q) = p.of s := by
  simp at hp
  induction fuel generalizing s with
  | zero => simp [State.writeWaiting, hp]
  | succ k ih =>
    generalize ht : State.writeWaiting (k + 1) s tile q = t'
    unfold State.writeWaiting at ht
    try dsimp only at ht
    repeat' (first
      | (subst ht; simp [ih, hp]; done)
      | split at ht)

@[simp] theorem State.pushAll_frame (fct : Facet) (s : State) (tile q : Nat) (p : Producer)
    (ps : List (List (Word × Byte)))
    (hp : fct ∉ ([.fabric, .queues, .mem, .dict, .recorder] : List Facet)) :
    fct.of (State.pushAll s tile q p ps) = fct.of s := by
  simp at hp
  simp [hp, State.pushAll]

@[simp] theorem State.setRequest_frame (p : Facet) (s : State) (tile n : Nat) (r : Request)
    (hp : p ∉ ([.queues] : List Facet)) :
    p.of (State.setRequest s tile n r) = p.of s := by
  simp at hp
  simp [hp, State.setRequest]

@[simp] theorem State.lateCompletion_frame (p : Facet) (s : State) (id : Nat)
    (hp : p ∉ ([.fabric, .recorder] : List Facet)) :
    p.of (State.lateCompletion s id) = p.of s := by
  simp at hp
  simp [hp, State.lateCompletion]

end Sys2Proof.Machine
end

