-- ==== Sys2Proof/Laws/Frame/Mirror.lean ====
section
/-! SUPPORT. What the operations of Machine/Mirror.lean leave unchanged: the parts of the state outside each one's footprint. -/

namespace Sys2Proof.Machine

@[simp] theorem State.mirrorSend_frame (p : Facet) (s : State) (kind : Nat) (body : Octets)
    (hp : p ∉ ([.out, .pair, .recorder] : List Facet)) :
    p.of (State.mirrorSend s kind body) = p.of s := by
  simp at hp
  simp [hp, State.mirrorSend]

@[simp] theorem State.mgmt_frame (p : Facet) (s : State) (kind : Nat) (args : List Nat) (data : Octets)
    (hp : p ∉ ([.out, .pair, .recorder] : List Facet)) :
    p.of (State.mgmt s kind args data) = p.of s := by
  simp at hp
  simp [hp, State.mgmt]

@[simp] theorem State.mgmtHeats_frame (p : Facet) (s : State) (kind : Nat) (args : List Nat)
    (hp : p ∉ ([.out, .pair, .recorder] : List Facet)) :
    p.of (State.mgmtHeats s kind args) = p.of s := by
  simp at hp
  simp [hp, State.mgmtHeats]

@[simp] theorem State.mgmtReport_frame (p : Facet) (s : State) (kind : Nat) (args : List Nat) (data : Octets)
    (hp : p ∉ ([.out, .pair, .recorder] : List Facet)) :
    p.of (State.mgmtReport s kind args data) = p.of s := by
  simp at hp
  simp [hp, State.mgmtReport]

@[simp] theorem State.contribute_frame (p : Facet) (s : State) (m at_ : Nat) (bytes : Octets)
    (hp : p ∉ ([.pair, .recorder] : List Facet)) :
    p.of (State.contribute s m at_ bytes) = p.of s := by
  simp at hp
  simp [hp, State.contribute]

@[simp] theorem State.failCheck_frame (p : Facet) (s : State) (check : Nat)
    (hp : p ∉ ([.pair] : List Facet)) :
    p.of (State.failCheck s check) = p.of s := by
  simp at hp
  simp [hp, State.failCheck]

@[simp] theorem State.flagMeter_frame (p : Facet) (s : State) (m : Nat) (opens : Bool)
    (hp : p ∉ ([.pair] : List Facet)) :
    p.of (State.flagMeter s m opens) = p.of s := by
  simp at hp
  simp [hp, State.flagMeter]

@[simp] theorem State.localFence_frame (p : Facet) (s : State) (m : Nat) (opens : Bool)
    (hp : p ∉ ([.out, .pair, .recorder] : List Facet)) :
    p.of (State.localFence s m opens) = p.of s := by
  simp at hp
  simp [hp, State.localFence]

end Sys2Proof.Machine
end

