-- ==== Sys2Proof/Laws/Frame/Operands.lean ====
section
/-! SUPPORT. What the operations of Machine/Operands.lean leave unchanged: the parts of the state outside each one's footprint. -/

namespace Sys2Proof.Machine

@[simp] theorem State.setSession_frame (p : Facet) (s : State) (x : Session)
    (hp : p ∉ ([.dict] : List Facet)) :
    p.of (State.setSession s x) = p.of s := by
  simp at hp
  simp [hp, State.setSession]

@[simp] theorem State.endSession_frame (p : Facet) (s : State) (id reason : Nat)
    (hp : p ∉ ([.keys, .dict, .recorder] : List Facet)) :
    p.of (State.endSession s id reason) = p.of s := by
  generalize ht : State.endSession s id reason = t'
  unfold State.endSession at ht
  try dsimp only at ht
  repeat' (first
    | (subst ht; refine Facet.each ?_ p hp; simp; done)
    | split at ht)

@[simp] theorem State.endSessions_frame (fct : Facet) (s : State) (p : Session → Bool) (reason : Nat)
    (hp : fct ∉ ([.keys, .dict, .recorder] : List Facet)) :
    fct.of (State.endSessions s p reason) = fct.of s := by
  simp at hp
  simp [hp, State.endSessions]

@[simp] theorem State.setChannel_frame (p : Facet) (s : State) (c : Nat) (x : Channel)
    (hp : p ∉ ([.dict] : List Facet)) :
    p.of (State.setChannel s c x) = p.of s := by
  simp at hp
  simp [hp, State.setChannel]

@[simp] theorem State.raiseVector_frame (p : Facet) (s : State) (v : Nat)
    (hp : p ∉ ([.out, .dict, .recorder] : List Facet)) :
    p.of (State.raiseVector s v) = p.of s := by
  simp at hp
  simp [hp, State.raiseVector]

@[simp] theorem State.unmaskVector_frame (p : Facet) (s : State) (v : Nat)
    (hp : p ∉ ([.out, .dict, .recorder] : List Facet)) :
    p.of (State.unmaskVector s v) = p.of s := by
  simp at hp
  simp [hp, State.unmaskVector]

@[simp] theorem State.putEntry_frame (p : Facet) (s : State) (c : Nat) (x : Channel) (bytes : Octets)
    (hp : p ∉ ([.out, .dict, .recorder] : List Facet)) :
    p.of (State.putEntry s c x bytes) = p.of s := by
  simp at hp
  simp [hp, State.putEntry]

@[simp] theorem State.ringOut_frame (p : Facet) (s : State) (c : Nat) (bytes : Octets)
    (hp : p ∉ ([.out, .dict, .recorder] : List Facet)) :
    p.of (State.ringOut s c bytes) = p.of s := by
  simp at hp
  simp [hp, State.ringOut]

@[simp] theorem State.sendUdx_frame (p : Facet) (s : State) (x : Session) (bytes : Octets)
    (hp : p ∉ ([.out, .dict, .recorder] : List Facet)) :
    p.of (State.sendUdx s x bytes) = p.of s := by
  simp at hp
  simp [hp, State.sendUdx]

@[simp] theorem State.serviceAuthFail_frame (p : Facet) (s : State) (requester slot : Nat)
    (hp : p ∉ ([.fabric, .recorder] : List Facet)) :
    p.of (State.serviceAuthFail s requester slot) = p.of s := by
  simp at hp
  simp [hp, State.serviceAuthFail]

@[simp] theorem State.dropMessage_frame (p : Facet) (s : State) (sub : Nat)
    (hp : p ∉ ([.dict] : List Facet)) :
    p.of (State.dropMessage s sub) = p.of s := by
  simp at hp
  simp [hp, State.dropMessage]

@[simp] theorem State.heardFrom_frame (p : Facet) (s : State) (session : Nat)
    (hp : p ∉ ([.recorder] : List Facet)) :
    p.of (State.heardFrom s session) = p.of s := by
  simp at hp
  generalize ht : State.heardFrom s session = t'
  unfold State.heardFrom at ht
  try dsimp only at ht
  repeat' (first
    | (subst ht; simp [hp]; done)
    | split at ht)

@[simp] theorem State.dropLong_frame (p : Facet) (s : State) (session : Nat)
    (hp : p ∉ ([.dict, .recorder] : List Facet)) :
    p.of (State.dropLong s session) = p.of s := by
  simp at hp
  generalize ht : State.dropLong s session = t'
  unfold State.dropLong at ht
  try dsimp only at ht
  repeat' (first
    | (subst ht; simp [hp]; done)
    | split at ht)

@[simp] theorem State.admitMessage_frame (p : Facet) (s : State) (r : Req) (kind : Nat) (body : Octets)
    (hp : p ∉ ([.fabric, .dict, .recorder] : List Facet)) :
    p.of (State.admitMessage s r kind body).state = p.of s := by
  simp at hp
  generalize ht : State.admitMessage s r kind body = t'
  unfold State.admitMessage at ht
  try dsimp only at ht
  repeat' (first
    | (subst ht; simp [hp]; done)
    | split at ht)

@[simp] theorem State.checkSequenceEnd_frame (p : Facet) (s : State) (id : Nat)
    (hp : p ∉ ([.keys, .dict, .recorder] : List Facet)) :
    p.of (State.checkSequenceEnd s id) = p.of s := by
  simp at hp
  generalize ht : State.checkSequenceEnd s id = t'
  unfold State.checkSequenceEnd at ht
  try dsimp only at ht
  repeat' (first
    | (subst ht; simp [hp]; done)
    | split at ht)

@[simp] theorem State.sendReply_frame (fct : Facet) (s : State) (id : Nat) (a : Ask) (tag : Nat) (p : Reply)
    (hp : fct ∉ ([.out, .keys, .dict, .recorder] : List Facet)) :
    fct.of (State.sendReply s id a tag p) = fct.of s := by
  simp at hp
  generalize ht : State.sendReply s id a tag p = t'
  unfold State.sendReply at ht
  try dsimp only at ht
  repeat' (first
    | (subst ht; simp [hp]; done)
    | split at ht)

@[simp] theorem State.keepReply_frame (p : Facet) (s : State) (id : Nat) (q : SessionRequest)
    (hp : p ∉ ([.dict] : List Facet)) :
    p.of (State.keepReply s id q) = p.of s := by
  simp at hp
  generalize ht : State.keepReply s id q = t'
  unfold State.keepReply at ht
  try dsimp only at ht
  repeat' (first
    | (subst ht; simp [hp]; done)
    | split at ht)

@[simp] theorem State.setShed_frame (p : Facet) (s0 : State)
    (hp : p ∉ ([.fabric, .dict, .recorder] : List Facet)) :
    p.of (State.setShed s0) = p.of s0 := by
  simp at hp
  simp [hp, State.setShed]

@[simp] theorem State.finishRequest_frame (fct : Facet) (s : State) (id tag : Nat) (p : Reply)
    (hp : fct ∉ ([.out, .fabric, .keys, .dict, .recorder] : List Facet)) :
    fct.of (State.finishRequest s id tag p) = fct.of s := by
  simp at hp
  generalize ht : State.finishRequest s id tag p = t'
  unfold State.finishRequest at ht
  try dsimp only at ht
  repeat' (first
    | (subst ht; simp [hp]; done)
    | split at ht)

@[simp] theorem State.setMeter_frame (p : Facet) (s : State) (x : Meter)
    (hp : p ∉ ([.meters] : List Facet)) :
    p.of (State.setMeter s x) = p.of s := by
  simp at hp
  simp [hp, State.setMeter]

@[simp] theorem State.modMeter_frame (p : Facet) (s : State) (m : Nat) (f : Meter → Meter)
    (hp : p ∉ ([.meters] : List Facet)) :
    p.of (State.modMeter s m f) = p.of s := by
  simp at hp
  simp [hp, State.modMeter]

@[simp] theorem Done.refuse_frame (p : Facet) (s : State) (status : Nat) :
    p.of (Done.refuse s status).state = p.of s := by
  simp [Done.refuse]

@[simp] theorem Done.ok_frame (p : Facet) (s : State) :
    p.of (Done.ok s).state = p.of s := by
  simp [Done.ok]

@[simp] theorem State.answerRepeat_frame (p : Facet) (s : State) (x : Session) (a : Ask) (tag : Nat)
    (q : SessionRequest)
    (hp : p ∉ ([.out, .fabric, .keys, .dict, .recorder] : List Facet)) :
    p.of (State.answerRepeat s x a tag q) = p.of s := by
  simp at hp
  simp [hp, State.answerRepeat]

@[simp] theorem State.serveAsk_frame (p : Facet) (s : State) (x : Session) (a : Ask) (tag : Nat)
    (act : State → Session → Done) (hact : ∀ a0 a1 d', d' = act a0 a1 → p.of d'.state = p.of a0)
    (hp : p ∉ ([.out, .fabric, .keys, .dict, .recorder] : List Facet)) :
    p.of (State.serveAsk s x a tag act) = p.of s := by
  have h'act := fun a0 a1 => hact a0 a1 _ rfl
  simp at hp
  generalize ht : State.serveAsk s x a tag act = t'
  unfold State.serveAsk at ht
  try dsimp only at ht
  repeat' (first
    | (subst ht; simp [*]; done)
    | split at ht)

@[simp] theorem udxRequest_frame (p : Facet) (s : State) (r : Req) (a : Ask) (act : State → Session → Done)
    (hact : ∀ a0 a1 d', d' = act a0 a1 → p.of d'.state = p.of a0)
    (hp : p ∉ ([.out, .fabric, .keys, .dict, .recorder] : List Facet)) :
    p.of (udxRequest s r a act) = p.of s := by
  have h'act := fun a0 a1 => hact a0 a1 _ rfl
  simp at hp
  generalize ht : udxRequest s r a act = t'
  unfold udxRequest at ht
  try dsimp only at ht
  repeat' (first
    | (subst ht; simp [*]; done)
    | split at ht)

@[simp] theorem State.deferWrite_frame (p : Facet) (s : State) (x : Session) (tag : Nat) (a : Ask)
    (vals : List (Nat × Nat × Val))
    (hp : p ∉ ([.out, .pair, .recorder] : List Facet)) :
    p.of (State.deferWrite s x tag a vals) = p.of s := by
  simp at hp
  simp [hp, State.deferWrite]

@[simp] theorem serveWrite_frame (p : Facet) (s : State) (x : Session) (tag : Nat) (a : Ask)
    (vals : List (Nat × Nat × Val)) (act : State → Session → Done)
    (hact : ∀ a0 a1 d', d' = act a0 a1 → p.of d'.state = p.of a0)
    (hp : p ∉ ([.out, .pair, .recorder] : List Facet)) :
    p.of (serveWrite s x tag a vals act).state = p.of s := by
  have h'act := fun a0 a1 => hact a0 a1 _ rfl
  simp at hp
  generalize ht : serveWrite s x tag a vals act = t'
  unfold serveWrite at ht
  try dsimp only at ht
  repeat' (first
    | (subst ht; simp [*]; done)
    | split at ht)

@[simp] theorem udxAct_frame (p : Facet) (s : State) (r : Req) (index sub meter : Nat) (data : Octets)
    (vals : List (Nat × Nat × Val)) (act : State → Session → Done)
    (hact : ∀ a0 a1 d', d' = act a0 a1 → p.of d'.state = p.of a0)
    (hp : p ∉ ([.out, .fabric, .keys, .pair, .dict, .recorder] : List Facet)) :
    p.of (udxAct s r index sub meter data vals act) = p.of s := by
  have h'act := fun a0 a1 => hact a0 a1 _ rfl
  simp at hp
  simp [*, udxAct]

@[simp] theorem udxWrite_frame (p : Facet) (s : State) (r : Req) (index sub meter : Nat) (data : Octets)
    (act : State → Session → Done) (hact : ∀ a0 a1 d', d' = act a0 a1 → p.of d'.state = p.of a0)
    (hp : p ∉ ([.out, .fabric, .keys, .pair, .dict, .recorder] : List Facet)) :
    p.of (udxWrite s r index sub meter data act) = p.of s := by
  have h'act := fun a0 a1 => hact a0 a1 _ rfl
  simp at hp
  simp [*, udxWrite]

@[simp] theorem State.setSessionVal_frame (p : Facet) (s : State) (id meter index sub : Nat) (v : Val)
    (hp : p ∉ ([.dict] : List Facet)) :
    p.of (State.setSessionVal s id meter index sub v) = p.of s := by
  simp at hp
  generalize ht : State.setSessionVal s id meter index sub v = t'
  unfold State.setSessionVal at ht
  try dsimp only at ht
  repeat' (first
    | (subst ht; simp [hp]; done)
    | split at ht)

end Sys2Proof.Machine
end

