-- ==== Sys2Proof/Laws/Frame/Memory.lean ====
section
/-! SUPPORT. What the operations of Machine/Memory.lean leave unchanged: the parts of the state outside each one's footprint. -/

namespace Sys2Proof.Machine

@[simp] theorem State.setLastEcc_frame (p : Facet) (s : State) (tile cls address : Nat)
    (hp : p ∉ ([.dict] : List Facet)) :
    p.of (State.setLastEcc s tile cls address) = p.of s := by
  simp at hp
  simp [hp, State.setLastEcc]

@[simp] theorem State.scratchCorrected_frame (p : Facet) (s : State) (tile address : Nat)
    (hp : p ∉ ([.fabric, .recorder] : List Facet)) :
    p.of (State.scratchCorrected s tile address) = p.of s := by
  simp at hp
  simp [hp, State.scratchCorrected]

@[simp] theorem State.scratchUncorrectable_frame (p : Facet) (s : State) (tile cls address : Nat)
    (hp : p ∉ ([.pair, .dict, .recorder] : List Facet)) :
    p.of (State.scratchUncorrectable s tile cls address) = p.of s := by
  simp at hp
  simp [hp, State.scratchUncorrectable]

@[simp] theorem State.dramCorrected_frame (p : Facet) (s : State) (tile address : Nat)
    (hp : p ∉ ([.fabric, .recorder] : List Facet)) :
    p.of (State.dramCorrected s tile address) = p.of s := by
  simp at hp
  simp [hp, State.dramCorrected]

@[simp] theorem State.dramUncorrectable_frame (p : Facet) (s : State) (tile cls address : Nat)
    (hp : p ∉ ([.pair, .dict, .recorder] : List Facet)) :
    p.of (State.dramUncorrectable s tile cls address) = p.of s := by
  simp at hp
  simp [hp, State.dramUncorrectable]

@[simp] theorem State.mapBank_frame (p : Facet) (s : State) (tile b : Nat) (f : Nat → Word)
    (hp : p ∉ ([.fabric, .queues, .mem, .meters, .loss, .keys, .test] : List Facet)) :
    p.of (State.mapBank s tile b f) = p.of s := by
  refine Facet.each ?_ p hp
  simp [State.mapBank]

@[simp] theorem State.loseBank_frame (p : Facet) (s : State) (tile b : Nat)
    (hp : p ∉ ([.freeCount, .fabric, .queues, .mem, .meters, .loss, .keys, .test] : List Facet)) :
    p.of (State.loseBank s tile b) = p.of s := by
  simp at hp
  simp [hp, State.loseBank]

@[simp] theorem State.clearBank_frame (p : Facet) (s : State) (tile b : Nat)
    (hp : p ∉ ([.fabric, .queues, .mem, .meters, .loss, .keys, .test] : List Facet)) :
    p.of (State.clearBank s tile b) = p.of s := by
  simp at hp
  simp [hp, State.clearBank]

@[simp] theorem State.changeBank_frame (p : Facet) (s : State) (tile b new : Nat) (plan : Bool)
    (hp : p ∉ ([.freeCount, .fabric, .queues, .mem, .meters, .loss, .keys, .test] : List Facet)) :
    p.of (State.changeBank s tile b new plan) = p.of s := by
  simp at hp
  simp [hp, State.changeBank]

@[simp] theorem State.bankOn_frame (p : Facet) (s : State) (tile b : Nat)
    (hp : p ∉ ([.fabric, .queues, .mem, .meters, .loss, .keys, .test] : List Facet)) :
    p.of (State.bankOn s tile b) = p.of s := by
  simp at hp
  simp [hp, State.bankOn]

@[simp] theorem State.startWipe_frame (p : Facet) (s : State) (cause : Nat)
    (hp : p ∉ ([.mem, .keys] : List Facet)) :
    p.of (State.startWipe s cause) = p.of s := by
  refine Facet.each ?_ p hp
  simp [State.startWipe]

@[simp] theorem State.keyWritten_frame (p : Facet) (s : State) (tile slot : Nat)
    (hp : p ∉ ([.mem, .dict, .recorder] : List Facet)) :
    p.of (State.keyWritten s tile slot) = p.of s := by
  simp at hp
  simp [hp, State.keyWritten]

@[simp] theorem State.setSlot_frame (p : Facet) (s : State) (k : Nat) (x : KeySlot)
    (hp : p ∉ ([.mem, .keys, .dict, .recorder] : List Facet)) :
    p.of (State.setSlot s k x) = p.of s := by
  simp at hp
  simp [hp, State.setSlot]

@[simp] theorem State.dramCoded_frame (p : Facet) (s : State) (tile address : Nat)
    (hp : p ∉ ([.mem, .dict, .recorder] : List Facet)) :
    p.of (State.dramCoded s tile address) = p.of s := by
  simp at hp
  generalize ht : State.dramCoded s tile address = t'
  unfold State.dramCoded at ht
  try dsimp only at ht
  repeat' (first
    | (subst ht; simp [hp]; done)
    | (subst ht; obtain ⟨_, rfl⟩ := Prod.ext_iff.mp ‹_ = (_, _)›; simp [hp]; done)
    | split at ht)

@[simp] theorem State.mapMet_frame (p : Facet) (s : State) (tile a : Nat)
    (hp : p ∉ ([.freeCount, .fabric, .mem, .pair, .dict, .recorder] : List Facet)) :
    p.of (State.mapMet s tile a) = p.of s := by
  simp at hp
  simp [hp, State.mapMet]

@[simp] theorem State.setValid_frame (p : Facet) (s : State) (tile a : Nat)
    (hp : p ∉ ([.mem, .dict, .recorder] : List Facet)) :
    p.of (State.setValid s tile a) = p.of s := by
  simp at hp
  simp [hp, State.setValid]

@[simp] theorem State.dramStored_frame (p : Facet) (s : State) (tile address : Nat)
    (hp : p ∉ ([.freeCount, .fabric, .mem, .pair, .dict, .recorder] : List Facet)) :
    p.of (State.dramStored s tile address) = p.of s := by
  simp at hp
  simp [hp, State.dramStored]

@[simp] theorem State.dramWord_frame (p : Facet) (s : State) (tile w : Nat)
    (hp : p ∉ ([.freeCount, .fabric, .mem, .pair, .dict, .recorder] : List Facet)) :
    p.of (State.dramWord s tile w).2 = p.of s := by
  simp at hp
  generalize ht : State.dramWord s tile w = t'
  unfold State.dramWord at ht
  try dsimp only at ht
  repeat' (first
    | (subst ht; simp [hp]; done)
    | (subst ht; obtain ⟨_, rfl⟩ := Prod.ext_iff.mp ‹_ = (_, _)›; simp [hp]; done)
    | split at ht)

@[simp] theorem State.dramLoad_frame (p : Facet) (s : State) (tile a n : Nat) (hp : p ∉ ([.freeCount, .fabric, .mem, .pair, .dict, .recorder] : List Facet)) :
    p.of (State.dramLoad s tile a n).2 = p.of s := by
  simp at hp
  exact foldl_snd_facet p _ _ (fun a x t ht => by subst ht; simp [hp]) _

@[simp] theorem State.dramToScratch_frame (p : Facet) (s : State) (tile a : Nat) (ws : List Nat)
    (hp : p ∉ ([.freeCount, .fabric, .mem, .pair, .dict, .recorder] : List Facet)) :
    p.of (State.dramToScratch s tile a ws) = p.of s := by
  simp at hp
  simp [hp, State.dramToScratch]

@[simp] theorem State.setMerge_frame (p : Facet) (s : State) (tile : Nat) (l : List MergeEntry)
    (hp : p ∉ ([.mem] : List Facet)) :
    p.of (State.setMerge s tile l) = p.of s := by
  simp at hp
  simp [hp, State.setMerge]

@[simp] theorem State.zeroUnread_frame (p : Facet) (s : State) (tile : Nat) (e : MergeEntry)
    (hp : p ∉ ([.meters] : List Facet)) :
    p.of (State.zeroUnread s tile e) = p.of s := by
  simp at hp
  simp [hp, State.zeroUnread]

@[simp] theorem State.writeMerge_frame (p : Facet) (s : State) (tile : Nat) (e : MergeEntry)
    (hp : p ∉ ([.freeCount, .fabric, .mem, .meters, .pair, .dict, .recorder] : List Facet)) :
    p.of (State.writeMerge s tile e) = p.of s := by
  simp at hp
  simp [hp, State.writeMerge]

@[simp] theorem State.mergeWrite_frame (p : Facet) (s : State) (tile address off : Nat) (data : Octets)
    (hp : p ∉ ([.freeCount, .fabric, .mem, .meters, .pair, .dict, .recorder] : List Facet)) :
    p.of (State.mergeWrite s tile address off data) = p.of s := by
  simp at hp
  generalize ht : State.mergeWrite s tile address off data = t'
  unfold State.mergeWrite at ht
  try dsimp only at ht
  repeat' (first
    | (subst ht; simp [hp]; done)
    | split at ht)

@[simp] theorem State.dramWhole_frame (p : Facet) (s : State) (tile address : Nat)
    (hp : p ∉ ([.freeCount, .fabric, .mem, .pair, .dict, .recorder] : List Facet)) :
    p.of (State.dramWhole s tile address) = p.of s := by
  simp at hp
  simp [hp, State.dramWhole]

@[simp] theorem State.dramWrite_frame (p : Facet) (s : State) (tile a : Nat) (data : Octets)
    (hp : p ∉ ([.freeCount, .fabric, .mem, .meters, .pair, .dict, .recorder] : List Facet)) :
    p.of (State.dramWrite s tile a data) = p.of s := by
  simp at hp
  simp [hp, State.dramWrite]

@[simp] theorem State.mergeFence_frame (p : Facet) (s : State) (tile : Nat)
    (hp : p ∉ ([.freeCount, .fabric, .mem, .meters, .pair, .dict, .recorder] : List Facet)) :
    p.of (State.mergeFence s tile) = p.of s := by
  simp at hp
  simp [hp, State.mergeFence]

@[simp] theorem State.windowWrite_frame (p : Facet) (s : State) (tile w x : Nat) (data : Octets)
    (hp : p ∉ ([.freeCount, .fabric, .mem, .meters, .pair, .dict, .recorder] : List Facet)) :
    p.of (State.windowWrite s tile w x data) = p.of s := by
  simp at hp
  generalize ht : State.windowWrite s tile w x data = t'
  unfold State.windowWrite at ht
  try dsimp only at ht
  repeat' (first
    | (subst ht; simp [hp]; done)
    | split at ht)

@[simp] theorem armMask_frame (p : Facet) (cls value : Nat) (s : State) (y3 : Session)
    (hp : p ∉ ([.mem, .dict] : List Facet)) :
    p.of (armMask cls value s y3).state = p.of s := by
  simp at hp
  generalize ht : armMask cls value s y3 = t'
  unfold armMask at ht
  try dsimp only at ht
  repeat' (first
    | (subst ht; simp [hp]; done)
    | split at ht)

@[simp] theorem State.testWrite_frame (p : Facet) (s : State) (tile cls index : Nat) (data : Octets)
    (hp : p ∉ ([.mem, .dict, .recorder, .test] : List Facet)) :
    p.of (State.testWrite s tile cls index data) = p.of s := by
  simp at hp
  generalize ht : State.testWrite s tile cls index data = t'
  unfold State.testWrite at ht
  try dsimp only at ht
  repeat' (first
    | (subst ht; simp [hp]; done)
    | split at ht)

@[simp] theorem State.testStore_frame (p : Facet) (s : State) (tile cls index : Nat) (data : Octets)
    (hp : p ∉ ([.mem, .dict, .recorder, .test] : List Facet)) :
    p.of (State.testStore s tile cls index data) = p.of s := by
  simp at hp
  simp [hp, State.testStore]

@[simp] theorem State.testRead_frame (p : Facet) (s : State) (tile cls index : Nat)
    (hp : p ∉ ([.freeCount, .fabric, .mem, .pair, .dict, .recorder] : List Facet)) :
    p.of (State.testRead s tile cls index) = p.of s := by
  simp at hp
  simp [hp, State.testRead]

@[simp] theorem State.testAccess_frame (p : Facet) (s : State)
    (hp : p ∉ ([.recorder] : List Facet)) :
    p.of (State.testAccess s).2 = p.of s := by
  simp at hp
  generalize ht : State.testAccess s = t'
  unfold State.testAccess at ht
  try dsimp only at ht
  repeat' (first
    | (subst ht; simp [hp]; done)
    | split at ht)

@[simp] theorem eccTest_frame (p : Facet) (op : Nat) (s : State) (y2 : Session)
    (hp : p ∉ ([.freeCount, .fabric, .mem, .pair, .dict, .recorder, .test] : List Facet)) :
    p.of (eccTest op s y2).state = p.of s := by
  simp at hp
  generalize ht : eccTest op s y2 = t'
  unfold eccTest at ht
  try dsimp only at ht
  repeat' (first
    | (subst ht; simp [hp]; done)
    | split at ht)

@[simp] theorem State.scrubScratch_frame (p : Facet) (s : State) (tile cls a : Nat)
    (hp : p ∉ ([.freeCount, .fabric, .mem, .pair, .dict, .recorder] : List Facet)) :
    p.of (State.scrubScratch s tile cls a) = p.of s := by
  simp at hp
  simp [hp, State.scrubScratch]

@[simp] theorem State.scrubDram_frame (p : Facet) (s : State) (tile cls a : Nat)
    (hp : p ∉ ([.freeCount, .fabric, .mem, .pair, .dict, .recorder] : List Facet)) :
    p.of (State.scrubDram s tile cls a) = p.of s := by
  simp at hp
  simp [hp, State.scrubDram]

@[simp] theorem State.lapEnd_frame (p : Facet) (s : State) (tile obj cls start setMs : Nat)
    (hp : p ∉ ([.dict, .recorder] : List Facet)) :
    p.of (State.lapEnd s tile obj cls start setMs) = p.of s := by
  simp at hp
  simp [hp, State.lapEnd]

@[simp] theorem State.scrubBanks_frame (p : Facet) (s : State) (tile at_ n : Nat)
    (hp : p ∉ ([.recorder] : List Facet)) :
    p.of (State.scrubBanks s tile at_ n) = p.of s := by
  simp at hp
  unfold State.scrubBanks
  refine foldl_facet p _ _ ?_ _
  intro s0 e0 t0 ht
  try dsimp only at ht
  repeat' (first
    | (subst ht; simp [hp]; done)
    | (subst ht; simp (maxDischargeDepth := 5) [hp]; done)
    | split at ht)

@[simp] theorem State.scrubWord_frame (p : Facet) (s : State) (tile a : Nat)
    (hp : p ∉ ([.freeCount, .fabric, .mem, .pair, .dict, .recorder] : List Facet)) :
    p.of (State.scrubWord s tile a) = p.of s := by
  simp at hp
  simp [hp, State.scrubWord]

end Sys2Proof.Machine
end

