-- ==== Sys2Proof/Laws/Frame/Calendar.lean ====
section
/-! SUPPORT. What the operations of Machine/Calendar.lean leave unchanged: the parts of the state outside each one's footprint. -/

namespace Sys2Proof.Machine

@[simp] theorem State.setStructure_frame (p : Facet) (s : State) (n : Nat) (x : Structure)
    (hp : p ∉ ([.billing] : List Facet)) :
    p.of (State.setStructure s n x) = p.of s := by
  simp at hp
  simp [hp, State.setStructure]

end Sys2Proof.Machine
end

