-- ==== Sys2Proof/Laws/Frame/MeterOps.lean ====
section
/-! SUPPORT. What the operations of Machine/MeterOps.lean leave unchanged: the parts of the state outside each one's footprint. -/

namespace Sys2Proof.Machine

@[simp] theorem State.readCorrected_frame (p : Facet) (s : State) (tile : Nat) (ws : List (Nat × Nat))
    (hp : p ∉ ([.fabric, .recorder] : List Facet)) :
    p.of (State.readCorrected s tile ws) = p.of s := by
  simp at hp
  simp [hp, State.readCorrected]

@[simp] theorem State.hotCorrected_frame (p : Facet) (s : State) (x : Meter)
    (hp : p ∉ ([.fabric, .recorder] : List Facet)) :
    p.of (State.hotCorrected s x) = p.of s := by
  simp at hp
  simp [hp, State.hotCorrected]

@[simp] theorem State.hotWritten_frame (p : Facet) (s : State) (x : Meter) (w : Nat)
    (hp : p ∉ ([.mem, .dict, .recorder] : List Facet)) :
    p.of (State.hotWritten s x w) = p.of s := by
  simp at hp
  simp [hp, State.hotWritten]

@[simp] theorem State.meetWords_frame (p : Facet) (s : State) (tile : Nat) (ws : List (Nat × Nat))
    (hp : p ∉ ([.fabric, .pair, .dict, .recorder] : List Facet)) :
    p.of (State.meetWords s tile ws) = p.of s := by
  simp at hp
  simp [hp, State.meetWords]

@[simp] theorem State.readHead_frame (p : Facet) (s : State) (tile q agent : Nat)
    (hp : p ∉ ([.freeCount, .fabric, .pair, .dict, .recorder] : List Facet)) :
    p.of (State.readHead s tile q agent).2 = p.of s := by
  simp at hp
  generalize ht : State.readHead s tile q agent = t'
  unfold State.readHead at ht
  try dsimp only at ht
  repeat' (first
    | (subst ht; simp [hp]; done)
    | (subst ht; obtain ⟨_, rfl⟩ := Prod.ext_iff.mp ‹_ = (_, _)›; simp [hp]; done)
    | split at ht)

@[simp] theorem State.drainPacket_frame (p : Facet) (s : State) (tile q agent : Nat)
    (hp : p ∉ ([.freeCount, .fabric, .queues, .pair, .dict, .recorder] : List Facet)) :
    p.of (State.drainPacket s tile q agent).2 = p.of s := by
  simp at hp
  generalize ht : State.drainPacket s tile q agent = t'
  unfold State.drainPacket at ht
  try dsimp only at ht
  repeat' (first
    | (subst ht; simp [hp]; done)
    | (subst ht; obtain ⟨_, rfl⟩ := Prod.ext_iff.mp ‹_ = (_, _)›; simp [hp]; done)
    | split at ht)

@[simp] theorem State.drainQueue_frame (p : Facet) (s : State) (tile q agent : Nat)
    (f : State → List (Word × Byte) → State) (hf : ∀ a0 a1 d', d' = f a0 a1 → p.of d' = p.of a0)
    (hp : p ∉ ([.freeCount, .fabric, .queues, .pair, .dict, .recorder] : List Facet)) : p.of (State.drainQueue s tile q agent f) = p.of s := by
  simp at hp
  refine foldl_facet p _ _ (fun a x t ht => ?_) _
  have hd := State.drainPacket_frame p a tile q agent (by simpa using hp)
  subst ht
  revert hd
  rcases State.drainPacket a tile q agent with ⟨_ | pk, u⟩ <;> intro hd
  · exact hd
  · exact (hf u pk _ rfl).trans hd

@[simp] theorem State.passQueue_frame (p : Facet) (s : State) (tile q agent : Nat)
    (f : State → List (Word × Byte) → Bool × State) (hf : ∀ a0 a1 d', d' = f a0 a1 → p.of d'.2 = p.of a0)
    (hp : p ∉ ([.freeCount, .fabric, .pair, .dict, .recorder] : List Facet)) : p.of (State.passQueue s tile q agent f) = p.of s := by
  simp at hp
  refine foldl_snd_facet p _ _ (fun a x t ht => ?_) _
  have hd := State.readHead_frame p a.2 tile q agent (by simpa using hp)
  subst ht
  split
  · revert hd
    rcases State.readHead a.2 tile q agent with ⟨_ | pk, u⟩ <;> intro hd
    · exact hd
    · exact hf a.2 pk _ rfl
  · rfl

@[simp] theorem State.mirrorWord_frame (p : Facet) (s : State) (m w v : Nat)
    (hp : p ∉ ([.out, .pair, .recorder] : List Facet)) :
    p.of (State.mirrorWord s m w v) = p.of s := by
  simp at hp
  generalize ht : State.mirrorWord s m w v = t'
  unfold State.mirrorWord at ht
  try dsimp only at ht
  repeat' (first
    | (subst ht; simp [hp]; done)
    | split at ht)

@[simp] theorem State.writeHot_frame (p : Facet) (s : State) (m : Nat) (ws : List (Nat × Nat))
    (hp : p ∉ ([.out, .mem, .meters, .pair, .dict, .recorder] : List Facet)) :
    p.of (State.writeHot s m ws) = p.of s := by
  simp at hp
  generalize ht : State.writeHot s m ws = t'
  unfold State.writeHot at ht
  try dsimp only at ht
  repeat' (first
    | (subst ht; simp [hp]; done)
    | split at ht)

@[simp] theorem State.hotClean_frame (p : Facet) (s : State) (x : Meter)
    (hp : p ∉ ([.mem] : List Facet)) :
    p.of (State.hotClean s x) = p.of s := by
  simp at hp
  simp [hp, State.hotClean]

@[simp] theorem State.holdRequest_frame (p : Facet) (s : State) (m kind : Nat) (ws : List (Word × Byte))
    (hp : p ∉ ([.meters] : List Facet)) :
    p.of (State.holdRequest s m kind ws) = p.of s := by
  simp at hp
  simp [hp, State.holdRequest]

@[simp] theorem State.enqueue_frame (p : Facet) (s : State) (m kind : Nat) (ws : List (Word × Byte))
    (hp : p ∉ ([.fabric, .queues, .mem, .meters, .dict, .recorder] : List Facet)) :
    p.of (State.enqueue s m kind ws).2 = p.of s := by
  simp at hp
  generalize ht : State.enqueue s m kind ws = t'
  unfold State.enqueue at ht
  try dsimp only at ht
  repeat' (first
    | (subst ht; simp [hp]; done)
    | split at ht)

@[simp] theorem State.pushHeld_frame (p : Facet) (s : State) (x : Meter) (l : List HeldRequest)
    (hp : p ∉ ([.fabric, .queues, .mem, .meters, .dict, .recorder] : List Facet)) : p.of (State.pushHeld s x l) = p.of s := by
  simp at hp
  induction l generalizing s with
  | nil => simp [hp, State.pushHeld]
  | cons h r ih => simp [hp, ih, State.pushHeld]

@[simp] theorem State.releaseHeld_frame (p : Facet) (s : State) (m : Nat)
    (hp : p ∉ ([.fabric, .queues, .mem, .meters, .dict, .recorder] : List Facet)) :
    p.of (State.releaseHeld s m) = p.of s := by
  simp at hp
  generalize ht : State.releaseHeld s m = t'
  unfold State.releaseHeld at ht
  try dsimp only at ht
  repeat' (first
    | (subst ht; simp [hp]; done)
    | split at ht)

@[simp] theorem State.journal_frame (p : Facet) (s : State) (tile : Nat) (e : JournalEntry)
    (hp : p ∉ ([.billing] : List Facet)) :
    p.of (State.journal s tile e) = p.of s := by
  simp at hp
  simp [hp, State.journal]

@[simp] theorem heldOr_frame (p : Facet) (s : State) (m : Nat) (h : HeldWrite) (act : State → Done)
    (hact : ∀ a0 d', d' = act a0 → p.of d'.state = p.of a0)
    (hp : p ∉ ([.meters] : List Facet)) :
    p.of (heldOr s m h act).state = p.of s := by
  have h'act := fun a0 => hact a0 _ rfl
  simp at hp
  generalize ht : heldOr s m h act = t'
  unfold heldOr at ht
  try dsimp only at ht
  repeat' (first
    | (subst ht; simp [*]; done)
    | split at ht)

@[simp] theorem State.submitCommand_frame (p : Facet) (s : State) (m code flags : Nat) (params : Octets)
    (origin : Nat)
    (hp : p ∉ ([.out, .fabric, .queues, .mem, .meters, .pair, .dict, .recorder] : List Facet)) :
    p.of (State.submitCommand s m code flags params origin).2 = p.of s := by
  simp at hp
  generalize ht : State.submitCommand s m code flags params origin = t'
  unfold State.submitCommand at ht
  try dsimp only at ht
  repeat' (first
    | (subst ht; simp [hp]; done)
    | split at ht)

@[simp] theorem State.sendCommand_frame (p : Facet) (s : State) (m code flags : Nat) (params : Octets)
    (hp : p ∉ ([.out, .fabric, .queues, .mem, .meters, .pair, .dict, .recorder] : List Facet)) :
    p.of (State.sendCommand s m code flags params) = p.of s := by
  simp at hp
  generalize ht : State.sendCommand s m code flags params = t'
  unfold State.sendCommand at ht
  try dsimp only at ht
  repeat' (first
    | (subst ht; simp [hp]; done)
    | split at ht)

@[simp] theorem State.endRequest_frame (p : Facet) (s : State) (tile n state : Nat)
    (hp : p ∉ ([.queues] : List Facet)) :
    p.of (State.endRequest s tile n state) = p.of s := by
  simp at hp
  simp [hp, State.endRequest]

@[simp] theorem State.freeze_frame (p : Facet) (s : State) (m : Nat) (ws : List (Nat × Word))
    (hp : p ∉ ([.meters] : List Facet)) :
    p.of (State.freeze s m ws) = p.of s := by
  simp at hp
  simp [hp, State.freeze]

@[simp] theorem State.freezeField_frame (p : Facet) (s : State) (m w hi lo v : Nat)
    (hp : p ∉ ([.meters] : List Facet)) :
    p.of (State.freezeField s m w hi lo v) = p.of s := by
  simp at hp
  generalize ht : State.freezeField s m w hi lo v = t'
  unfold State.freezeField at ht
  try dsimp only at ht
  repeat' (first
    | (subst ht; simp [hp]; done)
    | split at ht)

end Sys2Proof.Machine
end

