-- ==== Sys2Proof/Laws/Frame/Prepay.lean ====
section
/-! SUPPORT. What the operations of Machine/Prepay.lean leave unchanged: the parts of the state outside each one's footprint. -/

namespace Sys2Proof.Machine

@[simp] theorem State.modPrepay_frame (p : Facet) (s : State) (m : Nat) (f : MeterPrepay → MeterPrepay)
    (hp : p ∉ ([.meters] : List Facet)) :
    p.of (State.modPrepay s m f) = p.of s := by
  simp at hp
  simp [hp, State.modPrepay]

@[simp] theorem State.sendCreditState_frame (p : Facet) (s : State) (m : Nat)
    (hp : p ∉ ([.out, .fabric, .queues, .mem, .meters, .pair, .dict, .recorder] : List Facet)) :
    p.of (State.sendCreditState s m) = p.of s := by
  simp at hp
  generalize ht : State.sendCreditState s m = t'
  unfold State.sendCreditState at ht
  try dsimp only at ht
  repeat' (first
    | (subst ht; simp [hp]; done)
    | (subst ht; obtain ⟨_, rfl⟩ := Prod.ext_iff.mp ‹_ = (_, _)›; simp [hp]; done)
    | split at ht)

@[simp] theorem State.journalPrepay_frame (p : Facet) (s : State) (m old new : Nat)
    (hp : p ∉ ([.billing] : List Facet)) :
    p.of (State.journalPrepay s m old new) = p.of s := by
  simp at hp
  generalize ht : State.journalPrepay s m old new = t'
  unfold State.journalPrepay at ht
  try dsimp only at ht
  repeat' (first
    | (subst ht; simp [hp]; done)
    | (subst ht; obtain ⟨_, rfl⟩ := Prod.ext_iff.mp ‹_ = (_, _)›; simp [hp]; done)
    | split at ht)

@[simp] theorem State.setPrepayWord_frame (p : Facet) (s : State) (m new : Nat) (emergency : Bool)
    (hp : p ∉ ([.out, .mem, .meters, .pair, .dict, .recorder] : List Facet)) :
    p.of (State.setPrepayWord s m new emergency) = p.of s := by
  simp at hp
  generalize ht : State.setPrepayWord s m new emergency = t'
  unfold State.setPrepayWord at ht
  try dsimp only at ht
  repeat' (first
    | (subst ht; simp [hp]; done)
    | (subst ht; obtain ⟨_, rfl⟩ := Prod.ext_iff.mp ‹_ = (_, _)›; simp [hp]; done)
    | split at ht)

@[simp] theorem State.prepayTo_frame (p : Facet) (s : State) (m new : Nat) (emergency : Bool)
    (hp : p ∉ ([.out, .fabric, .queues, .mem, .meters, .billing, .pair, .dict, .recorder] : List Facet)) :
    p.of (State.prepayTo s m new emergency) = p.of s := by
  simp at hp
  generalize ht : State.prepayTo s m new emergency = t'
  unfold State.prepayTo at ht
  try dsimp only at ht
  repeat' (first
    | (subst ht; simp [hp]; done)
    | (subst ht; obtain ⟨_, rfl⟩ := Prod.ext_iff.mp ‹_ = (_, _)›; simp [hp]; done)
    | split at ht)

@[simp] theorem State.holdDisconnect_frame (p : Facet) (s : State) (m end_ : Nat)
    (hp : p ∉ ([.meters, .recorder] : List Facet)) :
    p.of (State.holdDisconnect s m end_) = p.of s := by
  simp at hp
  simp [hp, State.holdDisconnect]

@[simp] theorem State.considerDisconnect_frame (p : Facet) (s : State) (m : Nat)
    (hp : p ∉ ([.out, .fabric, .queues, .mem, .meters, .pair, .dict, .recorder] : List Facet)) :
    p.of (State.considerDisconnect s m) = p.of s := by
  simp at hp
  generalize ht : State.considerDisconnect s m = t'
  unfold State.considerDisconnect at ht
  try dsimp only at ht
  repeat' (first
    | (subst ht; simp [hp]; done)
    | (subst ht; obtain ⟨_, rfl⟩ := Prod.ext_iff.mp ‹_ = (_, _)›; simp [hp]; done)
    | split at ht)

@[simp] theorem State.sendReconnect_frame (p : Facet) (s : State) (m : Nat)
    (hp : p ∉ ([.out, .fabric, .queues, .mem, .meters, .pair, .dict, .recorder] : List Facet)) :
    p.of (State.sendReconnect s m) = p.of s := by
  simp at hp
  generalize ht : State.sendReconnect s m = t'
  unfold State.sendReconnect at ht
  try dsimp only at ht
  repeat' (first
    | (subst ht; simp [hp]; done)
    | (subst ht; obtain ⟨_, rfl⟩ := Prod.ext_iff.mp ‹_ = (_, _)›; simp [hp]; done)
    | split at ht)

@[simp] theorem State.creditCrossed_frame (p : Facet) (s : State) (m level : Nat)
    (hp : p ∉ ([.out, .fabric, .queues, .mem, .meters, .billing, .pair, .dict, .recorder] : List Facet)) :
    p.of (State.creditCrossed s m level) = p.of s := by
  simp at hp
  generalize ht : State.creditCrossed s m level = t'
  unfold State.creditCrossed at ht
  try dsimp only at ht
  repeat' (first
    | (subst ht; simp [hp]; done)
    | (subst ht; obtain ⟨_, rfl⟩ := Prod.ext_iff.mp ‹_ = (_, _)›; simp [hp]; done)
    | split at ht)

@[simp] theorem State.overtakeDisconnect_frame (p : Facet) (s : State) (m : Nat)
    (hp : p ∉ ([.queues, .meters, .dict] : List Facet)) :
    p.of (State.overtakeDisconnect s m) = p.of s := by
  simp at hp
  generalize ht : State.overtakeDisconnect s m = t'
  unfold State.overtakeDisconnect at ht
  try dsimp only at ht
  repeat' (first
    | (subst ht; simp [hp]; done)
    | (subst ht; obtain ⟨_, rfl⟩ := Prod.ext_iff.mp ‹_ = (_, _)›; simp [hp]; done)
    | split at ht)

@[simp] theorem State.prepayToppedUp_frame (p : Facet) (s : State) (m : Nat)
    (hp : p ∉ ([.out, .fabric, .queues, .mem, .meters, .billing, .pair, .dict, .recorder] : List Facet)) :
    p.of (State.prepayToppedUp s m) = p.of s := by
  simp at hp
  generalize ht : State.prepayToppedUp s m = t'
  unfold State.prepayToppedUp at ht
  try dsimp only at ht
  repeat' (first
    | (subst ht; simp [hp]; done)
    | (subst ht; obtain ⟨_, rfl⟩ := Prod.ext_iff.mp ‹_ = (_, _)›; simp [hp]; done)
    | split at ht)

@[simp] theorem State.reconnected_frame (p : Facet) (s : State) (m : Nat)
    (hp : p ∉ ([.out, .fabric, .queues, .mem, .meters, .billing, .pair, .dict, .recorder] : List Facet)) :
    p.of (State.reconnected s m) = p.of s := by
  simp at hp
  generalize ht : State.reconnected s m = t'
  unfold State.reconnected at ht
  try dsimp only at ht
  repeat' (first
    | (subst ht; simp [hp]; done)
    | (subst ht; obtain ⟨_, rfl⟩ := Prod.ext_iff.mp ‹_ = (_, _)›; simp [hp]; done)
    | split at ht)

@[simp] theorem State.disconnected_frame (p : Facet) (s : State) (m id : Nat) (overtaken : Bool)
    (hp : p ∉ ([.out, .fabric, .queues, .mem, .meters, .billing, .pair, .dict, .recorder] : List Facet)) :
    p.of (State.disconnected s m id overtaken) = p.of s := by
  simp at hp
  generalize ht : State.disconnected s m id overtaken = t'
  unfold State.disconnected at ht
  try dsimp only at ht
  repeat' (first
    | (subst ht; simp [hp]; done)
    | (subst ht; obtain ⟨_, rfl⟩ := Prod.ext_iff.mp ‹_ = (_, _)›; simp [hp]; done)
    | split at ht)

@[simp] theorem State.prepayEnded_frame (p : Facet) (s : State) (m id code result : Nat) (overtaken : Bool)
    (hp : p ∉ ([.out, .fabric, .queues, .mem, .meters, .billing, .pair, .dict, .recorder] : List Facet)) :
    p.of (State.prepayEnded s m id code result overtaken) = p.of s := by
  simp at hp
  generalize ht : State.prepayEnded s m id code result overtaken = t'
  unfold State.prepayEnded at ht
  try dsimp only at ht
  repeat' (first
    | (subst ht; simp [hp]; done)
    | (subst ht; obtain ⟨_, rfl⟩ := Prod.ext_iff.mp ‹_ = (_, _)›; simp [hp]; done)
    | split at ht)

@[simp] theorem State.relayClosed_frame (p : Facet) (s : State) (m : Nat)
    (hp : p ∉ ([.out, .fabric, .queues, .mem, .meters, .billing, .pair, .dict, .recorder] : List Facet)) :
    p.of (State.relayClosed s m) = p.of s := by
  simp at hp
  generalize ht : State.relayClosed s m = t'
  unfold State.relayClosed at ht
  try dsimp only at ht
  repeat' (first
    | (subst ht; simp [hp]; done)
    | (subst ht; obtain ⟨_, rfl⟩ := Prod.ext_iff.mp ‹_ = (_, _)›; simp [hp]; done)
    | split at ht)

@[simp] theorem State.releasePrepay_frame (p : Facet) (s : State) (m : Nat)
    (hp : p ∉ ([.out, .fabric, .queues, .mem, .meters, .pair, .dict, .recorder] : List Facet)) :
    p.of (State.releasePrepay s m) = p.of s := by
  simp at hp
  generalize ht : State.releasePrepay s m = t'
  unfold State.releasePrepay at ht
  try dsimp only at ht
  repeat' (first
    | (subst ht; simp [hp]; done)
    | (subst ht; obtain ⟨_, rfl⟩ := Prod.ext_iff.mp ‹_ = (_, _)›; simp [hp]; done)
    | split at ht)

@[simp] theorem State.copyEntry_frame (p : Facet) (s : State) (x : Meter)
    (hp : p ∉ ([.out, .mem, .meters, .pair, .dict, .recorder] : List Facet)) :
    p.of (State.copyEntry s x) = p.of s := by
  simp at hp
  simp [hp, State.copyEntry]

@[simp] theorem State.copyEntries_frame (p : Facet) (s : State)
    (hp : p ∉ ([.out, .mem, .meters, .pair, .dict, .recorder] : List Facet)) :
    p.of (State.copyEntries s) = p.of s := by
  simp at hp
  simp [hp, State.copyEntries]

@[simp] theorem prepayEnable_frame (p : Facet) (m opening : Nat) (s : State)
    (hp : p ∉ ([.out, .fabric, .queues, .mem, .meters, .billing, .pair, .dict, .recorder] : List Facet)) :
    p.of (prepayEnable m opening s).state = p.of s := by
  simp at hp
  generalize ht : prepayEnable m opening s = t'
  unfold prepayEnable at ht
  try dsimp only at ht
  repeat' (first
    | (subst ht; simp [hp]; done)
    | (subst ht; obtain ⟨_, rfl⟩ := Prod.ext_iff.mp ‹_ = (_, _)›; simp [hp]; done)
    | split at ht)

@[simp] theorem State.withdrawPrepay_frame (p : Facet) (s : State) (m : Nat)
    (hp : p ∉ ([.queues, .dict] : List Facet)) :
    p.of (State.withdrawPrepay s m) = p.of s := by
  simp at hp
  simp [hp, State.withdrawPrepay]

@[simp] theorem prepayDisable_frame (p : Facet) (m : Nat) (s : State)
    (hp : p ∉ ([.queues, .meters, .dict] : List Facet)) :
    p.of (prepayDisable m s).state = p.of s := by
  simp at hp
  generalize ht : prepayDisable m s = t'
  unfold prepayDisable at ht
  try dsimp only at ht
  repeat' (first
    | (subst ht; simp [hp]; done)
    | (subst ht; obtain ⟨_, rfl⟩ := Prod.ext_iff.mp ‹_ = (_, _)›; simp [hp]; done)
    | split at ht)

@[simp] theorem State.applyTopUp_frame (p : Facet) (s : State) (x : Meter) (amount id : Nat)
    (hp : p ∉ ([.out, .fabric, .queues, .mem, .meters, .billing, .pair, .dict, .recorder] : List Facet)) :
    p.of (State.applyTopUp s x amount id) = p.of s := by
  simp at hp
  simp [hp, State.applyTopUp]

@[simp] theorem topUp_frame (p : Facet) (m amount id : Nat) (s : State)
    (hp : p ∉ ([.out, .fabric, .queues, .mem, .meters, .billing, .pair, .dict, .recorder] : List Facet)) :
    p.of (topUp m amount id s).state = p.of s := by
  simp at hp
  generalize ht : topUp m amount id s = t'
  unfold topUp at ht
  try dsimp only at ht
  repeat' (first
    | (subst ht; simp [hp]; done)
    | (subst ht; obtain ⟨_, rfl⟩ := Prod.ext_iff.mp ‹_ = (_, _)›; simp [hp]; done)
    | split at ht)

end Sys2Proof.Machine
end

