-- ==== Sys2Proof/Laws/Frame/Feeders.lean ====
section
/-! SUPPORT. What the operations of Machine/Feeders.lean leave unchanged: the parts of the state outside each one's footprint. -/

namespace Sys2Proof.Machine

@[simp] theorem State.setFeeder_frame (p : Facet) (s : State) (tag : Nat) (f : Feeder)
    (hp : p ∉ ([.loss] : List Facet)) :
    p.of (State.setFeeder s tag f) = p.of s := by
  simp at hp
  simp [hp, State.setFeeder]

@[simp] theorem State.memberChanged_frame (p : Facet) (s : State) (tag : Nat)
    (hp : p ∉ ([.fabric, .loss, .recorder] : List Facet)) :
    p.of (State.memberChanged s tag) = p.of s := by
  simp at hp
  simp [hp, State.memberChanged]

@[simp] theorem State.setSum_frame (p : Facet) (s : State) (tile pipe n : Nat) (f : FeederSum)
    (hp : p ∉ ([.loss] : List Facet)) :
    p.of (State.setSum s tile pipe n f) = p.of s := by
  simp at hp
  simp [hp, State.setSum]

@[simp] theorem State.pushSwap_frame (p : Facet) (a : State × List (Nat × Nat × Nat)) (e : Nat × Nat × Nat)
    (hp : p ∉ ([.fabric, .queues, .mem, .dict, .recorder] : List Facet)) : p.of (State.pushSwap a e).1 = p.of a.1 := by
  simp at hp
  simp [hp, State.pushSwap, apply_ite Prod.fst]

@[simp] theorem State.pushSwaps_frame (p : Facet) (s : State)
    (hp : p ∉ ([.fabric, .queues, .mem, .loss, .dict, .recorder] : List Facet)) :
    p.of (State.pushSwaps s) = p.of s := by
  simp at hp
  simp [hp, State.pushSwaps]

@[simp] theorem State.sumFor_frame (p : Facet) (s : State) (tile pipe tag group : Nat) (head : Bool)
    (hp : p ∉ ([.fabric, .queues, .mem, .loss, .dict, .recorder] : List Facet)) :
    p.of (State.sumFor s tile pipe tag group head).2 = p.of s := by
  simp at hp
  generalize ht : State.sumFor s tile pipe tag group head = t'
  unfold State.sumFor at ht
  try dsimp only at ht
  repeat' (first
    | (subst ht; simp [hp]; done)
    | split at ht)

@[simp] theorem State.bindSum_frame (p : Facet) (s : State) (m : Nat)
    (hp : p ∉ ([.fabric, .queues, .mem, .meters, .loss, .dict, .recorder] : List Facet)) :
    p.of (State.bindSum s m) = p.of s := by
  simp at hp
  generalize ht : State.bindSum s m = t'
  unfold State.bindSum at ht
  try dsimp only at ht
  repeat' (first
    | (subst ht; simp [hp]; done)
    | split at ht)

@[simp] theorem State.changeMembership_frame (p : Facet) (s : State) (m oldTag : Nat)
    (hp : p ∉ ([.out, .fabric, .queues, .mem, .meters, .loss, .pair, .dict, .recorder] : List Facet)) :
    p.of (State.changeMembership s m oldTag) = p.of s := by
  simp at hp
  generalize ht : State.changeMembership s m oldTag = t'
  unfold State.changeMembership at ht
  try dsimp only at ht
  repeat' (first
    | (subst ht; simp [hp]; done)
    | split at ht)

@[simp] theorem State.setIndicator_frame (p : Facet) (s : State) (m bit : Nat)
    (hp : p ∉ ([.out, .fabric, .mem, .meters, .pair, .dict, .recorder] : List Facet)) :
    p.of (State.setIndicator s m bit) = p.of s := by
  simp at hp
  generalize ht : State.setIndicator s m bit = t'
  unfold State.setIndicator at ht
  try dsimp only at ht
  repeat' (first
    | (subst ht; simp [hp]; done)
    | split at ht)

@[simp] theorem State.clearIndicator_frame (p : Facet) (s : State) (m bit : Nat)
    (hp : p ∉ ([.out, .mem, .meters, .pair, .dict, .recorder] : List Facet)) :
    p.of (State.clearIndicator s m bit) = p.of s := by
  simp at hp
  generalize ht : State.clearIndicator s m bit = t'
  unfold State.clearIndicator at ht
  try dsimp only at ht
  repeat' (first
    | (subst ht; simp [hp]; done)
    | split at ht)

@[simp] theorem State.statusIndicators_frame (p : Facet) (s : State) (m status : Nat)
    (hp : p ∉ ([.out, .fabric, .mem, .meters, .pair, .dict, .recorder] : List Facet)) :
    p.of (State.statusIndicators s m status) = p.of s := by
  simp at hp
  generalize ht : State.statusIndicators s m status = t'
  unfold State.statusIndicators at ht
  try dsimp only at ht
  repeat' (first
    | (subst ht; simp [hp]; done)
    | split at ht)

@[simp] theorem State.checkPhase_frame (p : Facet) (s : State) (m : Nat)
    (hp : p ∉ ([.out, .fabric, .mem, .meters, .pair, .dict, .recorder] : List Facet)) :
    p.of (State.checkPhase s m) = p.of s := by
  simp at hp
  generalize ht : State.checkPhase s m = t'
  unfold State.checkPhase at ht
  try dsimp only at ht
  repeat' (first
    | (subst ht; simp [hp]; done)
    | split at ht)

@[simp] theorem indicatorClear_frame (p : Facet) (m : Nat) (s : State)
    (hp : p ∉ ([.out, .mem, .meters, .pair, .dict, .recorder] : List Facet)) :
    p.of (indicatorClear m s).state = p.of s := by
  simp at hp
  simp [hp, indicatorClear]

@[simp] theorem membershipChange_frame (p : Facet) (m sub value : Nat) (s : State)
    (hp : p ∉ ([.out, .fabric, .queues, .mem, .meters, .loss, .pair, .dict, .recorder] : List Facet)) :
    p.of (membershipChange m sub value s).state = p.of s := by
  simp at hp
  generalize ht : membershipChange m sub value s = t'
  unfold membershipChange at ht
  try dsimp only at ht
  repeat' (first
    | (subst ht; simp [hp]; done)
    | split at ht)

@[simp] theorem State.abandonSnapshots_frame (p : Facet) (s : State) (reason : Nat)
    (hp : p ∉ ([.loss, .dict, .recorder] : List Facet)) :
    p.of (State.abandonSnapshots s reason) = p.of s := by
  simp at hp
  simp [hp, State.abandonSnapshots]

@[simp] theorem State.snapshotCrossing_frame (p : Facet) (s : State) (number state : Nat)
    (hp : p ∉ ([.loss, .dict, .recorder] : List Facet)) :
    p.of (State.snapshotCrossing s number state) = p.of s := by
  simp at hp
  simp [hp, State.snapshotCrossing]

end Sys2Proof.Machine
end

