-- ==== Sys2Proof/Laws/Frame/Billing.lean ====
section
/-! SUPPORT. What the operations of Machine/Billing.lean leave unchanged: the parts of the state outside each one's footprint. -/

namespace Sys2Proof.Machine

@[simp] theorem State.zoneWritten_frame (p : Facet) (s : State) (t n : Nat)
    (hp : p ∉ ([.store] : List Facet)) :
    p.of (State.zoneWritten s t n) = p.of s := by
  simp at hp
  simp [hp, State.zoneWritten]

@[simp] theorem State.closeMeterPeriod_frame (p : Facet) (s : State) (m close reason : Nat)
    (hp : p ∉ ([.meters, .billing, .store] : List Facet)) :
    p.of (State.closeMeterPeriod s m close reason) = p.of s := by
  simp at hp
  generalize ht : State.closeMeterPeriod s m close reason = t'
  unfold State.closeMeterPeriod at ht
  try dsimp only at ht
  repeat' (first
    | (subst ht; simp [hp]; done)
    | split at ht)

@[simp] theorem State.foldWrites_frame (p : Facet) (s : State) (x : Meter) (cold : List Word) (b : Billing)
    (hp : p ∉ ([.freeCount, .fabric, .mem, .meters, .pair, .dict, .recorder] : List Facet)) :
    p.of (State.foldWrites s x cold b) = p.of s := by
  simp at hp
  simp [hp, State.foldWrites]

@[simp] theorem State.foldMeter_frame (p : Facet) (s0 : State) (m : Nat)
    (hp : p ∉ ([.out, .freeCount, .fabric, .mem, .meters, .billing, .store, .pair, .dict, .recorder] : List Facet)) :
    p.of (State.foldMeter s0 m) = p.of s0 := by
  simp at hp
  generalize ht : State.foldMeter s0 m = t'
  unfold State.foldMeter at ht
  try dsimp only at ht
  repeat' (first
    | (subst ht; simp [hp]; done)
    | split at ht)

@[simp] theorem State.loadBilling_frame (p : Facet) (s : State) (x : Meter)
    (hp : p ∉ ([.freeCount, .fabric, .mem, .pair, .dict, .recorder] : List Facet)) :
    p.of (State.loadBilling s x).2 = p.of s := by
  simp at hp
  simp [hp, State.loadBilling]

@[simp] theorem State.readRecords_frame (p : Facet) (s : State) (x : Meter)
    (hp : p ∉ ([.freeCount, .fabric, .mem, .meters, .pair, .dict, .recorder] : List Facet)) :
    p.of (State.readRecords s x).2 = p.of s := by
  simp at hp
  generalize ht : State.readRecords s x = t'
  unfold State.readRecords at ht
  try dsimp only at ht
  repeat' (first
    | (subst ht; simp [hp]; done)
    | (subst ht; obtain ⟨_, rfl⟩ := Prod.ext_iff.mp ‹_ = (_, _)›; simp [hp]; done)
    | split at ht)

@[simp] theorem State.foldOne_frame (p : Facet) (s : State) (m : Nat)
    (hp : p ∉ ([.out, .freeCount, .fabric, .mem, .meters, .billing, .store, .pair, .dict, .recorder] : List Facet)) :
    p.of (State.foldOne s m) = p.of s := by
  simp at hp
  generalize ht : State.foldOne s m = t'
  unfold State.foldOne at ht
  try dsimp only at ht
  repeat' (first
    | (subst ht; simp [hp]; done)
    | split at ht)

@[simp] theorem State.writeJournal_frame (p : Facet) (s : State) (tile : Nat)
    (hp : p ∉ ([.billing, .store] : List Facet)) :
    p.of (State.writeJournal s tile) = p.of s := by
  simp at hp
  simp [hp, State.writeJournal]

@[simp] theorem State.foldThese_frame (p : Facet) (s : State) (tile : Nat) (ms : List Nat)
    (hp : p ∉ ([.out, .freeCount, .fabric, .mem, .meters, .billing, .store, .pair, .dict, .recorder] : List Facet)) :
    p.of (State.foldThese s tile ms) = p.of s := by
  simp at hp
  simp [hp, State.foldThese]

@[simp] theorem State.fold_frame (p : Facet) (s : State) (tile : Nat)
    (hp : p ∉ ([.out, .freeCount, .fabric, .mem, .meters, .billing, .store, .pair, .dict, .recorder] : List Facet)) :
    p.of (State.fold s tile) = p.of s := by
  simp at hp
  simp [hp, State.fold]

@[simp] theorem State.foldNamed_frame (p : Facet) (s : State) (tile : Nat)
    (hp : p ∉ ([.out, .freeCount, .fabric, .mem, .meters, .billing, .store, .pair, .dict, .recorder] : List Facet)) :
    p.of (State.foldNamed s tile) = p.of s := by
  simp at hp
  simp [hp, State.foldNamed]

@[simp] theorem State.startFolds_frame (p : Facet) (s : State)
    (hp : p ∉ ([.heat, .fabric, .dict, .recorder] : List Facet)) :
    p.of (State.startFolds s) = p.of s := by
  simp at hp
  simp [hp, State.startFolds]

@[simp] theorem State.transition_frame (p : Facet) (s : State) (structure_ kind instant old new : Nat)
    (hp : p ∉ ([.billing] : List Facet)) :
    p.of (State.transition s structure_ kind instant old new) = p.of s := by
  simp at hp
  simp [hp, State.transition]

@[simp] theorem State.tariffSwitch_frame (p : Facet) (s : State) (n t old new : Nat)
    (hp : p ∉ ([.billing, .dict, .recorder] : List Facet)) :
    p.of (State.tariffSwitch s n t old new) = p.of s := by
  simp at hp
  simp [hp, State.tariffSwitch]

@[simp] theorem State.switchAt_frame (p : Facet) (s : State) (n t : Nat)
    (hp : p ∉ ([.billing, .dict, .recorder] : List Facet)) :
    p.of (State.switchAt s n t) = p.of s := by
  simp at hp
  simp [hp, State.switchAt]

@[simp] theorem State.demandEnd_frame (p : Facet) (s : State) (n t : Nat)
    (hp : p ∉ ([.billing] : List Facet)) :
    p.of (State.demandEnd s n t) = p.of s := by
  simp at hp
  simp [hp, State.demandEnd]

@[simp] theorem State.closeDemand_frame (p : Facet) (s : State) (n t : Nat)
    (hp : p ∉ ([.billing] : List Facet)) :
    p.of (State.closeDemand s n t) = p.of s := by
  simp at hp
  simp [hp, State.closeDemand]

@[simp] theorem State.rewriteSlotMap_frame (p : Facet) (s : State) (n : Nat)
    (hp : p ∉ ([.out, .mem, .billing, .pair, .dict, .recorder] : List Facet)) :
    p.of (State.rewriteSlotMap s n) = p.of s := by
  simp at hp
  simp [hp, State.rewriteSlotMap]

@[simp] theorem State.retariff_frame (p : Facet) (s : State) (n : Nat)
    (hp : p ∉ ([.out, .mem, .billing, .pair, .dict, .recorder] : List Facet)) :
    p.of (State.retariff s n) = p.of s := by
  simp at hp
  simp [hp, State.retariff]

@[simp] theorem State.periodClose_frame (p : Facet) (s : State) (n t : Nat)
    (hp : p ∉ ([.out, .billing, .pair, .dict, .recorder] : List Facet)) :
    p.of (State.periodClose s n t) = p.of s := by
  simp at hp
  simp [hp, State.periodClose]

@[simp] theorem State.dueTransitions_frame (p : Facet) (s : State) (n t : Nat)
    (hp : p ∉ ([.out, .billing, .pair, .dict, .recorder] : List Facet)) :
    p.of (State.dueTransitions s n t) = p.of s := by
  simp at hp
  simp [hp, State.dueTransitions]

@[simp] theorem periodCloseRequest_frame (p : Facet) (n t : Nat) (s : State)
    (hp : p ∉ ([.billing] : List Facet)) :
    p.of (periodCloseRequest n t s).state = p.of s := by
  simp at hp
  generalize ht : periodCloseRequest n t s = t'
  unfold periodCloseRequest at ht
  try dsimp only at ht
  repeat' (first
    | (subst ht; simp [hp]; done)
    | split at ht)

@[simp] theorem State.sendCalendar_frame (p : Facet) (s : State) (m : Nat) (image : Octets) (effective : Nat)
    (hp : p ∉ ([.out, .fabric, .queues, .mem, .meters, .pair, .dict, .recorder] : List Facet)) :
    p.of (State.sendCalendar s m image effective) = p.of s := by
  simp at hp
  generalize ht : State.sendCalendar s m image effective = t'
  unfold State.sendCalendar at ht
  try dsimp only at ht
  repeat' (first
    | (subst ht; simp [hp]; done)
    | split at ht)

@[simp] theorem calendarActivate_frame (p : Facet) (n effective : Nat) (s : State)
    (hp : p ∉ ([.out, .fabric, .queues, .mem, .meters, .billing, .pair, .dict, .recorder] : List Facet)) :
    p.of (calendarActivate n effective s).state = p.of s := by
  simp at hp
  generalize ht : calendarActivate n effective s = t'
  unfold calendarActivate at ht
  try dsimp only at ht
  repeat' (first
    | (subst ht; simp [hp]; done)
    | split at ht)

@[simp] theorem State.calendarApply_frame (p : Facet) (s : State) (n : Nat)
    (hp : p ∉ ([.out, .mem, .billing, .pair, .dict, .recorder] : List Facet)) :
    p.of (State.calendarApply s n) = p.of s := by
  simp at hp
  simp [hp, State.calendarApply]

@[simp] theorem State.takeDemand_frame (p : Facet) (s : State) (m tariff minutes end_ delta : Nat)
    (hp : p ∉ ([.meters, .dict] : List Facet)) :
    p.of (State.takeDemand s m tariff minutes end_ delta) = p.of s := by
  simp at hp
  generalize ht : State.takeDemand s m tariff minutes end_ delta = t'
  unfold State.takeDemand at ht
  try dsimp only at ht
  repeat' (first
    | (subst ht; simp [hp]; done)
    | split at ht)

@[simp] theorem State.drainDemand_frame (p : Facet) (s : State) (v : Nat) (block : Bool)
    (hp : p ∉ ([.meters, .dict] : List Facet)) :
    p.of (State.drainDemand s v block) = p.of s := by
  simp at hp
  generalize ht : State.drainDemand s v block = t'
  unfold State.drainDemand at ht
  try dsimp only at ht
  repeat' (first
    | (subst ht; simp [hp]; done)
    | split at ht)

@[simp] theorem State.clockAdjusted_frame (p : Facet) (s : State) (m old new : Nat)
    (hp : p ∉ ([.meters, .dict, .recorder] : List Facet)) :
    p.of (State.clockAdjusted s m old new) = p.of s := by
  simp at hp
  simp [hp, State.clockAdjusted]

@[simp] theorem State.checkClock_frame (p : Facet) (s : State) (m meterTime rxSecond : Nat)
    (hp : p ∉ ([.out, .fabric, .queues, .mem, .meters, .pair, .dict, .recorder] : List Facet)) :
    p.of (State.checkClock s m meterTime rxSecond) = p.of s := by
  simp at hp
  generalize ht : State.checkClock s m meterTime rxSecond = t'
  unfold State.checkClock at ht
  try dsimp only at ht
  repeat' (first
    | (subst ht; simp [hp]; done)
    | split at ht)

@[simp] theorem State.transitionsAt_frame (p : Facet) (s : State) (n t : Nat)
    (hp : p ∉ ([.out, .billing, .pair, .dict, .recorder] : List Facet)) :
    p.of (State.transitionsAt s n t) = p.of s := by
  simp at hp
  simp [hp, State.transitionsAt]

@[simp] theorem State.markIncomplete_frame (p : Facet) (s : State) (n a b : Nat)
    (hp : p ∉ ([.billing] : List Facet)) :
    p.of (State.markIncomplete s n a b) = p.of s := by
  simp at hp
  simp [hp, State.markIncomplete]

@[simp] theorem State.billingStep_frame (p : Facet) (s : State) (stepNs : Int) (before after : Nat)
    (hp : p ∉ ([.out, .mem, .billing, .pair, .dict, .recorder] : List Facet)) :
    p.of (State.billingStep s stepNs before after) = p.of s := by
  simp at hp
  simp (maxDischargeDepth := 5) [hp, State.billingStep]

@[simp] theorem State.markOutage_frame (p : Facet) (s : State) (a b : Nat)
    (hp : p ∉ ([.meters, .billing, .recorder] : List Facet)) :
    p.of (State.markOutage s a b) = p.of s := by
  simp at hp
  simp [hp, State.markOutage]

end Sys2Proof.Machine
end

