-- ==== Sys2Proof/Laws/Frame/Commands.lean ====
section
/-! SUPPORT. What the operations of Machine/Commands.lean leave unchanged: the parts of the state outside each one's footprint. -/

namespace Sys2Proof.Machine

@[simp] theorem State.setPipe_frame (fct : Facet) (s : State) (tile p : Nat) (x : Pipeline)
    (hp : fct ∉ ([.fabric] : List Facet)) :
    fct.of (State.setPipe s tile p x) = fct.of s := by
  simp at hp
  simp [hp, State.setPipe]

@[simp] theorem enrol_frame (p : Facet) (m incarnation epoch ruleSet interval limit : Nat) (forerunner : Bool)
    (s : State)
    (hp : p ∉ ([.fabric, .queues, .mem, .place, .meters, .loss, .dict, .recorder] : List Facet)) :
    p.of (enrol m incarnation epoch ruleSet interval limit forerunner s).state = p.of s := by
  generalize ht : enrol m incarnation epoch ruleSet interval limit forerunner s = t'
  unfold enrol at ht
  try dsimp only at ht
  repeat' (first
    | (subst ht; refine Facet.each ?_ p hp; simp; done)
    | split at ht)

@[simp] theorem State.withdraw_frame (p : Facet) (s : State) (tile n : Nat)
    (hp : p ∉ ([.out, .fabric, .queues, .mem, .meters, .billing, .pair, .dict, .recorder] : List Facet)) :
    p.of (State.withdraw s tile n) = p.of s := by
  simp at hp
  simp [hp, State.withdraw]

@[simp] theorem State.withdrawAll_frame (p : Facet) (s : State) (m : Nat)
    (hp : p ∉ ([.out, .fabric, .queues, .mem, .meters, .billing, .pair, .dict, .recorder] : List Facet)) :
    p.of (State.withdrawAll s m) = p.of s := by
  simp at hp
  simp [hp, State.withdrawAll]

@[simp] theorem newIncarnation_frame (p : Facet) (m incarnation epoch : Nat) (s : State)
    (hp : p ∉ ([.out, .fabric, .queues, .mem, .meters, .billing, .pair, .dict, .recorder] : List Facet)) :
    p.of (newIncarnation m incarnation epoch s).state = p.of s := by
  simp at hp
  generalize ht : newIncarnation m incarnation epoch s = t'
  unfold newIncarnation at ht
  try dsimp only at ht
  repeat' (first
    | (subst ht; simp [hp]; done)
    | split at ht)

@[simp] theorem newKeyEpoch_frame (p : Facet) (m epoch : Nat) (s : State)
    (hp : p ∉ ([.out, .fabric, .queues, .mem, .meters, .pair, .dict, .recorder] : List Facet)) :
    p.of (newKeyEpoch m epoch s).state = p.of s := by
  simp at hp
  generalize ht : newKeyEpoch m epoch s = t'
  unfold newKeyEpoch at ht
  try dsimp only at ht
  repeat' (first
    | (subst ht; simp [hp]; done)
    | (subst ht; obtain ⟨_, rfl⟩ := Prod.ext_iff.mp ‹_ = (_, _)›; simp [hp]; done)
    | split at ht)

@[simp] theorem State.retireNow_frame (p : Facet) (s : State) (m : Nat)
    (hp : p ∉ ([.out, .freeCount, .fabric, .queues, .mem, .meters, .billing, .loss, .store, .pair, .dict, .recorder] : List Facet)) :
    p.of (State.retireNow s m) = p.of s := by
  simp at hp
  generalize ht : State.retireNow s m = t'
  unfold State.retireNow at ht
  try dsimp only at ht
  repeat' (first
    | (subst ht; simp [hp]; done)
    | split at ht)

@[simp] theorem retire_frame (p : Facet) (m : Nat) (s : State)
    (hp : p ∉ ([.out, .freeCount, .fabric, .queues, .mem, .meters, .billing, .loss, .store, .pair, .dict, .recorder] : List Facet)) :
    p.of (retire m s).state = p.of s := by
  simp at hp
  generalize ht : retire m s = t'
  unfold retire at ht
  try dsimp only at ht
  repeat' (first
    | (subst ht; simp [hp]; done)
    | split at ht)

@[simp] theorem State.freezeStart_frame (p : Facet) (s : State) (m : Nat)
    (hp : p ∉ ([.meters] : List Facet)) :
    p.of (State.freezeStart s m) = p.of s := by
  simp at hp
  simp [hp, State.freezeStart]

@[simp] theorem State.setIncarnation_frame (p : Facet) (s : State) (m incarnation epoch : Nat)
    (hp : p ∉ ([.out, .freeCount, .fabric, .mem, .meters, .billing, .loss, .store, .pair, .dict, .recorder] : List Facet)) :
    p.of (State.setIncarnation s m incarnation epoch) = p.of s := by
  simp at hp
  generalize ht : State.setIncarnation s m incarnation epoch = t'
  unfold State.setIncarnation at ht
  try dsimp only at ht
  repeat' (first
    | (subst ht; simp [hp]; done)
    | split at ht)

@[simp] theorem State.freezeWrite_frame (p : Facet) (s : State) (m : Nat)
    (hp : p ∉ ([.out, .freeCount, .fabric, .mem, .meters, .billing, .loss, .store, .pair, .dict, .recorder] : List Facet)) :
    p.of (State.freezeWrite s m) = p.of s := by
  simp at hp
  generalize ht : State.freezeWrite s m = t'
  unfold State.freezeWrite at ht
  try dsimp only at ht
  repeat' (first
    | (subst ht; simp [hp]; done)
    | split at ht)

@[simp] theorem hostCommand_frame (p : Facet) (m code : Nat) (params : Octets) (s : State) (x : Session)
    (hp : p ∉ ([.out, .fabric, .queues, .mem, .meters, .pair, .dict, .recorder] : List Facet)) :
    p.of (hostCommand m code params s x).state = p.of s := by
  simp at hp
  generalize ht : hostCommand m code params s x = t'
  unfold hostCommand at ht
  try dsimp only at ht
  repeat' (first
    | (subst ht; simp [hp]; done)
    | (subst ht; obtain ⟨_, rfl⟩ := Prod.ext_iff.mp ‹_ = (_, _)›; simp [hp]; done)
    | split at ht)

@[simp] theorem hostSubmit_frame (p : Facet) (r : Req) (meter code : Nat) (params : Octets) (s : State)
    (hp : p ∉ ([.out, .fabric, .queues, .mem, .meters, .keys, .pair, .dict, .recorder] : List Facet)) :
    p.of (hostSubmit r meter code params s) = p.of s := by
  simp at hp
  simp [hp, hostSubmit]

@[simp] theorem State.firmwareEnded_frame (p : Facet) (s : State) (m : Nat) (params : Octets) (good : Bool)
    (reason : Nat)
    (hp : p ∉ ([.fabric, .meters, .dict, .recorder] : List Facet)) :
    p.of (State.firmwareEnded s m params good reason) = p.of s := by
  simp at hp
  generalize ht : State.firmwareEnded s m params good reason = t'
  unfold State.firmwareEnded at ht
  try dsimp only at ht
  repeat' (first
    | (subst ht; simp [hp]; done)
    | split at ht)

@[simp] theorem State.commandAcked_frame (p : Facet) (s : State) (m id result detail : Nat)
    (hp : p ∉ ([.out, .fabric, .queues, .mem, .meters, .billing, .pair, .dict, .recorder] : List Facet)) :
    p.of (State.commandAcked s m id result detail) = p.of s := by
  simp at hp
  generalize ht : State.commandAcked s m id result detail = t'
  unfold State.commandAcked at ht
  try dsimp only at ht
  repeat' (first
    | (subst ht; simp [hp]; done)
    | split at ht)

@[simp] theorem State.reseal_frame (p : Facet) (s : State) (id : Nat)
    (hp : p ∉ ([.out, .fabric, .queues, .mem, .meters, .pair, .dict, .recorder] : List Facet)) :
    p.of (State.reseal s id) = p.of s := by
  simp at hp
  generalize ht : State.reseal s id = t'
  unfold State.reseal at ht
  try dsimp only at ht
  repeat' (first
    | (subst ht; simp [hp]; done)
    | split at ht)

@[simp] theorem State.heardMeter_frame (p : Facet) (s : State) (m : Nat)
    (hp : p ∉ ([.meters, .dict, .recorder] : List Facet)) :
    p.of (State.heardMeter s m) = p.of s := by
  simp at hp
  generalize ht : State.heardMeter s m = t'
  unfold State.heardMeter at ht
  try dsimp only at ht
  repeat' (first
    | (subst ht; simp [hp]; done)
    | split at ht)

end Sys2Proof.Machine
end

