-- ==== Sys2Proof/Laws/Frame/Slots.lean ====
section
/-! SUPPORT. What the operations of Machine/Slots.lean leave unchanged: the parts of the state outside each one's footprint. -/

namespace Sys2Proof.Machine

@[simp] theorem State.admitPacket_frame (p : Facet) (s : State) (tile pipe n rec_ : Nat)
    (hp : p ∉ ([.fabric] : List Facet)) :
    p.of (State.admitPacket s tile pipe n rec_) = p.of s := by
  simp at hp
  simp [hp, State.admitPacket]

@[simp] theorem State.pushRecord_frame (p : Facet) (s : State) (tile pipe m kind : Nat) (ws : List Word)
    (hp : p ∉ ([.fabric, .queues, .mem, .billing, .dict, .recorder] : List Facet)) :
    p.of (State.pushRecord s tile pipe m kind ws) = p.of s := by
  simp at hp
  simp [hp, State.pushRecord]

@[simp] theorem State.pushEvent_frame (p : Facet) (s : State) (tile pipe m code cls mask : Nat) (body : Octets)
    (hp : p ∉ ([.fabric, .queues, .mem, .dict, .recorder] : List Facet)) :
    p.of (State.pushEvent s tile pipe m code cls mask body).2 = p.of s := by
  simp at hp
  simp [hp, State.pushEvent]

@[simp] theorem State.slotEvent_frame (p : Facet) (s : State) (tile pipe code m detail : Nat)
    (hp : p ∉ ([.fabric, .queues, .mem, .dict, .recorder] : List Facet)) :
    p.of (State.slotEvent s tile pipe code m detail) = p.of s := by
  simp at hp
  generalize ht : State.slotEvent s tile pipe code m detail = t'
  unfold State.slotEvent at ht
  try dsimp only at ht
  repeat' (first
    | (subst ht; simp [hp]; done)
    | split at ht)

@[simp] theorem State.slotAbort_frame (p : Facet) (s : State) (tile pipe m : Nat) (bad : Nat × Nat)
    (hp : p ∉ ([.fabric, .queues, .mem, .pair, .dict, .recorder] : List Facet)) :
    p.of (State.slotAbort s tile pipe m bad) = p.of s := by
  simp at hp
  simp [hp, State.slotAbort]

@[simp] theorem State.toRelay_frame (p : Facet) (s : State) (port relay : Nat) (f : Octets)
    (hp : p ∉ ([.tunnel] : List Facet)) :
    p.of (State.toRelay s port relay f) = p.of s := by
  simp at hp
  simp [hp, State.toRelay]

@[simp] theorem State.emit_frame (p : Facet) (s : State) (tile pipe port phase relay id : Nat) (f : Octets)
    (hp : p ∉ ([.fabric, .queues, .mem, .tunnel, .dict, .recorder] : List Facet)) :
    p.of (State.emit s tile pipe port phase relay id f) = p.of s := by
  simp at hp
  simp [hp, State.emit]

@[simp] theorem State.pushAck_frame (p : Facet) (s : State) (tile pipe desc : Nat) (x : Meter) (f tag : Octets)
    (hp : p ∉ ([.fabric, .queues, .mem, .tunnel, .dict, .recorder] : List Facet)) :
    p.of (State.pushAck s tile pipe desc x f tag) = p.of s := by
  simp at hp
  generalize ht : State.pushAck s tile pipe desc x f tag = t'
  unfold State.pushAck at ht
  try dsimp only at ht
  repeat' (first
    | (subst ht; simp [hp]; done)
    | (subst ht; obtain ⟨_, rfl⟩ := Prod.ext_iff.mp ‹_ = (_, _)›; simp [hp]; done)
    | split at ht)

@[simp] theorem State.addRunning_frame (p : Facet) (s : State) (x : Meter) (b : Booking)
    (hp : p ∉ ([.mem, .loss, .dict, .recorder] : List Facet)) :
    p.of (State.addRunning s x b) = p.of s := by
  simp at hp
  simp [hp, State.addRunning]

@[simp] theorem State.addLatch_frame (fct : Facet) (s : State) (x : Meter) (p : Octets)
    (hp : fct ∉ ([.out, .fabric, .mem, .meters, .loss, .pair, .dict, .recorder] : List Facet)) :
    fct.of (State.addLatch s x p) = fct.of s := by
  simp at hp
  simp [hp, State.addLatch]

@[simp] theorem State.outcome_frame (p : Facet) (s : State) (tile pipe : Nat) (o : Outcome)
    (hp : p ∉ ([.recorder] : List Facet)) :
    p.of (State.outcome s tile pipe o) = p.of s := by
  simp at hp
  simp [hp, State.outcome]

@[simp] theorem State.countFlags_frame (p : Facet) (s : State) (tile pipe : Nat) (rules : List (Nat × Nat))
    (hp : p ∉ ([.fabric] : List Facet)) :
    p.of (State.countFlags s tile pipe rules) = p.of s := by
  simp at hp
  simp [hp, State.countFlags]

@[simp] theorem State.rejectFrame_frame (p : Facet) (s : State) (tile pipe desc : Nat) (x : Meter) (f tag : Octets)
    (q : Report) (flagged rule : Nat) (ahead : Bool)
    (hp : p ∉ ([.fabric, .queues, .mem, .meters, .tunnel, .billing, .pair, .dict, .recorder] : List Facet)) :
    p.of (State.rejectFrame s tile pipe desc x f tag q flagged rule ahead) = p.of s := by
  simp at hp
  simp [hp, State.rejectFrame]

@[simp] theorem State.writeBooking_frame (p : Facet) (s : State) (tile pipe desc : Nat) (x : Meter) (f : Octets)
    (q : Report) (b : Booking) (ahead : Bool)
    (hp : p ∉ ([.freeCount, .mem, .meters, .pair, .dict, .recorder] : List Facet)) :
    p.of (State.writeBooking s tile pipe desc x f q b ahead) = p.of s := by
  simp at hp
  simp [hp, State.writeBooking]

@[simp] theorem State.passEnergy_frame (p : Facet) (s : State) (tile pipe desc : Nat) (x : Meter) (f : Octets)
    (q : Report) (b : Booking) (flagged : Nat)
    (hp : p ∉ ([.out, .fabric, .queues, .mem, .meters, .billing, .loss, .pair, .dict, .recorder] : List Facet)) :
    p.of (State.passEnergy s tile pipe desc x f q b flagged) = p.of s := by
  simp at hp
  simp [hp, State.passEnergy]

@[simp] theorem State.acceptFrame_frame (fct : Facet) (s : State) (tile pipe desc : Nat) (x : Meter)
    (f tag p : Octets) (q : Report) (flagged : Nat) (ahead : Bool)
    (hp : fct ∉ ([.out, .freeCount, .fabric, .queues, .mem, .meters, .tunnel, .billing, .loss, .pair, .dict, .recorder] : List Facet)) :
    fct.of (State.acceptFrame s tile pipe desc x f tag p q flagged ahead) = fct.of s := by
  simp at hp
  simp [hp, State.acceptFrame]

@[simp] theorem State.bookFrame_frame (fct : Facet) (s : State) (tile pipe desc : Nat) (x : Meter) (f tag p : Octets)
    (hp : fct ∉ ([.out, .freeCount, .fabric, .queues, .mem, .meters, .tunnel, .billing, .loss, .pair, .dict, .recorder] : List Facet)) :
    fct.of (State.bookFrame s tile pipe desc x f tag p) = fct.of s := by
  simp at hp
  generalize ht : State.bookFrame s tile pipe desc x f tag p = t'
  unfold State.bookFrame at ht
  try dsimp only at ht
  repeat' (first
    | (subst ht; simp [hp]; done)
    | split at ht)

@[simp] theorem State.inboundMeter_frame (p : Facet) (s : State) (tile pipe desc : Nat) (x : Meter) (f : Octets)
    (hp : p ∉ ([.out, .freeCount, .fabric, .queues, .mem, .meters, .tunnel, .billing, .loss, .pair, .dict, .recorder] : List Facet)) :
    p.of (State.inboundMeter s tile pipe desc x f) = p.of s := by
  simp at hp
  generalize ht : State.inboundMeter s tile pipe desc x f = t'
  unfold State.inboundMeter at ht
  try dsimp only at ht
  repeat' (first
    | (subst ht; simp [hp]; done)
    | split at ht)

@[simp] theorem State.inboundPacket_frame (p : Facet) (s : State) (tile pipe : Nat) (pk : List (Word × Byte))
    (words : List (Nat × Nat)) (x : Option Meter)
    (hp : p ∉ ([.out, .freeCount, .fabric, .queues, .mem, .meters, .tunnel, .billing, .loss, .pair, .dict, .recorder] : List Facet)) :
    p.of (State.inboundPacket s tile pipe pk words x) = p.of s := by
  simp at hp
  generalize ht : State.inboundPacket s tile pipe pk words x = t'
  unfold State.inboundPacket at ht
  try dsimp only at ht
  repeat' (first
    | (subst ht; simp [hp]; done)
    | split at ht)

@[simp] theorem State.restartReadout_frame (p : Facet) (s : State) (id : Nat)
    (hp : p ∉ ([.billing] : List Facet)) :
    p.of (State.restartReadout s id) = p.of s := by
  simp at hp
  simp [hp, State.restartReadout]

@[simp] theorem State.returnRequest_frame (p : Facet) (s : State) (tile pipe kind : Nat) (x : Meter)
    (pk : List (Word × Byte))
    (hp : p ∉ ([.fabric, .queues, .mem, .meters, .billing, .pair, .dict, .recorder] : List Facet)) :
    p.of (State.returnRequest s tile pipe kind x pk) = p.of s := by
  simp at hp
  generalize ht : State.returnRequest s tile pipe kind x pk = t'
  unfold State.returnRequest at ht
  try dsimp only at ht
  repeat' (first
    | (subst ht; simp [hp]; done)
    | split at ht)

@[simp] theorem requestSlot_frame (p : Facet) (s : State) (kind tile pipe k q counter : Nat)
    (perform : State → Meter → List (Word × Byte) → State)
    (hperform : ∀ a0 a1 a2 d', d' = perform a0 a1 a2 → p.of d' = p.of a0)
    (hp : p ∉ ([.fabric, .queues, .mem, .meters, .billing, .pair, .dict, .recorder] : List Facet)) :
    p.of (requestSlot s kind tile pipe k q counter perform) = p.of s := by
  have h'perform := fun a0 a1 a2 => hperform a0 a1 a2 _ rfl
  simp at hp
  generalize ht : requestSlot s kind tile pipe k q counter perform = t'
  unfold requestSlot at ht
  try dsimp only at ht
  repeat' (first
    | (subst ht; simp [*]; done)
    | split at ht)

@[simp] theorem State.sealOn_frame (p : Facet) (s : State) (tile pipe : Nat) (x : Meter)
    (cls port phase type id : Nat) (payload : Octets)
    (hp : p ∉ ([.out, .fabric, .queues, .mem, .meters, .tunnel, .pair, .dict, .recorder] : List Facet)) :
    p.of (State.sealOn s tile pipe x cls port phase type id payload) = p.of s := by
  simp at hp
  simp [hp, State.sealOn]

@[simp] theorem State.sealFor_frame (p : Facet) (s : State) (tile pipe : Nat) (x : Meter) (type id : Nat)
    (payload : Octets)
    (hp : p ∉ ([.out, .fabric, .queues, .mem, .meters, .tunnel, .pair, .dict, .recorder] : List Facet)) :
    p.of (State.sealFor s tile pipe x type id payload) = p.of s := by
  simp at hp
  simp [hp, State.sealFor]

@[simp] theorem State.sealCommand_frame (p : Facet) (s : State) (tile pipe : Nat) (x : Meter) (rt n : Nat)
    (r : Request)
    (hp : p ∉ ([.out, .fabric, .queues, .mem, .meters, .tunnel, .billing, .pair, .dict, .recorder] : List Facet)) :
    p.of (State.sealCommand s tile pipe x rt n r) = p.of s := by
  simp at hp
  generalize ht : State.sealCommand s tile pipe x rt n r = t'
  unfold State.sealCommand at ht
  try dsimp only at ht
  repeat' (first
    | (subst ht; simp [hp]; done)
    | split at ht)

@[simp] theorem State.outbound_frame (p : Facet) (s : State) (tile pipe : Nat) (x : Meter) (pk : List (Word × Byte))
    (hp : p ∉ ([.out, .fabric, .queues, .mem, .meters, .tunnel, .billing, .pair, .dict, .recorder] : List Facet)) :
    p.of (State.outbound s tile pipe x pk) = p.of s := by
  simp at hp
  generalize ht : State.outbound s tile pipe x pk = t'
  unfold State.outbound at ht
  try dsimp only at ht
  repeat' (first
    | (subst ht; simp [hp]; done)
    | split at ht)

@[simp] theorem State.swapSum_frame (p : Facet) (s : State) (tile pipe v : Nat)
    (hp : p ∉ ([.fabric, .queues, .mem, .loss, .dict, .recorder] : List Facet)) :
    p.of (State.swapSum s tile pipe v) = p.of s := by
  simp at hp
  simp [hp, State.swapSum]

@[simp] theorem State.sealBroadcast_frame (p : Facet) (s : State) (tile pipe : Nat) (b : Octets)
    (hp : p ∉ ([.fabric, .queues, .mem, .tunnel, .keys, .dict, .recorder] : List Facet)) :
    p.of (State.sealBroadcast s tile pipe b) = p.of s := by
  simp at hp
  simp [hp, State.sealBroadcast]

@[simp] theorem State.snapshotAbort_frame (p : Facet) (s : State) (tile pipe : Nat) (pk : List (Word × Byte))
    (bad : Nat × Nat)
    (hp : p ∉ ([.fabric, .queues, .mem, .loss, .pair, .dict, .recorder] : List Facet)) :
    p.of (State.snapshotAbort s tile pipe pk bad) = p.of s := by
  simp at hp
  simp [hp, State.snapshotAbort]

@[simp] theorem State.snapshotRequestDone_frame (p : Facet) (s : State) (tile pipe : Nat) (pk : List (Word × Byte))
    (hp : p ∉ ([.fabric, .queues, .mem, .tunnel, .loss, .keys, .dict, .recorder] : List Facet)) :
    p.of (State.snapshotRequestDone s tile pipe pk) = p.of s := by
  simp at hp
  simp [hp, State.snapshotRequestDone]

@[simp] theorem State.takeEvent_frame (p : Facet) (s : State) (tile pipe : Nat)
    (hp : p ∉ ([.freeCount, .fabric, .queues, .pair, .dict, .recorder] : List Facet)) :
    p.of (State.takeEvent s tile pipe) = p.of s := by
  simp at hp
  generalize ht : State.takeEvent s tile pipe = t'
  unfold State.takeEvent at ht
  try dsimp only at ht
  repeat' (first
    | (subst ht; simp [hp]; done)
    | (subst ht; obtain ⟨_, rfl⟩ := Prod.ext_iff.mp ‹_ = (_, _)›; simp [hp]; done)
    | split at ht)

@[simp] theorem State.reportEvent_frame (p : Facet) (s : State) (tile : Nat) (pk : List (Word × Byte))
    (hp : p ∉ ([.recorder] : List Facet)) :
    p.of (State.reportEvent s tile pk) = p.of s := by
  simp at hp
  simp [hp, State.reportEvent]

@[simp] theorem State.drainReports_frame (p : Facet) (fuel : Nat) (s : State) (tile pipe : Nat)
    (hp : p ∉ ([.freeCount, .fabric, .queues, .pair, .dict, .recorder] : List Facet)) :
    p.of (State.drainReports fuel s tile pipe) = p.of s := by
  simp at hp
  induction fuel generalizing s with
  | zero => simp [State.drainReports, hp]
  | succ k ih =>
    generalize ht : State.drainReports (k + 1) s tile pipe = t'
    unfold State.drainReports at ht
    try dsimp only at ht
    repeat' (first
      | (subst ht; simp [ih, hp]; done)
      | split at ht)

@[simp] theorem State.events_frame (p : Facet) (s : State) (tile pipe : Nat)
    (hp : p ∉ ([.freeCount, .fabric, .queues, .pair, .dict, .recorder] : List Facet)) :
    p.of (State.events s tile pipe) = p.of s := by
  simp at hp
  simp [hp, State.events]

@[simp] theorem State.drainEvents_frame (p : Facet) (s : State)
    (hp : p ∉ ([.freeCount, .fabric, .queues, .pair, .dict, .recorder] : List Facet)) :
    p.of (State.drainEvents s) = p.of s := by
  simp at hp
  simp (maxDischargeDepth := 5) [hp, State.drainEvents]

end Sys2Proof.Machine
end

