-- ==== Sys2Proof/Laws/Frame/Line.lean ====
section
/-! SUPPORT. What the operations of Machine/Line.lean leave unchanged: the parts of the state outside each one's footprint. -/

namespace Sys2Proof.Machine

@[simp] theorem State.setLane_frame (p : Facet) (s : State) (t l : Nat) (x : LineLane)
    (hp : p ∉ ([.line] : List Facet)) :
    p.of (State.setLane s t l x) = p.of s := by
  simp at hp
  simp [hp, State.setLane]

@[simp] theorem State.setPort_frame (p : Facet) (s : State) (t l c : Nat) (x : LinePort)
    (hp : p ∉ ([.line, .dict] : List Facet)) :
    p.of (State.setPort s t l c x) = p.of s := by
  simp at hp
  simp [hp, State.setPort]

@[simp] theorem State.setMains_frame (p : Facet) (s : State) (t : Nat) (x : Mains)
    (hp : p ∉ ([.line, .dict] : List Facet)) :
    p.of (State.setMains s t x) = p.of s := by
  simp at hp
  simp [hp, State.setMains]

@[simp] theorem State.signal_frame (p : Facet) (s : State) (t l phase kind : Nat) (b : Octets)
    (hp : p ∉ ([.out] : List Facet)) :
    p.of (State.signal s t l phase kind b) = p.of s := by
  simp at hp
  simp [hp, State.signal]

@[simp] theorem State.holdMedium_frame (p : Facet) (s : State) (t l phase at_ : Nat)
    (hp : p ∉ ([.line] : List Facet)) :
    p.of (State.holdMedium s t l phase at_) = p.of s := by
  simp at hp
  simp [hp, State.holdMedium]

@[simp] theorem State.laneUsable_frame (p : Facet) (s : State) (port : Nat) (usable : Bool)
    (hp : p ∉ ([.place] : List Facet)) :
    p.of (State.laneUsable s port usable) = p.of s := by
  simp at hp
  simp [hp, State.laneUsable]

@[simp] theorem State.restate_frame (p : Facet) (s : State) (t l : Nat)
    (hp : p ∉ ([.place, .line, .dict, .recorder] : List Facet)) :
    p.of (State.restate s t l) = p.of s := by
  simp at hp
  simp [hp, State.restate]

@[simp] theorem State.restateTile_frame (p : Facet) (s : State) (t : Nat)
    (hp : p ∉ ([.place, .line, .dict, .recorder] : List Facet)) :
    p.of (State.restateTile s t) = p.of s := by
  simp at hp
  simp [hp, State.restateTile]

@[simp] theorem State.installBeacon_frame (p : Facet) (s : State) (t l n : Nat)
    (hp : p ∉ ([.mem, .keys, .dict, .recorder] : List Facet)) :
    p.of (State.installBeacon s t l n) = p.of s := by
  simp at hp
  simp [hp, State.installBeacon]

@[simp] theorem State.keyBeacon_frame (p : Facet) (s : State) (t l : Nat)
    (hp : p ∉ ([.mem, .line, .keys, .dict, .recorder] : List Facet)) :
    p.of (State.keyBeacon s t l) = p.of s := by
  simp at hp
  generalize ht : State.keyBeacon s t l = t'
  unfold State.keyBeacon at ht
  try dsimp only at ht
  repeat' (first
    | (subst ht; simp [hp]; done)
    | split at ht)

@[simp] theorem State.startLine_frame (p : Facet) (s : State) (t l : Nat)
    (hp : p ∉ ([.mem, .place, .line, .keys, .dict, .recorder] : List Facet)) :
    p.of (State.startLine s t l) = p.of s := by
  simp at hp
  simp [hp, State.startLine]

@[simp] theorem State.dropCalibration_frame (p : Facet) (s : State) (t l : Nat)
    (hp : p ∉ ([.line, .dict, .recorder] : List Facet)) :
    p.of (State.dropCalibration s t l) = p.of s := by
  simp at hp
  generalize ht : State.dropCalibration s t l = t'
  unfold State.dropCalibration at ht
  try dsimp only at ht
  repeat' (first
    | (subst ht; simp [hp]; done)
    | (subst ht; obtain ⟨_, rfl⟩ := Prod.ext_iff.mp ‹_ = (_, _)›; simp [hp]; done)
    | split at ht)

@[simp] theorem State.stopLine_frame (p : Facet) (s : State) (t l : Nat)
    (hp : p ∉ ([.place, .line, .dict, .recorder] : List Facet)) :
    p.of (State.stopLine s t l) = p.of s := by
  simp at hp
  simp [hp, State.stopLine]

@[simp] theorem State.endStarting_frame (p : Facet) (s : State) (t l : Nat)
    (hp : p ∉ ([.place, .line, .dict, .recorder] : List Facet)) :
    p.of (State.endStarting s t l) = p.of s := by
  simp at hp
  simp [hp, State.endStarting]

@[simp] theorem State.lineCount_frame (p : Facet) (s : State) (t l i : Nat)
    (hp : p ∉ ([.recorder] : List Facet)) :
    p.of (State.lineCount s t l i) = p.of s := by
  simp at hp
  simp [hp, State.lineCount]

@[simp] theorem State.takeNotch_frame (p : Facet) (s : State) (profile : Nat) (table : Octets)
    (hp : p ∉ ([.line] : List Facet)) :
    p.of (State.takeNotch s profile table) = p.of s := by
  simp at hp
  simp [hp, State.takeNotch]

@[simp] theorem State.detectPhase_frame (p : Facet) (s : State) (t m zc rx : Nat)
    (hp : p ∉ ([.out, .fabric, .queues, .mem, .meters, .loss, .pair, .dict, .recorder] : List Facet)) :
    p.of (State.detectPhase s t m zc rx) = p.of s := by
  simp at hp
  generalize ht : State.detectPhase s t m zc rx = t'
  unfold State.detectPhase at ht
  try dsimp only at ht
  repeat' (first
    | (subst ht; simp [hp]; done)
    | split at ht)

@[simp] theorem State.laneFrame_frame (p : Facet) (s : State) (t l : Nat) (f : LineFrame)
    (hp : p ∉ ([.line] : List Facet)) :
    p.of (State.laneFrame s t l f) = p.of s := by
  simp at hp
  simp [hp, State.laneFrame]

@[simp] theorem State.tagCount_frame (p : Facet) (s : State) (t l : Nat)
    (hp : p ∉ ([.dict] : List Facet)) :
    p.of (State.tagCount s t l) = p.of s := by
  simp at hp
  simp [hp, State.tagCount]

@[simp] theorem State.eraseTag_frame (p : Facet) (s : State) (t l tag : Nat)
    (hp : p ∉ ([.line, .dict] : List Facet)) :
    p.of (State.eraseTag s t l tag) = p.of s := by
  simp at hp
  simp [hp, State.eraseTag]

@[simp] theorem State.freeTag_frame (p : Facet) (s : State) (t l tag : Nat)
    (hp : p ∉ ([.out, .line, .pair, .dict, .recorder] : List Facet)) :
    p.of (State.freeTag s t l tag) = p.of s := by
  simp at hp
  simp [hp, State.freeTag]

@[simp] theorem State.joinTag_frame (p : Facet) (s : State) (tile lane channel meter kind : Nat)
    (hp : p ∉ ([.out, .fabric, .line, .meters, .pair, .dict, .recorder] : List Facet)) :
    p.of (State.joinTag s tile lane channel meter kind) = p.of s := by
  simp at hp
  generalize ht : State.joinTag s tile lane channel meter kind = t'
  unfold State.joinTag at ht
  try dsimp only at ht
  repeat' (first
    | (subst ht; simp [hp]; done)
    | split at ht)

@[simp] theorem State.keepMap_frame (p : Facet) (s : State) (tile lane tag : Nat) (image : Octets)
    (hp : p ∉ ([.out, .line, .pair, .recorder] : List Facet)) :
    p.of (State.keepMap s tile lane tag image) = p.of s := by
  simp at hp
  simp [hp, State.keepMap]

@[simp] theorem State.soundFor_frame (p : Facet) (s : State) (tile lane tag channel symbols : Nat)
    (hp : p ∉ ([.line] : List Facet)) :
    p.of (State.soundFor s tile lane tag channel symbols) = p.of s := by
  simp at hp
  simp [hp, State.soundFor]

@[simp] theorem State.manageFrame_frame (p : Facet) (s : State) (tile lane channel src : Nat) (payload : Octets)
    (hp : p ∉ ([.out, .fabric, .line, .meters, .pair, .dict, .recorder] : List Facet)) :
    p.of (State.manageFrame s tile lane channel src payload) = p.of s := by
  simp at hp
  simp [hp, State.manageFrame]

@[simp] theorem State.giveMap_frame (p : Facet) (s : State) (t l tag channel : Nat)
    (hp : p ∉ ([.out, .freeCount, .line, .pair, .recorder] : List Facet)) :
    p.of (State.giveMap s t l tag channel) = p.of s := by
  simp at hp
  simp [hp, State.giveMap]

@[simp] theorem State.firstMap_frame (p : Facet) (s : State) (t l tag channel : Nat)
    (hp : p ∉ ([.out, .freeCount, .line, .pair, .recorder] : List Facet)) :
    p.of (State.firstMap s t l tag channel) = p.of s := by
  simp at hp
  simp [hp, State.firstMap]

@[simp] theorem State.sendReceipt_frame (p : Facet) (s : State) (t l c : Nat) (fc : Octets) (failed : Nat)
    (unknown : Bool)
    (hp : p ∉ ([.out, .line, .recorder] : List Facet)) :
    p.of (State.sendReceipt s t l c fc failed unknown) = p.of s := by
  simp at hp
  simp [hp, State.sendReceipt]

@[simp] theorem State.holdFrame_frame (fct : Facet) (s : State) (p : List (Word × Byte))
    (hp : fct ∉ ([.line] : List Facet)) :
    fct.of (State.holdFrame s p) = fct.of s := by
  simp at hp
  simp [hp, State.holdFrame]

@[simp] theorem State.queueLine_frame (p : Facet) (s : State) (t l c zc rx : Nat) (payload : Octets)
    (hp : p ∉ ([.fabric, .queues, .mem, .line, .tunnel, .dict, .recorder] : List Facet)) :
    p.of (State.queueLine s t l c zc rx payload) = p.of s := by
  simp at hp
  simp [hp, State.queueLine]

@[simp] theorem State.laneCompletes_frame (p : Facet) (s : State) (k : Nat)
    (hp : p ∉ ([.heat] : List Facet)) :
    p.of (State.laneCompletes s k) = p.of s := by
  simp at hp
  simp [hp, State.laneCompletes]

@[simp] theorem State.lineComplete_frame (p : Facet) (s0 : State) (t l c : Nat) (fc : Octets) (rx : Nat)
    (payload : Octets)
    (hp : p ∉ ([.out, .freeCount, .heat, .fabric, .queues, .mem, .line, .meters, .tunnel, .loss, .pair, .dict,
      .recorder] : List Facet)) :
    p.of (State.lineComplete s0 t l c fc rx payload) = p.of s0 := by
  simp at hp
  simp [hp, State.lineComplete]

@[simp] theorem State.splitBaton_frame (p : Facet) (s : State) (by_ : Nat)
    (hp : p ∉ ([.pair, .recorder] : List Facet)) :
    p.of (State.splitBaton s by_) = p.of s := by
  simp at hp
  simp [hp, State.splitBaton]

@[simp] theorem State.peerHeard_frame (p : Facet) (s : State) (partTag : Nat)
    (hp : p ∉ ([.pair, .recorder] : List Facet)) :
    p.of (State.peerHeard s partTag) = p.of s := by
  simp at hp
  simp [hp, State.peerHeard]

@[simp] theorem State.tagHeard_frame (p : Facet) (s : State) (tile lane src : Nat)
    (hp : p ∉ ([.line] : List Facet)) :
    p.of (State.tagHeard s tile lane src) = p.of s := by
  simp at hp
  generalize ht : State.tagHeard s tile lane src = t'
  unfold State.tagHeard at ht
  try dsimp only at ht
  repeat' (first
    | (subst ht; simp [hp]; done)
    | split at ht)

@[simp] theorem State.keepHold_frame (p : Facet) (s : State) (tile lane : Nat) (h : BlockHold)
    (hp : p ∉ ([.line] : List Facet)) :
    p.of (State.keepHold s tile lane h) = p.of s := by
  simp at hp
  simp [hp, State.keepHold]

@[simp] theorem State.dataBlocks_frame (p : Facet) (s : State) (tile lane channel : Nat) (fc blocks : Octets)
    (rx : Nat) (im : Octets)
    (hp : p ∉ ([.out, .freeCount, .heat, .fabric, .queues, .mem, .line, .meters, .tunnel, .loss, .pair, .dict,
      .recorder] : List Facet)) :
    p.of (State.dataBlocks s tile lane channel fc blocks rx im) = p.of s := by
  simp at hp
  simp [hp, State.dataBlocks]

@[simp] theorem State.mediumHeard_frame (p : Facet) (s : State) (t l c : Nat) (fc : Octets)
    (hp : p ∉ ([.line] : List Facet)) :
    p.of (State.mediumHeard s t l c fc) = p.of s := by
  simp at hp
  simp [hp, State.mediumHeard]

@[simp] theorem State.eraseMap_frame (p : Facet) (s : State) (t l key : Nat)
    (hp : p ∉ ([.line] : List Facet)) :
    p.of (State.eraseMap s t l key) = p.of s := by
  simp at hp
  simp [hp, State.eraseMap]

@[simp] theorem State.invalidateMap_frame (p : Facet) (s : State) (t l tag c reason : Nat)
    (hp : p ∉ ([.out, .fabric, .line, .pair, .recorder] : List Facet)) :
    p.of (State.invalidateMap s t l tag c reason) = p.of s := by
  simp at hp
  simp [hp, State.invalidateMap]

@[simp] theorem State.dropMaps_frame (p : Facet) (s : State) (t l : Nat)
    (hp : p ∉ ([.out, .fabric, .line, .pair, .recorder] : List Facet)) :
    p.of (State.dropMaps s t l) = p.of s := by
  simp at hp
  simp [hp, State.dropMaps]

@[simp] theorem State.applyNotch_frame (p : Facet) (s : State)
    (hp : p ∉ ([.out, .fabric, .line, .pair, .recorder] : List Facet)) :
    p.of (State.applyNotch s) = p.of s := by
  simp at hp
  generalize ht : State.applyNotch s = t'
  unfold State.applyNotch at ht
  try dsimp only at ht
  repeat' (first
    | (subst ht; simp (maxDischargeDepth := 5) [hp]; done)
    | (subst ht; obtain ⟨_, rfl⟩ := Prod.ext_iff.mp ‹_ = (_, _)›; simp (maxDischargeDepth := 5) [hp]; done)
    | split at ht)

@[simp] theorem State.beginSend_frame (p : Facet) (s : State) (t l : Nat) (f : LineFrame)
    (hp : p ∉ ([.freeCount, .line] : List Facet)) :
    p.of (State.beginSend s t l f) = p.of s := by
  simp at hp
  simp [hp, State.beginSend]

@[simp] theorem State.endSend_frame (p : Facet) (s : State) (t l : Nat)
    (hp : p ∉ ([.fabric, .queues, .line, .recorder] : List Facet)) :
    p.of (State.endSend s t l) = p.of s := by
  simp at hp
  generalize ht : State.endSend s t l = t'
  unfold State.endSend at ht
  try dsimp only at ht
  repeat' (first
    | (subst ht; simp [hp]; done)
    | split at ht)

@[simp] theorem State.claim_frame (p : Facet) (s : State) (t l k : Nat)
    (hp : p ∉ ([.out, .line] : List Facet)) :
    p.of (State.claim s t l k) = p.of s := by
  simp at hp
  simp [hp, State.claim]

@[simp] theorem State.sendBeacon_frame (p : Facet) (s : State) (t l : Nat)
    (hp : p ∉ ([.out, .fabric, .place, .line, .pair, .dict, .recorder] : List Facet)) :
    p.of (State.sendBeacon s t l) = p.of s := by
  simp at hp
  simp [hp, State.sendBeacon]

@[simp] theorem State.transmit_frame (p : Facet) (s : State) (t l : Nat) (e0 : LineSend)
    (hp : p ∉ ([.out, .line, .recorder] : List Facet)) :
    p.of (State.transmit s t l e0) = p.of s := by
  simp at hp
  simp [hp, State.transmit]

@[simp] theorem State.waitCycle_frame (p : Facet) (s : State) (t l bc : Nat)
    (hp : p ∉ ([.line] : List Facet)) :
    p.of (State.waitCycle s t l bc) = p.of s := by
  simp at hp
  simp [hp, State.waitCycle]

@[simp] theorem State.contendSlot_frame (p : Facet) (s : State) (t l n : Nat) (busy : Bool) (e : LineSend)
    (hp : p ∉ ([.out, .line, .recorder] : List Facet)) :
    p.of (State.contendSlot s t l n busy e) = p.of s := by
  simp at hp
  simp [hp, State.contendSlot]

@[simp] theorem State.retrySend_frame (p : Facet) (s : State) (t l : Nat) (e : LineSend)
    (hp : p ∉ ([.freeCount, .fabric, .queues, .line, .recorder] : List Facet)) :
    p.of (State.retrySend s t l e) = p.of s := by
  simp at hp
  simp [hp, State.retrySend]

@[simp] theorem State.skipBeacons_frame (p : Facet) (s : State) (t : Nat)
    (hp : p ∉ ([.fabric, .place, .line, .dict, .recorder] : List Facet)) :
    p.of (State.skipBeacons s t) = p.of s := by
  simp at hp
  simp [hp, State.skipBeacons]

@[simp] theorem State.mainsTransition_frame (p : Facet) (s : State) (t : Nat) (old new : Mains)
    (hp : p ∉ ([.recorder] : List Facet)) :
    p.of (State.mainsTransition s t old new) = p.of s := by
  simp at hp
  simp [hp, State.mainsTransition]

@[simp] theorem State.offerReversal_frame (p : Facet) (s : State) (tile : Nat) (y : Mains)
    (hp : p ∉ ([.recorder] : List Facet)) :
    p.of (State.offerReversal s tile y) = p.of s := by
  simp at hp
  generalize ht : State.offerReversal s tile y = t'
  unfold State.offerReversal at ht
  try dsimp only at ht
  repeat' (first
    | (subst ht; simp [hp]; done)
    | split at ht)

@[simp] theorem State.chooseAuthority_frame (p : Facet) (s : State) (num : Nat)
    (hp : p ∉ ([.line, .dict, .recorder] : List Facet)) :
    p.of (State.chooseAuthority s num) = p.of s := by
  simp at hp
  simp [hp, State.chooseAuthority]

@[simp] theorem State.labelCycle_frame (p : Facet) (s : State) (y : Mains)
    (hp : p ∉ ([.line, .loss, .dict, .recorder] : List Facet)) :
    p.of (State.labelCycle s y) = p.of s := by
  simp at hp
  simp [hp, State.labelCycle]

@[simp] theorem State.shiftMains_frame (p : Facet) (s : State) (d : Int)
    (hp : p ∉ ([.line] : List Facet)) :
    p.of (State.shiftMains s d) = p.of s := by
  simp at hp
  simp [hp, State.shiftMains]

@[simp] theorem State.portFault_frame (p : Facet) (s : State) (t l c bits : Nat)
    (hp : p ∉ ([.place, .line, .dict, .recorder] : List Facet)) :
    p.of (State.portFault s t l c bits) = p.of s := by
  simp at hp
  simp [hp, State.portFault]

@[simp] theorem lineCalibrate_frame (p : Facet) (channel : Nat) (s : State)
    (hp : p ∉ ([.line, .dict] : List Facet)) :
    p.of (lineCalibrate channel s).state = p.of s := by
  simp at hp
  generalize ht : lineCalibrate channel s = t'
  unfold lineCalibrate at ht
  try dsimp only at ht
  repeat' (first
    | (subst ht; simp [hp]; done)
    | split at ht)

end Sys2Proof.Machine
end

