-- ==== Sys2Proof/Laws/Frame/Loss.lean ====
section
/-! SUPPORT. What the operations of Machine/Loss.lean leave unchanged: the parts of the state outside each one's footprint. -/

namespace Sys2Proof.Machine

@[simp] theorem State.sendSnapshot_frame (p : Facet) (s : State) (id cycle : Nat) (tags : List Nat)
    (hp : p ∉ ([.fabric, .queues, .mem, .dict, .recorder] : List Facet)) :
    p.of (State.sendSnapshot s id cycle tags) = p.of s := by
  simp at hp
  simp [hp, State.sendSnapshot]

@[simp] theorem State.swapFeeder_frame (p : Facet) (s0 : State) (tag next id : Nat)
    (hp : p ∉ ([.out, .loss, .pair, .recorder] : List Facet)) :
    p.of (State.swapFeeder s0 tag next id) = p.of s0 := by
  simp at hp
  simp [hp, State.swapFeeder]

@[simp] theorem State.takeLoss_frame (p : Facet) (s : State) (tile pipe : Nat) (pk : List (Word × Byte))
    (hp : p ∉ ([.loss] : List Facet)) :
    p.of (State.takeLoss s tile pipe pk) = p.of s := by
  simp at hp
  simp [hp, State.takeLoss]

@[simp] theorem State.drainLossQueue_frame (p : Facet) (s : State) (tile pipe : Nat)
    (hp : p ∉ ([.freeCount, .fabric, .queues, .loss, .pair, .dict, .recorder] : List Facet)) :
    p.of (State.drainLossQueue s tile pipe) = p.of s := by
  simp at hp
  simp [hp, State.drainLossQueue]

@[simp] theorem State.drainLoss_frame (p : Facet) (s : State)
    (hp : p ∉ ([.freeCount, .fabric, .queues, .loss, .pair, .dict, .recorder] : List Facet)) :
    p.of (State.drainLoss s) = p.of s := by
  simp at hp
  simp (maxDischargeDepth := 5) [hp, State.drainLoss]

@[simp] theorem State.flagMissing_frame (p : Facet) (s : State) (tag : Nat)
    (hp : p ∉ ([.out, .fabric, .mem, .meters, .pair, .dict, .recorder] : List Facet)) :
    p.of (State.flagMissing s tag) = p.of s := by
  simp at hp
  simp [hp, State.flagMissing]

@[simp] theorem State.openFeeder_frame (p : Facet) (s : State) (id cycle t : Nat)
    (hp : p ∉ ([.out, .fabric, .mem, .meters, .loss, .pair, .dict, .recorder] : List Facet)) :
    p.of (State.openFeeder s id cycle t) = p.of s := by
  simp at hp
  simp [hp, State.openFeeder]

@[simp] theorem State.sendSnapshots_frame (p : Facet) (s : State) (tags : List Nat) (id cycle : Nat)
    (hp : p ∉ ([.fabric, .queues, .mem, .dict, .recorder] : List Facet)) :
    p.of (State.sendSnapshots s tags id cycle) = p.of s := by
  simp at hp
  simp [hp, State.sendSnapshots]

@[simp] theorem State.openAt_frame (p : Facet) (s : State) (tags : List Nat) (id cycle : Nat)
    (hp : p ∉ ([.out, .fabric, .queues, .mem, .meters, .loss, .pair, .dict, .recorder] : List Facet)) :
    p.of (State.openAt s tags id cycle) = p.of s := by
  simp at hp
  simp [hp, State.openAt]

@[simp] theorem State.openSnapshots_frame (p : Facet) (s : State) (tags : List Nat) (due : Nat)
    (hp : p ∉ ([.out, .fabric, .queues, .mem, .meters, .loss, .pair, .dict, .recorder] : List Facet)) :
    p.of (State.openSnapshots s tags due) = p.of s := by
  simp at hp
  simp [hp, State.openSnapshots]

@[simp] theorem snapshotRequest_frame (p : Facet) (tag : Nat) (s : State)
    (hp : p ∉ ([.out, .fabric, .queues, .mem, .meters, .loss, .pair, .dict, .recorder] : List Facet)) :
    p.of (snapshotRequest tag s).state = p.of s := by
  simp at hp
  generalize ht : snapshotRequest tag s = t'
  unfold snapshotRequest at ht
  try dsimp only at ht
  repeat' (first
    | (subst ht; simp [hp]; done)
    | split at ht)

@[simp] theorem State.setBalance_frame (p : Facet) (s : State) (tag b : Nat) (x : Balance)
    (hp : p ∉ ([.out, .loss, .pair, .recorder] : List Facet)) :
    p.of (State.setBalance s tag b x) = p.of s := by
  simp at hp
  simp [hp, State.setBalance]

@[simp] theorem State.countAlarms_frame (p : Facet) (s : State)
    (hp : p ∉ ([.dict] : List Facet)) :
    p.of (State.countAlarms s) = p.of s := by
  simp at hp
  simp [hp, State.countAlarms]

@[simp] theorem State.judge_frame (p : Facet) (s : State) (tag b : Nat) (h c : Int)
    (hp : p ∉ ([.out, .loss, .pair, .dict, .recorder] : List Facet)) :
    p.of (State.judge s tag b h c) = p.of s := by
  simp at hp
  simp [hp, State.judge]

@[simp] theorem State.closeBalance_frame (p : Facet) (s : State) (k : Snapshot) (b : Nat)
    (hp : p ∉ ([.out, .loss, .pair, .dict, .recorder] : List Facet)) :
    p.of (State.closeBalance s k b) = p.of s := by
  simp at hp
  generalize ht : State.closeBalance s k b = t'
  unfold State.closeBalance at ht
  try dsimp only at ht
  repeat' (first
    | (subst ht; simp [hp]; done)
    | split at ht)

@[simp] theorem State.zeroRule_frame (p : Facet) (s : State) (m : Nat) (loaded : Bool)
    (hp : p ∉ ([.out, .fabric, .mem, .meters, .pair, .dict, .recorder] : List Facet)) :
    p.of (State.zeroRule s m loaded) = p.of s := by
  simp at hp
  generalize ht : State.zeroRule s m loaded = t'
  unfold State.zeroRule at ht
  try dsimp only at ht
  repeat' (first
    | (subst ht; simp [hp]; done)
    | split at ht)

@[simp] theorem State.noteImport_frame (p : Facet) (s : State) (m : Nat)
    (hp : p ∉ ([.out, .mem, .meters, .pair, .dict, .recorder] : List Facet)) :
    p.of (State.noteImport s m) = p.of s := by
  simp at hp
  generalize ht : State.noteImport s m = t'
  unfold State.noteImport at ht
  try dsimp only at ht
  repeat' (first
    | (subst ht; simp [hp]; done)
    | split at ht)

@[simp] theorem State.closeMembers_frame (p : Facet) (s : State) (k : Snapshot)
    (hp : p ∉ ([.out, .fabric, .mem, .meters, .pair, .dict, .recorder] : List Facet)) :
    p.of (State.closeMembers s k) = p.of s := by
  simp at hp
  simp (maxDischargeDepth := 5) [hp, State.closeMembers]

@[simp] theorem State.setOpen_frame (p : Facet) (s : State) (x : Snapshot)
    (hp : p ∉ ([.loss] : List Facet)) :
    p.of (State.setOpen s x) = p.of s := by
  simp at hp
  simp [hp, State.setOpen]

@[simp] theorem State.finishSnapshot_frame (p : Facet) (s : State) (x : Snapshot)
    (hp : p ∉ ([.out, .fabric, .mem, .meters, .loss, .pair, .dict, .recorder] : List Facet)) :
    p.of (State.finishSnapshot s x) = p.of s := by
  simp at hp
  simp [hp, State.finishSnapshot]

@[simp] theorem State.closeSnapshot_frame (p : Facet) (s : State) (feeder : Nat)
    (hp : p ∉ ([.out, .fabric, .queues, .mem, .meters, .loss, .pair, .dict, .recorder] : List Facet)) :
    p.of (State.closeSnapshot s feeder) = p.of s := by
  simp at hp
  generalize ht : State.closeSnapshot s feeder = t'
  unfold State.closeSnapshot at ht
  try dsimp only at ht
  repeat' (first
    | (subst ht; simp [hp]; done)
    | split at ht)

end Sys2Proof.Machine
end

