-- ==== Sys2Proof/Laws/Frame/Radio.lean ====
section
/-! SUPPORT. What the operations of Machine/Radio.lean leave unchanged: the parts of the state outside each one's footprint. -/

namespace Sys2Proof.Machine

@[simp] theorem State.setRadio_frame (p : Facet) (s : State) (t l : Nat) (x : RadioLane)
    (hp : p ∉ ([.radio] : List Facet)) :
    p.of (State.setRadio s t l x) = p.of s := by
  simp at hp
  simp [hp, State.setRadio]

@[simp] theorem State.radioCount_frame (p : Facet) (s : State) (t l i : Nat)
    (hp : p ∉ ([.recorder] : List Facet)) :
    p.of (State.radioCount s t l i) = p.of s := by
  simp at hp
  simp [hp, State.radioCount]

@[simp] theorem State.restateRadio_frame (p : Facet) (s : State) (t l : Nat)
    (hp : p ∉ ([.place, .radio, .dict, .recorder] : List Facet)) :
    p.of (State.restateRadio s t l) = p.of s := by
  simp at hp
  simp [hp, State.restateRadio]

@[simp] theorem State.installLink_frame (p : Facet) (s : State) (t l n epoch : Nat)
    (hp : p ∉ ([.mem, .keys, .dict, .recorder] : List Facet)) :
    p.of (State.installLink s t l n epoch) = p.of s := by
  simp at hp
  simp [hp, State.installLink]

@[simp] theorem State.destroyLink_frame (p : Facet) (s : State) (t : Nat) (n : Option Nat)
    (hp : p ∉ ([.keys] : List Facet)) :
    p.of (State.destroyLink s t n) = p.of s := by
  simp at hp
  generalize ht : State.destroyLink s t n = t'
  unfold State.destroyLink at ht
  try dsimp only at ht
  repeat' (first
    | (subst ht; simp [hp]; done)
    | split at ht)

@[simp] theorem State.transceive_frame (p : Facet) (s : State) (t l op : Nat) (psdu : Octets)
    (hp : p ∉ ([.out] : List Facet)) :
    p.of (State.transceive s t l op psdu) = p.of s := by
  simp at hp
  simp [hp, State.transceive]

@[simp] theorem State.resetTransceiver_frame (p : Facet) (s : State) (t l : Nat)
    (hp : p ∉ ([.out, .radio] : List Facet)) :
    p.of (State.resetTransceiver s t l) = p.of s := by
  simp at hp
  simp [hp, State.resetTransceiver]

@[simp] theorem State.tune_frame (p : Facet) (s : State) (t l : Nat)
    (hp : p ∉ ([.out, .radio] : List Facet)) :
    p.of (State.tune s t l) = p.of s := by
  simp at hp
  simp [hp, State.tune]

@[simp] theorem State.keyLane_frame (p : Facet) (s : State) (t l : Nat)
    (hp : p ∉ ([.mem, .radio, .keys, .dict, .recorder] : List Facet)) :
    p.of (State.keyLane s t l) = p.of s := by
  simp at hp
  generalize ht : State.keyLane s t l = t'
  unfold State.keyLane at ht
  try dsimp only at ht
  repeat' (first
    | (subst ht; simp [hp]; done)
    | split at ht)

@[simp] theorem State.startRadio_frame (p : Facet) (s : State) (t l : Nat)
    (hp : p ∉ ([.out, .mem, .place, .radio, .keys, .dict, .recorder] : List Facet)) :
    p.of (State.startRadio s t l) = p.of s := by
  simp at hp
  simp [hp, State.startRadio]

@[simp] theorem State.stopRadio_frame (p : Facet) (s : State) (t l : Nat)
    (hp : p ∉ ([.place, .radio, .dict, .recorder] : List Facet)) :
    p.of (State.stopRadio s t l) = p.of s := by
  simp at hp
  simp [hp, State.stopRadio]

@[simp] theorem State.skipChannel_frame (p : Facet) (s : State) (t l n i : Nat)
    (hp : p ∉ ([.fabric, .recorder] : List Facet)) :
    p.of (State.skipChannel s t l n i) = p.of s := by
  simp at hp
  simp [hp, State.skipChannel]

@[simp] theorem State.skipChannels_frame (p : Facet) (s : State) (t l n pick : Nat)
    (hp : p ∉ ([.fabric, .recorder] : List Facet)) :
    p.of (State.skipChannels s t l n pick) = p.of s := by
  simp at hp
  simp [hp, State.skipChannels]

@[simp] theorem State.takeChannel_frame (p : Facet) (s : State) (t l n pick : Nat)
    (hp : p ∉ ([.radio] : List Facet)) :
    p.of (State.takeChannel s t l n pick) = p.of s := by
  simp at hp
  simp [hp, State.takeChannel]

@[simp] theorem State.fixChannel_frame (p : Facet) (s : State) (t l n : Nat)
    (hp : p ∉ ([.out, .fabric, .radio, .pair, .recorder] : List Facet)) :
    p.of (State.fixChannel s t l n) = p.of s := by
  simp at hp
  simp [hp, State.fixChannel]

@[simp] theorem State.txOn_frame (p : Facet) (s : State) (t l : Nat) (on : Bool) (at_ : Nat)
    (hp : p ∉ ([.out] : List Facet)) :
    p.of (State.txOn s t l on at_) = p.of s := by
  simp at hp
  simp [hp, State.txOn]

@[simp] theorem State.radioSend_frame (p : Facet) (s : State) (t l kind : Nat) (pending : Bool)
    (level dst start : Nat) (body : Octets)
    (hp : p ∉ ([.out, .radio] : List Facet)) :
    p.of (State.radioSend s t l kind pending level dst start body) = p.of s := by
  simp at hp
  simp [hp, State.radioSend]

@[simp] theorem State.sendJoin_frame (p : Facet) (s : State) (m t l epoch : Nat) (key : Octets) (c : Option Cells)
    (sfn : Nat)
    (hp : p ∉ ([.out, .fabric, .queues, .mem, .meters, .pair, .dict, .recorder] : List Facet)) :
    p.of (State.sendJoin s m t l epoch key c sfn) = p.of s := by
  simp at hp
  generalize ht : State.sendJoin s m t l epoch key c sfn = t'
  unfold State.sendJoin at ht
  try dsimp only at ht
  repeat' (first
    | (subst ht; simp [hp]; done)
    | (subst ht; obtain ⟨_, rfl⟩ := Prod.ext_iff.mp ‹_ = (_, _)›; simp [hp]; done)
    | split at ht)

@[simp] theorem State.sendNewKey_frame (p : Facet) (s : State) (t l n epoch sw : Nat)
    (hp : p ∉ ([.out, .fabric, .queues, .mem, .meters, .pair, .dict, .recorder] : List Facet)) :
    p.of (State.sendNewKey s t l n epoch sw) = p.of s := by
  simp at hp
  simp [hp, State.sendNewKey]

@[simp] theorem State.rollLane_frame (p : Facet) (s : State) (t l epoch : Nat)
    (hp : p ∉ ([.out, .fabric, .queues, .mem, .radio, .meters, .keys, .pair, .dict, .recorder] : List Facet)) :
    p.of (State.rollLane s t l epoch) = p.of s := by
  simp at hp
  generalize ht : State.rollLane s t l epoch = t'
  unfold State.rollLane at ht
  try dsimp only at ht
  repeat' (first
    | (subst ht; simp [hp]; done)
    | split at ht)

@[simp] theorem State.endRoll_frame (p : Facet) (s : State) (sw : Nat)
    (hp : p ∉ ([.radio, .dict, .recorder] : List Facet)) :
    p.of (State.endRoll s sw) = p.of s := by
  simp at hp
  generalize ht : State.endRoll s sw = t'
  unfold State.endRoll at ht
  try dsimp only at ht
  repeat' (first
    | (subst ht; simp [hp]; done)
    | split at ht)

@[simp] theorem State.startRoll_frame (p : Facet) (s : State)
    (hp : p ∉ ([.out, .fabric, .queues, .mem, .radio, .meters, .keys, .pair, .dict, .recorder] : List Facet)) :
    p.of (State.startRoll s) = p.of s := by
  simp at hp
  simp (maxDischargeDepth := 5) [hp, State.startRoll]

@[simp] theorem State.rollAtLimit_frame (p : Facet) (s : State) (t l : Nat)
    (hp : p ∉ ([.out, .fabric, .queues, .mem, .radio, .meters, .keys, .pair, .dict, .recorder] : List Facet)) :
    p.of (State.rollAtLimit s t l) = p.of s := by
  simp at hp
  simp [hp, State.rollAtLimit]

@[simp] theorem linkKeyRoll_frame (p : Facet) (s : State)
    (hp : p ∉ ([.out, .fabric, .queues, .mem, .radio, .meters, .keys, .pair, .dict, .recorder] : List Facet)) :
    p.of (linkKeyRoll s).state = p.of s := by
  simp at hp
  generalize ht : linkKeyRoll s = t'
  unfold linkKeyRoll at ht
  try dsimp only at ht
  repeat' (first
    | (subst ht; simp [hp]; done)
    | split at ht)

@[simp] theorem State.lanternFails_frame (p : Facet) (s : State) (t l : Nat)
    (hp : p ∉ ([.place, .radio, .dict, .recorder] : List Facet)) :
    p.of (State.lanternFails s t l) = p.of s := by
  simp at hp
  simp [hp, State.lanternFails]

@[simp] theorem State.lanternHolds_frame (p : Facet) (s : State) (t l : Nat)
    (hp : p ∉ ([.place, .radio, .dict, .recorder] : List Facet)) :
    p.of (State.lanternHolds s t l) = p.of s := by
  simp at hp
  simp [hp, State.lanternHolds]

@[simp] theorem State.lanternMissed_frame (p : Facet) (s : State) (t l n reason : Nat)
    (hp : p ∉ ([.fabric, .place, .radio, .dict, .recorder] : List Facet)) :
    p.of (State.lanternMissed s t l n reason) = p.of s := by
  simp at hp
  simp [hp, State.lanternMissed]

@[simp] theorem State.lanternDone_frame (p : Facet) (s : State) (t l : Nat)
    (hp : p ∉ ([.place, .radio, .dict, .recorder] : List Facet)) :
    p.of (State.lanternDone s t l) = p.of s := by
  simp at hp
  simp [hp, State.lanternDone]

@[simp] theorem State.openSuperframe_frame (p : Facet) (s : State) (t l n start : Nat)
    (hp : p ∉ ([.out, .fabric, .radio, .pair, .recorder] : List Facet)) :
    p.of (State.openSuperframe s t l n start) = p.of s := by
  simp at hp
  simp [hp, State.openSuperframe]

@[simp] theorem State.radioKat_frame (p : Facet) (s : State) (t l n : Nat)
    (hp : p ∉ ([.keys] : List Facet)) :
    p.of (State.radioKat s t l n) = p.of s := by
  simp at hp
  simp [hp, State.radioKat]

@[simp] theorem State.lantern_frame (p : Facet) (s : State) (t l n : Nat)
    (hp : p ∉ ([.out, .fabric, .queues, .mem, .place, .radio, .meters, .keys, .pair, .dict, .recorder] : List Facet)) :
    p.of (State.lantern s t l n) = p.of s := by
  simp at hp
  simp [hp, State.lantern]

@[simp] theorem State.abandonSuperframe_frame (p : Facet) (s : State) (t l : Nat)
    (hp : p ∉ ([.fabric, .place, .radio, .dict, .recorder] : List Facet)) :
    p.of (State.abandonSuperframe s t l) = p.of s := by
  simp at hp
  generalize ht : State.abandonSuperframe s t l = t'
  unfold State.abandonSuperframe at ht
  try dsimp only at ht
  repeat' (first
    | (subst ht; simp [hp]; done)
    | split at ht)

@[simp] theorem State.stepRadio_frame (p : Facet) (s : State)
    (hp : p ∉ ([.fabric, .place, .radio, .dict, .recorder] : List Facet)) :
    p.of (State.stepRadio s) = p.of s := by
  simp at hp
  simp (maxDischargeDepth := 5) [hp, State.stepRadio]

@[simp] theorem State.transceiverFault_frame (p : Facet) (s : State) (t l op : Nat)
    (hp : p ∉ ([.out, .fabric, .place, .radio, .dict, .recorder] : List Facet)) :
    p.of (State.transceiverFault s t l op) = p.of s := by
  simp at hp
  simp [hp, State.transceiverFault]

@[simp] theorem State.holdDownlink_frame (p : Facet) (s : State) (t l : Nat) (d : Downlink)
    (hp : p ∉ ([.radio] : List Facet)) :
    p.of (State.holdDownlink s t l d) = p.of s := by
  simp at hp
  simp [hp, State.holdDownlink]

@[simp] theorem State.fillStore_frame (p : Facet) (s : State) (t l : Nat)
    (hp : p ∉ ([.radio] : List Facet)) :
    p.of (State.fillStore s t l) = p.of s := by
  simp at hp
  simp [hp, State.fillStore]

@[simp] theorem State.reassign_frame (p : Facet) (s : State) (t l m : Nat) (c : Cells)
    (hp : p ∉ ([.out, .radio, .pair, .recorder] : List Facet)) :
    p.of (State.reassign s t l m c) = p.of s := by
  simp at hp
  simp [hp, State.reassign]

@[simp] theorem State.repack_frame (p : Facet) (s : State) (t l : Nat) (extra : Option (Nat × Nat))
    (hp : p ∉ ([.out, .radio, .pair, .recorder] : List Facet)) :
    p.of (State.repack s t l extra) = p.of s := by
  simp at hp
  simp [hp, State.repack]

@[simp] theorem State.assignCells_frame (p : Facet) (s : State) (t l m : Nat)
    (hp : p ∉ ([.out, .fabric, .radio, .pair, .recorder] : List Facet)) :
    p.of (State.assignCells s t l m) = p.of s := by
  simp at hp
  generalize ht : State.assignCells s t l m = t'
  unfold State.assignCells at ht
  try dsimp only at ht
  repeat' (first
    | (subst ht; simp [hp]; done)
    | split at ht)

@[simp] theorem State.freeCells_frame (p : Facet) (s : State) (t l m : Nat)
    (hp : p ∉ ([.radio] : List Facet)) :
    p.of (State.freeCells s t l m) = p.of s := by
  simp at hp
  generalize ht : State.freeCells s t l m = t'
  unfold State.freeCells at ht
  try dsimp only at ht
  repeat' (first
    | (subst ht; simp [hp]; done)
    | split at ht)

@[simp] theorem State.sendJoins_frame (p : Facet) (s : State) (tile lane meter : Nat)
    (hp : p ∉ ([.out, .fabric, .queues, .mem, .meters, .pair, .dict, .recorder] : List Facet)) :
    p.of (State.sendJoins s tile lane meter) = p.of s := by
  simp at hp
  generalize ht : State.sendJoins s tile lane meter = t'
  unfold State.sendJoins at ht
  try dsimp only at ht
  repeat' (first
    | (subst ht; simp [hp]; done)
    | split at ht)

@[simp] theorem State.associate_frame (p : Facet) (s : State) (tile lane meter : Nat)
    (hp : p ∉ ([.out, .fabric, .queues, .mem, .radio, .meters, .pair, .dict, .recorder] : List Facet)) :
    p.of (State.associate s tile lane meter) = p.of s := by
  simp at hp
  simp [hp, State.associate]

@[simp] theorem State.radioJoin_frame (p : Facet) (s : State) (tile lane meter : Nat)
    (hp : p ∉ ([.out, .fabric, .queues, .mem, .radio, .meters, .pair, .dict, .recorder] : List Facet)) :
    p.of (State.radioJoin s tile lane meter) = p.of s := by
  simp at hp
  generalize ht : State.radioJoin s tile lane meter = t'
  unfold State.radioJoin at ht
  try dsimp only at ht
  repeat' (first
    | (subst ht; simp [hp]; done)
    | split at ht)

@[simp] theorem State.lanternHeard_frame (p : Facet) (s : State) (t l : Nat) (body : Octets)
    (hp : p ∉ ([.pair, .dict, .recorder] : List Facet)) :
    p.of (State.lanternHeard s t l body) = p.of s := by
  simp at hp
  simp [hp, State.lanternHeard]

@[simp] theorem State.queueRadio_frame (p : Facet) (s : State) (t l sfd : Nat) (body : Octets)
    (hp : p ∉ ([.fabric, .queues, .mem, .dict, .recorder] : List Facet)) :
    p.of (State.queueRadio s t l sfd body) = p.of s := by
  simp at hp
  simp [hp, State.queueRadio]

@[simp] theorem State.takeRadio_frame (p : Facet) (s0 : State) (t l m kind sfd : Nat) (f body : Octets)
    (hp : p ∉ ([.heat, .fabric, .queues, .mem, .radio, .dict, .recorder] : List Facet)) :
    p.of (State.takeRadio s0 t l m kind sfd f body) = p.of s0 := by
  simp at hp
  simp [hp, State.takeRadio]

end Sys2Proof.Machine
end

