-- ==== Sys2Proof/Laws/Frame/Traffic.lean ====
section
/-! SUPPORT. What the operations of Machine/Traffic.lean leave unchanged: the parts of the state outside each one's footprint. -/

namespace Sys2Proof.Machine

@[simp] theorem State.lateWrite_frame (p : Facet) (s : State) (tile : Nat)
    (hp : p ∉ ([.recorder] : List Facet)) :
    p.of (State.lateWrite s tile) = p.of s := by
  simp at hp
  simp [hp, State.lateWrite]

@[simp] theorem State.writeWord_frame (p : Facet) (s : State) (tile q word tag : Nat)
    (hp : p ∉ ([.fabric, .queues, .mem, .dict, .recorder] : List Facet)) :
    p.of (State.writeWord s tile q word tag) = p.of s := by
  simp at hp
  simp [hp, State.writeWord]

@[simp] theorem State.writeAccess_frame (fct : Facet) (s : State) (tile q : Nat) (p : Producer)
    (hp : fct ∉ ([.recorder] : List Facet)) :
    fct.of (State.writeAccess s tile q p).2 = fct.of s := by
  simp at hp
  generalize ht : State.writeAccess s tile q p = t'
  unfold State.writeAccess at ht
  try dsimp only at ht
  repeat' (first
    | (subst ht; simp [hp]; done)
    | split at ht)

@[simp] theorem State.setRoute_frame (p : Facet) (s : State) (tile m : Nat) (r : Route)
    (hp : p ∉ ([.place] : List Facet)) :
    p.of (State.setRoute s tile m r) = p.of s := by
  simp at hp
  simp [hp, State.setRoute]

@[simp] theorem State.installRoute_frame (p : Facet) (s : State) (tile m : Nat) (r : Route)
    (hp : p ∉ ([.fabric, .place, .recorder] : List Facet)) :
    p.of (State.installRoute s tile m r) = p.of s := by
  simp at hp
  generalize ht : State.installRoute s tile m r = t'
  unfold State.installRoute at ht
  try dsimp only at ht
  repeat' (first
    | (subst ht; simp [hp]; done)
    | split at ht)

@[simp] theorem State.routeFrame_frame (fct : Facet) (s : State) (tile home group : Nat) (pk : List (Word × Byte))
    (p : Producer) (replayed : Bool)
    (hp : fct ∉ ([.heat, .fabric, .queues, .mem, .dict, .recorder] : List Facet)) :
    fct.of (State.routeFrame s tile home group pk p replayed).2 = fct.of s := by
  simp at hp
  generalize ht : State.routeFrame s tile home group pk p replayed = t'
  unfold State.routeFrame at ht
  try dsimp only at ht
  repeat' (first
    | (subst ht; simp [hp]; done)
    | split at ht)

@[simp] theorem State.forwarded_frame (p : Facet) (s : State) (tile q : Nat) (moved : Bool)
    (hp : p ∉ ([.freeCount, .fabric, .queues, .pair, .dict, .recorder] : List Facet)) :
    p.of (State.forwarded s tile q moved) = p.of s := by
  simp at hp
  simp [hp, State.forwarded]

@[simp] theorem State.retryLater_frame (p : Facet) (s : State) (tile q : Nat)
    (hp : p ∉ ([.queues] : List Facet)) :
    p.of (State.retryLater s tile q) = p.of s := by
  simp at hp
  simp [hp, State.retryLater]

@[simp] theorem moveOr_frame (p : Facet) (r : Bool × State) (tile q : Nat) (hp : p ∉ ([.freeCount, .fabric, .queues, .pair, .dict, .recorder] : List Facet)) :
    p.of (moveOr r tile q) = p.of r.2 := by
  simp at hp
  simp [hp, moveOr]

@[simp] theorem State.holdInQueue_frame (p : Facet) (s : State) (tile tag : Nat) (pk : List (Word × Byte))
    (hp : p ∉ ([.fabric, .queues, .mem, .dict, .recorder] : List Facet)) :
    p.of (State.holdInQueue s tile tag pk).2 = p.of s := by
  simp at hp
  generalize ht : State.holdInQueue s tile tag pk = t'
  unfold State.holdInQueue at ht
  try dsimp only at ht
  repeat' (first
    | (subst ht; simp [hp]; done)
    | split at ht)

@[simp] theorem State.forwardFrame_frame (p : Facet) (s : State) (tile q : Nat) (pk : List (Word × Byte))
    (hp : p ∉ ([.freeCount, .heat, .fabric, .queues, .mem, .place, .pair, .dict, .recorder] : List Facet)) :
    p.of (State.forwardFrame s tile q pk) = p.of s := by
  simp at hp
  generalize ht : State.forwardFrame s tile q pk = t'
  unfold State.forwardFrame at ht
  try dsimp only at ht
  repeat' (first
    | (subst ht; simp [hp]; done)
    | split at ht)

@[simp] theorem State.dropEmission_frame (p : Facet) (s : State) (pk : List (Word × Byte))
    (hp : p ∉ ([.out, .fabric, .queues, .mem, .meters, .billing, .pair, .dict, .recorder] : List Facet)) :
    p.of (State.dropEmission s pk) = p.of s := by
  simp at hp
  generalize ht : State.dropEmission s pk = t'
  unfold State.dropEmission at ht
  try dsimp only at ht
  repeat' (first
    | (subst ht; simp [hp]; done)
    | (subst ht; obtain ⟨_, rfl⟩ := Prod.ext_iff.mp ‹_ = (_, _)›; simp [hp]; done)
    | split at ht)

@[simp] theorem State.forwardEmission_frame (p : Facet) (s : State) (tile q : Nat) (pk : List (Word × Byte))
    (hp : p ∉ ([.out, .freeCount, .fabric, .queues, .mem, .meters, .billing, .pair, .dict, .recorder] : List Facet)) :
    p.of (State.forwardEmission s tile q pk) = p.of s := by
  simp at hp
  simp [hp, State.forwardEmission]

@[simp] theorem State.relayFrame_frame (p : Facet) (s : State) (tile q : Nat) (pk : List (Word × Byte))
    (hp : p ∉ ([.freeCount, .fabric, .queues, .tunnel, .pair, .dict, .recorder] : List Facet)) :
    p.of (State.relayFrame s tile q pk) = p.of s := by
  simp at hp
  simp [hp, State.relayFrame]

@[simp] theorem State.forwardHead_frame (p : Facet) (s : State) (tile q : Nat)
    (hp : p ∉ ([.out, .freeCount, .heat, .fabric, .queues, .mem, .place, .meters, .tunnel, .billing, .pair, .dict,
      .recorder] : List Facet)) :
    p.of (State.forwardHead s tile q) = p.of s := by
  simp at hp
  generalize ht : State.forwardHead s tile q = t'
  unfold State.forwardHead at ht
  try dsimp only at ht
  repeat' (first
    | (subst ht; simp [hp]; done)
    | (subst ht; obtain ⟨_, rfl⟩ := Prod.ext_iff.mp ‹_ = (_, _)›; simp [hp]; done)
    | split at ht)

@[simp] theorem State.forwardInOrder_frame (p : Facet) (s : State) (tile : Nat)
    (hp : p ∉ ([.out, .freeCount, .heat, .fabric, .queues, .mem, .place, .meters, .tunnel, .billing, .pair, .dict,
      .recorder] : List Facet)) :
    p.of (State.forwardInOrder s tile) = p.of s := by
  simp at hp
  simp [hp, State.forwardInOrder]

@[simp] theorem State.setLink_frame (p : Facet) (s : State) (n : Nat) (x : RingLink)
    (hp : p ∉ ([.heat] : List Facet)) :
    p.of (State.setLink s n x) = p.of s := by
  simp at hp
  simp [hp, State.setLink]

@[simp] theorem State.sendStaged_frame (p : Facet) (s : State) (src dst : Nat) (inbound : Bool)
    (hp : p ∉ ([.freeCount, .heat, .fabric, .queues, .pair, .dict, .recorder] : List Facet)) :
    p.of (State.sendStaged s src dst inbound) = p.of s := by
  simp at hp
  generalize ht : State.sendStaged s src dst inbound = t'
  unfold State.sendStaged at ht
  try dsimp only at ht
  repeat' (first
    | (subst ht; simp [hp]; done)
    | (subst ht; obtain ⟨_, rfl⟩ := Prod.ext_iff.mp ‹_ = (_, _)›; simp [hp]; done)
    | split at ht)

@[simp] theorem State.releaseSent_frame (p : Facet) (s : State) (src q : Nat)
    (hp : p ∉ ([.heat, .fabric, .queues, .recorder] : List Facet)) :
    p.of (State.releaseSent s src q) = p.of s := by
  simp at hp
  simp [hp, State.releaseSent]

@[simp] theorem State.ringArrives_frame (p : Facet) (s : State) (x : Transfer)
    (hp : p ∉ ([.out, .fabric, .queues, .mem, .meters, .billing, .pair, .dict, .recorder] : List Facet)) :
    p.of (State.ringArrives s x) = p.of s := by
  simp at hp
  simp [hp, State.ringArrives]

@[simp] theorem State.unsend_frame (p : Facet) (s : State) (x : Transfer)
    (hp : p ∉ ([.queues] : List Facet)) :
    p.of (State.unsend s x) = p.of s := by
  simp at hp
  simp [hp, State.unsend]

@[simp] theorem State.cutTransfers_frame (p : Facet) (s : State) (n : Nat)
    (hp : p ∉ ([.heat, .queues] : List Facet)) :
    p.of (State.cutTransfers s n) = p.of s := by
  simp at hp
  simp [hp, State.cutTransfers]

@[simp] theorem State.retrainLink_frame (p : Facet) (s : State) (n : Nat)
    (hp : p ∉ ([.heat, .queues, .recorder] : List Facet)) :
    p.of (State.retrainLink s n) = p.of s := by
  simp at hp
  simp [hp, State.retrainLink]

@[simp] theorem State.setMonitor_frame (p : Facet) (s : State) (tile d : Nat) (x : ClockMonitor)
    (hp : p ∉ ([.heat] : List Facet)) :
    p.of (State.setMonitor s tile d x) = p.of s := by
  simp at hp
  simp [hp, State.setMonitor]

@[simp] theorem State.clockFault_frame (p : Facet) (s : State) (tile d : Nat)
    (hp : p ∉ ([.heat, .pair, .recorder] : List Facet)) :
    p.of (State.clockFault s tile d) = p.of s := by
  simp at hp
  simp [hp, State.clockFault]

@[simp] theorem State.measureRefclk_frame (p : Facet) (s : State) (mean : Nat)
    (hp : p ∉ ([.heat] : List Facet)) :
    p.of (State.measureRefclk s mean) = p.of s := by
  simp at hp
  simp [hp, State.measureRefclk]

@[simp] theorem State.clearMonitor_frame (p : Facet) (s : State) (tile d : Nat)
    (hp : p ∉ ([.heat, .recorder] : List Facet)) :
    p.of (State.clearMonitor s tile d) = p.of s := by
  simp at hp
  simp [hp, State.clearMonitor]

@[simp] theorem State.clearRefclk_frame (p : Facet) (s : State)
    (hp : p ∉ ([.heat, .recorder] : List Facet)) :
    p.of (State.clearRefclk s) = p.of s := by
  simp at hp
  simp [hp, State.clearRefclk]

@[simp] theorem State.clockStep_frame (p : Facet) (s : State)
    (hp : p ∉ ([.heat, .recorder] : List Facet)) :
    p.of (State.clockStep s) = p.of s := by
  simp at hp
  simp (maxDischargeDepth := 5) [hp, State.clockStep]

end Sys2Proof.Machine
end

