-- ==== Sys2Proof/Laws/Frame/Placement.lean ====
section
/-! SUPPORT. What the operations of Machine/Placement.lean leave unchanged: the parts of the state outside each one's footprint. -/

namespace Sys2Proof.Machine

@[simp] theorem State.noteLimits_frame (p : Facet) (s : State) (x : Meter)
    (hp : p ∉ ([.fabric, .recorder] : List Facet)) :
    p.of (State.noteLimits s x) = p.of s := by
  simp at hp
  simp [hp, State.noteLimits]

@[simp] theorem State.plan_frame (p : Facet) (s0 : State) (f : Fence)
    (hp : p ∉ ([.out, .place, .pair, .recorder] : List Facet)) :
    p.of (State.plan s0 f) = p.of s0 := by
  simp at hp
  simp [hp, State.plan]

@[simp] theorem State.planLocal_frame (p : Facet) (s : State) (f : Fence)
    (hp : p ∉ ([.place] : List Facet)) :
    p.of (State.planLocal s f) = p.of s := by
  simp at hp
  simp [hp, State.planLocal]

@[simp] theorem State.noteChallenger_frame (p : Facet) (s : State) (x : Meter)
    (hp : p ∉ ([.meters] : List Facet)) :
    p.of (State.noteChallenger s x) = p.of s := by
  simp at hp
  simp [hp, State.noteChallenger]

@[simp] theorem State.unparkPlan_frame (p : Facet) (s : State) (x : Meter)
    (hp : p ∉ ([.place] : List Facet)) :
    p.of (State.unparkPlan s x) = p.of s := by
  simp at hp
  generalize ht : State.unparkPlan s x = t'
  unfold State.unparkPlan at ht
  try dsimp only at ht
  repeat' (first
    | (subst ht; simp [hp]; done)
    | split at ht)

@[simp] theorem State.decideParked_frame (p : Facet) (s : State) (x : Meter)
    (hp : p ∉ ([.out, .fabric, .place, .pair, .recorder] : List Facet)) :
    p.of (State.decideParked s x) = p.of s := by
  simp at hp
  generalize ht : State.decideParked s x = t'
  unfold State.decideParked at ht
  try dsimp only at ht
  repeat' (first
    | (subst ht; simp [hp]; done)
    | (subst ht; obtain ⟨_, rfl⟩ := Prod.ext_iff.mp ‹_ = (_, _)›; simp [hp]; done)
    | split at ht)

@[simp] theorem State.decideMeter_frame (p : Facet) (s : State) (m : Nat)
    (hp : p ∉ ([.out, .fabric, .place, .meters, .pair, .recorder] : List Facet)) :
    p.of (State.decideMeter s m) = p.of s := by
  simp at hp
  generalize ht : State.decideMeter s m = t'
  unfold State.decideMeter at ht
  try dsimp only at ht
  repeat' (first
    | (subst ht; simp [hp]; done)
    | split at ht)

@[simp] theorem State.startRehoming_frame (p : Facet) (s : State)
    (hp : p ∉ ([.place] : List Facet)) :
    p.of (State.startRehoming s) = p.of s := by
  simp at hp
  simp [hp, State.startRehoming]

@[simp] theorem State.passNow_frame (p : Facet) (s : State)
    (hp : p ∉ ([.place] : List Facet)) :
    p.of (State.passNow s) = p.of s := by
  simp at hp
  simp [hp, State.passNow]

@[simp] theorem State.placementPass_frame (p : Facet) (s : State)
    (hp : p ∉ ([.out, .fabric, .place, .meters, .pair, .recorder] : List Facet)) :
    p.of (State.placementPass s) = p.of s := by
  simp at hp
  simp [hp, State.placementPass]

@[simp] theorem State.setFence_frame (p : Facet) (s : State) (f : Fence)
    (hp : p ∉ ([.place] : List Facet)) :
    p.of (State.setFence s f) = p.of s := by
  simp at hp
  simp [hp, State.setFence]

@[simp] theorem State.modRoutes_frame (p : Facet) (s : State) (m : Nat) (f : Nat → Route → Route)
    (hp : p ∉ ([.place] : List Facet)) :
    p.of (State.modRoutes s m f) = p.of s := by
  simp at hp
  simp [hp, State.modRoutes]

@[simp] theorem State.openFence_frame (p : Facet) (s : State) (x : Meter) (f : Fence)
    (hp : p ∉ ([.out, .place, .pair, .recorder] : List Facet)) :
    p.of (State.openFence s x f) = p.of s := by
  simp at hp
  simp [hp, State.openFence]

@[simp] theorem State.askSum_frame (p : Facet) (s : State) (x : Meter) (f : Fence)
    (hp : p ∉ ([.fabric, .queues, .mem, .loss, .dict, .recorder] : List Facet)) :
    p.of (State.askSum s x f) = p.of s := by
  simp at hp
  generalize ht : State.askSum s x f = t'
  unfold State.askSum at ht
  try dsimp only at ht
  repeat' (first
    | (subst ht; simp [hp]; done)
    | split at ht)

@[simp] theorem State.journalHomes_frame (p : Facet) (s : State) (x : Meter) (f : Fence)
    (hp : p ∉ ([.billing] : List Facet)) :
    p.of (State.journalHomes s x f) = p.of s := by
  simp at hp
  simp [hp, State.journalHomes]

@[simp] theorem State.announceCommit_frame (p : Facet) (s : State) (m : Nat)
    (hp : p ∉ ([.out, .place, .pair, .recorder] : List Facet)) :
    p.of (State.announceCommit s m) = p.of s := by
  simp at hp
  generalize ht : State.announceCommit s m = t'
  unfold State.announceCommit at ht
  try dsimp only at ht
  repeat' (first
    | (subst ht; simp [hp]; done)
    | split at ht)

@[simp] theorem State.copiesDone_frame (p : Facet) (s : State) (m : Nat)
    (hp : p ∉ ([.out, .place, .pair, .recorder] : List Facet)) :
    p.of (State.copiesDone s m) = p.of s := by
  simp at hp
  generalize ht : State.copiesDone s m = t'
  unfold State.copiesDone at ht
  try dsimp only at ht
  repeat' (first
    | (subst ht; simp [hp]; done)
    | split at ht)

@[simp] theorem State.peerCopied_frame (p : Facet) (s : State) (m : Nat)
    (hp : p ∉ ([.out, .place, .pair, .recorder] : List Facet)) :
    p.of (State.peerCopied s m) = p.of s := by
  simp at hp
  generalize ht : State.peerCopied s m = t'
  unfold State.peerCopied at ht
  try dsimp only at ht
  repeat' (first
    | (subst ht; simp [hp]; done)
    | split at ht)

@[simp] theorem State.takeHeld_frame (p : Facet) (s : State) (tile : Nat)
    (hp : p ∉ ([.freeCount, .fabric, .queues, .pair, .dict, .recorder] : List Facet)) :
    p.of (State.takeHeld s tile) = p.of s := by
  simp at hp
  simp [hp, State.takeHeld]

@[simp] theorem State.holdAgain_frame (p : Facet) (s : State) (tile tag : Nat) (pk : List (Word × Byte))
    (hp : p ∉ ([.fabric, .queues, .mem, .dict, .recorder] : List Facet)) :
    p.of (State.holdAgain s tile tag pk) = p.of s := by
  simp at hp
  simp [hp, State.holdAgain]

@[simp] theorem State.replayOne_frame (p : Facet) (a : Bool × State) (tile : Nat) (e : List (Word × Byte) × Nat)
    (target : Option (Nat × Nat)) (hp : p ∉ ([.freeCount, .heat, .fabric, .queues, .mem, .pair, .dict, .recorder] : List Facet)) :
    p.of (State.replayOne a tile e target).2 = p.of a.2 := by
  simp at hp
  unfold State.replayOne
  dsimp only
  split
  · simp [hp]
  · split <;> simp [hp]

@[simp] theorem State.replayPass_frame (p : Facet) (s : State) (tile : Nat)
    (target : List (Word × Byte) × Nat → Option (Nat × Nat)) (hp : p ∉ ([.freeCount, .heat, .fabric, .queues, .mem, .pair, .dict, .recorder] : List Facet)) :
    p.of (State.replayPass s tile target) = p.of s := by
  simp at hp
  unfold State.replayPass
  dsimp only
  split
  · exact foldl_snd_facet p _ _ (fun a x t ht => by subst ht; simp [hp]) _
  · rfl

@[simp] theorem State.replayTile_frame (p : Facet) (s : State) (m tag home group tile : Nat)
    (hp : p ∉ ([.freeCount, .heat, .fabric, .queues, .mem, .pair, .dict, .recorder] : List Facet)) :
    p.of (State.replayTile s m tag home group tile) = p.of s := by
  simp at hp
  simp [hp, State.replayTile]

@[simp] theorem State.replayHeld_frame (p : Facet) (s : State) (m tag home group : Nat)
    (hp : p ∉ ([.freeCount, .heat, .fabric, .queues, .mem, .pair, .dict, .recorder] : List Facet)) :
    p.of (State.replayHeld s m tag home group) = p.of s := by
  simp at hp
  simp [hp, State.replayHeld]

@[simp] theorem State.replayLeft_frame (p : Facet) (s : State) (tile : Nat)
    (hp : p ∉ ([.freeCount, .heat, .fabric, .queues, .mem, .pair, .dict, .recorder] : List Facet)) :
    p.of (State.replayLeft s tile) = p.of s := by
  simp at hp
  simp [hp, State.replayLeft]

@[simp] theorem State.replayEnded_frame (p : Facet) (s : State) (tile : Nat)
    (hp : p ∉ ([.queues] : List Facet)) :
    p.of (State.replayEnded s tile) = p.of s := by
  simp at hp
  simp [hp, State.replayEnded]

@[simp] theorem State.servedBits_frame (p : Facet) (s : State) (m : Nat) (path : Option (Nat × Nat × Nat))
    (hp : p ∉ ([.place] : List Facet)) :
    p.of (State.servedBits s m path) = p.of s := by
  simp at hp
  simp [hp, State.servedBits]

@[simp] theorem State.moveCells_frame (p : Facet) (s : State) (x : Meter) (path : Option (Nat × Nat × Nat))
    (hp : p ∉ ([.out, .fabric, .radio, .pair, .recorder] : List Facet)) :
    p.of (State.moveCells s x path) = p.of s := by
  simp at hp
  generalize ht : State.moveCells s x path = t'
  unfold State.moveCells at ht
  try dsimp only at ht
  repeat' (first
    | (subst ht; simp [hp]; done)
    | split at ht)

@[simp] theorem State.countRehomed_frame (p : Facet) (s : State) (port : Nat) (served : Bool)
    (hp : p ∉ ([.place, .recorder] : List Facet)) :
    p.of (State.countRehomed s port served) = p.of s := by
  simp at hp
  generalize ht : State.countRehomed s port served = t'
  unfold State.countRehomed at ht
  try dsimp only at ht
  repeat' (first
    | (subst ht; simp [hp]; done)
    | split at ht)

@[simp] theorem State.withdrawQueued_frame (p : Facet) (s : State) (m : Nat)
    (hp : p ∉ ([.out, .fabric, .queues, .mem, .meters, .billing, .pair, .dict, .recorder] : List Facet)) :
    p.of (State.withdrawQueued s m) = p.of s := by
  simp at hp
  simp [hp, State.withdrawQueued]

@[simp] theorem State.leaveChannel_frame (p : Facet) (s : State) (x : Meter) (path : Option (Nat × Nat × Nat))
    (hp : p ∉ ([.out, .fabric, .line, .pair, .recorder] : List Facet)) :
    p.of (State.leaveChannel s x path) = p.of s := by
  simp at hp
  generalize ht : State.leaveChannel s x path = t'
  unfold State.leaveChannel at ht
  try dsimp only at ht
  repeat' (first
    | (subst ht; simp [hp]; done)
    | split at ht)

@[simp] theorem State.freeTierSlots_frame (p : Facet) (s : State) (m home tier : Nat)
    (hp : p ∉ ([.store] : List Facet)) :
    p.of (State.freeTierSlots s m home tier) = p.of s := by
  simp at hp
  simp [hp, State.freeTierSlots]

@[simp] theorem State.writePath_frame (p : Facet) (s : State) (x : Meter) (f : Fence)
    (hp : p ∉ ([.out, .fabric, .queues, .mem, .place, .line, .radio, .meters, .billing, .store, .pair, .dict,
      .recorder] : List Facet)) :
    p.of (State.writePath s x f) = p.of s := by
  simp at hp
  simp [hp, State.writePath]

@[simp] theorem State.countCommit_frame (p : Facet) (s : State) (f : Fence)
    (hp : p ∉ ([.place, .dict] : List Facet)) :
    p.of (State.countCommit s f) = p.of s := by
  simp at hp
  simp [hp, State.countCommit]

@[simp] theorem State.dropFence_frame (p : Facet) (s : State) (m : Nat)
    (hp : p ∉ ([.place] : List Facet)) :
    p.of (State.dropFence s m) = p.of s := by
  simp at hp
  simp [hp, State.dropFence]

@[simp] theorem State.moveRecord_frame (p : Facet) (s : State) (x : Meter) (f : Fence)
    (hp : p ∉ ([.out, .fabric, .queues, .mem, .meters, .loss, .pair, .dict, .recorder] : List Facet)) :
    p.of (State.moveRecord s x f) = p.of s := by
  simp at hp
  generalize ht : State.moveRecord s x f = t'
  unfold State.moveRecord at ht
  try dsimp only at ht
  repeat' (first
    | (subst ht; simp [hp]; done)
    | split at ht)

@[simp] theorem State.commitMove_frame (p : Facet) (s : State) (x : Meter) (f : Fence)
    (hp : p ∈ ([.fit, .pending, .elapsed, .compiler, .tunnel, .keys, .clock, .boot, .update, .pins, .power, .test] : List Facet)) :
    p.of (State.commitMove s x f) = p.of s := by revert p; simp [State.commitMove]

@[simp] theorem State.abandonMove_frame (p : Facet) (s : State) (x : Meter) (f : Fence) (reason : Nat)
    (hp : p ∉ ([.out, .freeCount, .heat, .fabric, .queues, .mem, .place, .meters, .billing, .pair, .dict, .recorder] : List Facet)) :
    p.of (State.abandonMove s x f reason) = p.of s := by
  simp at hp
  simp [hp, State.abandonMove]

@[simp] theorem State.abandonFence_frame (p : Facet) (s : State) (f : Fence) (reason : Nat)
    (hp : p ∉ ([.out, .freeCount, .heat, .fabric, .queues, .mem, .place, .meters, .billing, .pair, .dict, .recorder] : List Facet)) :
    p.of (State.abandonFence s f reason) = p.of s := by
  simp at hp
  generalize ht : State.abandonFence s f reason = t'
  unfold State.abandonFence at ht
  try dsimp only at ht
  repeat' (first
    | (subst ht; simp [hp]; done)
    | split at ht)

@[simp] theorem State.abandonAll_frame (p : Facet) (s : State) (reason : Nat)
    (hp : p ∉ ([.out, .freeCount, .heat, .fabric, .queues, .mem, .place, .meters, .billing, .pair, .dict, .recorder] : List Facet)) :
    p.of (State.abandonAll s reason) = p.of s := by
  simp at hp
  simp (maxDischargeDepth := 5) [hp, State.abandonAll]

@[simp] theorem State.commitPath_frame (p : Facet) (s : State) (x : Meter) (f : Fence)
    (hp : p ∉ ([.out, .fabric, .queues, .mem, .place, .line, .radio, .meters, .billing, .store, .pair, .dict,
      .recorder] : List Facet)) :
    p.of (State.commitPath s x f) = p.of s := by
  simp at hp
  simp [hp, State.commitPath]

@[simp] theorem State.pathReady_frame (p : Facet) (s : State) (m : Nat)
    (hp : p ∉ ([.out, .place, .pair, .recorder] : List Facet)) :
    p.of (State.pathReady s m) = p.of s := by
  simp at hp
  generalize ht : State.pathReady s m = t'
  unfold State.pathReady at ht
  try dsimp only at ht
  repeat' (first
    | (subst ht; simp [hp]; done)
    | (subst ht; obtain ⟨_, rfl⟩ := Prod.ext_iff.mp ‹_ = (_, _)›; simp [hp]; done)
    | split at ht)

@[simp] theorem State.evacuate_frame (p : Facet) (s : State) (m : Nat)
    (hp : p ∈ ([.fit, .pending, .elapsed, .compiler, .tunnel, .keys, .clock, .boot, .update, .pins, .power, .test] : List Facet)) :
    p.of (State.evacuate s m) = p.of s := by
  generalize ht : State.evacuate s m = t'
  unfold State.evacuate at ht
  try dsimp only at ht
  repeat' (first
    | (subst ht; revert p; simp; done)
    | split at ht)

@[simp] theorem State.replayPacket_frame (p : Facet) (s : State) (tile pipe : Nat) (pk : List (Word × Byte))
    (hp : p ∉ ([.freeCount, .heat, .fabric, .queues, .mem, .pair, .dict, .recorder] : List Facet)) :
    p.of (State.replayPacket s tile pipe pk).2 = p.of s := by
  simp at hp
  generalize ht : State.replayPacket s tile pipe pk = t'
  unfold State.replayPacket at ht
  try dsimp only at ht
  repeat' (first
    | (subst ht; simp [hp]; done)
    | split at ht)

@[simp] theorem State.replayInbound_frame (p : Facet) (s : State) (tile pipe : Nat)
    (hp : p ∉ ([.freeCount, .heat, .fabric, .queues, .mem, .pair, .dict, .recorder] : List Facet)) :
    p.of (State.replayInbound s tile pipe) = p.of s := by
  simp at hp
  simp [hp, State.replayInbound]

@[simp] theorem State.withdrawPacket_frame (p : Facet) (s : State) (pk : List (Word × Byte))
    (hp : p ∉ ([.out, .fabric, .queues, .mem, .meters, .billing, .pair, .dict, .recorder] : List Facet)) :
    p.of (State.withdrawPacket s pk) = p.of s := by
  simp at hp
  generalize ht : State.withdrawPacket s pk = t'
  unfold State.withdrawPacket at ht
  try dsimp only at ht
  repeat' (first
    | (subst ht; simp [hp]; done)
    | split at ht)

@[simp] theorem State.moveRequest_frame (p : Facet) (s : State) (tile pipe k : Nat) (pk : List (Word × Byte))
    (hp : p ∉ ([.freeCount, .fabric, .queues, .mem, .meters, .pair, .dict, .recorder] : List Facet)) :
    p.of (State.moveRequest s tile pipe k pk).2 = p.of s := by
  simp at hp
  generalize ht : State.moveRequest s tile pipe k pk = t'
  unfold State.moveRequest at ht
  try dsimp only at ht
  repeat' (first
    | (subst ht; simp [hp]; done)
    | (subst ht; obtain ⟨_, rfl⟩ := Prod.ext_iff.mp ‹_ = (_, _)›; simp [hp]; done)
    | split at ht)

@[simp] theorem State.moveKindRequests_frame (p : Facet) (s : State) (tile pipe k : Nat)
    (hp : p ∉ ([.freeCount, .fabric, .queues, .mem, .meters, .pair, .dict, .recorder] : List Facet)) :
    p.of (State.moveKindRequests s tile pipe k) = p.of s := by
  simp at hp
  simp [hp, State.moveKindRequests]

@[simp] theorem State.moveSwap_frame (p : Facet) (s : State) (v : Nat)
    (hp : p ∉ ([.loss] : List Facet)) :
    p.of (State.moveSwap s v) = p.of s := by
  simp at hp
  generalize ht : State.moveSwap s v = t'
  unfold State.moveSwap at ht
  try dsimp only at ht
  repeat' (first
    | (subst ht; simp [hp]; done)
    | (subst ht; obtain ⟨_, rfl⟩ := Prod.ext_iff.mp ‹_ = (_, _)›; simp [hp]; done)
    | split at ht)

@[simp] theorem State.moveSnapshot_frame (p : Facet) (s : State) (tile : Nat) (pk : List (Word × Byte))
    (hp : p ∉ ([.fabric, .queues, .mem, .loss, .dict, .recorder] : List Facet)) :
    p.of (State.moveSnapshot s tile pk).2 = p.of s := by
  simp at hp
  generalize ht : State.moveSnapshot s tile pk = t'
  unfold State.moveSnapshot at ht
  try dsimp only at ht
  repeat' (first
    | (subst ht; simp [hp]; done)
    | (subst ht; obtain ⟨_, rfl⟩ := Prod.ext_iff.mp ‹_ = (_, _)›; simp [hp]; done)
    | split at ht)

@[simp] theorem State.passSnapshot_frame (p : Facet) (s : State) (tile pipe : Nat) (pk : List (Word × Byte))
    (hp : p ∉ ([.freeCount, .fabric, .queues, .mem, .loss, .pair, .dict, .recorder] : List Facet)) :
    p.of (State.passSnapshot s tile pipe pk).2 = p.of s := by
  simp at hp
  simp [hp, State.passSnapshot]

@[simp] theorem State.moveSnapshots_frame (p : Facet) (s : State) (tile pipe : Nat)
    (hp : p ∉ ([.freeCount, .fabric, .queues, .mem, .loss, .pair, .dict, .recorder] : List Facet)) :
    p.of (State.moveSnapshots s tile pipe) = p.of s := by
  simp at hp
  simp [hp, State.moveSnapshots]

@[simp] theorem State.moveRequests_frame (p : Facet) (s : State) (tile pipe : Nat)
    (hp : p ∉ ([.out, .freeCount, .fabric, .queues, .mem, .meters, .billing, .loss, .pair, .dict, .recorder] : List Facet)) :
    p.of (State.moveRequests s tile pipe) = p.of s := by
  simp at hp
  simp [hp, State.moveRequests]

@[simp] theorem State.evacuateMeters_frame (p : Facet) (s : State) (tile pipe : Nat)
    (hp : p ∈ ([.fit, .pending, .elapsed, .compiler, .tunnel, .keys, .clock, .boot, .update, .pins, .power, .test] : List Facet)) :
    p.of (State.evacuateMeters s tile pipe) = p.of s := by revert p; simp [State.evacuateMeters]

@[simp] theorem State.evacuatePipe_frame (p : Facet) (s : State) (tile pipe : Nat)
    (hp : p ∈ ([.fit, .pending, .elapsed, .compiler, .tunnel, .keys, .clock, .boot, .update, .pins, .power, .test] : List Facet)) :
    p.of (State.evacuatePipe s tile pipe) = p.of s := by revert p; simp [State.evacuatePipe]

@[simp] theorem State.dropUnrouted_frame (p : Facet) (s : State) (tile : Nat)
    (hp : p ∉ ([.freeCount, .fabric, .queues, .pair, .dict, .recorder] : List Facet)) :
    p.of (State.dropUnrouted s tile) = p.of s := by
  simp at hp
  simp [hp, State.dropUnrouted]

end Sys2Proof.Machine
end

