-- ==== Sys2Proof/Laws/Frame/Keys.lean ====
section
/-! SUPPORT. What the operations of Machine/Keys.lean leave unchanged: the parts of the state outside each one's footprint. -/

namespace Sys2Proof.Machine

@[simp] theorem State.useViolation_frame (p : Facet) (s : State) (slot op requester : Nat)
    (hp : p ∉ ([.recorder] : List Facet)) :
    p.of (State.useViolation s slot op requester) = p.of s := by
  simp at hp
  simp [hp, State.useViolation]

@[simp] theorem State.deriveKeys_frame (p : Facet) (s : State)
    (hp : p ∉ ([.mem, .keys, .dict, .recorder] : List Facet)) :
    p.of (State.deriveKeys s) = p.of s := by
  simp at hp
  simp [hp, State.deriveKeys]

@[simp] theorem State.swapKeys_frame (p : Facet) (s : State)
    (hp : p ∉ ([.mem, .keys, .dict, .recorder] : List Facet)) :
    p.of (State.swapKeys s) = p.of s := by
  simp at hp
  simp [hp, State.swapKeys]

@[simp] theorem keyDestroy_frame (p : Facet) (n : Nat) (s : State)
    (hp : p ∉ ([.keys, .recorder] : List Facet)) :
    p.of (keyDestroy n s).state = p.of s := by
  simp at hp
  generalize ht : keyDestroy n s = t'
  unfold keyDestroy at ht
  try dsimp only at ht
  repeat' (first
    | (subst ht; simp [hp]; done)
    | split at ht)

@[simp] theorem State.voidTickets_frame (fct : Facet) (s : State) (p : Ticket → Bool) (reason : Nat)
    (hp : fct ∉ ([.keys, .recorder] : List Facet)) :
    fct.of (State.voidTickets s p reason) = fct.of s := by
  simp at hp
  simp [hp, State.voidTickets]

@[simp] theorem keyExport_frame (p : Facet) (kind wrap target incarnation epoch : Nat) (s : State) (x : Session)
    (hp : p ∉ ([.fabric, .dict, .recorder] : List Facet)) :
    p.of (keyExport kind wrap target incarnation epoch s x).state = p.of s := by
  simp at hp
  generalize ht : keyExport kind wrap target incarnation epoch s x = t'
  unfold keyExport at ht
  try dsimp only at ht
  repeat' (first
    | (subst ht; simp [hp]; done)
    | split at ht)

@[simp] theorem keyImport_frame (p : Facet) (target wrap : Nat) (hdr blob : Octets) (s : State) (x : Session)
    (hp : p ∉ ([.mem, .keys, .dict, .recorder] : List Facet)) :
    p.of (keyImport target wrap hdr blob s x).state = p.of s := by
  simp at hp
  generalize ht : keyImport target wrap hdr blob s x = t'
  unfold keyImport at ht
  try dsimp only at ht
  repeat' (first
    | (subst ht; simp [hp]; done)
    | split at ht)

@[simp] theorem State.partitionDerive_frame (p : Facet) (s : State) (tile parent label : Nat) (context : Octets)
    (type use requester : Nat)
    (hp : p ∉ ([.mem, .keys, .dict, .recorder] : List Facet)) :
    p.of (State.partitionDerive s tile parent label context type use requester).2 = p.of s := by
  simp at hp
  generalize ht : State.partitionDerive s tile parent label context type use requester = t'
  unfold State.partitionDerive at ht
  try dsimp only at ht
  repeat' (first
    | (subst ht; simp [hp]; done)
    | split at ht)

@[simp] theorem State.partitionUse_frame (p : Facet) (s : State) (tile n op requester : Nat)
    (hp : p ∉ ([.recorder] : List Facet)) :
    p.of (State.partitionUse s tile n op requester).2 = p.of s := by
  simp at hp
  generalize ht : State.partitionUse s tile n op requester = t'
  unfold State.partitionUse at ht
  try dsimp only at ht
  repeat' (first
    | (subst ht; simp [hp]; done)
    | split at ht)

@[simp] theorem State.partitionDisable_frame (p : Facet) (s : State)
    (hp : p ∉ ([.keys] : List Facet)) :
    p.of (State.partitionDisable s) = p.of s := by
  simp at hp
  simp [hp, State.partitionDisable]

@[simp] theorem State.generationRaised_frame (p : Facet) (s : State) (sub value : Nat)
    (hp : p ∉ ([.keys, .recorder] : List Facet)) :
    p.of (State.generationRaised s sub value) = p.of s := by
  simp at hp
  simp [hp, State.generationRaised]

@[simp] theorem State.setPend_frame (p : Facet) (s : State) (index sub : Nat) (v : Val)
    (hp : p ∉ ([.dict] : List Facet)) :
    p.of (State.setPend s index sub v) = p.of s := by
  simp at hp
  simp [hp, State.setPend]

@[simp] theorem State.setPendDomain_frame (p : Facet) (s : State) (key : Nat) (image : Octets)
    (hp : p ∉ ([.dict] : List Facet)) :
    p.of (State.setPendDomain s key image) = p.of s := by
  simp at hp
  simp [hp, State.setPendDomain]

@[simp] theorem State.putGeneration_frame (p : Facet) (s : State) (sub value : Nat)
    (hp : p ∉ ([.mem, .keys, .dict, .recorder] : List Facet)) :
    p.of (State.putGeneration s sub value) = p.of s := by
  simp at hp
  simp [hp, State.putGeneration]

@[simp] theorem generationRaise_frame (p : Facet) (sub value : Nat) (s : State)
    (hp : p ∉ ([.mem, .keys, .dict, .recorder] : List Facet)) :
    p.of (generationRaise sub value s).state = p.of s := by
  simp at hp
  generalize ht : generationRaise sub value s = t'
  unfold generationRaise at ht
  try dsimp only at ht
  repeat' (first
    | (subst ht; simp [hp]; done)
    | split at ht)

@[simp] theorem tokenDone_frame (p : Facet) (s : State) (x : Session) (action : Nat) (accepted : Bool) (t : State)
    (ht : p.of t = p.of s) (hp : p ∉ ([.keys, .dict, .recorder] : List Facet)) : p.of (tokenDone s x action accepted t).state = p.of s := by
  simp at hp
  cases accepted <;> simp [hp, ht, tokenDone, Done.ok, Done.refuse]

@[simp] theorem ownerAction_frame (p : Facet) (action : Nat) (params tag : Octets) (allowed : State → Bool)
    (effect : State → State) (s : State) (x : Session) (heffect : ∀ a0 d', d' = effect a0 → p.of d' = p.of a0)
    (hp : p ∉ ([.keys, .dict, .recorder] : List Facet)) :
    p.of (ownerAction action params tag allowed effect s x).state = p.of s := by
  have h'effect := fun a0 => heffect a0 _ rfl
  simp at hp
  simp [*, ownerAction]

@[simp] theorem State.setKat_frame (p : Facet) (s : State) (tile unit_ : Nat) (x : KatState)
    (hp : p ∉ ([.keys, .dict] : List Facet)) :
    p.of (State.setKat s tile unit_ x) = p.of s := by
  simp at hp
  simp [hp, State.setKat]

@[simp] theorem State.passCheck_frame (p : Facet) (s : State) (check : Nat)
    (hp : p ∉ ([.pair] : List Facet)) :
    p.of (State.passCheck s check) = p.of s := by
  simp at hp
  simp [hp, State.passCheck]

@[simp] theorem State.clearKeys_frame (p : Facet) (s : State) (input : Nat)
    (hp : p ∉ ([.heat, .fabric, .keys, .recorder] : List Facet)) :
    p.of (State.clearKeys s input) = p.of s := by
  refine Facet.each ?_ p hp
  simp [State.clearKeys]

end Sys2Proof.Machine
end

