-- ==== Sys2Proof/Laws/Frame/Compiler.lean ====
section
/-! SUPPORT. What the operations of Machine/Compiler.lean leave unchanged: the parts of the state outside each one's footprint. -/

namespace Sys2Proof.Machine

@[simp] theorem State.withInputs_frame (p : Facet) (s : State) (i : Inputs)
    (hp : p ∉ ([.dict] : List Facet)) :
    p.of (State.withInputs s i) = p.of s := by
  simp at hp
  simp [hp, State.withInputs]

@[simp] theorem State.reassigned_frame (p : Facet) (s : State) (off : List Nat)
    (hp : p ∈ ([.fit, .pending, .elapsed, .compiler, .tunnel, .keys, .clock, .boot, .update, .pins, .power, .test] : List Facet)) :
    p.of (State.reassigned s off) = p.of s := by revert p; simp [State.reassigned]

@[simp] theorem State.setRun_frame (p : Facet) (s : State) (b : Option Build)
    (hp : p ∉ ([.compiler, .dict] : List Facet)) :
    p.of (State.setRun s b) = p.of s := by
  simp at hp
  simp [hp, State.setRun]

@[simp] theorem State.buildResult_frame (p : Facet) (s : State) (reason detail started : Nat)
    (hp : p ∉ ([.dict] : List Facet)) :
    p.of (State.buildResult s reason detail started) = p.of s := by
  simp at hp
  simp [hp, State.buildResult]

@[simp] theorem State.startBuild_frame (p : Facet) (s : State) (b : Build)
    (hp : p ∉ ([.compiler, .dict] : List Facet)) :
    p.of (State.startBuild s b) = p.of s := by
  simp at hp
  simp [hp, State.startBuild]

@[simp] theorem State.startWaiting_frame (p : Facet) (s : State)
    (hp : p ∉ ([.compiler, .dict] : List Facet)) :
    p.of (State.startWaiting s) = p.of s := by
  simp at hp
  generalize ht : State.startWaiting s = t'
  unfold State.startWaiting at ht
  try dsimp only at ht
  repeat' (first
    | (subst ht; simp [hp]; done)
    | split at ht)

@[simp] theorem State.endBuild_frame (p : Facet) (s : State) (b : Build)
    (hp : p ∉ ([.compiler, .dict] : List Facet)) :
    p.of (State.endBuild s b) = p.of s := by
  simp at hp
  simp [hp, State.endBuild]

@[simp] theorem State.failBuild_frame (p : Facet) (s : State) (b : Build) (reason detail : Nat)
    (hp : p ∉ ([.out, .compiler, .pair, .dict, .recorder] : List Facet)) :
    p.of (State.failBuild s b reason detail) = p.of s := by
  simp at hp
  simp [hp, State.failBuild]

@[simp] theorem State.supersede_frame (p : Facet) (s : State) (b : Build) (sequence : Nat)
    (hp : p ∉ ([.dict] : List Facet)) :
    p.of (State.supersede s b sequence) = p.of s := by
  simp at hp
  simp [hp, State.supersede]

@[simp] theorem State.acceptCommit_frame (p : Facet) (s : State) (kind : Nat) (mirrored : Octets)
    (hp : p ∉ ([.compiler, .dict] : List Facet)) :
    p.of (State.acceptCommit s kind mirrored) = p.of s := by
  generalize ht : State.acceptCommit s kind mirrored = t'
  unfold State.acceptCommit at ht
  try dsimp only at ht
  repeat' (first
    | (subst ht; refine Facet.each ?_ p hp; simp; done)
    | split at ht)

@[simp] theorem State.sendPending_frame (p : Facet) (s : State) (e : Nat × Val)
    (hp : p ∉ ([.out, .pair, .recorder] : List Facet)) :
    p.of (State.sendPending s e) = p.of s := by
  simp at hp
  generalize ht : State.sendPending s e = t'
  unfold State.sendPending at ht
  try dsimp only at ht
  repeat' (first
    | (subst ht; simp [hp]; done)
    | split at ht)

@[simp] theorem State.mirrorInputs_frame (p : Facet) (s : State) (sequence : Nat)
    (hp : p ∉ ([.out, .pair, .recorder] : List Facet)) :
    p.of (State.mirrorInputs s sequence) = p.of s := by
  simp at hp
  simp [hp, State.mirrorInputs]

@[simp] theorem commitRequest_frame (p : Facet) (kind : Nat) (s : State)
    (hp : p ∉ ([.out, .compiler, .pair, .dict, .recorder] : List Facet)) :
    p.of (commitRequest kind s).state = p.of s := by
  simp at hp
  generalize ht : commitRequest kind s = t'
  unfold commitRequest at ht
  try dsimp only at ht
  repeat' (first
    | (subst ht; simp [hp]; done)
    | split at ht)

@[simp] theorem State.internalBuild_frame (p : Facet) (s : State) (trigger tile : Nat)
    (hp : p ∉ ([.out, .compiler, .pair, .dict, .recorder] : List Facet)) :
    p.of (State.internalBuild s trigger tile) = p.of s := by
  simp at hp
  generalize ht : State.internalBuild s trigger tile = t'
  unfold State.internalBuild at ht
  try dsimp only at ht
  repeat' (first
    | (subst ht; simp [hp]; done)
    | split at ht)

@[simp] theorem State.tryArm_frame (p : Facet) (s : State)
    (hp : p ∉ ([.out, .compiler, .pair, .dict, .recorder] : List Facet)) :
    p.of (State.tryArm s) = p.of s := by
  simp at hp
  generalize ht : State.tryArm s = t'
  unfold State.tryArm at ht
  try dsimp only at ht
  repeat' (first
    | (subst ht; simp [hp]; done)
    | split at ht)

@[simp] theorem State.writeIdleRoots_frame (p : Facet) (s : State) (b : Build)
    (hp : p ∉ ([.fabric, .mem, .keys, .dict, .recorder] : List Facet)) :
    p.of (State.writeIdleRoots s b) = p.of s := by
  simp at hp
  simp [hp, State.writeIdleRoots]

@[simp] theorem State.rekeyLine_frame (p : Facet) (s : State) (k : Nat)
    (hp : p ∉ ([.mem, .keys, .dict, .recorder] : List Facet)) :
    p.of (State.rekeyLine s k) = p.of s := by
  simp at hp
  generalize ht : State.rekeyLine s k = t'
  unfold State.rekeyLine at ht
  try dsimp only at ht
  repeat' (first
    | (subst ht; simp [hp]; done)
    | split at ht)

@[simp] theorem State.rekeyLink_frame (p : Facet) (s : State) (k : Nat)
    (hp : p ∉ ([.mem, .keys, .dict, .recorder] : List Facet)) :
    p.of (State.rekeyLink s k) = p.of s := by
  simp at hp
  generalize ht : State.rekeyLink s k = t'
  unfold State.rekeyLink at ht
  try dsimp only at ht
  repeat' (first
    | (subst ht; simp [hp]; done)
    | split at ht)

@[simp] theorem State.rekeyRadio_frame (p : Facet) (s : State) (k : Nat)
    (hp : p ∉ ([.mem, .keys, .dict, .recorder] : List Facet)) :
    p.of (State.rekeyRadio s k) = p.of s := by
  simp at hp
  generalize ht : State.rekeyRadio s k = t'
  unfold State.rekeyRadio at ht
  try dsimp only at ht
  repeat' (first
    | (subst ht; simp [hp]; done)
    | split at ht)

@[simp] theorem State.rekeyLanes_frame (p : Facet) (s : State)
    (hp : p ∉ ([.mem, .keys, .dict, .recorder] : List Facet)) :
    p.of (State.rekeyLanes s) = p.of s := by
  simp at hp
  simp [hp, State.rekeyLanes]

@[simp] theorem State.laneChanges_frame (p : Facet) (s old : State)
    (hp : p ∉ ([.out, .fabric, .mem, .place, .line, .radio, .keys, .dict, .recorder] : List Facet)) :
    p.of (State.laneChanges s old) = p.of s := by
  refine Facet.each ?_ p hp
  simp [State.laneChanges]

@[simp] theorem State.feederChanges_frame (p : Facet) (s : State) (old : Octets)
    (hp : p ∉ ([.out, .fabric, .queues, .mem, .meters, .loss, .pair, .dict, .recorder] : List Facet)) :
    p.of (State.feederChanges s old) = p.of s := by
  simp at hp
  simp [hp, State.feederChanges]

@[simp] theorem State.applyBankPlan_frame (p : Facet) (s : State)
    (hp : p ∉ ([.freeCount, .fabric, .queues, .mem, .meters, .loss, .keys, .test] : List Facet)) :
    p.of (State.applyBankPlan s) = p.of s := by
  simp at hp
  generalize ht : State.applyBankPlan s = t'
  unfold State.applyBankPlan at ht
  try dsimp only at ht
  repeat' (first
    | (subst ht; simp (maxDischargeDepth := 5) [hp]; done)
    | split at ht)

@[simp] theorem State.claimObjects_frame (p : Facet) (s : State)
    (hp : p ∉ ([.dict] : List Facet)) :
    p.of (State.claimObjects s) = p.of s := by
  simp at hp
  simp [hp, State.claimObjects]

@[simp] theorem State.generationsRaised_frame (p : Facet) (s old : State)
    (hp : p ∉ ([.keys, .recorder] : List Facet)) :
    p.of (State.generationsRaised s old) = p.of s := by
  simp at hp
  simp [hp, State.generationsRaised]

@[simp] theorem State.putSheet_frame (p : Facet) (s : State) (x : Sheet) (i : Inputs) (hostCommit idle : Bool)
    (hp : p ∈ ([.fit, .pending, .elapsed, .tunnel, .clock, .boot, .update, .pins, .power, .test] : List Facet)) :
    p.of (State.putSheet s x i hostCommit idle) = p.of s := by revert p; simp [State.putSheet]

@[simp] theorem State.swapSheet_frame (p : Facet) (s : State) (b : Build)
    (hp : p ∈ ([.fit, .pending, .elapsed, .tunnel, .clock, .boot, .update, .pins, .power, .test] : List Facet)) :
    p.of (State.swapSheet s b) = p.of s := by revert p; simp [State.swapSheet]

@[simp] theorem State.releaseOld_frame (p : Facet) (s : State)
    (hp : p ∉ ([.fabric, .compiler] : List Facet)) :
    p.of (State.releaseOld s) = p.of s := by
  refine Facet.each ?_ p hp
  simp [State.releaseOld]

@[simp] theorem State.passAndBuild_frame (p : Facet) (s : State)
    (hp : p ∉ ([.out, .fabric, .compiler, .place, .meters, .pair, .dict, .recorder] : List Facet)) :
    p.of (State.passAndBuild s) = p.of s := by
  simp at hp
  simp [hp, State.passAndBuild]

end Sys2Proof.Machine
end

