-- ==== Sys2Proof/Laws/Frame/Fabric.lean ====
section
/-! SUPPORT. What the operations of Machine/Fabric.lean leave unchanged: the parts of the state outside each one's footprint. -/

namespace Sys2Proof.Machine

@[simp] theorem State.pipeFails_frame (p : Facet) (s : State) (tile pipe check : Nat)
    (hp : p ∉ ([.fabric, .pair] : List Facet)) :
    p.of (State.pipeFails s tile pipe check) = p.of s := by
  simp at hp
  simp [hp, State.pipeFails]

@[simp] theorem State.pacerWrites_frame (p : Facet) (s : State) (tile pipe : Nat)
    (hp : p ∉ ([.fabric, .queues, .mem, .pair, .dict, .recorder] : List Facet)) :
    p.of (State.pacerWrites s tile pipe) = p.of s := by
  simp at hp
  generalize ht : State.pacerWrites s tile pipe = t'
  unfold State.pacerWrites at ht
  try dsimp only at ht
  repeat' (first
    | (subst ht; simp [hp]; done)
    | (subst ht; obtain ⟨_, rfl⟩ := Prod.ext_iff.mp ‹_ = (_, _)›; simp [hp]; done)
    | split at ht)

@[simp] theorem State.marchLap_frame (p : Facet) (s : State) (tile start : Nat)
    (hp : p ∉ ([.fabric, .dict] : List Facet)) :
    p.of (State.marchLap s tile start) = p.of s := by
  simp at hp
  simp [hp, State.marchLap]

@[simp] theorem State.marchWord_frame (p : Facet) (s : State) (tile a : Nat)
    (hp : p ∉ ([.freeCount, .fabric, .mem, .pair, .dict, .recorder] : List Facet)) :
    p.of (State.marchWord s tile a) = p.of s := by
  simp at hp
  simp [hp, State.marchWord]

@[simp] theorem State.faultPipe_frame (p : Facet) (s : State) (tile pipe : Nat)
    (hp : p ∉ ([.out, .fabric, .compiler, .place, .pair, .dict, .recorder] : List Facet)) :
    p.of (State.faultPipe s tile pipe) = p.of s := by
  simp at hp
  simp [hp, State.faultPipe]

@[simp] theorem State.faultStep_frame (p : Facet) (s : State)
    (hp : p ∉ ([.out, .fabric, .compiler, .place, .pair, .dict, .recorder] : List Facet)) :
    p.of (State.faultStep s) = p.of s := by
  simp at hp
  simp (maxDischargeDepth := 5) [hp, State.faultStep]

@[simp] theorem State.restorePipe_frame (p : Facet) (s : State) (tile pipe : Nat)
    (hp : p ∉ ([.out, .fabric, .compiler, .place, .pair, .dict, .recorder] : List Facet)) :
    p.of (State.restorePipe s tile pipe) = p.of s := by
  simp at hp
  simp [hp, State.restorePipe]

@[simp] theorem pipelineRelease_frame (p : Facet) (s : State)
    (hp : p ∉ ([.fabric] : List Facet)) :
    p.of (pipelineRelease s).state = p.of s := by
  simp at hp
  simp [hp, pipelineRelease]

@[simp] theorem State.startDiagnosis_frame (p : Facet) (s : State)
    (hp : p ∉ ([.heat, .fabric, .pair, .dict] : List Facet)) :
    p.of (State.startDiagnosis s) = p.of s := by
  refine Facet.each ?_ p hp
  simp [State.startDiagnosis]

@[simp] theorem diagnosisRequest_frame (p : Facet) (s : State)
    (hp : p ∉ ([.heat, .fabric, .pair, .dict] : List Facet)) :
    p.of (diagnosisRequest s).state = p.of s := by
  simp at hp
  generalize ht : diagnosisRequest s = t'
  unfold diagnosisRequest at ht
  try dsimp only at ht
  repeat' (first
    | (subst ht; simp [hp]; done)
    | split at ht)

@[simp] theorem State.wordFound_frame (p : Facet) (s : State) (tile a : Nat)
    (hp : p ∉ ([.freeCount, .fabric, .mem, .meters, .pair, .dict, .recorder] : List Facet)) :
    p.of (State.wordFound s tile a) = p.of s := by
  simp at hp
  simp [hp, State.wordFound]

@[simp] theorem State.rebuild_frame (p : Facet) (s : State) (x : Meter)
    (hp : p ∉ ([.out, .mem, .meters, .pair, .dict, .recorder] : List Facet)) :
    p.of (State.rebuild s x) = p.of s := by
  simp at hp
  simp [hp, State.rebuild]

@[simp] theorem State.replayReceived_frame (p : Facet) (s : State) (port q : Nat) (pk : List (Word × Byte)) (n : Nat)
    (hp : p ∉ ([.freeCount, .heat, .fabric, .queues, .mem, .pair, .dict, .recorder] : List Facet)) :
    p.of (State.replayReceived s port q pk n).2.1 = p.of s := by
  simp at hp
  generalize ht : State.replayReceived s port q pk n = t'
  unfold State.replayReceived at ht
  try dsimp only at ht
  repeat' (first
    | (subst ht; simp [hp]; done)
    | split at ht)

@[simp] theorem State.replayLane_frame (p : Facet) (s : State) (port q n : Nat) (hp : p ∉ ([.freeCount, .heat, .fabric, .queues, .mem, .pair, .dict, .recorder] : List Facet)) :
    p.of (State.replayLane s port q n).2.1 = p.of s := by
  simp at hp
  refine foldl_mid_facet p _ _ (fun a x t ht => ?_) _
  have hd := State.readHead_frame p a.2.1 (portTile port) q Producer.replay.code (by simp [hp])
  subst ht
  split
  · revert hd
    rcases State.readHead a.2.1 (portTile port) q Producer.replay.code with ⟨_ | pk, u⟩ <;> intro hd
    · exact hd
    · simp [hp]
  · rfl

@[simp] theorem State.withdrawLane_frame (p : Facet) (s : State) (port : Nat)
    (hp : p ∉ ([.out, .freeCount, .fabric, .queues, .mem, .meters, .billing, .pair, .dict, .recorder] : List Facet)) :
    p.of (State.withdrawLane s port) = p.of s := by
  simp at hp
  simp [hp, State.withdrawLane]

@[simp] theorem State.resetQueues_frame (p : Facet) (s : State) (tile : Nat) (qs : List Nat)
    (hp : p ∉ ([.queues] : List Facet)) :
    p.of (State.resetQueues s tile qs) = p.of s := by
  simp at hp
  simp [hp, State.resetQueues]

@[simp] theorem State.dropPartly_frame (p : Facet) (s : State) (tile q : Nat)
    (hp : p ∉ ([.fabric, .queues, .recorder] : List Facet)) :
    p.of (State.dropPartly s tile q) = p.of s := by
  simp at hp
  simp [hp, State.dropPartly]

@[simp] theorem State.replayLanes_frame (p : Facet) (s : State) (f : Nat) (hp : p ∉ ([.freeCount, .heat, .fabric, .queues, .mem, .pair, .dict, .recorder] : List Facet)) :
    p.of (State.replayLanes s f).2.1 = p.of s := by
  simp at hp
  exact foldl_mid_facet p _ _ (fun a x t ht => by subst ht; simp [hp]) _

@[simp] theorem State.drainPort_frame (p : Facet) (s : State) (f : Nat)
    (hp : p ∉ ([.out, .freeCount, .heat, .fabric, .queues, .mem, .place, .line, .radio, .meters, .billing, .pair,
      .dict, .recorder] : List Facet)) :
    p.of (State.drainPort s f).2 = p.of s := by
  simp at hp
  generalize ht : State.drainPort s f = t'
  unfold State.drainPort at ht
  try dsimp only at ht
  repeat' (first
    | (subst ht; simp [hp]; done)
    | split at ht)

@[simp] theorem State.disableFunction_frame (p : Facet) (s : State) (f : Nat)
    (hp : p ∈ ([.fit, .pending, .elapsed, .tunnel, .loss, .keys, .store, .clock, .boot, .update, .pins, .power, .test] : List Facet)) :
    p.of (State.disableFunction s f) = p.of s := by
  generalize ht : State.disableFunction s f = t'
  unfold State.disableFunction at ht
  try dsimp only at ht
  repeat' (first
    | (subst ht; revert p; simp; done)
    | split at ht)

end Sys2Proof.Machine
end

