-- ==== Sys2Proof/Laws/Frame/Storage.lean ====
section
/-! SUPPORT. What the operations of Machine/Storage.lean leave unchanged: the parts of the state outside each one's footprint. -/

namespace Sys2Proof.Machine

@[simp] theorem State.setFlash_frame (p : Facet) (s : State) (t : Nat) (x : TileStore)
    (hp : p ∉ ([.store] : List Facet)) :
    p.of (State.setFlash s t x) = p.of s := by
  simp at hp
  simp [hp, State.setFlash]

@[simp] theorem State.eraseZone_frame (p : Facet) (s : State) (t : Nat)
    (hp : p ∉ ([.billing, .store] : List Facet)) :
    p.of (State.eraseZone s t) = p.of s := by
  refine Facet.each ?_ p hp
  simp [State.eraseZone]

@[simp] theorem State.formatTile_frame (p : Facet) (s : State) (t : Nat)
    (hp : p ∉ ([.billing, .store, .dict, .recorder] : List Facet)) :
    p.of (State.formatTile s t) = p.of s := by
  simp at hp
  simp [hp, State.formatTile]

@[simp] theorem formatRequest_frame (p : Facet) (tile : Nat) (s : State)
    (hp : p ∉ ([.billing, .store, .dict, .recorder] : List Facet)) :
    p.of (formatRequest tile s).state = p.of s := by
  simp at hp
  generalize ht : formatRequest tile s = t'
  unfold formatRequest at ht
  try dsimp only at ht
  repeat' (first
    | (subst ht; simp [hp]; done)
    | split at ht)

@[simp] theorem State.mountNand_frame (p : Facet) (s0 : State) (t : Nat)
    (hp : p ∉ ([.billing, .store, .dict, .recorder] : List Facet)) :
    p.of (State.mountNand s0 t) = p.of s0 := by
  simp at hp
  simp [hp, State.mountNand]

@[simp] theorem State.deleteSegment_frame (p : Facet) (s : State) (g : Segment)
    (hp : p ∉ ([.store] : List Facet)) :
    p.of (State.deleteSegment s g) = p.of s := by
  simp at hp
  simp [hp, State.deleteSegment]

@[simp] theorem State.exhausted_frame (p : Facet) (s : State) (t pool write : Nat)
    (hp : p ∉ ([.dict, .recorder] : List Facet)) :
    p.of (State.exhausted s t pool write) = p.of s := by
  simp at hp
  simp [hp, State.exhausted]

@[simp] theorem State.takeShared_frame (p : Facet) (s : State) (t : Nat) (tlc : Bool)
    (hp : p ∉ ([.store] : List Facet)) :
    p.of (State.takeShared s t tlc) = p.of s := by
  simp at hp
  simp [hp, State.takeShared]

@[simp] theorem State.relocate_frame (p : Facet) (s : State) (t k : Nat) (b : Block)
    (hp : p ∉ ([.store, .recorder] : List Facet)) :
    p.of (State.relocate s t k b) = p.of s := by
  simp at hp
  simp [hp, State.relocate]

@[simp] theorem State.writePages_frame (p : Facet) (s : State) (t : Nat) (tlc : Bool) (why fuel : Nat)
    (ps : List NandPage)
    (hp : p ∉ ([.store, .dict, .recorder] : List Facet)) :
    p.of (State.writePages s t tlc why fuel ps).2 = p.of s := by
  simp at hp
  induction fuel generalizing s with
  | zero => simp [State.writePages, hp]
  | succ k ih =>
    generalize ht : State.writePages s t tlc why (k + 1) ps = t'
    unfold State.writePages at ht
    try dsimp only at ht
    repeat' (first
      | (subst ht; simp [ih, hp]; done)
      | split at ht)

@[simp] theorem State.gcAhead_frame (p : Facet) (s : State) (t : Nat) (tlc : Bool)
    (hp : p ∉ ([.store, .recorder] : List Facet)) :
    p.of (State.gcAhead s t tlc) = p.of s := by
  simp at hp
  generalize ht : State.gcAhead s t tlc = t'
  unfold State.gcAhead at ht
  try dsimp only at ht
  repeat' (first
    | (subst ht; simp [hp]; done)
    | split at ht)

@[simp] theorem State.pageUncorrectable_frame (p : Facet) (s : State) (tile pool block page : Nat)
    (hp : p ∉ ([.store, .recorder] : List Facet)) :
    p.of (State.pageUncorrectable s tile pool block page) = p.of s := by
  simp at hp
  simp [hp, State.pageUncorrectable]

@[simp] theorem State.pageEnded_frame (p : Facet) (s : State) (t block page : Nat)
    (hp : p ∉ ([.store] : List Facet)) :
    p.of (State.pageEnded s t block page) = p.of s := by
  simp at hp
  simp [hp, State.pageEnded]

@[simp] theorem State.markRefresh_frame (p : Facet) (s : State) (t k : Nat)
    (hp : p ∉ ([.store] : List Facet)) :
    p.of (State.markRefresh s t k) = p.of s := by
  simp at hp
  simp [hp, State.markRefresh]

@[simp] theorem State.readPage_frame (p : Facet) (s : State) (t : Nat) (tlc : Bool) (block page : Nat)
    (hp : p ∉ ([.freeCount, .store, .recorder] : List Facet)) :
    p.of (State.readPage s t tlc block page) = p.of s := by
  simp at hp
  simp [hp, State.readPage]

@[simp] theorem State.readSegment_frame (p : Facet) (s : State) (g : Segment) (want : Nat → Bool)
    (hp : p ∉ ([.freeCount, .store, .recorder] : List Facet)) :
    p.of (State.readSegment s g want) = p.of s := by
  simp at hp
  simp [hp, State.readSegment]

@[simp] theorem State.readBack_frame (p : Facet) (s : State) (t owner : Nat)
    (hp : p ∉ ([.freeCount, .store, .recorder] : List Facet)) :
    p.of (State.readBack s t owner).2 = p.of s := by
  simp at hp
  simp [hp, State.readBack]

@[simp] theorem State.verifyPages_frame (p : Facet) (s : State) (t : Nat) (tlc : Bool) (owner : Nat)
    (hp : p ∉ ([.freeCount, .store, .recorder] : List Facet)) :
    p.of (State.verifyPages s t tlc owner).2 = p.of s := by
  simp at hp
  generalize ht : State.verifyPages s t tlc owner = t'
  unfold State.verifyPages at ht
  try dsimp only at ht
  repeat' (first
    | (subst ht; simp [hp]; done)
    | (subst ht; obtain ⟨_, rfl⟩ := Prod.ext_iff.mp ‹_ = (_, _)›; simp [hp]; done)
    | split at ht)

@[simp] theorem State.ringPush_frame (p : Facet) (s : State) (t : Nat) (r : RingRecord)
    (hp : p ∉ ([.freeCount, .fabric, .mem, .meters, .store, .pair, .dict, .recorder] : List Facet)) :
    p.of (State.ringPush s t r) = p.of s := by
  simp at hp
  simp [hp, State.ringPush]

@[simp] theorem State.tierCopy_frame (p : Facet) (s : State) (t : Nat) (r : RingRecord)
    (hp : p ∉ ([.freeCount, .fabric, .mem, .meters, .store, .pair, .dict, .recorder] : List Facet)) :
    p.of (State.tierCopy s t r) = p.of s := by
  simp at hp
  generalize ht : State.tierCopy s t r = t'
  unfold State.tierCopy at ht
  try dsimp only at ht
  repeat' (first
    | (subst ht; simp [hp]; done)
    | split at ht)

@[simp] theorem State.drainRecord_frame (p : Facet) (s : State) (t kind : Nat) (ws : List Word)
    (hp : p ∉ ([.freeCount, .fabric, .mem, .meters, .store, .pair, .dict, .recorder] : List Facet)) :
    p.of (State.drainRecord s t kind ws) = p.of s := by
  simp at hp
  simp [hp, State.drainRecord]

@[simp] theorem State.gapAfter_frame (p : Facet) (s : State) (named : List Nat) (old : Meter)
    (hp : p ∉ ([.freeCount, .fabric, .mem, .meters, .store, .pair, .dict, .recorder] : List Facet)) :
    p.of (State.gapAfter s named old) = p.of s := by
  simp at hp
  generalize ht : State.gapAfter s named old = t'
  unfold State.gapAfter at ht
  try dsimp only at ht
  repeat' (first
    | (subst ht; simp [hp]; done)
    | split at ht)

@[simp] theorem State.foldWithGaps_frame (p : Facet) (s : State) (tile : Nat)
    (hp : p ∉ ([.out, .freeCount, .fabric, .mem, .meters, .billing, .store, .pair, .dict, .recorder] : List Facet)) :
    p.of (State.foldWithGaps s tile) = p.of s := by
  simp at hp
  simp [hp, State.foldWithGaps]

@[simp] theorem State.markLogged_frame (p : Facet) (s : State) (t : Nat)
    (hp : p ∉ ([.store] : List Facet)) :
    p.of (State.markLogged s t) = p.of s := by
  simp at hp
  simp [hp, State.markLogged]

@[simp] theorem State.logPage_frame (p : Facet) (s : State) (t : Nat)
    (hp : p ∉ ([.store, .dict, .recorder] : List Facet)) :
    p.of (State.logPage s t) = p.of s := by
  simp at hp
  generalize ht : State.logPage s t = t'
  unfold State.logPage at ht
  try dsimp only at ht
  repeat' (first
    | (subst ht; simp [hp]; done)
    | split at ht)

@[simp] theorem State.addSegment_frame (p : Facet) (s : State) (id t hour : Nat) (tlc : Bool) (rs : List RingRecord)
    (hp : p ∉ ([.store] : List Facet)) :
    p.of (State.addSegment s id t hour tlc rs) = p.of s := by
  simp at hp
  simp [hp, State.addSegment]

@[simp] theorem State.sealSegment_frame (p : Facet) (s : State) (t hour : Nat) (tlc : Bool) (rs : List RingRecord)
    (hp : p ∉ ([.freeCount, .store, .dict, .recorder] : List Facet)) :
    p.of (State.sealSegment s t hour tlc rs).2 = p.of s := by
  simp at hp
  generalize ht : State.sealSegment s t hour tlc rs = t'
  unfold State.sealSegment at ht
  try dsimp only at ht
  repeat' (first
    | (subst ht; simp [hp]; done)
    | split at ht)

@[simp] theorem State.sealPart_frame (p : Facet) (s : State) (t hour : Nat) (tlc : Bool) (rs : List RingRecord)
    (hp : p ∉ ([.freeCount, .store, .dict, .recorder] : List Facet)) :
    p.of (State.sealPart s t hour tlc rs) = p.of s := by
  simp at hp
  simp [hp, State.sealPart]

@[simp] theorem State.sealHour_frame (p : Facet) (s : State) (t hour : Nat)
    (hp : p ∉ ([.freeCount, .store, .dict, .recorder] : List Facet)) :
    p.of (State.sealHour s t hour) = p.of s := by
  simp at hp
  simp [hp, State.sealHour]

@[simp] theorem State.hourTurn_frame (p : Facet) (s : State) (t : Nat)
    (hp : p ∉ ([.store, .dict] : List Facet)) :
    p.of (State.hourTurn s t) = p.of s := by
  simp at hp
  simp [hp, State.hourTurn]

@[simp] theorem State.foldSegment_frame (p : Facet) (s0 : State) (g : Segment)
    (hp : p ∉ ([.freeCount, .store, .dict, .recorder] : List Facet)) :
    p.of (State.foldSegment s0 g) = p.of s0 := by
  simp at hp
  generalize ht : State.foldSegment s0 g = t'
  unfold State.foldSegment at ht
  try dsimp only at ht
  repeat' (first
    | (subst ht; simp [hp]; done)
    | (subst ht; obtain ⟨_, rfl⟩ := Prod.ext_iff.mp ‹_ = (_, _)›; simp [hp]; done)
    | split at ht)

@[simp] theorem State.retireZone_frame (p : Facet) (s : State) (t : Nat)
    (hp : p ∉ ([.billing, .store, .pair, .dict, .recorder] : List Facet)) :
    p.of (State.retireZone s t) = p.of s := by
  simp at hp
  simp [hp, State.retireZone]

@[simp] theorem State.retirePool_frame (p : Facet) (s : State) (t block : Nat) (tlc : Bool)
    (hp : p ∉ ([.store] : List Facet)) :
    p.of (State.retirePool s t block tlc) = p.of s := by
  simp at hp
  generalize ht : State.retirePool s t block tlc = t'
  unfold State.retirePool at ht
  try dsimp only at ht
  repeat' (first
    | (subst ht; simp [hp]; done)
    | split at ht)

@[simp] theorem State.retireBlock_frame (p : Facet) (s : State) (tile block pool reason : Nat)
    (hp : p ∉ ([.fabric, .billing, .store, .pair, .dict, .recorder] : List Facet)) :
    p.of (State.retireBlock s tile block pool reason) = p.of s := by
  simp at hp
  simp [hp, State.retireBlock]

@[simp] theorem State.mediaRecovers_frame (p : Facet) (s : State) (t : Nat)
    (hp : p ∉ ([.dict] : List Facet)) :
    p.of (State.mediaRecovers s t) = p.of s := by
  simp at hp
  simp [hp, State.mediaRecovers]

@[simp] theorem historyPurge_frame (p : Facet) (before : Nat) (s : State)
    (hp : p ∉ ([.store, .dict, .recorder] : List Facet)) :
    p.of (historyPurge before s).state = p.of s := by
  simp at hp
  simp [hp, historyPurge]

@[simp] theorem State.checkpointPage_frame (p : Facet) (s : State) (t : Nat)
    (hp : p ∉ ([.store] : List Facet)) :
    p.of (State.checkpointPage s t) = p.of s := by
  simp at hp
  simp [hp, State.checkpointPage]

@[simp] theorem State.restoreMeter_frame (p : Facet) (s : State) (m : Nat)
    (hp : p ∉ ([.meters] : List Facet)) :
    p.of (State.restoreMeter s m) = p.of s := by
  simp at hp
  generalize ht : State.restoreMeter s m = t'
  unfold State.restoreMeter at ht
  try dsimp only at ht
  repeat' (first
    | (subst ht; simp [hp]; done)
    | split at ht)

@[simp] theorem State.billingRestored_frame (p : Facet) (s : State)
    (hp : p ∉ ([.meters, .billing, .recorder, .power] : List Facet)) :
    p.of (State.billingRestored s) = p.of s := by
  refine Facet.each ?_ p hp
  simp [State.billingRestored]

@[simp] theorem State.loseCheckpoint_frame (p : Facet) (s : State) (t page : Nat)
    (hp : p ∉ ([.store, .recorder] : List Facet)) :
    p.of (State.loseCheckpoint s t page) = p.of s := by
  simp at hp
  simp [hp, State.loseCheckpoint]

end Sys2Proof.Machine
end

