-- ==== Sys2Proof/Laws/Frame/Tunnel.lean ====
section
/-! SUPPORT. What the operations of Machine/Tunnel.lean leave unchanged: the parts of the state outside each one's footprint. -/

namespace Sys2Proof.Machine

@[simp] theorem State.dropDatagram_frame (p : Facet) (s : State) (port relay check : Nat)
    (hp : p ∉ ([.fabric, .dict, .recorder] : List Facet)) :
    p.of (State.dropDatagram s port relay check) = p.of s := by
  simp at hp
  simp [hp, State.dropDatagram]

@[simp] theorem State.pilotDatagram_frame (p : Facet) (s : State) (port : Nat)
    (hp : p ∉ ([.dict, .recorder] : List Facet)) :
    p.of (State.pilotDatagram s port) = p.of s := by
  simp at hp
  simp [hp, State.pilotDatagram]

@[simp] theorem State.setRelay_frame (p : Facet) (s : State) (i : Nat) (r : Relay)
    (hp : p ∉ ([.tunnel] : List Facet)) :
    p.of (State.setRelay s i r) = p.of s := by
  simp at hp
  simp [hp, State.setRelay]

@[simp] theorem State.relayHeard_frame (p : Facet) (s : State) (i seq : Nat)
    (hp : p ∉ ([.tunnel, .recorder] : List Facet)) :
    p.of (State.relayHeard s i seq) = p.of s := by
  simp at hp
  simp [hp, State.relayHeard]

@[simp] theorem State.relayPhase_frame (p : Facet) (s : State) (m d : Nat)
    (hp : p ∉ ([.out, .fabric, .queues, .mem, .meters, .loss, .pair, .dict, .recorder] : List Facet)) :
    p.of (State.relayPhase s m d) = p.of s := by
  simp at hp
  generalize ht : State.relayPhase s m d = t'
  unfold State.relayPhase at ht
  try dsimp only at ht
  repeat' (first
    | (subst ht; simp [hp]; done)
    | split at ht)

@[simp] theorem State.tunnelHeard_frame (p : Facet) (s : State) (port i : Nat) (r : Octets × Octets)
    (hp : p ∉ ([.out, .fabric, .queues, .mem, .meters, .loss, .pair, .dict, .recorder] : List Facet)) :
    p.of (State.tunnelHeard s port i r) = p.of s := by
  simp at hp
  simp [hp, State.tunnelHeard]

@[simp] theorem State.takeUplink_frame (p : Facet) (s : State) (port i : Nat) (rs : List (Octets × Octets))
    (hp : p ∉ ([.out, .fabric, .queues, .mem, .meters, .tunnel, .loss, .pair, .dict, .recorder] : List Facet)) :
    p.of (State.takeUplink s port i rs) = p.of s := by
  simp at hp
  simp [hp, State.takeUplink]

@[simp] theorem State.popTunnel_frame (p : Facet) (s : State) (port : Nat)
    (hp : p ∉ ([.tunnel] : List Facet)) :
    p.of (State.popTunnel s port) = p.of s := by
  simp at hp
  simp [hp, State.popTunnel]

@[simp] theorem State.countMoved_frame (p : Facet) (s : State) (home : Nat)
    (hp : p ∉ ([.tunnel] : List Facet)) :
    p.of (State.countMoved s home) = p.of s := by
  simp at hp
  simp [hp, State.countMoved]

@[simp] theorem State.moveTunnel_frame (p : Facet) (s : State) (port : Nat)
    (hp : p ∉ ([.heat, .fabric, .queues, .mem, .tunnel, .dict, .recorder] : List Facet)) :
    p.of (State.moveTunnel s port) = p.of s := by
  simp at hp
  generalize ht : State.moveTunnel s port = t'
  unfold State.moveTunnel at ht
  try dsimp only at ht
  repeat' (first
    | (subst ht; simp [hp]; done)
    | (subst ht; obtain ⟨_, rfl⟩ := Prod.ext_iff.mp ‹_ = (_, _)›; simp [hp]; done)
    | split at ht)

@[simp] theorem State.makeDatagram_frame (p : Facet) (s : State) (kind i : Nat) (key : Octets) (records : List Octets)
    (hp : p ∉ ([.tunnel] : List Facet)) :
    p.of (State.makeDatagram s kind i key records).2 = p.of s := by
  simp at hp
  simp [hp, State.makeDatagram]

@[simp] theorem State.sendDatagram_frame (p : Facet) (s : State) (port kind i : Nat) (key : Octets)
    (records : List Octets)
    (hp : p ∉ ([.out, .tunnel, .dict, .recorder] : List Facet)) :
    p.of (State.sendDatagram s port kind i key records) = p.of s := by
  simp at hp
  simp [hp, State.sendDatagram]

@[simp] theorem State.sendTunnel_frame (p : Facet) (s : State) (port : Nat) (pk : List (Word × Byte))
    (hp : p ∉ ([.out, .tunnel, .dict, .recorder] : List Facet)) :
    p.of (State.sendTunnel s port pk) = p.of s := by
  simp at hp
  simp [hp, State.sendTunnel]

@[simp] theorem State.drainTunnel_frame (p : Facet) (s : State) (port : Nat)
    (hp : p ∉ ([.out, .freeCount, .fabric, .queues, .tunnel, .pair, .dict, .recorder] : List Facet)) :
    p.of (State.drainTunnel s port) = p.of s := by
  simp at hp
  simp [hp, State.drainTunnel]

@[simp] theorem State.drainTunnels_frame (p : Facet) (s : State)
    (hp : p ∉ ([.out, .freeCount, .fabric, .queues, .tunnel, .pair, .dict, .recorder] : List Facet)) :
    p.of (State.drainTunnels s) = p.of s := by
  simp at hp
  simp [hp, State.drainTunnels]

@[simp] theorem State.relayTransmit_frame (p : Facet) (s : State) (port phase : Nat) (f : Octets)
    (hp : p ∉ ([.fabric, .queues, .mem, .dict, .recorder] : List Facet)) :
    p.of (State.relayTransmit s port phase f) = p.of s := by
  simp at hp
  simp [hp, State.relayTransmit]

@[simp] theorem State.relayRecord_frame (p : Facet) (s : State) (r : Octets × Octets)
    (hp : p ∉ ([.fabric, .queues, .mem, .dict, .recorder] : List Facet)) :
    p.of (State.relayRecord s r) = p.of s := by
  simp at hp
  generalize ht : State.relayRecord s r = t'
  unfold State.relayRecord at ht
  try dsimp only at ht
  repeat' (first
    | (subst ht; simp [hp]; done)
    | split at ht)

end Sys2Proof.Machine
end

