-- ==== Sys2Proof/Laws/Frame/Readouts.lean ====
section
/-! SUPPORT. What the operations of Machine/Readouts.lean leave unchanged: the parts of the state outside each one's footprint. -/

namespace Sys2Proof.Machine

@[simp] theorem State.readHistory_frame (p : Facet) (s : State) (m : Nat)
    (hp : p ∉ ([.freeCount, .store, .recorder] : List Facet)) :
    p.of (State.readHistory s m) = p.of s := by
  simp at hp
  simp [hp, State.readHistory]

@[simp] theorem State.setReadout_frame (p : Facet) (s : State) (q : Readout)
    (hp : p ∉ ([.billing] : List Facet)) :
    p.of (State.setReadout s q) = p.of s := by
  simp at hp
  simp [hp, State.setReadout]

@[simp] theorem State.setBacklog_frame (p : Facet) (s : State) (tile ns : Nat)
    (hp : p ∉ ([.keys, .dict] : List Facet)) :
    p.of (State.setBacklog s tile ns) = p.of s := by
  simp at hp
  simp [hp, State.setBacklog]

@[simp] theorem State.streamOne_frame (p : Facet) (s : State) (q : Readout)
    (hp : p ∉ ([.billing] : List Facet)) :
    p.of (State.streamOne s q) = p.of s := by
  simp at hp
  simp [hp, State.streamOne]

@[simp] theorem State.streamBulk_frame (p : Facet) (s : State) (n : Nat)
    (hp : p ∉ ([.billing] : List Facet)) :
    p.of (State.streamBulk s n) = p.of s := by
  simp at hp
  induction n generalizing s with
  | zero => simp [State.streamBulk, hp]
  | succ k ih =>
    generalize ht : State.streamBulk s (k + 1) = t'
    unfold State.streamBulk at ht
    try dsimp only at ht
    repeat' (first
      | (subst ht; simp [ih, hp]; done)
      | split at ht)

@[simp] theorem State.finishReadout_frame (p : Facet) (s : State) (q : Readout) (bytes : Octets) (status : Nat)
    (hp : p ∉ ([.out, .fabric, .billing, .keys, .dict, .recorder] : List Facet)) :
    p.of (State.finishReadout s q bytes status) = p.of s := by
  simp at hp
  simp [hp, State.finishReadout]

@[simp] theorem State.gatherReadout_frame (p : Facet) (s0 : State) (q : Readout) (x : Meter)
    (hp : p ∉ ([.out, .freeCount, .fabric, .queues, .mem, .meters, .billing, .keys, .store, .pair, .dict, .recorder] : List Facet)) :
    p.of (State.gatherReadout s0 q x) = p.of s0 := by
  simp at hp
  simp [hp, State.gatherReadout]

@[simp] theorem State.loadReadout_frame (p : Facet) (s : State) (q : Readout) (x : Meter)
    (hp : p ∉ ([.freeCount, .fabric, .mem, .pair, .dict, .recorder] : List Facet)) :
    p.of (State.loadReadout s q x).2 = p.of s := by
  simp at hp
  simp [hp, State.loadReadout]

@[simp] theorem State.startReadout_frame (p : Facet) (s : State) (q : Readout)
    (hp : p ∉ ([.out, .freeCount, .fabric, .queues, .mem, .meters, .billing, .keys, .store, .pair, .dict, .recorder] : List Facet)) :
    p.of (State.startReadout s q) = p.of s := by
  simp at hp
  generalize ht : State.startReadout s q = t'
  unfold State.startReadout at ht
  try dsimp only at ht
  repeat' (first
    | (subst ht; simp [hp]; done)
    | (subst ht; obtain ⟨_, rfl⟩ := Prod.ext_iff.mp ‹_ = (_, _)›; simp [hp]; done)
    | split at ht)

@[simp] theorem State.startReadouts_frame (p : Facet) (s : State)
    (hp : p ∉ ([.out, .freeCount, .fabric, .queues, .mem, .meters, .billing, .keys, .store, .pair, .dict, .recorder] : List Facet)) :
    p.of (State.startReadouts s) = p.of s := by
  simp at hp
  simp [hp, State.startReadouts]

@[simp] theorem State.chainReadout_frame (p : Facet) (s : State) (tile pipe : Nat) (q : Readout)
    (hp : p ∉ ([.out, .fabric, .queues, .mem, .meters, .billing, .keys, .dict, .recorder] : List Facet)) :
    p.of (State.chainReadout s tile pipe q) = p.of s := by
  simp at hp
  generalize ht : State.chainReadout s tile pipe q = t'
  unfold State.chainReadout at ht
  try dsimp only at ht
  repeat' (first
    | (subst ht; simp [hp]; done)
    | split at ht)

@[simp] theorem State.readoutPacket_frame (p : Facet) (s : State) (tile pipe : Nat) (pk : List (Word × Byte))
    (hp : p ∉ ([.out, .fabric, .queues, .mem, .meters, .billing, .keys, .dict, .recorder] : List Facet)) :
    p.of (State.readoutPacket s tile pipe pk) = p.of s := by
  simp at hp
  generalize ht : State.readoutPacket s tile pipe pk = t'
  unfold State.readoutPacket at ht
  try dsimp only at ht
  repeat' (first
    | (subst ht; simp [hp]; done)
    | split at ht)

@[simp] theorem State.takeReadout_frame (p : Facet) (s1 : State) (pk : List (Word × Byte))
    (hp : p ∉ ([.out, .fabric, .billing, .keys, .dict, .recorder] : List Facet)) :
    p.of (State.takeReadout s1 pk) = p.of s1 := by
  simp at hp
  generalize ht : State.takeReadout s1 pk = t'
  unfold State.takeReadout at ht
  try dsimp only at ht
  repeat' (first
    | (subst ht; simp [hp]; done)
    | (subst ht; obtain ⟨_, rfl⟩ := Prod.ext_iff.mp ‹_ = (_, _)›; simp [hp]; done)
    | split at ht)

@[simp] theorem State.drainReadoutQueue_frame (p : Facet) (s : State) (tile pipe : Nat)
    (hp : p ∉ ([.out, .freeCount, .fabric, .queues, .billing, .keys, .pair, .dict, .recorder] : List Facet)) :
    p.of (State.drainReadoutQueue s tile pipe) = p.of s := by
  simp at hp
  simp [hp, State.drainReadoutQueue]

@[simp] theorem State.drainReadouts_frame (p : Facet) (s : State)
    (hp : p ∉ ([.out, .freeCount, .fabric, .queues, .billing, .keys, .pair, .dict, .recorder] : List Facet)) :
    p.of (State.drainReadouts s) = p.of s := by
  simp at hp
  simp (maxDischargeDepth := 5) [hp, State.drainReadouts]

@[simp] theorem State.askReadout_frame (p : Facet) (s : State) (m kind cls arg count session tag : Nat) (bulk : Bool)
    (hp : p ∉ ([.billing] : List Facet)) :
    p.of (State.askReadout s m kind cls arg count session tag bulk) = p.of s := by
  simp at hp
  simp [hp, State.askReadout]

@[simp] theorem meterReadout_frame (p : Facet) (m kind cls arg count tag : Nat) (s : State) (x : Session)
    (hp : p ∉ ([.out, .freeCount, .fabric, .queues, .mem, .meters, .billing, .keys, .store, .pair, .dict, .recorder] : List Facet)) :
    p.of (meterReadout m kind cls arg count tag s x).state = p.of s := by
  simp at hp
  generalize ht : meterReadout m kind cls arg count tag s x = t'
  unfold meterReadout at ht
  try dsimp only at ht
  repeat' (first
    | (subst ht; simp [hp]; done)
    | split at ht)

@[simp] theorem bulkReadout_frame (p : Facet) (structure_ kind cls : Nat) (s : State) (y4 : Session)
    (hp : p ∉ ([.out, .freeCount, .fabric, .queues, .mem, .meters, .billing, .keys, .store, .pair, .dict, .recorder] : List Facet)) :
    p.of (bulkReadout structure_ kind cls s y4).state = p.of s := by
  simp at hp
  generalize ht : bulkReadout structure_ kind cls s y4 = t'
  unfold bulkReadout at ht
  try dsimp only at ht
  repeat' (first
    | (subst ht; simp [hp]; done)
    | split at ht)

@[simp] theorem State.levelCrossed_frame (p : Facet) (s : State) (m level : Nat)
    (hp : p ∉ ([.out, .fabric, .queues, .mem, .meters, .billing, .pair, .dict, .recorder] : List Facet)) :
    p.of (State.levelCrossed s m level) = p.of s := by
  simp at hp
  simp [hp, State.levelCrossed]

end Sys2Proof.Machine
end

