-- ==== Sys2Proof/Laws/Frame/Time.lean ====
section
/-! SUPPORT. What the operations of Machine/Time.lean leave unchanged: the parts of the state outside each one's footprint. -/

namespace Sys2Proof.Machine

@[simp] theorem State.setTimeState_frame (p : Facet) (s : State) (n : Nat)
    (hp : p ∉ ([.clock, .dict, .recorder] : List Facet)) :
    p.of (State.setTimeState s n) = p.of s := by
  simp at hp
  simp [hp, State.setTimeState]

@[simp] theorem State.setArmed_frame (p : Facet) (s : State) (n : Nat)
    (hp : p ∉ ([.clock, .dict] : List Facet)) :
    p.of (State.setArmed s n) = p.of s := by
  simp at hp
  simp [hp, State.setArmed]

@[simp] theorem State.armStep_frame (p : Facet) (s : State) (cause : Nat) (until_ : Option Nat)
    (hp : p ∉ ([.clock, .dict, .recorder] : List Facet)) :
    p.of (State.armStep s cause until_) = p.of s := by
  simp at hp
  simp [hp, State.armStep]

@[simp] theorem State.disarmStep_frame (p : Facet) (s : State) (reason : Nat)
    (hp : p ∉ ([.clock, .dict, .recorder] : List Facet)) :
    p.of (State.disarmStep s reason) = p.of s := by
  simp at hp
  simp [hp, State.disarmStep]

@[simp] theorem State.decideStep_frame (p : Facet) (s : State) (offset : Int)
    (hp : p ∉ ([.clock, .dict, .recorder] : List Facet)) :
    p.of (State.decideStep s offset) = p.of s := by
  simp at hp
  simp [hp, State.decideStep]

@[simp] theorem State.armedSample_frame (p : Facet) (s : State) (offset : Int)
    (hp : p ∉ ([.clock, .dict, .recorder] : List Facet)) :
    p.of (State.armedSample s offset) = p.of s := by
  simp at hp
  simp [hp, State.armedSample]

@[simp] theorem State.offsetAlarm_frame (p : Facet) (s : State) (offset : Int)
    (hp : p ∉ ([.clock, .recorder] : List Facet)) :
    p.of (State.offsetAlarm s offset) = p.of s := by
  simp at hp
  simp [hp, State.offsetAlarm]

@[simp] theorem State.timeSample_frame (p : Facet) (s : State) (offset : Int)
    (hp : p ∉ ([.clock, .dict, .recorder] : List Facet)) :
    p.of (State.timeSample s offset) = p.of s := by
  simp at hp
  simp [hp, State.timeSample]

@[simp] theorem hostTimeSet_frame (p : Facet) (seconds ns : Nat) (s : State) (y3 : Session)
    (hp : p ∉ ([.clock, .dict, .recorder] : List Facet)) :
    p.of (hostTimeSet seconds ns s y3).state = p.of s := by
  simp at hp
  generalize ht : hostTimeSet seconds ns s y3 = t'
  unfold hostTimeSet at ht
  try dsimp only at ht
  repeat' (first
    | (subst ht; simp [hp]; done)
    | split at ht)

@[simp] theorem State.setTimeOut_frame (p : Facet) (s : State) (n : Nat) (x : TimeOut)
    (hp : p ∉ ([.clock, .dict] : List Facet)) :
    p.of (State.setTimeOut s n x) = p.of s := by
  simp at hp
  simp [hp, State.setTimeOut]

@[simp] theorem State.stepOutput_frame (p : Facet) (s : State) (before after n : Nat)
    (hp : p ∉ ([.clock, .dict, .recorder] : List Facet)) :
    p.of (State.stepOutput s before after n) = p.of s := by
  simp at hp
  simp [hp, State.stepOutput]

@[simp] theorem State.applyStep_frame (p : Facet) (s : State) (step : Int)
    (hp : p ∉ ([.out, .fabric, .mem, .place, .line, .radio, .billing, .clock, .pair, .dict, .recorder] : List Facet)) :
    p.of (State.applyStep s step) = p.of s := by
  simp at hp
  simp [hp, State.applyStep]

@[simp] theorem State.setUtc_frame (p : Facet) (s : State) (ns : Int)
    (hp : p ∉ ([.clock, .dict] : List Facet)) :
    p.of (State.setUtc s ns) = p.of s := by
  simp at hp
  simp [hp, State.setUtc]

@[simp] theorem State.startRamp_frame (p : Facet) (s : State) (target : Int) (end_ : Nat)
    (hp : p ∉ ([.clock, .recorder] : List Facet)) :
    p.of (State.startRamp s target end_) = p.of s := by
  simp at hp
  simp [hp, State.startRamp]

@[simp] theorem State.followUtc_frame (p : Facet) (s : State) (seconds : Int)
    (hp : p ∉ ([.clock, .recorder] : List Facet)) :
    p.of (State.followUtc s seconds) = p.of s := by
  simp at hp
  simp [hp, State.followUtc]

@[simp] theorem State.rampStep_frame (p : Facet) (s : State)
    (hp : p ∉ ([.clock, .dict, .recorder] : List Facet)) :
    p.of (State.rampStep s) = p.of s := by
  simp at hp
  simp [hp, State.rampStep]

@[simp] theorem State.dropParent_frame (p : Facet) (s : State) (port : Nat)
    (hp : p ∉ ([.clock, .dict] : List Facet)) :
    p.of (State.dropParent s port) = p.of s := by
  simp at hp
  simp [hp, State.dropParent]

@[simp] theorem timeSourceWrite_frame (p : Facet) (code : Nat) (s : State) (y2 : Session)
    (hp : p ∉ ([.clock, .dict] : List Facet)) :
    p.of (timeSourceWrite code s y2).state = p.of s := by
  simp at hp
  generalize ht : timeSourceWrite code s y2 = t'
  unfold timeSourceWrite at ht
  try dsimp only at ht
  repeat' (first
    | (subst ht; simp [hp]; done)
    | split at ht)

@[simp] theorem State.useSource_frame (p : Facet) (s : State) (code : Nat)
    (hp : p ∉ ([.clock, .dict, .recorder] : List Facet)) :
    p.of (State.useSource s code) = p.of s := by
  simp at hp
  simp [hp, State.useSource]

@[simp] theorem State.startTimebase_frame (p : Facet) (s : State)
    (hp : p ∉ ([.clock, .dict, .recorder] : List Facet)) :
    p.of (State.startTimebase s) = p.of s := by
  simp at hp
  simp [hp, State.startTimebase]

@[simp] theorem State.ptpHeard_frame (p : Facet) (s : State) (port sub : Nat) (event : Bool)
    (hp : p ∉ ([.dict, .recorder] : List Facet)) :
    p.of (State.ptpHeard s port sub event) = p.of s := by
  simp at hp
  simp [hp, State.ptpHeard]

@[simp] theorem State.setMeanPath_frame (p : Facet) (s : State) (ns : Int)
    (hp : p ∉ ([.clock, .dict] : List Facet)) :
    p.of (State.setMeanPath s ns) = p.of s := by
  simp at hp
  simp [hp, State.setMeanPath]

@[simp] theorem State.syncDone_frame (p : Facet) (s : State) (t1 t2 : Int)
    (hp : p ∉ ([.clock, .dict, .recorder] : List Facet)) :
    p.of (State.syncDone s t1 t2) = p.of s := by
  simp at hp
  simp [hp, State.syncDone]

@[simp] theorem State.takeUtc_frame (p : Facet) (s : State) (m : Octets)
    (hp : p ∉ ([.clock, .dict, .recorder] : List Facet)) :
    p.of (State.takeUtc s m) = p.of s := by
  simp at hp
  simp [hp, State.takeUtc]

@[simp] theorem timeOutputArm_frame (p : Facet) (n : Nat) (s : State) (y2 : Session)
    (hp : p ∉ ([.clock, .dict] : List Facet)) :
    p.of (timeOutputArm n s y2).state = p.of s := by
  simp at hp
  generalize ht : timeOutputArm n s y2 = t'
  unfold timeOutputArm at ht
  try dsimp only at ht
  repeat' (first
    | (subst ht; simp [hp]; done)
    | split at ht)

end Sys2Proof.Machine
end

