-- ==== Sys2Proof/Laws/Frame/Pair.lean ====
section
/-! SUPPORT. What the operations of Machine/Pair.lean leave unchanged: the parts of the state outside each one's footprint. -/

namespace Sys2Proof.Machine

@[simp] theorem State.setPairState_frame (p : Facet) (s : State) (n : Nat)
    (hp : p ∉ ([.pair, .dict, .recorder] : List Facet)) :
    p.of (State.setPairState s n) = p.of s := by
  simp at hp
  simp [hp, State.setPairState]

@[simp] theorem State.mirrorAcked_frame (p : Facet) (s : State) (ack : Nat)
    (hp : p ∉ ([.pair] : List Facet)) :
    p.of (State.mirrorAcked s ack) = p.of s := by
  simp at hp
  simp [hp, State.mirrorAcked]

@[simp] theorem State.finishDeferred_frame (p : Facet) (s : State)
    (hp : p ∉ ([.out, .fabric, .keys, .pair, .dict, .recorder] : List Facet)) :
    p.of (State.finishDeferred s) = p.of s := by
  simp at hp
  simp [hp, State.finishDeferred]

@[simp] theorem State.mirrorTake_frame (p : Facet) (s : State) (seq ack : Nat) (act : State → State)
    (hact : ∀ a0 d', d' = act a0 → p.of d' = p.of a0)
    (hp : p ∉ ([.out, .fabric, .keys, .pair, .dict, .recorder] : List Facet)) :
    p.of (State.mirrorTake s seq ack act) = p.of s := by
  have h'act := fun a0 => hact a0 _ rfl
  simp at hp
  simp [*, State.mirrorTake]

@[simp] theorem State.releaseReplies_frame (p : Facet) (s : State)
    (hp : p ∉ ([.out, .fabric, .keys, .pair, .dict, .recorder] : List Facet)) :
    p.of (State.releaseReplies s) = p.of s := by
  simp at hp
  simp [hp, State.releaseReplies]

@[simp] theorem State.writeRecord_frame (p : Facet) (s : State) (m : Nat) (o : Octets)
    (hp : p ∉ ([.mem, .meters] : List Facet)) :
    p.of (State.writeRecord s m o) = p.of s := by
  simp at hp
  generalize ht : State.writeRecord s m o = t'
  unfold State.writeRecord at ht
  try dsimp only at ht
  repeat' (first
    | (subst ht; simp [hp]; done)
    | split at ht)

@[simp] theorem State.startSync_frame (p : Facet) (s : State) (cause : Nat)
    (hp : p ∉ ([.pair, .dict, .recorder] : List Facet)) :
    p.of (State.startSync s cause) = p.of s := by
  simp at hp
  simp [hp, State.startSync]

@[simp] theorem State.sendChunk_frame (p : Facet) (s : State) (kind key : Nat) (data : Octets)
    (hp : p ∉ ([.out, .pair, .recorder] : List Facet)) :
    p.of (State.sendChunk s kind key data) = p.of s := by
  simp at hp
  simp [hp, State.sendChunk]

@[simp] theorem State.sendMeter_frame (p : Facet) (s0 : State) (x : Meter)
    (hp : p ∉ ([.out, .freeCount, .fabric, .mem, .meters, .pair, .dict, .recorder] : List Facet)) :
    p.of (State.sendMeter s0 x) = p.of s0 := by
  simp at hp
  simp [hp, State.sendMeter]

@[simp] theorem State.sendInput_frame (p : Facet) (s : State) (e : Nat × Val)
    (hp : p ∉ ([.out, .pair, .recorder] : List Facet)) :
    p.of (State.sendInput s e) = p.of s := by
  simp at hp
  generalize ht : State.sendInput s e = t'
  unfold State.sendInput at ht
  try dsimp only at ht
  repeat' (first
    | (subst ht; simp [hp]; done)
    | split at ht)

@[simp] theorem State.sendLine_frame (p : Facet) (s : State) (k : Nat) (x : LineLane)
    (hp : p ∉ ([.out, .pair, .recorder] : List Facet)) :
    p.of (State.sendLine s k x) = p.of s := by
  simp at hp
  simp [hp, State.sendLine]

@[simp] theorem State.sendRadioLane_frame (p : Facet) (s : State) (k : Nat) (x : RadioLane)
    (hp : p ∉ ([.out, .pair, .recorder] : List Facet)) :
    p.of (State.sendRadioLane s k x) = p.of s := by
  simp at hp
  simp [hp, State.sendRadioLane]

@[simp] theorem State.sendStructure_frame (p : Facet) (s : State) (n : Nat) (c : Structure)
    (hp : p ∉ ([.out, .pair, .recorder] : List Facet)) :
    p.of (State.sendStructure s n c) = p.of s := by
  simp at hp
  simp [hp, State.sendStructure]

@[simp] theorem State.verifyPass_frame (p : Facet) (s : State)
    (hp : p ∉ ([.keys] : List Facet)) :
    p.of (State.verifyPass s) = p.of s := by
  simp at hp
  simp [hp, State.verifyPass]

@[simp] theorem State.sendContainer_frame (p : Facet) (s : State)
    (hp : p ∉ ([.out, .pair, .recorder] : List Facet)) :
    p.of (State.sendContainer s) = p.of s := by
  simp at hp
  simp [hp, State.sendContainer]

@[simp] theorem State.sendTables_frame (p : Facet) (s : State)
    (hp : p ∉ ([.out, .pair, .recorder] : List Facet)) :
    p.of (State.sendTables s) = p.of s := by
  simp at hp
  simp [hp, State.sendTables]

@[simp] theorem State.syncPass_frame (p : Facet) (s : State)
    (hp : p ∉ ([.out, .freeCount, .fabric, .mem, .meters, .pair, .dict, .recorder] : List Facet)) :
    p.of (State.syncPass s) = p.of s := by
  simp at hp
  simp [hp, State.syncPass]

@[simp] theorem State.syncAdvance_frame (p : Facet) (s : State)
    (hp : p ∉ ([.out, .freeCount, .fabric, .mem, .meters, .pair, .dict, .recorder] : List Facet)) :
    p.of (State.syncAdvance s) = p.of s := by
  simp at hp
  simp [hp, State.syncAdvance]

@[simp] theorem State.takePlace_frame (p : Facet) (s : State) (key : Nat) (data : Octets)
    (hp : p ∉ ([.meters, .pair] : List Facet)) :
    p.of (State.takePlace s key data) = p.of s := by
  refine Facet.each ?_ p hp
  simp [State.takePlace]

@[simp] theorem State.takeTag_frame (p : Facet) (s : State) (lane tag : Nat) (data : Octets)
    (hp : p ∉ ([.line] : List Facet)) :
    p.of (State.takeTag s lane tag data) = p.of s := by
  simp at hp
  simp [hp, State.takeTag]

@[simp] theorem State.takeAssoc_frame (p : Facet) (s : State) (lane m : Nat) (data : Octets)
    (hp : p ∉ ([.radio] : List Facet)) :
    p.of (State.takeAssoc s lane m data) = p.of s := by
  simp at hp
  simp [hp, State.takeAssoc]

@[simp] theorem State.takeInput_frame (p : Facet) (s : State) (key : Nat) (data : Octets)
    (hp : p ∉ ([.dict] : List Facet)) :
    p.of (State.takeInput s key data) = p.of s := by
  simp at hp
  generalize ht : State.takeInput s key data = t'
  unfold State.takeInput at ht
  try dsimp only at ht
  repeat' (first
    | (subst ht; simp [hp]; done)
    | split at ht)

@[simp] theorem State.buildInputs_frame (p : Facet) (s : State)
    (hp : p ∉ ([.compiler, .dict, .recorder] : List Facet)) :
    p.of (State.buildInputs s) = p.of s := by
  simp at hp
  simp [hp, State.buildInputs]

@[simp] theorem State.endPasses_frame (p : Facet) (s : State) (passes pauseAt : Nat)
    (hp : p ∉ ([.compiler, .meters, .pair, .dict, .recorder] : List Facet)) :
    p.of (State.endPasses s passes pauseAt) = p.of s := by
  refine Facet.each ?_ p hp
  simp [State.endPasses]

@[simp] theorem State.takeChunk_frame (p : Facet) (s : State) (kind key : Nat) (data : Octets)
    (hp : p ∉ ([.compiler, .mem, .line, .radio, .meters, .billing, .keys, .pair, .dict, .recorder, .update] : List Facet)) :
    p.of (State.takeChunk s kind key data) = p.of s := by
  simp at hp
  simp [hp, State.takeChunk]

@[simp] theorem State.syncPause_frame (p : Facet) (s : State)
    (hp : p ∉ ([.pair] : List Facet)) :
    p.of (State.syncPause s) = p.of s := by
  simp at hp
  simp [hp, State.syncPause]

@[simp] theorem State.syncRelease_frame (p : Facet) (s : State)
    (hp : p ∉ ([.heat, .fabric, .pair, .dict, .recorder] : List Facet)) :
    p.of (State.syncRelease s) = p.of s := by
  simp at hp
  simp [hp, State.syncRelease]

@[simp] theorem State.mayTake_frame (p : Facet) (s : State) (at_ reason : Nat)
    (hp : p ∉ ([.pair] : List Facet)) :
    p.of (State.mayTake s at_ reason) = p.of s := by
  simp at hp
  simp [hp, State.mayTake]

@[simp] theorem State.cutFrames_frame (p : Facet) (s : State)
    (hp : p ∉ ([.line, .radio] : List Facet)) :
    p.of (State.cutFrames s) = p.of s := by
  refine Facet.each ?_ p hp
  simp [State.cutFrames]

@[simp] theorem State.lastHandover_frame (p : Facet) (s : State) (reason gap checks : Nat)
    (hp : p ∉ ([.dict] : List Facet)) :
    p.of (State.lastHandover s reason gap checks) = p.of s := by
  simp at hp
  simp [hp, State.lastHandover]

@[simp] theorem State.dropStep_frame (p : Facet) (s : State)
    (hp : p ∉ ([.clock, .dict] : List Facet)) :
    p.of (State.dropStep s) = p.of s := by
  simp at hp
  simp [hp, State.dropStep]

@[simp] theorem State.resign_frame (p : Facet) (s : State) (reason checks : Nat)
    (hp : p ∈ ([.fit, .pending, .elapsed, .compiler, .tunnel, .store, .boot, .update, .pins, .power, .test] : List Facet)) :
    p.of (State.resign s reason checks) = p.of s := by revert p; simp [State.resign]

@[simp] theorem State.commitAtTake_frame (p : Facet) (s : State)
    (hp : p ∉ ([.out, .compiler, .pair, .dict, .recorder] : List Facet)) :
    p.of (State.commitAtTake s) = p.of s := by
  simp at hp
  generalize ht : State.commitAtTake s = t'
  unfold State.commitAtTake at ht
  try dsimp only at ht
  repeat' (first
    | (subst ht; simp [hp]; done)
    | split at ht)

@[simp] theorem State.holdBaton_frame (p : Facet) (s : State)
    (hp : p ∉ ([.pair] : List Facet)) :
    p.of (State.holdBaton s) = p.of s := by
  simp at hp
  simp [hp, State.holdBaton]

@[simp] theorem State.tellTake_frame (p : Facet) (s : State) (reason gap : Nat)
    (hp : p ∉ ([.out, .pair, .dict, .recorder] : List Facet)) :
    p.of (State.tellTake s reason gap) = p.of s := by
  simp at hp
  generalize ht : State.tellTake s reason gap = t'
  unfold State.tellTake at ht
  try dsimp only at ht
  repeat' (first
    | (subst ht; simp [hp]; done)
    | split at ht)

@[simp] theorem State.takeTimeSource_frame (p : Facet) (s : State)
    (hp : p ∉ ([.place, .clock, .dict, .recorder] : List Facet)) :
    p.of (State.takeTimeSource s) = p.of s := by
  simp at hp
  simp [hp, State.takeTimeSource]

@[simp] theorem State.takeBaton_frame (p : Facet) (s : State) (reason : Nat)
    (hp : p ∈ ([.fit, .pending, .elapsed, .line, .radio, .tunnel, .keys, .store, .boot, .update, .pins, .power, .test] : List Facet)) :
    p.of (State.takeBaton s reason) = p.of s := by revert p; simp [State.takeBaton]

@[simp] theorem State.noteFailures_frame (p : Facet) (s : State)
    (hp : p ∉ ([.pair] : List Facet)) :
    p.of (State.noteFailures s) = p.of s := by
  simp at hp
  simp [hp, State.noteFailures]

@[simp] theorem State.resignStep_frame (p : Facet) (s : State)
    (hp : p ∈ ([.fit, .pending, .elapsed, .compiler, .tunnel, .store, .boot, .update, .pins, .power, .test] : List Facet)) :
    p.of (State.resignStep s) = p.of s := by revert p; simp [State.resignStep]

@[simp] theorem State.settleRole_frame (p : Facet) (s : State)
    (hp : p ∉ ([.pair, .dict, .recorder] : List Facet)) :
    p.of (State.settleRole s) = p.of s := by
  simp at hp
  simp [hp, State.settleRole]

@[simp] theorem State.takeHello_frame (p : Facet) (s : State) (unit_ : Nat) (preferred : Bool) (state : Nat)
    (wrong : Option Nat)
    (hp : p ∉ ([.pair, .dict, .recorder] : List Facet)) :
    p.of (State.takeHello s unit_ preferred state wrong) = p.of s := by
  simp at hp
  generalize ht : State.takeHello s unit_ preferred state wrong = t'
  unfold State.takeHello at ht
  try dsimp only at ht
  repeat' (first
    | (subst ht; simp [hp]; done)
    | split at ht)

@[simp] theorem State.sendHello_frame (p : Facet) (s : State)
    (hp : p ∉ ([.out, .pair, .recorder] : List Facet)) :
    p.of (State.sendHello s) = p.of s := by
  simp at hp
  simp [hp, State.sendHello]

@[simp] theorem State.takeHeartbeat_frame (p : Facet) (s : State) (state flags : Nat)
    (hp : p ∉ ([.out, .freeCount, .fabric, .mem, .meters, .keys, .pair, .dict, .recorder] : List Facet)) :
    p.of (State.takeHeartbeat s state flags) = p.of s := by
  simp at hp
  generalize ht : State.takeHeartbeat s state flags = t'
  unfold State.takeHeartbeat at ht
  try dsimp only at ht
  repeat' (first
    | (subst ht; simp [hp]; done)
    | split at ht)

@[simp] theorem State.sendHeartbeat_frame (p : Facet) (s : State)
    (hp : p ∉ ([.out, .pair, .recorder] : List Facet)) :
    p.of (State.sendHeartbeat s) = p.of s := by
  simp at hp
  simp [hp, State.sendHeartbeat]

@[simp] theorem State.peerLost_frame (p : Facet) (s : State) (later : Nat)
    (hp : p ∉ ([.pair, .recorder] : List Facet)) :
    p.of (State.peerLost s later) = p.of s := by
  simp at hp
  simp [hp, State.peerLost]

@[simp] theorem State.watchField_frame (p : Facet) (s : State)
    (hp : p ∉ ([.pair, .recorder] : List Facet)) :
    p.of (State.watchField s) = p.of s := by
  simp at hp
  simp [hp, State.watchField]

@[simp] theorem State.sendPlan_frame (p : Facet) (s : State) (kind : Nat)
    (hp : p ∉ ([.out, .pair, .recorder] : List Facet)) :
    p.of (State.sendPlan s kind) = p.of s := by
  simp at hp
  simp [hp, State.sendPlan]

@[simp] theorem plannedHandover_frame (p : Facet) (s : State) (y1 : Session)
    (hp : p ∉ ([.out, .pair, .recorder] : List Facet)) :
    p.of (plannedHandover s y1).state = p.of s := by
  simp at hp
  generalize ht : plannedHandover s y1 = t'
  unfold plannedHandover at ht
  try dsimp only at ht
  repeat' (first
    | (subst ht; simp [hp]; done)
    | split at ht)

@[simp] theorem releaseHeld_frame (p : Facet) (s : State) (y1 : Session)
    (hp : p ∉ ([.pair, .recorder] : List Facet)) :
    p.of (releaseHeld s y1).state = p.of s := by
  simp at hp
  simp [hp, releaseHeld]

@[simp] theorem resynchronise_frame (p : Facet) (s : State) (y1 : Session)
    (hp : p ∉ ([.pair, .dict, .recorder] : List Facet)) :
    p.of (resynchronise s y1).state = p.of s := by
  simp at hp
  generalize ht : resynchronise s y1 = t'
  unfold resynchronise at ht
  try dsimp only at ht
  repeat' (first
    | (subst ht; simp [hp]; done)
    | split at ht)

@[simp] theorem State.mirroredUplink_frame (p : Facet) (s : State) (port : Nat) (datagram : Octets)
    (hp : p ∉ ([.out, .fabric, .queues, .mem, .meters, .tunnel, .loss, .pair, .dict, .recorder] : List Facet)) :
    p.of (State.mirroredUplink s port datagram) = p.of s := by
  simp at hp
  generalize ht : State.mirroredUplink s port datagram = t'
  unfold State.mirroredUplink at ht
  try dsimp only at ht
  repeat' (first
    | (subst ht; simp [hp]; done)
    | split at ht)

@[simp] theorem State.sendTime_frame (p : Facet) (s : State)
    (hp : p ∉ ([.out, .pair, .recorder] : List Facet)) :
    p.of (State.sendTime s) = p.of s := by
  simp at hp
  simp [hp, State.sendTime]

@[simp] theorem State.takeReport_frame (p : Facet) (s : State) (args : List Nat) (data : Octets)
    (hp : p ∉ ([.out, .compiler, .pair, .dict, .recorder] : List Facet)) :
    p.of (State.takeReport s args data) = p.of s := by
  simp at hp
  generalize ht : State.takeReport s args data = t'
  unfold State.takeReport at ht
  try dsimp only at ht
  repeat' (first
    | (subst ht; simp [hp]; done)
    | split at ht)

@[simp] theorem State.takeMgmt_frame (p : Facet) (s : State) (at_ kind : Nat) (args : List Nat) (data : Octets)
    (hp : p ∉ ([.out, .compiler, .place, .pair, .dict, .recorder] : List Facet)) :
    p.of (State.takeMgmt s at_ kind args data) = p.of s := by
  simp at hp
  simp [hp, State.takeMgmt]

@[simp] theorem State.compareBin_frame (p : Facet) (s : State) (bin : Nat)
    (hp : p ∉ ([.out, .pair, .dict, .recorder] : List Facet)) :
    p.of (State.compareBin s bin) = p.of s := by
  simp at hp
  generalize ht : State.compareBin s bin = t'
  unfold State.compareBin at ht
  try dsimp only at ht
  repeat' (first
    | (subst ht; simp [hp]; done)
    | split at ht)

@[simp] theorem State.detachAndSync_frame (p : Facet) (s : State) (cause : Nat)
    (hp : p ∉ ([.pair, .dict, .recorder] : List Facet)) :
    p.of (State.detachAndSync s cause) = p.of s := by
  simp at hp
  simp [hp, State.detachAndSync]

@[simp] theorem State.sendRepair_frame (p : Facet) (s : State) (m : Nat)
    (hp : p ∉ ([.out, .freeCount, .fabric, .mem, .meters, .pair, .dict, .recorder] : List Facet)) :
    p.of (State.sendRepair s m) = p.of s := by
  simp at hp
  generalize ht : State.sendRepair s m = t'
  unfold State.sendRepair at ht
  try dsimp only at ht
  repeat' (first
    | (subst ht; simp [hp]; done)
    | split at ht)

@[simp] theorem State.takeRepair_frame (p : Facet) (s : State) (meter : Nat) (record : Octets)
    (hp : p ∉ ([.freeCount, .heat, .fabric, .queues, .mem, .place, .meters, .pair, .dict, .recorder] : List Facet)) :
    p.of (State.takeRepair s meter record) = p.of s := by
  simp at hp
  generalize ht : State.takeRepair s meter record = t'
  unfold State.takeRepair at ht
  try dsimp only at ht
  repeat' (first
    | (subst ht; simp [hp]; done)
    | split at ht)

end Sys2Proof.Machine
end

