-- ==== Sys2Proof/Laws/Frame/Dictionary.lean ====
section
/-! SUPPORT. What the operations of Machine/Dictionary.lean leave unchanged: the parts of the state outside each one's footprint. -/

namespace Sys2Proof.Machine

@[simp] theorem State.sendClear_frame (p : Facet) (s : State) (transport : Nat) (bytes : Octets)
    (hp : p ∉ ([.out, .dict, .recorder] : List Facet)) :
    p.of (State.sendClear s transport bytes) = p.of s := by
  simp at hp
  simp [hp, State.sendClear]

@[simp] theorem State.rejectOpen_frame (p : Facet) (s : State) (transport role status : Nat)
    (hp : p ∉ ([.out, .fabric, .dict, .recorder] : List Facet)) :
    p.of (State.rejectOpen s transport role status) = p.of s := by
  simp at hp
  simp [hp, State.rejectOpen]

@[simp] theorem State.openAs_frame (p : Facet) (s : State) (transport role slot : Nat) (peer hostNonce : Octets)
    (hp : p ∉ ([.out, .freeCount, .mem, .keys, .dict, .recorder] : List Facet)) :
    p.of (State.openAs s transport role slot peer hostNonce) = p.of s := by
  simp at hp
  simp [hp, State.openAs]

@[simp] theorem State.ringReply_frame (p : Facet) (s : State) (c : Nat) (b : Octets) (rest : List (Octets × Nat))
    (hp : p ∉ ([.out, .dict, .recorder] : List Facet)) :
    p.of (State.ringReply s c b rest) = p.of s := by
  simp at hp
  simp [hp, State.ringReply]

@[simp] theorem State.flushRing_frame (p : Facet) (s : State) (c n : Nat)
    (hp : p ∉ ([.out, .dict, .recorder] : List Facet)) :
    p.of (State.flushRing s c n) = p.of s := by
  simp at hp
  induction n generalizing s with
  | zero => simp [State.flushRing, hp]
  | succ k ih =>
    generalize ht : State.flushRing s c (k + 1) = t'
    unfold State.flushRing at ht
    try dsimp only at ht
    repeat' (first
      | (subst ht; simp [ih, hp]; done)
      | split at ht)

@[simp] theorem State.mailboxFails_frame (p : Facet) (s : State) (channel e : Nat)
    (hp : p ∉ ([.dict, .recorder] : List Facet)) :
    p.of (State.mailboxFails s channel e) = p.of s := by
  simp at hp
  simp [hp, State.mailboxFails]

@[simp] theorem State.openRings_frame (p : Facet) (s : State)
    (channel baseIn baseOut entries vector producer consumer : Nat)
    (hp : p ∉ ([.out, .dict, .recorder] : List Facet)) :
    p.of (State.openRings s channel baseIn baseOut entries vector producer consumer) = p.of s := by
  simp at hp
  simp [hp, State.openRings]

@[simp] theorem State.resetMailbox_frame (p : Facet) (s : State)
    (hp : p ∉ ([.keys, .dict, .recorder] : List Facet)) :
    p.of (State.resetMailbox s) = p.of s := by
  simp at hp
  simp [hp, State.resetMailbox]

@[simp] theorem configurationReset_frame (p : Facet) (s : State) (y1 : Session)
    (hp : p ∉ ([.line, .dict, .recorder] : List Facet)) :
    p.of (configurationReset s y1).state = p.of s := by
  simp at hp
  generalize ht : configurationReset s y1 = t'
  unfold configurationReset at ht
  try dsimp only at ht
  repeat' (first
    | (subst ht; simp [hp]; done)
    | split at ht)

end Sys2Proof.Machine
end

