-- ==== Sys2Proof/Laws/Frame/Boot.lean ====
section
/-! SUPPORT. What the operations of Machine/Boot.lean leave unchanged: the parts of the state outside each one's footprint. -/

namespace Sys2Proof.Machine

@[simp] theorem State.pilotCounted_frame (p : Facet) (s : State)
    (hp : p ∉ ([.dict] : List Facet)) :
    p.of (State.pilotCounted s) = p.of s := by
  simp at hp
  simp [hp, State.pilotCounted]

@[simp] theorem State.dropVolatile_frame (p : Facet) (s : State)
    (hp : p ∈ ([.fit, .pending, .out, .elapsed, .freeCount, .boot] : List Facet)) :
    p.of (State.dropVolatile s) = p.of s := by revert p; simp [State.dropVolatile]

@[simp] theorem State.startBringUp_frame (p : Facet) (s : State) (cause : Nat)
    (hp : p ∈ ([.fit, .pending, .out, .elapsed, .freeCount] : List Facet)) :
    p.of (State.startBringUp s cause) = p.of s := by revert p; simp [State.startBringUp]

@[simp] theorem State.nextStep_frame (p : Facet) (s : State)
    (hp : p ∉ ([.dict, .boot] : List Facet)) :
    p.of (State.nextStep s) = p.of s := by
  simp at hp
  simp [hp, State.nextStep]

@[simp] theorem State.tileStep_frame (p : Facet) (s : State) (tile : Nat)
    (hp : p ∉ ([.dict, .boot] : List Facet)) :
    p.of (State.tileStep s tile) = p.of s := by
  simp at hp
  simp [hp, State.tileStep]

@[simp] theorem State.haltBringUp_frame (p : Facet) (s : State) (code tile : Nat)
    (hp : p ∉ ([.dict, .boot, .recorder] : List Facet)) :
    p.of (State.haltBringUp s code tile) = p.of s := by
  simp at hp
  simp [hp, State.haltBringUp]

@[simp] theorem State.dramStarts_frame (p : Facet) (s : State) (tile : Nat)
    (hp : p ∉ ([.dict] : List Facet)) :
    p.of (State.dramStarts s tile) = p.of s := by
  simp at hp
  simp [hp, State.dramStarts]

@[simp] theorem State.dramReady_frame (p : Facet) (s : State) (tile since : Nat)
    (hp : p ∉ ([.dict, .recorder] : List Facet)) :
    p.of (State.dramReady s tile since) = p.of s := by
  simp at hp
  simp [hp, State.dramReady]

@[simp] theorem State.loadKeys_frame (p : Facet) (s : State)
    (hp : p ∉ ([.mem, .keys, .dict, .recorder] : List Facet)) :
    p.of (State.loadKeys s) = p.of s := by
  simp at hp
  simp [hp, State.loadKeys]

@[simp] theorem State.firmwareStart_frame (p : Facet) (s : State) (second : Bool) (imageDigest : Octets)
    (version : Nat)
    (hp : p ∉ ([.mem, .billing, .keys, .store, .dict, .boot, .recorder] : List Facet)) :
    p.of (State.firmwareStart s second imageDigest version) = p.of s := by
  simp at hp
  generalize ht : State.firmwareStart s second imageDigest version = t'
  unfold State.firmwareStart at ht
  try dsimp only at ht
  repeat' (first
    | (subst ht; simp [hp]; done)
    | split at ht)

@[simp] theorem State.revertBoot_frame (p : Facet) (s : State)
    (hp : p ∉ ([.recorder, .update] : List Facet)) :
    p.of (State.revertBoot s) = p.of s := by
  simp at hp
  simp [hp, State.revertBoot]

@[simp] theorem State.startSlot_frame (p : Facet) (s : State) (second : Bool) (imageDigest : Octets) (version : Nat)
    (hp : p ∉ ([.mem, .billing, .keys, .store, .dict, .boot, .recorder, .update] : List Facet)) :
    p.of (State.startSlot s second imageDigest version) = p.of s := by
  simp at hp
  simp [hp, State.startSlot]

@[simp] theorem State.setSlotFrom_frame (p : Facet) (s t : State) (n : Nat)
    (hp : p ∉ ([.mem, .keys, .dict, .recorder] : List Facet)) :
    p.of (State.setSlotFrom s t n) = p.of s := by
  simp at hp
  generalize ht : State.setSlotFrom s t n = t'
  unfold State.setSlotFrom at ht
  try dsimp only at ht
  repeat' (first
    | (subst ht; simp [hp]; done)
    | split at ht)

@[simp] theorem State.enterRom_frame (p : Facet) (s : State) (a b : Nat)
    (hp : p ∉ ([.mem, .keys, .dict, .boot, .recorder] : List Facet)) :
    p.of (State.enterRom s a b) = p.of s := by
  simp at hp
  simp [hp, State.enterRom]

@[simp] theorem State.linksUp_frame (p : Facet) (s : State)
    (hp : p ∉ ([.heat] : List Facet)) :
    p.of (State.linksUp s) = p.of s := by
  simp at hp
  simp [hp, State.linksUp]

@[simp] theorem State.endEnumeration_frame (p : Facet) (s : State) (found : Nat)
    (hp : p ∉ ([.heat, .fabric, .dict, .boot, .recorder] : List Facet)) :
    p.of (State.endEnumeration s found) = p.of s := by
  simp at hp
  generalize ht : State.endEnumeration s found = t'
  unfold State.endEnumeration at ht
  try dsimp only at ht
  repeat' (first
    | (subst ht; simp [hp]; done)
    | split at ht)

@[simp] theorem State.inputsPending_frame (p : Facet) (s : State)
    (hp : p ∉ ([.dict] : List Facet)) :
    p.of (State.inputsPending s) = p.of s := by
  simp at hp
  simp [hp, State.inputsPending]

@[simp] theorem State.stageBuilt_frame (p : Facet) (s : State) (i : Inputs) (trigger : Nat)
    (hp : p ∉ ([.compiler, .dict, .recorder] : List Facet)) :
    p.of (State.stageBuilt s i trigger) = p.of s := by
  simp at hp
  simp [hp, State.stageBuilt]

@[simp] theorem State.loadSheet_frame (p : Facet) (s0 : State)
    (hp : p ∉ ([.compiler, .dict, .recorder] : List Facet)) :
    p.of (State.loadSheet s0) = p.of s0 := by
  simp at hp
  generalize ht : State.loadSheet s0 = t'
  unfold State.loadSheet at ht
  try dsimp only at ht
  repeat' (first
    | (subst ht; simp [hp]; done)
    | split at ht)

@[simp] theorem State.bootSlotMaps_frame (p : Facet) (s : State)
    (hp : p ∉ ([.out, .mem, .billing, .clock, .pair, .dict, .recorder] : List Facet)) :
    p.of (State.bootSlotMaps s) = p.of s := by
  simp at hp
  simp [hp, State.bootSlotMaps]

@[simp] theorem State.startPair_frame (p : Facet) (s : State)
    (hp : p ∉ ([.clock, .pair, .dict, .recorder] : List Facet)) :
    p.of (State.startPair s) = p.of s := by
  simp at hp
  simp [hp, State.startPair]

@[simp] theorem State.becomeReady_frame (p : Facet) (s : State)
    (hp : p ∈ ([.fit, .pending, .elapsed, .update, .pins, .power, .test] : List Facet)) :
    p.of (State.becomeReady s) = p.of s := by
  generalize ht : State.becomeReady s = t'
  unfold State.becomeReady at ht
  try dsimp only at ht
  repeat' (first
    | (subst ht; revert p; simp; done)
    | split at ht)

@[simp] theorem State.handOver_frame (p : Facet) (s : State)
    (hp : p ∉ ([.out, .pair, .recorder] : List Facet)) :
    p.of (State.handOver s) = p.of s := by
  simp at hp
  simp [hp, State.handOver]

@[simp] theorem restartRequest_frame (p : Facet) (s : State) (x : Session)
    (hp : p ∉ ([.out, .pair, .boot, .recorder] : List Facet)) :
    p.of (restartRequest s x).state = p.of s := by
  simp at hp
  generalize ht : restartRequest s x = t'
  unfold restartRequest at ht
  try dsimp only at ht
  repeat' (first
    | (subst ht; simp [hp]; done)
    | split at ht)

@[simp] theorem State.acceptChange_frame (p : Facet) (s : State) (target : Nat)
    (hp : p ∉ ([.out, .pair, .boot, .recorder] : List Facet)) :
    p.of (State.acceptChange s target) = p.of s := by
  simp at hp
  simp [hp, State.acceptChange]

@[simp] theorem lifeCycleSubmit_frame (p : Facet) (target : Nat) (blob hdr : Octets) (s : State) (y4 : Session)
    (hp : p ∉ ([.out, .pair, .boot, .recorder] : List Facet)) :
    p.of (lifeCycleSubmit target blob hdr s y4).state = p.of s := by
  simp at hp
  generalize ht : lifeCycleSubmit target blob hdr s y4 = t'
  unfold lifeCycleSubmit at ht
  try dsimp only at ht
  repeat' (first
    | (subst ht; simp [hp]; done)
    | split at ht)

@[simp] theorem State.blowFuses_frame (p : Facet) (s : State) (target : Nat)
    (hp : p ∉ ([.keys, .boot] : List Facet)) :
    p.of (State.blowFuses s target) = p.of s := by
  simp at hp
  simp [hp, State.blowFuses]

@[simp] theorem State.flushBilling_frame (p : Facet) (s : State)
    (hp : p ∉ ([.out, .freeCount, .fabric, .mem, .meters, .billing, .store, .pair, .dict, .recorder] : List Facet)) :
    p.of (State.flushBilling s) = p.of s := by
  simp at hp
  simp [hp, State.flushBilling]

@[simp] theorem State.eraseAll_frame (p : Facet) (s : State)
    (hp : p ∉ ([.compiler, .place, .meters, .billing, .loss, .keys, .store, .dict, .recorder, .update] : List Facet)) :
    p.of (State.eraseAll s) = p.of s := by
  refine Facet.each ?_ p hp
  simp [State.eraseAll]

@[simp] theorem State.runChange_frame (p : Facet) (s : State) (target : Nat)
    (hp : p ∈ ([.fit, .pending, .elapsed] : List Facet)) :
    p.of (State.runChange s target) = p.of s := by revert p; simp [State.runChange]

@[simp] theorem State.leaveStep_frame (p : Facet) (s : State)
    (hp : p ∈ ([.fit, .pending, .elapsed] : List Facet)) :
    p.of (State.leaveStep s) = p.of s := by
  generalize ht : State.leaveStep s = t'
  unfold State.leaveStep at ht
  try dsimp only at ht
  repeat' (first
    | (subst ht; revert p; simp; done)
    | split at ht)

@[simp] theorem State.tamperStatus_frame (p : Facet) (s : State) (seen : Bool)
    (hp : p ∉ ([.dict] : List Facet)) :
    p.of (State.tamperStatus s seen) = p.of s := by
  simp at hp
  simp [hp, State.tamperStatus]

@[simp] theorem State.tamper_frame (p : Facet) (s : State) (input : Nat)
    (hp : p ∈ ([.fit, .pending, .out, .elapsed, .freeCount] : List Facet)) :
    p.of (State.tamper s input) = p.of s := by revert p; simp [State.tamper]

end Sys2Proof.Machine
end

