-- ==== Sys2Proof/Laws/Frame/Recovery.lean ====
section
/-! SUPPORT. What the operations of Machine/Recovery.lean leave unchanged: the parts of the state outside each one's footprint. -/

namespace Sys2Proof.Machine

@[simp] theorem State.retrainDram_frame (p : Facet) (s : State) (tile : Nat)
    (hp : p ∉ ([.recorder] : List Facet)) :
    p.of (State.retrainDram s tile) = p.of s := by
  simp at hp
  simp [hp, State.retrainDram]

@[simp] theorem State.dramWriteExpiry_frame (p : Facet) (s : State) (tile address : Nat)
    (hp : p ∉ ([.mem, .pair, .dict, .recorder] : List Facet)) :
    p.of (State.dramWriteExpiry s tile address) = p.of s := by
  refine Facet.each ?_ p hp
  simp [State.dramWriteExpiry]

@[simp] theorem State.reread_frame (p : Facet) (s : State) (tile block page pool : Nat)
    (hp : p ∉ ([.store, .recorder] : List Facet)) :
    p.of (State.reread s tile block page pool) = p.of s := by
  simp at hp
  simp [hp, State.reread]

@[simp] theorem State.restage_frame (p : Facet) (s : State) (g : Segment)
    (hp : p ∉ ([.store, .recorder] : List Facet)) :
    p.of (State.restage s g) = p.of s := by
  simp at hp
  simp [hp, State.restage]

@[simp] theorem State.removeDie_frame (p : Facet) (s : State) (tile die : Nat)
    (hp : p ∉ ([.store, .recorder] : List Facet)) :
    p.of (State.removeDie s tile die) = p.of s := by
  simp at hp
  simp [hp, State.removeDie]

@[simp] theorem State.setHealth_frame (p : Facet) (s : State) (t : Nat) (x : Health)
    (hp : p ∉ ([.dict, .recorder] : List Facet)) :
    p.of (State.setHealth s t x) = p.of s := by
  simp at hp
  simp [hp, State.setHealth]

@[simp] theorem State.primaryHeard_frame (p : Facet) (s : State) (t : Nat)
    (hp : p ∉ ([.dict, .recorder] : List Facet)) :
    p.of (State.primaryHeard s t) = p.of s := by
  simp at hp
  generalize ht : State.primaryHeard s t = t'
  unfold State.primaryHeard at ht
  try dsimp only at ht
  repeat' (first
    | (subst ht; simp [hp]; done)
    | split at ht)

@[simp] theorem State.holdPipe_frame (fct : Facet) (s : State) (t p : Nat)
    (hp : fct ∉ ([.fabric, .dict, .recorder] : List Facet)) :
    fct.of (State.holdPipe s t p) = fct.of s := by
  simp at hp
  simp [hp, State.holdPipe]

@[simp] theorem State.failTile_frame (p : Facet) (s : State) (t : Nat)
    (hp : p ∉ ([.out, .fabric, .compiler, .place, .pair, .dict, .recorder] : List Facet)) :
    p.of (State.failTile s t) = p.of s := by
  simp at hp
  simp [hp, State.failTile]

@[simp] theorem State.resetTile_frame (p : Facet) (s0 : State) (t : Nat)
    (hp : p ∉ ([.heat, .fabric, .queues, .mem, .line, .radio, .meters, .billing, .loss, .keys, .store, .recorder,
      .test] : List Facet)) :
    p.of (State.resetTile s0 t) = p.of s0 := by
  refine Facet.each ?_ p hp
  simp [State.resetTile]

@[simp] theorem State.startLanes_frame (p : Facet) (s : State) (t : Nat)
    (hp : p ∉ ([.out, .mem, .place, .line, .radio, .keys, .dict, .recorder] : List Facet)) :
    p.of (State.startLanes s t) = p.of s := by
  simp at hp
  simp [hp, State.startLanes]

@[simp] theorem State.rejoinTile_frame (p : Facet) (s : State) (t : Nat)
    (hp : p ∉ ([.out, .mem, .place, .line, .radio, .keys, .pair, .dict, .boot, .recorder] : List Facet)) :
    p.of (State.rejoinTile s t) = p.of s := by
  simp at hp
  simp [hp, State.rejoinTile]

@[simp] theorem State.logRecord_frame (p : Facet) (s : State) (seq : Nat) (o : Offer) (code : Nat) (data : List Nat)
    (hp : p ∉ ([.recorder] : List Facet)) :
    p.of (State.logRecord s seq o code data) = p.of s := by
  simp at hp
  simp [hp, State.logRecord]

@[simp] theorem State.recordAt_frame (p : Facet) (s : State) (seq : Nat) (o : Offer)
    (hp : p ∉ ([.recorder] : List Facet)) :
    p.of (State.recordAt s seq o) = p.of s := by
  simp at hp
  simp [hp, State.recordAt]

@[simp] theorem State.takeOffer_frame (p : Facet) (s : State) (o : Offer) (rest : List Offer)
    (hp : p ∉ ([.dict, .recorder] : List Facet)) :
    p.of (State.takeOffer s o rest) = p.of s := by
  simp at hp
  simp [hp, State.takeOffer]

@[simp] theorem State.holdOffer_frame (p : Facet) (s : State) (o : Offer) (rest : List Offer)
    (hp : p ∉ ([.recorder, .power] : List Facet)) :
    p.of (State.holdOffer s o rest) = p.of s := by
  refine Facet.each ?_ p hp
  simp [State.holdOffer]

@[simp] theorem State.writeEventPage_frame (p : Facet) (s : State)
    (hp : p ∉ ([.recorder] : List Facet)) :
    p.of (State.writeEventPage s) = p.of s := by
  simp at hp
  simp [hp, State.writeEventPage]

@[simp] theorem eventLogClear_frame (p : Facet) (expected : Nat) (s : State) (y2 : Session)
    (hp : p ∉ ([.recorder] : List Facet)) :
    p.of (eventLogClear expected s y2).state = p.of s := by
  simp at hp
  generalize ht : eventLogClear expected s y2 = t'
  unfold eventLogClear at ht
  try dsimp only at ht
  repeat' (first
    | (subst ht; simp [hp]; done)
    | split at ht)

@[simp] theorem counterSnapshotNow_frame (p : Facet) (s : State) (y1 : Session)
    (hp : p ∉ ([.recorder] : List Facet)) :
    p.of (counterSnapshotNow s y1).state = p.of s := by
  simp at hp
  generalize ht : counterSnapshotNow s y1 = t'
  unfold counterSnapshotNow at ht
  try dsimp only at ht
  repeat' (first
    | (subst ht; simp [hp]; done)
    | split at ht)

end Sys2Proof.Machine
end

