-- ==== Sys2Proof/Laws/Frame/Update.lean ====
section
/-! SUPPORT. What the operations of Machine/Update.lean leave unchanged: the parts of the state outside each one's footprint. -/

namespace Sys2Proof.Machine

@[simp] theorem State.setUpdate_frame (p : Facet) (s : State) (n : Nat)
    (hp : p ∉ ([.dict, .update] : List Facet)) :
    p.of (State.setUpdate s n) = p.of s := by
  simp at hp
  simp [hp, State.setUpdate]

@[simp] theorem State.updateFailed_frame (p : Facet) (s : State) (code : Nat)
    (hp : p ∉ ([.dict, .update] : List Facet)) :
    p.of (State.updateFailed s code) = p.of s := by
  simp at hp
  simp [hp, State.updateFailed]

@[simp] theorem State.stagingWritten_frame (p : Facet) (s : State)
    (hp : p ∉ ([.keys, .recorder] : List Facet)) :
    p.of (State.stagingWritten s) = p.of s := by
  simp at hp
  simp [hp, State.stagingWritten]

@[simp] theorem stagingOpen_frame (p : Facet) (length target : Nat) (s : State) (x : Session)
    (hp : p ∉ ([.dict, .update] : List Facet)) :
    p.of (stagingOpen length target s x).state = p.of s := by
  simp at hp
  generalize ht : stagingOpen length target s x = t'
  unfold stagingOpen at ht
  try dsimp only at ht
  repeat' (first
    | (subst ht; simp [hp]; done)
    | split at ht)

@[simp] theorem imageBlock_frame (p : Facet) (offset : Nat) (window : Octets) (s : State) (x : Session)
    (hp : p ∉ ([.update] : List Facet)) :
    p.of (imageBlock offset window s x).state = p.of s := by
  simp at hp
  generalize ht : imageBlock offset window s x = t'
  unfold imageBlock at ht
  try dsimp only at ht
  repeat' (first
    | (subst ht; simp [hp]; done)
    | split at ht)

@[simp] theorem stagingVerify_frame (p : Facet) (s : State) (x : Session)
    (hp : p ∉ ([.keys, .dict, .update] : List Facet)) :
    p.of (stagingVerify s x).state = p.of s := by
  simp at hp
  generalize ht : stagingVerify s x = t'
  unfold stagingVerify at ht
  try dsimp only at ht
  repeat' (first
    | (subst ht; simp [hp]; done)
    | split at ht)

@[simp] theorem stagingAbort_frame (p : Facet) (s : State) (x : Session)
    (hp : p ∉ ([.keys, .dict, .recorder, .update] : List Facet)) :
    p.of (stagingAbort s x).state = p.of s := by
  simp at hp
  generalize ht : stagingAbort s x = t'
  unfold stagingAbort at ht
  try dsimp only at ht
  repeat' (first
    | (subst ht; simp [hp]; done)
    | split at ht)

@[simp] theorem State.stagedInfo_frame (p : Facet) (s : State) (x : BootSlot) (part : Bool)
    (hp : p ∉ ([.dict] : List Facet)) :
    p.of (State.stagedInfo s x part) = p.of s := by
  simp at hp
  simp [hp, State.stagedInfo]

@[simp] theorem State.writeDirectory_frame (p : Facet) (s : State) (first second : Nat) (confirmed : Bool)
    (count : Nat)
    (hp : p ∉ ([.update] : List Facet)) :
    p.of (State.writeDirectory s first second confirmed count) = p.of s := by
  simp at hp
  simp [hp, State.writeDirectory]

@[simp] theorem State.verified_frame (p : Facet) (s : State)
    (hp : p ∈ ([.fit, .pending, .elapsed, .freeCount] : List Facet)) :
    p.of (State.verified s) = p.of s := by revert p; simp [State.verified]

@[simp] theorem State.consumeTicket_frame (p : Facet) (s : State)
    (hp : p ∉ ([.keys] : List Facet)) :
    p.of (State.consumeTicket s) = p.of s := by
  simp at hp
  simp [hp, State.consumeTicket]

@[simp] theorem State.verifyFails_frame (p : Facet) (s : State) (voided : Bool) (n : Nat)
    (hp : p ∉ ([.fabric, .keys, .dict, .recorder, .update] : List Facet)) :
    p.of (State.verifyFails s voided n) = p.of s := by
  simp at hp
  simp [hp, State.verifyFails]

@[simp] theorem State.reportVerified_frame (p : Facet) (s : State)
    (hp : p ∉ ([.out, .pair, .recorder] : List Facet)) :
    p.of (State.reportVerified s) = p.of s := by
  simp at hp
  simp [hp, State.reportVerified]

@[simp] theorem State.beginActivation_frame (p : Facet) (s : State)
    (hp : p ∉ ([.dict, .update] : List Facet)) :
    p.of (State.beginActivation s) = p.of s := by
  simp at hp
  simp [hp, State.beginActivation]

@[simp] theorem activate_frame (p : Facet) (imageId : Nat) (s : State) (y2 : Session)
    (hp : p ∉ ([.out, .fabric, .pair, .dict, .recorder, .update] : List Facet)) :
    p.of (activate imageId s y2).state = p.of s := by
  simp at hp
  generalize ht : activate imageId s y2 = t'
  unfold activate at ht
  try dsimp only at ht
  repeat' (first
    | (subst ht; simp [hp]; done)
    | split at ht)

@[simp] theorem State.activationStep_frame (p : Facet) (s : State)
    (hp : p ∉ ([.out, .freeCount, .heat, .fabric, .compiler, .mem, .meters, .billing, .store, .pair, .dict, .recorder,
      .update] : List Facet)) :
    p.of (State.activationStep s) = p.of s := by
  generalize ht : State.activationStep s = t'
  unfold State.activationStep at ht
  try dsimp only at ht
  repeat' (first
    | (subst ht; refine Facet.each ?_ p hp; simp; done)
    | split at ht)

@[simp] theorem State.measure_frame (p : Facet) (s : State) (m : Octets) (version : Nat)
    (hp : p ∉ ([.mem, .keys, .dict, .boot, .recorder] : List Facet)) :
    p.of (State.measure s m version) = p.of s := by
  simp at hp
  simp [hp, State.measure]

@[simp] theorem State.startImage_frame (p : Facet) (s : State) (k : Nat)
    (hp : p ∉ ([.mem, .keys, .dict, .boot, .recorder, .update] : List Facet)) :
    p.of (State.startImage s k) = p.of s := by
  generalize ht : State.startImage s k = t'
  unfold State.startImage at ht
  try dsimp only at ht
  repeat' (first
    | (subst ht; refine Facet.each ?_ p hp; simp; done)
    | split at ht)

@[simp] theorem State.ownerLock_frame (p : Facet) (s : State) (on : Bool)
    (hp : p ∉ ([.dict, .recorder] : List Facet)) :
    p.of (State.ownerLock s on) = p.of s := by
  simp at hp
  simp [hp, State.ownerLock]

@[simp] theorem State.cancelPair_frame (p : Facet) (s : State) (reason : Nat)
    (hp : p ∉ ([.out, .pair, .recorder, .update] : List Facet)) :
    p.of (State.cancelPair s reason) = p.of s := by
  simp at hp
  simp [hp, State.cancelPair]

@[simp] theorem State.peerActivate_frame (p : Facet) (s : State) (imageId : Nat)
    (hp : p ∉ ([.dict, .update] : List Facet)) :
    p.of (State.peerActivate s imageId) = p.of s := by
  simp at hp
  simp [hp, State.peerActivate]

@[simp] theorem State.peerRevert_frame (p : Facet) (s : State)
    (hp : p ∉ ([.mem, .keys, .pair, .dict, .boot, .recorder, .update] : List Facet)) :
    p.of (State.peerRevert s) = p.of s := by
  simp at hp
  simp [hp, State.peerRevert]

@[simp] theorem State.pairUpdateStep_frame (p : Facet) (s : State)
    (hp : p ∉ ([.out, .pair, .dict, .recorder, .update] : List Facet)) :
    p.of (State.pairUpdateStep s) = p.of s := by
  simp at hp
  generalize ht : State.pairUpdateStep s = t'
  unfold State.pairUpdateStep at ht
  try dsimp only at ht
  repeat' (first
    | (subst ht; simp [hp]; done)
    | split at ht)

@[simp] theorem State.setCampaign_frame (p : Facet) (s : State) (c : Campaign)
    (hp : p ∉ ([.update] : List Facet)) :
    p.of (State.setCampaign s c) = p.of s := by
  simp at hp
  simp [hp, State.setCampaign]

@[simp] theorem campaignStart_frame (p : Facet) (imageId : Nat) (s : State) (y2 : Session)
    (hp : p ∉ ([.meters, .recorder, .update] : List Facet)) :
    p.of (campaignStart imageId s y2).state = p.of s := by
  generalize ht : campaignStart imageId s y2 = t'
  unfold campaignStart at ht
  try dsimp only at ht
  repeat' (first
    | (subst ht; refine Facet.each ?_ p hp; simp; done)
    | split at ht)

@[simp] theorem State.broadcastBlock_frame (p : Facet) (s : State) (imageId n : Nat) (data : Octets)
    (hp : p ∉ ([.fabric, .queues, .mem, .dict, .recorder] : List Facet)) :
    p.of (State.broadcastBlock s imageId n data) = p.of s := by
  simp at hp
  simp [hp, State.broadcastBlock]

@[simp] theorem State.unicastBlock_frame (p : Facet) (s : State) (m imageId n : Nat) (data : Octets)
    (hp : p ∉ ([.fabric, .queues, .mem, .meters, .dict, .recorder] : List Facet)) :
    p.of (State.unicastBlock s m imageId n data) = p.of s := by
  simp at hp
  generalize ht : State.unicastBlock s m imageId n data = t'
  unfold State.unicastBlock at ht
  try dsimp only at ht
  repeat' (first
    | (subst ht; simp [hp]; done)
    | split at ht)

@[simp] theorem State.campaignStep_frame (p : Facet) (s : State) (c : Campaign)
    (hp : p ∉ ([.fabric, .queues, .mem, .meters, .dict, .recorder, .update] : List Facet)) :
    p.of (State.campaignStep s c) = p.of s := by
  simp at hp
  generalize ht : State.campaignStep s c = t'
  unfold State.campaignStep at ht
  try dsimp only at ht
  repeat' (first
    | (subst ht; simp [hp]; done)
    | split at ht)

@[simp] theorem State.sendActivate_frame (p : Facet) (s : State) (x : Meter) (effective : Nat)
    (hp : p ∉ ([.out, .fabric, .queues, .mem, .meters, .pair, .dict, .recorder] : List Facet)) :
    p.of (State.sendActivate s x effective) = p.of s := by
  simp at hp
  simp [hp, State.sendActivate]

@[simp] theorem campaignActivate_frame (p : Facet) (imageId effective : Nat) (s : State) (y3 : Session)
    (hp : p ∉ ([.out, .fabric, .queues, .mem, .meters, .pair, .dict, .recorder, .update] : List Facet)) :
    p.of (campaignActivate imageId effective s y3).state = p.of s := by
  simp at hp
  generalize ht : campaignActivate imageId effective s y3 = t'
  unfold campaignActivate at ht
  try dsimp only at ht
  repeat' (first
    | (subst ht; simp [hp]; done)
    | split at ht)

@[simp] theorem State.endCampaign_frame (p : Facet) (s : State) (imageId : Nat)
    (hp : p ∉ ([.fabric, .meters, .dict, .recorder, .update] : List Facet)) :
    p.of (State.endCampaign s imageId) = p.of s := by
  refine Facet.each ?_ p hp
  simp [State.endCampaign]

@[simp] theorem campaignCancel_frame (p : Facet) (imageId : Nat) (s : State) (y2 : Session)
    (hp : p ∉ ([.fabric, .meters, .dict, .recorder, .update] : List Facet)) :
    p.of (campaignCancel imageId s y2).state = p.of s := by
  simp at hp
  generalize ht : campaignCancel imageId s y2 = t'
  unfold campaignCancel at ht
  try dsimp only at ht
  repeat' (first
    | (subst ht; simp [hp]; done)
    | split at ht)

@[simp] theorem State.endCampaigns_frame (p : Facet) (s : State)
    (hp : p ∉ ([.fabric, .meters, .dict, .recorder, .update] : List Facet)) :
    p.of (State.endCampaigns s) = p.of s := by
  simp at hp
  simp [hp, State.endCampaigns]

@[simp] theorem State.blocksHeld_frame (p : Facet) (s : State) (m imageId : Nat) (blocks : List Nat) (full : Bool)
    (hp : p ∉ ([.out, .fabric, .queues, .mem, .meters, .pair, .dict, .recorder] : List Facet)) :
    p.of (State.blocksHeld s m imageId blocks full) = p.of s := by
  simp at hp
  generalize ht : State.blocksHeld s m imageId blocks full = t'
  unfold State.blocksHeld at ht
  try dsimp only at ht
  repeat' (first
    | (subst ht; simp [hp]; done)
    | split at ht)

@[simp] theorem State.meterEvent_frame (p : Facet) (s : State) (m code : Nat) (d : Octets)
    (hp : p ∉ ([.out, .fabric, .queues, .mem, .radio, .meters, .billing, .pair, .dict, .recorder] : List Facet)) :
    p.of (State.meterEvent s m code d) = p.of s := by
  simp at hp
  generalize ht : State.meterEvent s m code d = t'
  unfold State.meterEvent at ht
  try dsimp only at ht
  repeat' (first
    | (subst ht; simp [hp]; done)
    | split at ht)

end Sys2Proof.Machine
end

