-- ==== Sys2Proof/Laws/Frame/Pins.lean ====
section
/-! SUPPORT. What the operations of Machine/Pins.lean leave unchanged: the parts of the state outside each one's footprint. -/

namespace Sys2Proof.Machine

@[simp] theorem State.comparePin_frame (p : Facet) (s : State) (baton : Bool) (pads pin : Nat)
    (hp : p ∉ ([.dict, .recorder, .pins] : List Facet)) :
    p.of (State.comparePin s baton pads pin) = p.of s := by
  simp at hp
  simp [hp, State.comparePin]

@[simp] theorem State.setSerdes_frame (p : Facet) (s : State) (lane : Nat) (x : Serdes)
    (hp : p ∉ ([.pair, .dict, .pins] : List Facet)) :
    p.of (State.setSerdes s lane x) = p.of s := by
  refine Facet.each ?_ p hp
  simp [State.setSerdes]

@[simp] theorem State.etherDown_frame (p : Facet) (s : State) (port cause : Nat)
    (hp : p ∉ ([.recorder, .pins] : List Facet)) :
    p.of (State.etherDown s port cause) = p.of s := by
  simp at hp
  simp [hp, State.etherDown]

@[simp] theorem State.etherUp_frame (p : Facet) (s : State) (port cause : Nat)
    (hp : p ∉ ([.pins] : List Facet)) :
    p.of (State.etherUp s port cause) = p.of s := by
  simp at hp
  simp [hp, State.etherUp]

@[simp] theorem State.pcieLinkUp_frame (p : Facet) (s : State)
    (hp : p ∉ ([.freeCount, .dict] : List Facet)) :
    p.of (State.pcieLinkUp s) = p.of s := by
  simp at hp
  simp [hp, State.pcieLinkUp]

@[simp] theorem State.loadIr_frame (p : Facet) (s : State) (opcode mode : Nat)
    (hp : p ∉ ([.pins] : List Facet)) :
    p.of (State.loadIr s opcode mode) = p.of s := by
  simp at hp
  simp [hp, State.loadIr]

@[simp] theorem State.tdo_frame (p : Facet) (s : State) (bytes : Octets)
    (hp : p ∉ ([.out] : List Facet)) :
    p.of (State.tdo s bytes) = p.of s := by
  simp at hp
  simp [hp, State.tdo]

@[simp] theorem State.jtagSeen_frame (p : Facet) (s : State) (opcode : Nat)
    (hp : p ∈ ([.fit, .pending, .out, .elapsed, .freeCount] : List Facet)) :
    p.of (State.jtagSeen s opcode) = p.of s := by revert p; simp [State.jtagSeen]

@[simp] theorem State.slewStep_frame (p : Facet) (s : State)
    (hp : p ∉ ([.pins] : List Facet)) :
    p.of (State.slewStep s) = p.of s := by
  simp at hp
  simp [hp, State.slewStep]

end Sys2Proof.Machine
end

