-- ==== Sys2Proof/Laws/Frame/Power.lean ====
section
/-! SUPPORT. What the operations of Machine/Power.lean leave unchanged: the parts of the state outside each one's footprint. -/

namespace Sys2Proof.Machine

@[simp] theorem State.flushAll_frame (p : Facet) (s : State)
    (hp : p ∉ ([.out, .freeCount, .fabric, .mem, .meters, .billing, .store, .pair, .dict, .recorder, .power] : List Facet)) :
    p.of (State.flushAll s) = p.of s := by
  simp at hp
  simp [hp, State.flushAll]

@[simp] theorem State.failFlush_frame (p : Facet) (s : State)
    (hp : p ∈ ([.fit, .pending, .elapsed, .compiler, .line, .radio, .tunnel, .keys, .boot, .update, .pins, .test] : List Facet)) :
    p.of (State.failFlush s) = p.of s := by revert p; simp [State.failFlush]

@[simp] theorem State.failStops_frame (p : Facet) (s : State)
    (hp : p ∉ ([.dict, .recorder, .update] : List Facet)) :
    p.of (State.failStops s) = p.of s := by
  simp at hp
  generalize ht : State.failStops s = t'
  unfold State.failStops at ht
  try dsimp only at ht
  repeat' (first
    | (subst ht; simp [hp]; done)
    | split at ht)

@[simp] theorem State.failInPilot_frame (p : Facet) (s : State)
    (hp : p ∉ ([.line, .billing, .store] : List Facet)) :
    p.of (State.failInPilot s) = p.of s := by
  simp at hp
  simp [hp, State.failInPilot]

@[simp] theorem State.failInWake_frame (p : Facet) (s : State)
    (hp : p ∉ ([.heat, .billing, .power] : List Facet)) :
    p.of (State.failInWake s) = p.of s := by
  refine Facet.each ?_ p hp
  simp [State.failInWake]

@[simp] theorem State.startWake_frame (p : Facet) (s : State) (cause : Nat)
    (hp : p ∉ ([.dict, .power] : List Facet)) :
    p.of (State.startWake s cause) = p.of s := by
  simp at hp
  simp [hp, State.startWake]

@[simp] theorem State.railRead_frame (p : Facet) (s : State) (rail tile mv : Nat)
    (hp : p ∉ ([.power] : List Facet)) :
    p.of (State.railRead s rail tile mv) = p.of s := by
  simp at hp
  simp [hp, State.railRead]

@[simp] theorem pilotLightEnter_frame (p : Facet) (s : State) (y1 : Session)
    (hp : p ∉ ([.heat, .fabric, .pair, .dict, .recorder, .power] : List Facet)) :
    p.of (pilotLightEnter s y1).state = p.of s := by
  generalize ht : pilotLightEnter s y1 = t'
  unfold pilotLightEnter at ht
  try dsimp only at ht
  repeat' (first
    | (subst ht; refine Facet.each ?_ p hp; simp; done)
    | split at ht)

@[simp] theorem State.pilotLanes_frame (p : Facet) (s : State)
    (hp : p ∉ ([.place, .line, .radio, .dict, .recorder] : List Facet)) :
    p.of (State.pilotLanes s) = p.of s := by
  simp at hp
  simp (maxDischargeDepth := 5) [hp, State.pilotLanes]

@[simp] theorem State.pilotBanks_frame (p : Facet) (s : State)
    (hp : p ∉ ([.freeCount, .fabric, .queues, .mem, .meters, .loss, .keys, .power, .test] : List Facet)) :
    p.of (State.pilotBanks s) = p.of s := by
  simp at hp
  simp [hp, State.pilotBanks]

@[simp] theorem State.pilotTime_frame (p : Facet) (s : State)
    (hp : p ∉ ([.clock, .dict, .recorder] : List Facet)) :
    p.of (State.pilotTime s) = p.of s := by
  simp at hp
  simp [hp, State.pilotTime]

@[simp] theorem State.enterPilot_frame (p : Facet) (s : State)
    (hp : p ∈ ([.fit, .pending, .elapsed, .heat, .compiler, .tunnel, .boot, .update, .pins] : List Facet)) :
    p.of (State.enterPilot s) = p.of s := by revert p; simp [State.enterPilot]

@[simp] theorem State.wakeOn_frame (p : Facet) (s : State) (cause : Nat)
    (hp : p ∉ ([.dict, .power] : List Facet)) :
    p.of (State.wakeOn s cause) = p.of s := by
  simp at hp
  simp [hp, State.wakeOn]

@[simp] theorem State.wakeBank_frame (p : Facet) (s : State) (k : Nat)
    (hp : p ∉ ([.mem] : List Facet)) :
    p.of (State.wakeBank s k) = p.of s := by
  simp at hp
  simp [hp, State.wakeBank]

@[simp] theorem State.leavePilot_frame (p : Facet) (s : State)
    (hp : p ∉ ([.out, .heat, .fabric, .queues, .mem, .place, .line, .radio, .keys, .dict, .recorder, .power] : List Facet)) :
    p.of (State.leavePilot s) = p.of s := by
  refine Facet.each ?_ p hp
  simp (maxDischargeDepth := 5) [State.leavePilot]

@[simp] theorem State.missedTransitions_frame (p : Facet) (s : State) (since : Nat)
    (hp : p ∉ ([.out, .mem, .billing, .pair, .dict, .recorder] : List Facet)) :
    p.of (State.missedTransitions s since) = p.of s := by
  simp at hp
  simp (maxDischargeDepth := 5) [hp, State.missedTransitions]

@[simp] theorem State.keepTemps_frame (p : Facet) (s : State) (tile : Nat) (vs : List Int)
    (hp : p ∉ ([.power] : List Facet)) :
    p.of (State.keepTemps s tile vs) = p.of s := by
  simp at hp
  simp [hp, State.keepTemps]

@[simp] theorem State.thermAlarm_frame (p : Facet) (s : State) (tile : Nat) (hottest : Int)
    (hp : p ∉ ([.recorder, .power] : List Facet)) :
    p.of (State.thermAlarm s tile hottest) = p.of s := by
  simp at hp
  generalize ht : State.thermAlarm s tile hottest = t'
  unfold State.thermAlarm at ht
  try dsimp only at ht
  repeat' (first
    | (subst ht; simp [hp]; done)
    | split at ht)

@[simp] theorem State.thermalShutdown_frame (p : Facet) (s : State) (tile : Nat) (hottest : Int)
    (hp : p ∉ ([.out, .freeCount, .heat, .fabric, .mem, .line, .radio, .meters, .billing, .store, .pair, .dict,
      .recorder, .power] : List Facet)) :
    p.of (State.thermalShutdown s tile hottest) = p.of s := by
  refine Facet.each ?_ p hp
  simp [State.thermalShutdown]

@[simp] theorem State.coolTemps_frame (p : Facet) (s : State)
    (hp : p ∉ ([.power] : List Facet)) :
    p.of (State.coolTemps s) = p.of s := by
  simp at hp
  simp [hp, State.coolTemps]

@[simp] theorem State.derateTemps_frame (p : Facet) (s : State) (tile : Nat) (vs : List Int)
    (hp : p ∉ ([.recorder, .power] : List Facet)) :
    p.of (State.derateTemps s tile vs) = p.of s := by
  simp at hp
  generalize ht : State.derateTemps s tile vs = t'
  unfold State.derateTemps at ht
  try dsimp only at ht
  repeat' (first
    | (subst ht; simp [hp]; done)
    | split at ht)

@[simp] theorem State.capMaps_frame (p : Facet) (s : State) (t l : Nat)
    (hp : p ∉ ([.out, .freeCount, .fabric, .line, .pair, .recorder] : List Facet)) :
    p.of (State.capMaps s t l) = p.of s := by
  simp at hp
  simp [hp, State.capMaps]

@[simp] theorem State.derateTile_frame (p : Facet) (s : State) (t : Nat)
    (hp : p ∉ ([.out, .freeCount, .fabric, .line, .pair, .recorder, .power] : List Facet)) :
    p.of (State.derateTile s t) = p.of s := by
  simp at hp
  simp [hp, State.derateTile]

@[simp] theorem State.powerStep_frame (p : Facet) (s : State)
    (hp : p ∉ ([.out, .freeCount, .heat, .fabric, .mem, .line, .meters, .billing, .store, .pair, .dict, .recorder,
      .power] : List Facet)) :
    p.of (State.powerStep s) = p.of s := by
  refine Facet.each ?_ p hp
  simp [State.powerStep]

end Sys2Proof.Machine
end

