-- ==== Sys2Proof/Laws/Frame/Values.lean ====
section
/-! SUPPORT. What the operations of Machine/Values.lean leave unchanged: the parts of the state outside each one's footprint. -/

namespace Sys2Proof.Machine

@[simp] theorem State.queuesRead_frame (p : Facet) (s : State) (t : Nat)
    (hp : p ∉ ([.queues] : List Facet)) :
    p.of (State.queuesRead s t) = p.of s := by
  simp at hp
  simp [hp, State.queuesRead]

end Sys2Proof.Machine
end

