-- ==== Sys2Proof/Laws/Frame/Exchange.lean ====
section
/-! SUPPORT. What the operations of Machine/Exchange.lean leave unchanged: the parts of the state outside each one's footprint. -/

namespace Sys2Proof.Machine

@[simp] theorem heldAct_frame (p : Facet) (m : Nat) (h : HeldWrite) (s : State)
    (hp : p ∉ ([.out, .fabric, .queues, .mem, .meters, .billing, .loss, .pair, .dict, .recorder] : List Facet)) :
    p.of (heldAct m h s).state = p.of s := by
  simp at hp
  generalize ht : heldAct m h s = t'
  unfold heldAct at ht
  try dsimp only at ht
  repeat' (first
    | (subst ht; simp [hp]; done)
    | split at ht)

@[simp] theorem State.applyHeld_frame (p : Facet) (s : State) (m : Nat)
    (hp : p ∉ ([.out, .freeCount, .fabric, .queues, .mem, .meters, .billing, .loss, .keys, .store, .pair, .dict,
      .recorder] : List Facet)) :
    p.of (State.applyHeld s m) = p.of s := by
  simp at hp
  generalize ht : State.applyHeld s m = t'
  unfold State.applyHeld at ht
  try dsimp only at ht
  repeat' (first
    | (subst ht; simp [hp]; done)
    | split at ht)

@[simp] theorem ownerSubmit_frame (p : Facet) (action : Nat) (params tag : Octets) (s : State) (x : Session)
    (hp : p ∉ ([.out, .keys, .clock, .pair, .dict, .boot, .recorder] : List Facet)) :
    p.of (ownerSubmit action params tag s x).state = p.of s := by
  simp at hp
  generalize ht : ownerSubmit action params tag s x = t'
  unfold ownerSubmit at ht
  try dsimp only at ht
  repeat' (first
    | (subst ht; simp [hp]; done)
    | split at ht)

@[simp] theorem enrolSubmit_frame (p : Facet) (m tag n : Nat) (s : State) (x : Session)
    (hp : p ∉ ([.out, .freeCount, .fabric, .queues, .mem, .place, .meters, .billing, .loss, .store, .pair, .dict,
      .recorder] : List Facet)) :
    p.of (enrolSubmit m tag n s x).state = p.of s := by
  simp at hp
  generalize ht : enrolSubmit m tag n s x = t'
  unfold enrolSubmit at ht
  try dsimp only at ht
  repeat' (first
    | (subst ht; simp [hp]; done)
    | split at ht)

@[simp] theorem partSubmit_frame (p : Facet) (k n : Nat) (s : State) (x : Session)
    (hp : p ∈ ([.fit, .pending, .elapsed, .place, .tunnel, .clock, .update, .pins, .power, .test] : List Facet)) :
    p.of (partSubmit k n s x).state = p.of s := by
  generalize ht : partSubmit k n s x = t'
  unfold partSubmit at ht
  try dsimp only at ht
  repeat' (first
    | (subst ht; revert p; simp; done)
    | split at ht)

@[simp] theorem unitSubmit_frame (p : Facet) (k n : Nat) (s : State) (x : Session)
    (hp : p ∈ ([.fit, .pending, .elapsed, .compiler, .place, .line, .radio, .tunnel, .loss, .pins] : List Facet)) :
    p.of (unitSubmit k n s x).state = p.of s := by
  generalize ht : unitSubmit k n s x = t'
  unfold unitSubmit at ht
  try dsimp only at ht
  repeat' (first
    | (subst ht; revert p; simp; done)
    | split at ht)

@[simp] theorem heldSubmit_frame (p : Facet) (k m tag : Nat) (args : List Nat) (s : State) (x : Session)
    (hp : p ∉ ([.out, .fabric, .queues, .mem, .meters, .billing, .loss, .pair, .dict, .recorder] : List Facet)) :
    p.of (heldSubmit k m tag args s x).state = p.of s := by
  simp at hp
  simp [hp, heldSubmit]

@[simp] theorem meterSubmit_frame (p : Facet) (k m n tag : Nat) (s : State) (x : Session)
    (hp : p ∉ ([.out, .freeCount, .fabric, .queues, .mem, .place, .meters, .billing, .loss, .keys, .store, .pair,
      .dict, .recorder] : List Facet)) :
    p.of (meterSubmit k m n tag s x).state = p.of s := by
  simp at hp
  generalize ht : meterSubmit k m n tag s x = t'
  unfold meterSubmit at ht
  try dsimp only at ht
  repeat' (first
    | (subst ht; simp [hp]; done)
    | split at ht)

@[simp] theorem submitOf_frame (p : Facet) (index sub meter n tag : Nat) (s : State) (x : Session)
    (hp : p ∈ ([.fit, .pending, .elapsed, .tunnel, .pins] : List Facet)) :
    p.of (submitOf index sub meter n tag s x).state = p.of s := by
  generalize ht : submitOf index sub meter n tag s x = t'
  unfold submitOf at ht
  try dsimp only at ht
  repeat' (first
    | (subst ht; revert p; simp; done)
    | split at ht)

@[simp] theorem State.storeValue_frame (p : Facet) (s : State) (index sub : Nat) (v : Val)
    (hp : p ∉ ([.line, .dict] : List Facet)) :
    p.of (State.storeValue s index sub v) = p.of s := by
  simp at hp
  simp [hp, State.storeValue]

@[simp] theorem applyDomain_frame (p : Facet) (index sub : Nat) (image : Octets) (s : State) (x : Session)
    (hp : p ∉ ([.line, .billing, .dict] : List Facet)) :
    p.of (applyDomain index sub image s x).state = p.of s := by
  simp at hp
  generalize ht : applyDomain index sub image s x = t'
  unfold applyDomain at ht
  try dsimp only at ht
  repeat' (first
    | (subst ht; simp [hp]; done)
    | split at ht)

@[simp] theorem writeAct_frame (p : Facet) (index sub meter : Nat) (data : Octets) (tag : Nat) (s : State)
    (x : Session)
    (hp : p ∈ ([.fit, .pending, .elapsed, .tunnel, .pins] : List Facet)) :
    p.of (writeAct index sub meter data tag s x).state = p.of s := by
  generalize ht : writeAct index sub meter data tag s x = t'
  unfold writeAct at ht
  try dsimp only at ht
  repeat' (first
    | (subst ht; revert p; simp; done)
    | split at ht)

@[simp] theorem objectWrite_frame (p : Facet) (index sub meter : Nat) (data : Octets) (tag : Nat) (s : State)
    (x : Session)
    (hp : p ∈ ([.fit, .pending, .elapsed, .tunnel, .pins] : List Facet)) :
    p.of (objectWrite index sub meter data tag s x).state = p.of s := by
  generalize ht : objectWrite index sub meter data tag s x = t'
  unfold objectWrite at ht
  try dsimp only at ht
  repeat' (first
    | (subst ht; revert p; simp; done)
    | split at ht)

@[simp] theorem State.afterRead_frame (fct : Facet) (s : State) (a : Ask) (p : Reply)
    (hp : fct ∉ ([.queues] : List Facet)) :
    fct.of (State.afterRead s a p) = fct.of s := by
  simp at hp
  simp [hp, State.afterRead]

@[simp] theorem State.askQuery_frame (p : Facet) (s : State) (x : Session) (a : Ask) (tag : Nat)
    (hp : p ∉ ([.fabric, .queues, .mem, .meters, .dict, .recorder] : List Facet)) :
    p.of (State.askQuery s x a tag).state = p.of s := by
  simp at hp
  generalize ht : State.askQuery s x a tag = t'
  unfold State.askQuery at ht
  try dsimp only at ht
  repeat' (first
    | (subst ht; simp [hp]; done)
    | split at ht)

@[simp] theorem readAct_frame (p : Facet) (a : Ask) (tag : Nat) (s : State) (x : Session)
    (hp : p ∉ ([.fabric, .queues, .mem, .meters, .dict, .recorder] : List Facet)) :
    p.of (readAct a tag s x).state = p.of s := by
  simp at hp
  generalize ht : readAct a tag s x = t'
  unfold readAct at ht
  try dsimp only at ht
  repeat' (first
    | (subst ht; simp [hp]; done)
    | split at ht)

@[simp] theorem State.queryReturned_frame (p : Facet) (s : State) (words : List Word)
    (hp : p ∉ ([.out, .fabric, .meters, .keys, .dict, .recorder] : List Facet)) :
    p.of (State.queryReturned s words) = p.of s := by
  simp at hp
  generalize ht : State.queryReturned s words = t'
  unfold State.queryReturned at ht
  try dsimp only at ht
  repeat' (first
    | (subst ht; simp [hp]; done)
    | split at ht)

@[simp] theorem State.drainQueryQueue_frame (fct : Facet) (s : State) (t p : Nat)
    (hp : fct ∉ ([.out, .freeCount, .fabric, .queues, .meters, .keys, .pair, .dict, .recorder] : List Facet)) :
    fct.of (State.drainQueryQueue s t p) = fct.of s := by
  simp at hp
  simp [hp, State.drainQueryQueue]

@[simp] theorem State.drainQueries_frame (p : Facet) (s : State)
    (hp : p ∉ ([.out, .freeCount, .fabric, .queues, .meters, .keys, .pair, .dict, .recorder] : List Facet)) :
    p.of (State.drainQueries s) = p.of s := by
  simp at hp
  simp (maxDischargeDepth := 5) [hp, State.drainQueries]

@[simp] theorem segmentAct_frame (p : Facet) (a : Ask) (s : State) (x : Session)
    (hp : p ∉ ([.queues, .dict] : List Facet)) :
    p.of (segmentAct a s x).state = p.of s := by
  simp at hp
  generalize ht : segmentAct a s x = t'
  unfold segmentAct at ht
  try dsimp only at ht
  repeat' (first
    | (subst ht; simp [hp]; done)
    | split at ht)

@[simp] theorem stageAct_frame (p : Facet) (a : Ask) (tag : Nat) (s : State) (x : Session)
    (hp : p ∈ ([.fit, .pending, .elapsed, .tunnel, .pins] : List Facet)) :
    p.of (stageAct a tag s x).state = p.of s := by
  generalize ht : stageAct a tag s x = t'
  unfold stageAct at ht
  try dsimp only at ht
  repeat' (first
    | (subst ht; revert p; simp; done)
    | split at ht)

end Sys2Proof.Machine
end

