-- ==== Sys2Proof/Laws/Frame/Heat.lean ====
section
/-! SUPPORT. What the operations of Machine/Heat.lean leave unchanged: the parts of the state outside each one's footprint. -/

namespace Sys2Proof.Machine

@[simp] theorem State.adoptMove_frame (p : Facet) (s : State) (a : List Nat)
    (hp : p ∉ ([.out, .place, .pair, .recorder] : List Facet)) :
    p.of (State.adoptMove s a) = p.of s := by
  simp at hp
  generalize ht : State.adoptMove s a = t'
  unfold State.adoptMove at ht
  try dsimp only at ht
  repeat' (first
    | (subst ht; simp [hp]; done)
    | split at ht)

@[simp] theorem State.adoptRequest_frame (p : Facet) (s : State) (m code flags id origin : Nat) (params : Octets)
    (hp : p ∉ ([.fabric, .queues, .mem, .meters, .dict, .recorder] : List Facet)) :
    p.of (State.adoptRequest s m code flags id origin params) = p.of s := by
  simp at hp
  simp [hp, State.adoptRequest]

@[simp] theorem State.adoptBalance_frame (p : Facet) (s : State) (a : List Nat)
    (hp : p ∉ ([.out, .loss, .pair, .dict, .recorder] : List Facet)) :
    p.of (State.adoptBalance s a) = p.of s := by
  simp at hp
  simp [hp, State.adoptBalance]

@[simp] theorem State.adoptWrite_frame (p : Facet) (s : State) (a : List Nat) (data : Octets)
    (hp : p ∈ ([.fit, .pending, .elapsed, .tunnel, .pins] : List Facet)) :
    p.of (State.adoptWrite s a data) = p.of s := by revert p; simp [State.adoptWrite]

@[simp] theorem State.adoptInput_frame (p : Facet) (s : State) (key : Nat) (v : Option Nat) (data : Octets)
    (hp : p ∉ ([.dict] : List Facet)) :
    p.of (State.adoptInput s key v data) = p.of s := by
  simp at hp
  generalize ht : State.adoptInput s key v data = t'
  unfold State.adoptInput at ht
  try dsimp only at ht
  repeat' (first
    | (subst ht; simp [hp]; done)
    | split at ht)

@[simp] theorem State.adopt_frame (p : Facet) (s : State) (r : MgmtRecord)
    (hp : p ∈ ([.fit, .pending, .elapsed, .tunnel, .pins] : List Facet)) :
    p.of (State.adopt s r) = p.of s := by
  generalize ht : State.adopt s r = t'
  unfold State.adopt at ht
  try dsimp only at ht
  repeat' (first
    | (subst ht; revert p; simp; done)
    | split at ht)

@[simp] theorem State.applying_frame (p : Facet) (s : State) (at_ : Nat) (f : State → State)
    (hf : ∀ a0 d', d' = f a0 → p.of d' = p.of a0)
    (hp : p ∉ ([.pair] : List Facet)) :
    p.of (State.applying s at_ f) = p.of s := by
  have h'f := fun a0 => hf a0 _ rfl
  simp at hp
  simp [*, State.applying]

@[simp] theorem State.adoptDue_frame (p : Facet) (s : State)
    (hp : p ∈ ([.fit, .pending, .elapsed, .tunnel, .pins] : List Facet)) :
    p.of (State.adoptDue s) = p.of s := by revert p; simp (maxDischargeDepth := 5) [State.adoptDue]

@[simp] theorem State.applyDeferred_frame (p : Facet) (s : State) (d : Deferred)
    (hp : p ∈ ([.fit, .pending, .elapsed, .tunnel, .pins] : List Facet)) :
    p.of (State.applyDeferred s d) = p.of s := by revert p; simp [State.applyDeferred]

@[simp] theorem State.deferredDue_frame (p : Facet) (s : State)
    (hp : p ∈ ([.fit, .pending, .elapsed, .tunnel, .pins] : List Facet)) :
    p.of (State.deferredDue s) = p.of s := by revert p; simp [State.deferredDue]

@[simp] theorem State.handoverStep_frame (p : Facet) (s : State)
    (hp : p ∈ ([.fit, .pending, .elapsed, .tunnel, .store, .boot, .update, .pins, .power, .test] : List Facet)) :
    p.of (State.handoverStep s) = p.of s := by
  generalize ht : State.handoverStep s = t'
  unfold State.handoverStep at ht
  try dsimp only at ht
  repeat' (first
    | (subst ht; revert p; simp; done)
    | split at ht)

@[simp] theorem State.sheetStep_frame (p : Facet) (s : State)
    (hp : p ∈ ([.fit, .pending, .elapsed, .tunnel, .clock, .boot, .update, .pins, .power, .test] : List Facet)) :
    p.of (State.sheetStep s) = p.of s := by
  generalize ht : State.sheetStep s = t'
  unfold State.sheetStep at ht
  try dsimp only at ht
  repeat' (first
    | (subst ht; revert p; simp; done)
    | split at ht)

@[simp] theorem State.fenceStep_frame (p : Facet) (s : State) (m : Nat)
    (hp : p ∈ ([.fit, .pending, .elapsed, .compiler, .tunnel, .keys, .clock, .boot, .update, .pins, .power, .test] : List Facet)) :
    p.of (State.fenceStep s m) = p.of s := by
  generalize ht : State.fenceStep s m = t'
  unfold State.fenceStep at ht
  try dsimp only at ht
  repeat' (first
    | (subst ht; revert p; simp; done)
    | split at ht)

@[simp] theorem State.placementStep_frame (p : Facet) (s : State)
    (hp : p ∈ ([.fit, .pending, .elapsed, .compiler, .tunnel, .clock, .boot, .update, .pins, .power, .test] : List Facet)) :
    p.of (State.placementStep s) = p.of s := by revert p; simp [State.placementStep]

@[simp] theorem State.bankStep_frame (p : Facet) (s : State)
    (hp : p ∉ ([.freeCount, .fabric, .queues, .mem, .meters, .loss, .keys, .test] : List Facet)) :
    p.of (State.bankStep s) = p.of s := by
  simp at hp
  simp (maxDischargeDepth := 5) [hp, State.bankStep]

@[simp] theorem State.writeTopUp_frame (p : Facet) (s : State) (m : Nat)
    (hp : p ∉ ([.out, .mem, .meters, .pair, .dict, .recorder] : List Facet)) :
    p.of (State.writeTopUp s m) = p.of s := by
  simp at hp
  generalize ht : State.writeTopUp s m = t'
  unfold State.writeTopUp at ht
  try dsimp only at ht
  repeat' (first
    | (subst ht; simp [hp]; done)
    | split at ht)

@[simp] theorem State.topUpStep_frame (p : Facet) (s : State)
    (hp : p ∉ ([.out, .mem, .meters, .pair, .dict, .recorder] : List Facet)) :
    p.of (State.topUpStep s) = p.of s := by
  simp at hp
  simp [hp, State.topUpStep]

@[simp] theorem State.foldStep_frame (p : Facet) (s : State)
    (hp : p ∉ ([.heat, .fabric, .dict, .recorder] : List Facet)) :
    p.of (State.foldStep s) = p.of s := by
  simp at hp
  simp [hp, State.foldStep]

@[simp] theorem State.pairStep_frame (p : Facet) (s : State) (before : Nat)
    (hp : p ∉ ([.out, .freeCount, .heat, .fabric, .queues, .mem, .place, .meters, .tunnel, .billing, .pair, .dict,
      .recorder] : List Facet)) :
    p.of (State.pairStep s before) = p.of s := by
  simp at hp
  simp [hp, State.pairStep]

@[simp] theorem State.drainStep_frame (p : Facet) (s : State)
    (hp : p ∉ ([.out, .freeCount, .fabric, .queues, .mem, .meters, .tunnel, .billing, .loss, .keys, .store, .pair,
      .dict, .recorder] : List Facet)) :
    p.of (State.drainStep s) = p.of s := by
  simp at hp
  simp [hp, State.drainStep]

@[simp] theorem State.atBoundary_frame (p : Facet) (s : State) (before : Nat)
    (hp : p ∈ ([.fit, .pending, .elapsed] : List Facet)) :
    p.of (State.atBoundary s before) = p.of s := by revert p; simp [State.atBoundary]

end Sys2Proof.Machine
end

