-- ==== Sys2Proof/Laws/Memory.lean ====
section
/-! SUPPORT. The laws of the addressed memory, the ECC test areas (R192): a read after a write, and the canonical form that
every operation keeps. -/

namespace Sys2Proof.Machine

/-- A form that starts higher starts lower as well. -/
theorem memWfFrom_mono (m : List Host.Cell) (lo hi : Nat) (h : memWfFrom hi m = true) (hl : lo ≤ hi) : memWfFrom lo m = true := by
  cases m with
  | nil => rfl
  | cons c r =>
    simp only [memWfFrom, Bool.and_eq_true, decide_eq_true_eq] at h ⊢
    exact ⟨⟨by omega, h.1.2⟩, h.2⟩

/-- No address below the first listed one is listed. -/
theorem memRead_below (m : List Host.Cell) (lo a : Nat) (h : memWfFrom lo m = true) (ha : a < lo) : memRead m a = memDefault := by
  induction m generalizing lo with
  | nil => rfl
  | cons c r ih =>
    simp only [memWfFrom, Bool.and_eq_true, decide_eq_true_eq] at h
    have hne : c.1 ≠ a := by omega
    simp only [memRead, hne, if_false]
    exact ih (c.1 + 1) h.2 (by omega)

/-- A write keeps the canonical form from any address at or below it. -/
theorem memWfFrom_memWrite (m : List Host.Cell) (lo a : Nat) (v : BitVec 8) (h : memWfFrom lo m = true) (ha : lo ≤ a) :
    memWfFrom lo (memWrite m a v) = true := by
  induction m generalizing lo with
  | nil => unfold memWrite; split <;> simp_all [memWfFrom]
  | cons c r ih =>
    obtain ⟨x, w⟩ := c
    simp only [memWfFrom, Bool.and_eq_true, decide_eq_true_eq] at h
    obtain ⟨⟨hlo, hw⟩, hr⟩ := h
    unfold memWrite
    split
    · simp only [memWfFrom, Bool.and_eq_true, decide_eq_true_eq]
      exact ⟨⟨hlo, hw⟩, ih (x + 1) hr (by omega)⟩
    · split
      · split
        · exact memWfFrom_mono r lo (x + 1) hr (by omega)
        · simp only [memWfFrom, Bool.and_eq_true, decide_eq_true_eq]
          subst_vars
          exact ⟨⟨ha, by assumption⟩, hr⟩
      · split
        · simp only [memWfFrom, Bool.and_eq_true, decide_eq_true_eq]
          exact ⟨⟨hlo, hw⟩, hr⟩
        · simp only [memWfFrom, Bool.and_eq_true, decide_eq_true_eq]
          exact ⟨⟨ha, by assumption⟩, ⟨by omega, hw⟩, hr⟩

/-- A write keeps the canonical form. -/
@[simp] theorem memWf_memWrite (m : List Host.Cell) (a : Nat) (v : BitVec 8) (h : memWf m = true) : memWf (memWrite m a v) = true :=
  memWfFrom_memWrite m 0 a v h (Nat.zero_le a)

/-- A run of writes keeps the canonical form. -/
@[simp] theorem memWf_memWrites (m : List Host.Cell) (a : Nat) (b : Octets) (h : memWf m = true) :
    memWf (memWrites m a b) = true := by
  induction b generalizing m a with
  | nil => exact h
  | cons v r ih => exact ih _ _ (memWf_memWrite m a v h)

/-- Dropping cells keeps the canonical form. -/
theorem memWfFrom_filter (m : List Host.Cell) (p : Host.Cell → Bool) (lo : Nat) (h : memWfFrom lo m = true) :
    memWfFrom lo (m.filter p) = true := by
  induction m generalizing lo with
  | nil => rfl
  | cons c r ih =>
    simp only [memWfFrom, Bool.and_eq_true, decide_eq_true_eq] at h
    by_cases hp : p c = true
    · rw [List.filter_cons_of_pos hp]
      simp only [memWfFrom, Bool.and_eq_true, decide_eq_true_eq]
      exact ⟨h.1, ih _ h.2⟩
    · rw [List.filter_cons_of_neg hp]
      exact memWfFrom_mono _ lo (c.1 + 1) (ih _ h.2) (by omega)

@[simp] theorem memWf_filter (m : List Host.Cell) (p : Host.Cell → Bool) (h : memWf m = true) : memWf (m.filter p) = true :=
  memWfFrom_filter m p 0 h

/-- A byte written reads back; every other byte reads as before. -/
theorem memRead_memWrite (m : List Host.Cell) (a b : Nat) (v : BitVec 8) (lo : Nat) (h : memWfFrom lo m = true) :
    memRead (memWrite m a v) b = if b = a then v else memRead m b := by
  induction m generalizing lo with
  | nil =>
    unfold memWrite
    by_cases hv : v = memDefault
    · simp [hv, memRead]
    · by_cases hb : b = a
      · simp [hv, hb, memRead]
      · simp [hv, hb, Ne.symm hb, memRead]
  | cons c r ih =>
    obtain ⟨x, w⟩ := c
    simp only [memWfFrom, Bool.and_eq_true, decide_eq_true_eq] at h
    have hi := ih (x + 1) h.2
    have hz := memRead_below r (x + 1) b h.2
    unfold memWrite
    by_cases h1 : x < a
    · by_cases hb : x = b
      · have hne : ¬b = a := by omega
        rw [if_pos h1]; simp [memRead, hb, hne]
      · rw [if_pos h1]; simp [memRead, hb, hi]
    · by_cases h2 : x = a
      · subst h2
        by_cases hv : v = memDefault
        · by_cases hb : b = x
          · subst hb; simp [hv, hz (by omega)]
          · simp [hv, hb, memRead, Ne.symm hb]
        · by_cases hb : b = x
          · simp [hv, hb, memRead]
          · simp [hv, hb, memRead, Ne.symm hb]
      · by_cases hv : v = memDefault
        · by_cases hb : b = a
          · have hxb : ¬x = b := by omega
            rw [if_neg h1, if_neg h2, if_pos hv, if_pos hb, hv]
            simp [memRead, hxb, hz (by omega)]
          · simp [h1, h2, hv, hb]
        · by_cases hb : b = a
          · simp [h1, h2, hv, hb, memRead]
          · simp [h1, h2, hv, hb, memRead, Ne.symm hb]

/-- A run of bytes written leaves every byte outside it as it was. -/
theorem memRead_memWrites_outside (m : List Host.Cell) (a b : Nat) (d : Octets) (h : memWf m = true)
    (hb : b < a ∨ a + d.length ≤ b) : memRead (memWrites m a d) b = memRead m b := by
  induction d generalizing m a with
  | nil => rfl
  | cons v r ih =>
    simp only [List.length_cons] at hb
    unfold memWrites
    rw [ih _ _ (memWf_memWrite m a v h) (by omega), memRead_memWrite m a b v 0 h]
    have : ¬b = a := by omega
    simp [this]

end Sys2Proof.Machine
end

