-- ==== Sys2Proof/Laws/Parts.lean ====
section
/-! SUPPORT. The parts of Safety.lean, in which statements name a command's footprint, are facets of the state, so that the
lemmas of Sys2Proof/Laws/Frame answer for them. -/

namespace Sys2Proof.Machine

/-- The facet a part is. -/
def Part.facet : Part → Facet
  | .fit => .fit
  | .outputs => .out
  | .elapsed => .elapsed
  | .drawn => .freeCount
  | .heat => .heat
  | .fabric => .fabric
  | .compiler => .compiler
  | .queues => .queues
  | .testWords => .test
  | .memory => .mem
  | .placement => .place
  | .line => .line
  | .radio => .radio
  | .meters => .meters
  | .tunnel => .tunnel
  | .billing => .billing
  | .loss => .loss
  | .keys => .keys
  | .storage => .store
  | .clock => .clock
  | .pair => .pair
  | .dictionary => .dict
  | .boot => .boot
  | .recorder => .recorder
  | .firmware => .update
  | .pins => .pins
  | .power => .power

/-- A part is the same in two states when its facet reads the same in both. -/
theorem Part.same_of_facet (p : Part) (s t : State) (h : p.facet.of t = p.facet.of s) : p.same s t := by
  cases p <;> exact h.symm

end Sys2Proof.Machine
end

