-- ==== Sys2Proof/Laws/Sheet.lean ====
section
/-! SUPPORT. What a tile's loader recounts of a built sheet holds: the counts the compiler claims are those of the tile's patterns, and
within their limits, whatever the free patterns are (R83, R84, R110, R122, R125). -/

namespace Sys2Proof.Machine

/-- A block of a list of blocks of one length. -/
theorem drop_take_flatMap {α β : Type} (f : α → List β) (k : Nat) (r : List β) (hf : ∀ a, (f a).length = k) :
    ∀ (l : List α) (i : Nat) (h : i < l.length), ((l.flatMap f ++ r).drop (k * i)).take k = f l[i]
  | a :: l, 0, _ => by simp [List.append_assoc, ← hf a]
  | a :: l, i + 1, h => by
    have h' : i < l.length := by simpa using h
    have e : k * (i + 1) = (f a).length + k * i := by rw [hf a]; ring
    rw [List.flatMap_cons, List.append_assoc, e, ← List.drop_drop, List.drop_left]
    simpa using drop_take_flatMap f k r hf l i h'

/-- A tile's accesses are 512 counts. -/
theorem accessClaims_length (tile : Nat) : (accessClaims tile).length = 512 := by
  simp [accessClaims, List.length_flatMap]

/-- No bank is claimed more often than once in each of its pace cycles. -/
theorem accessClaims_bounded (tile : Nat) : ((accessClaims tile).all fun n => decide (n ≤ 375)) = true := by
  simp only [accessClaims, List.all_eq_true, List.mem_flatMap, List.mem_map, decide_eq_true_eq]
  rintro n ⟨b, -, r, -, rfl⟩
  unfold accessClaim
  split
  · omega
  · exact Nat.le_of_lt_succ (Config.bankAccesses tile b r).isLt

/-- A bank's floor residue lies outside its window. -/
theorem floor_outside_window (tile bank : Nat) :
    1 ≤ (List.range 16).countP fun r => bitAt (floorMask tile bank) r && !bitAt (windowMask tile bank) r := by
  unfold floorMask windowMask
  generalize Config.windowResidue tile bank = w
  generalize Config.floorResidue tile bank = f
  revert w f
  decide +kernel

/-- The floor is at least 16 bank-cycles in every 16 pace cycles (R110). -/
theorem floorClaim_enough (tile : Nat) : 16 ≤ floorClaim tile := by
  have h : ∀ l : List Nat, l.length ≤ (l.map fun b =>
      (List.range 16).countP fun r => bitAt (floorMask tile b) r && !bitAt (windowMask tile b) r).sum := by
    intro l
    induction l with
    | nil => simp
    | cons b l ih => simpa [Nat.add_comm] using Nat.add_le_add (floor_outside_window tile b) ih
  exact le_trans (by decide) (h (List.range 32))

/-- The bank and residue counts that a sheet claims hold for each of its tiles. -/
theorem bankCountsHold_claimCounts (s : State) (budget tile : Nat) (h : tile < s.nTiles) :
    bankCountsHold (s.claimCounts budget) tile = true := by
  have e := drop_take_flatMap (fun t => accessClaims t ++ [floorClaim t]) 513
    (s.linkDirections.flatMap fun d => [s.linkClaim budget d.1 d.2, spareSlots, managementSlots, digestSlots])
    (fun t => by simp [accessClaims_length]) (List.range s.nTiles) tile (by simpa using h)
  rw [List.getElem_range] at e
  simp only [bankCountsHold, State.claimCounts, e, accessClaims_bounded, floorClaim_enough, beq_self_eq_true, decide_true, Bool.and_self]

end Sys2Proof.Machine
end

