-- ==== Sys2Proof/Laws/Tables.lean ====
section
/-! SUPPORT. What a lookup in a table gives after an entry is set, and what an object reads after one is written. -/

namespace Sys2Proof.Machine

theorem Tab.find?_set {α} (t : Tab α) (k : Nat) (v : α) (j : Nat) :
    Tab.find? (Tab.set t k v) j = if j = k then some v else Tab.find? t j := by
  induction t with
  | nil =>
    by_cases h : j = k
    · simp [Tab.set, Tab.find?, h]
    · simp only [Tab.set, Tab.find?, h, if_false]
      exact if_neg fun h' => h h'.symm
  | cons c r ih =>
    obtain ⟨x, w⟩ := c
    unfold Tab.set
    split
    · rename_i hx
      by_cases hb : x = j
      · subst hb; simp [Tab.find?]; omega
      · simp [Tab.find?, hb, ih]
    · split
      · rename_i hx; subst hx
        by_cases hb : j = x
        · subst hb; simp [Tab.find?]
        · simp [Tab.find?, hb, Ne.symm hb]
      · by_cases hb : j = k
        · subst hb; simp [Tab.find?]
        · have := Ne.symm hb; simp [Tab.find?, hb, this]

@[simp] theorem Tab.getD_set {α} (t : Tab α) (k : Nat) (v : α) (j : Nat) (d : α) :
    Tab.getD (Tab.set t k v) j d = if j = k then v else Tab.getD t j d := by
  unfold Tab.getD; rw [Tab.find?_set]; split <;> rfl

theorem objVal_set (s : State) (i j v a b) :
    (s.setVal i j v).objVal a b = if objKey a b = objKey i j then v else s.objVal a b := by
  simp only [State.setVal, State.objVal, Tab.find?_set]
  by_cases h : objKey a b = objKey i j <;> simp [h]

theorem obj_setObj (s : State) (i j n a b) :
    (s.setObj i j n).obj a b = if objKey a b = objKey i j then n else s.obj a b := by
  simp only [State.obj, State.objI, State.setObj, State.setVal, Tab.find?_set]
  by_cases h : objKey a b = objKey i j <;> simp [h]

end Sys2Proof.Machine
end

