-- ==== Sys2Proof/Laws/TestMemory.lean ====
section
/-! SUPPORT. The operations that reach the ECC test memory keep its canonical form: those on the way from a command to
EccTestAccess (R192), and those that lose memory content. Every other operation leaves the memory as it is
(Sys2Proof/Laws/Frame). -/

namespace Sys2Proof.Machine

/-- A fold whose steps keep the form keeps it. -/
@[simp] theorem foldl_wf {α : Type} (l : List α) (g : State → α → State)
    (h : ∀ s x t, t = g s x → memWf (Facet.test.of s) = true → memWf (Facet.test.of t) = true) (s : State)
    (hs : memWf (Facet.test.of s) = true) :
    memWf (Facet.test.of (l.foldl g s)) = true := by
  induction l generalizing s with
  | nil => exact hs
  | cons x r ih => exact ih _ (h _ _ _ rfl hs)

/-- Empty memory is in its form. -/
@[simp] theorem memWf_nil : memWf [] = true := rfl

/-- The form of a field's value is that of the value. -/
@[simp] theorem memWf_held (m : List Host.Cell) : memWf (Facet.held m) = memWf m := rfl

/-- The form of the test words is that of their facet. -/
@[simp] theorem memWf_test (s : State) : memWf s.mem.test = memWf (Facet.test.of s) := rfl

/-- A choice of two contents in the form is in it. -/
@[simp] theorem ite_wf (c : Prop) [Decidable c] (a b : Facet.test.Ty) (ha : memWf a = true) (hb : memWf b = true) :
    memWf (if c then a else b) = true := by split <;> assumption

@[simp] theorem State.eachTile_wf (s : State) (f : State → Nat → State)
    (hf : ∀ a0 a1 d', d' = f a0 a1 → memWf (Facet.test.of a0) = true → memWf (Facet.test.of d') = true)
    (h : memWf (Facet.test.of s) = true) :
    memWf (Facet.test.of (s.eachTile f)) = true := foldl_wf _ _ hf s h

@[simp] theorem State.serveAsk_wf (s : State) (x : Session) (a : Ask) (tag : Nat) (act : State → Session → Done)
    (hact : ∀ a0 a1 d', d' = act a0 a1 → memWf (Facet.test.of a0) = true → memWf (Facet.test.of d'.state) = true)
    (h : memWf (Facet.test.of s) = true) : memWf (Facet.test.of (State.serveAsk s x a tag act)) = true := by
  have h'act := fun a0 a1 => hact a0 a1 _ rfl
  generalize ht : State.serveAsk s x a tag act = t'
  unfold State.serveAsk at ht
  try dsimp only at ht
  repeat' (first
    | (subst ht; simp (maxDischargeDepth := 4) +contextual [*]; done)
    | split at ht)

@[simp] theorem udxRequest_wf (s : State) (r : Req) (a : Ask) (act : State → Session → Done)
    (hact : ∀ a0 a1 d', d' = act a0 a1 → memWf (Facet.test.of a0) = true → memWf (Facet.test.of d'.state) = true)
    (h : memWf (Facet.test.of s) = true) : memWf (Facet.test.of (udxRequest s r a act)) = true := by
  generalize ht : udxRequest s r a act = t'
  unfold udxRequest at ht
  try dsimp only at ht
  repeat' (first
    | (subst ht; simp [h]; done)
    | (subst ht; exact State.serveAsk_wf _ _ _ _ _ hact (by simp [h]))
    | split at ht)

@[simp] theorem serveWrite_wf (s : State) (x : Session) (tag : Nat) (a : Ask) (vals : List (Nat × Nat × Val))
    (act : State → Session → Done)
    (hact : ∀ a0 a1 d', d' = act a0 a1 → memWf (Facet.test.of a0) = true → memWf (Facet.test.of d'.state) = true)
    (h : memWf (Facet.test.of s) = true) : memWf (Facet.test.of (serveWrite s x tag a vals act).state) = true := by
  have h'act := fun a0 a1 => hact a0 a1 _ rfl
  generalize ht : serveWrite s x tag a vals act = t'
  unfold serveWrite at ht
  try dsimp only at ht
  repeat' (first
    | (subst ht; simp (maxDischargeDepth := 4) +contextual [*]; done)
    | split at ht)

@[simp] theorem udxAct_wf (s : State) (r : Req) (index sub meter : Nat) (data : Octets)
    (vals : List (Nat × Nat × Val)) (act : State → Session → Done)
    (hact : ∀ a0 a1 d', d' = act a0 a1 → memWf (Facet.test.of a0) = true → memWf (Facet.test.of d'.state) = true)
    (h : memWf (Facet.test.of s) = true) : memWf (Facet.test.of (udxAct s r index sub meter data vals act)) = true :=
  udxRequest_wf _ _ _ _ (fun a0 a1 _ e h0 => e ▸ serveWrite_wf a0 a1 _ _ _ act hact h0) h

@[simp] theorem udxWrite_wf (s : State) (r : Req) (index sub meter : Nat) (data : Octets)
    (act : State → Session → Done)
    (hact : ∀ a0 a1 d', d' = act a0 a1 → memWf (Facet.test.of a0) = true → memWf (Facet.test.of d'.state) = true)
    (h : memWf (Facet.test.of s) = true) : memWf (Facet.test.of (udxWrite s r index sub meter data act)) = true :=
  udxAct_wf s r index sub meter data [] act hact h

@[simp] theorem State.testWrite_wf (s : State) (tile cls index : Nat) (data : Octets)
    (h : memWf (Facet.test.of s) = true) : memWf (Facet.test.of (State.testWrite s tile cls index data)) = true := by
  generalize ht : State.testWrite s tile cls index data = t'
  unfold State.testWrite at ht
  try dsimp only at ht
  repeat' (first
    | (subst ht; simp (maxDischargeDepth := 4) +contextual [*])
    | split at ht)

@[simp] theorem State.testStore_wf (s : State) (tile cls index : Nat) (data : Octets)
    (h : memWf (Facet.test.of s) = true) : memWf (Facet.test.of (State.testStore s tile cls index data)) = true := by
  have hw := State.testWrite_wf s tile cls index data h
  unfold State.testStore
  dsimp only
  split
  · simpa using hw
  · exact hw

/-- The test words of a bank replaced keep the form. -/
@[simp] theorem mapTest_wf (tile b : Nat) (f : Nat → Word) (m : List Host.Cell) (h : memWf m = true) :
    memWf (mapTest tile b f m) = true := by
  unfold mapTest
  generalize (List.range 64).filter _ = l
  induction l generalizing m with
  | nil => exact h
  | cons i r ih => exact ih _ (memWf_memWrites _ _ _ h)

@[simp] theorem State.mapBank_wf (s : State) (tile b : Nat) (f : Nat → Word)
    (h : memWf (Facet.test.of s) = true) : memWf (Facet.test.of (State.mapBank s tile b f)) = true :=
  mapTest_wf tile b f _ h

@[simp] theorem State.loseBank_wf (s : State) (tile b : Nat)
    (h : memWf (Facet.test.of s) = true) : memWf (Facet.test.of (State.loseBank s tile b)) = true :=
  State.mapBank_wf s tile b _ h

@[simp] theorem State.clearBank_wf (s : State) (tile b : Nat)
    (h : memWf (Facet.test.of s) = true) : memWf (Facet.test.of (State.clearBank s tile b)) = true := by
  have hm := State.mapBank_wf s tile b (fun _ => 0) h
  unfold State.clearBank
  simpa using hm

@[simp] theorem State.changeBank_wf (s : State) (tile b new : Nat) (plan : Bool)
    (h : memWf (Facet.test.of s) = true) : memWf (Facet.test.of (State.changeBank s tile b new plan)) = true := by
  unfold State.changeBank
  dsimp only
  repeat' split
  all_goals simp [h]

@[simp] theorem State.bankOn_wf (s : State) (tile b : Nat)
    (h : memWf (Facet.test.of s) = true) : memWf (Facet.test.of (State.bankOn s tile b)) = true := by
  unfold State.bankOn
  dsimp only
  repeat' split
  all_goals simp [h]

@[simp] theorem State.applyBankPlan_wf (s : State)
    (h : memWf (Facet.test.of s) = true) : memWf (Facet.test.of (State.applyBankPlan s)) = true := by
  unfold State.applyBankPlan
  repeat' split
  · exact State.eachTile_wf s _ (fun a _ _ e h0 => e ▸ foldl_wf _ _ (fun b _ _ e' h1 => e' ▸ State.changeBank_wf b _ _ _ _ h1) a h0) h
  · exact h
  · exact h

@[simp] theorem State.bankStep_wf (s : State)
    (h : memWf (Facet.test.of s) = true) : memWf (Facet.test.of (State.bankStep s)) = true :=
  State.eachTile_wf _ _ (fun a _ _ e h0 => e ▸ foldl_wf _ _ (fun b _ _ e' h1 => e' ▸ State.bankOn_wf b _ _ h1) a h0)
    (State.applyBankPlan_wf s h)

@[simp] theorem eccTest_wf (op : Nat) (s : State) (u2 : Session)
    (h : memWf (Facet.test.of s) = true) : memWf (Facet.test.of (eccTest op s u2).state) = true := by
  generalize ht : eccTest op s u2 = t'
  unfold eccTest at ht
  try dsimp only at ht
  repeat' (first
    | (subst ht; simp (maxDischargeDepth := 4) +contextual [*]; done)
    | split at ht)

@[simp] theorem State.dropVolatile_wf (s : State) :
    memWf (Facet.test.of (State.dropVolatile s)) = true := by
  generalize ht : State.dropVolatile s = t'
  unfold State.dropVolatile at ht
  try dsimp only at ht
  subst ht
  simp (maxDischargeDepth := 4) +contextual [*]

@[simp] theorem State.startBringUp_wf (s : State) (cause : Nat) :
    memWf (Facet.test.of (State.startBringUp s cause)) = true := by
  generalize ht : State.startBringUp s cause = t'
  unfold State.startBringUp at ht
  try dsimp only at ht
  subst ht
  simp (maxDischargeDepth := 4) +contextual [*]

@[simp] theorem State.runChange_wf (s : State) (target : Nat) :
    memWf (Facet.test.of (State.runChange s target)) = true := by
  generalize ht : State.runChange s target = t'
  unfold State.runChange at ht
  try dsimp only at ht
  subst ht
  simp (maxDischargeDepth := 4) +contextual [*]

@[simp] theorem State.leaveStep_wf (s : State)
    (h : memWf (Facet.test.of s) = true) : memWf (Facet.test.of (State.leaveStep s)) = true := by
  generalize ht : State.leaveStep s = t'
  unfold State.leaveStep at ht
  try dsimp only at ht
  repeat' (first
    | (subst ht; simp (maxDischargeDepth := 4) +contextual [*]; done)
    | split at ht)

@[simp] theorem State.tamper_wf (s : State) (input : Nat)
    (h : memWf (Facet.test.of s) = true) : memWf (Facet.test.of (State.tamper s input)) = true := by
  generalize ht : State.tamper s input = t'
  unfold State.tamper at ht
  try dsimp only at ht
  subst ht
  simp (maxDischargeDepth := 4) +contextual [*]

@[simp] theorem State.resetTile_wf (s : State) (t : Nat)
    (h : memWf (Facet.test.of s) = true) : memWf (Facet.test.of (State.resetTile s t)) = true := by
  generalize ht : State.resetTile s t = t'
  unfold State.resetTile at ht
  try dsimp only at ht
  subst ht
  simp (maxDischargeDepth := 4) +contextual [*]

@[simp] theorem State.verified_wf (s : State)
    (h : memWf (Facet.test.of s) = true) : memWf (Facet.test.of (State.verified s)) = true := by
  generalize ht : State.verified s = t'
  unfold State.verified at ht
  try dsimp only at ht
  subst ht
  simp (maxDischargeDepth := 4) +contextual [*]

@[simp] theorem State.jtagSeen_wf (s : State) (opcode : Nat)
    (h : memWf (Facet.test.of s) = true) : memWf (Facet.test.of (State.jtagSeen s opcode)) = true := by
  generalize ht : State.jtagSeen s opcode = t'
  unfold State.jtagSeen at ht
  try dsimp only at ht
  subst ht
  simp (maxDischargeDepth := 4) +contextual [*]

@[simp] theorem unitSubmit_wf (k n : Nat) (s : State) (x : Session)
    (h : memWf (Facet.test.of s) = true) : memWf (Facet.test.of (unitSubmit k n s x).state) = true := by
  generalize ht : unitSubmit k n s x = t'
  unfold unitSubmit at ht
  try dsimp only at ht
  repeat' (first
    | (subst ht; simp (maxDischargeDepth := 4) +contextual [*])
    | split at ht)

@[simp] theorem submitOf_wf (index sub meter n tag : Nat) (s : State) (x : Session)
    (h : memWf (Facet.test.of s) = true) : memWf (Facet.test.of (submitOf index sub meter n tag s x).state) = true := by
  generalize ht : submitOf index sub meter n tag s x = t'
  unfold submitOf at ht
  try dsimp only at ht
  repeat' (first
    | (subst ht; simp (maxDischargeDepth := 4) +contextual [*])
    | split at ht)

@[simp] theorem writeAct_wf (index sub meter : Nat) (data : Octets) (tag : Nat) (s : State) (x : Session)
    (h : memWf (Facet.test.of s) = true) : memWf (Facet.test.of (writeAct index sub meter data tag s x).state) = true := by
  generalize ht : writeAct index sub meter data tag s x = t'
  unfold writeAct at ht
  try dsimp only at ht
  repeat' (first
    | (subst ht; simp (maxDischargeDepth := 4) +contextual [*]; done)
    | split at ht)

@[simp] theorem objectWrite_wf (index sub meter : Nat) (data : Octets) (tag : Nat) (s : State) (x : Session)
    (h : memWf (Facet.test.of s) = true) : memWf (Facet.test.of (objectWrite index sub meter data tag s x).state) = true := by
  generalize ht : objectWrite index sub meter data tag s x = t'
  unfold objectWrite at ht
  try dsimp only at ht
  repeat' (first
    | (subst ht; simp (maxDischargeDepth := 4) +contextual [*])
    | split at ht)

@[simp] theorem stageAct_wf (a : Ask) (tag : Nat) (s : State) (x : Session)
    (h : memWf (Facet.test.of s) = true) : memWf (Facet.test.of (stageAct a tag s x).state) = true := by
  generalize ht : stageAct a tag s x = t'
  unfold stageAct at ht
  try dsimp only at ht
  repeat' (first
    | (subst ht; simp (maxDischargeDepth := 4) +contextual [*]; done)
    | split at ht)

@[simp] theorem State.adoptWrite_wf (s : State) (a : List Nat) (data : Octets)
    (h : memWf (Facet.test.of s) = true) : memWf (Facet.test.of (State.adoptWrite s a data)) = true := by
  generalize ht : State.adoptWrite s a data = t'
  unfold State.adoptWrite at ht
  try dsimp only at ht
  subst ht
  simp (maxDischargeDepth := 4) +contextual [*]

@[simp] theorem State.adopt_wf (s : State) (r : MgmtRecord)
    (h : memWf (Facet.test.of s) = true) : memWf (Facet.test.of (State.adopt s r)) = true := by
  generalize ht : State.adopt s r = t'
  unfold State.adopt at ht
  try dsimp only at ht
  repeat' (first
    | (subst ht; simp (maxDischargeDepth := 4) +contextual [*]; done)
    | split at ht)

/-- Work done under an apply instant keeps the form when the work does. -/
@[simp] theorem State.applying_wf (s : State) (at_ : Nat) (f : State → State)
    (hf : ∀ a, memWf (Facet.test.of a) = true → memWf (Facet.test.of (f a)) = true)
    (h : memWf (Facet.test.of s) = true) :
    memWf (Facet.test.of (s.applying at_ f)) = true := by
  unfold State.applying
  exact hf _ h

@[simp] theorem State.adoptDue_wf (s : State)
    (h : memWf (Facet.test.of s) = true) : memWf (Facet.test.of s.adoptDue) = true := by
  unfold State.adoptDue
  exact foldl_wf _ _ (fun a r t e h0 => e ▸ State.applying_wf a _ _ (fun b hb => State.adopt_wf b r hb) h0) _ h

@[simp] theorem State.applyDeferred_wf (s : State) (d : Deferred) (h : memWf (Facet.test.of s) = true) :
    memWf (Facet.test.of (s.applyDeferred d)) = true := by
  unfold State.applyDeferred
  exact State.applying_wf s _ _ (fun b hb => writeAct_wf _ _ _ _ _ b _ hb) h

@[simp] theorem State.deferredDue_wf (s : State)
    (h : memWf (Facet.test.of s) = true) : memWf (Facet.test.of (State.deferredDue s)) = true := by
  generalize ht : State.deferredDue s = t'
  unfold State.deferredDue at ht
  try dsimp only at ht
  subst ht
  simp (maxDischargeDepth := 4) +contextual [*]

@[simp] theorem State.atBoundary_wf (s : State) (before : Nat)
    (h : memWf (Facet.test.of s) = true) : memWf (Facet.test.of (State.atBoundary s before)) = true := by
  have h1 : memWf (Facet.test.of s.clockStep.powerStep.faultStep.handoverStep) = true := by simp [h]
  have h2 := State.deferredDue_wf _ (State.adoptDue_wf _ h1)
  have h3 := State.bankStep_wf _ (by simpa using h2 :
    memWf (Facet.test.of s.clockStep.powerStep.faultStep.handoverStep.adoptDue.deferredDue.sheetStep.placementStep) = true)
  unfold State.atBoundary
  simp [h3]

@[simp] theorem State.pilotBanks_wf (s : State)
    (h : memWf (Facet.test.of s) = true) : memWf (Facet.test.of (State.pilotBanks s)) = true :=
  foldl_wf _ _ (fun a _ _ e h0 => e ▸ State.changeBank_wf a _ _ _ _ h0) s h

@[simp] theorem State.enterPilot_wf (s : State)
    (h : memWf (Facet.test.of s) = true) : memWf (Facet.test.of (State.enterPilot s)) = true := by
  have h1 := State.pilotBanks_wf ((if s.power.warning then s else s.flushAll).pilotLanes) (by split <;> simp [h])
  unfold State.enterPilot
  simp [h1]

end Sys2Proof.Machine
end

