-- ==== Sys2Proof/Laws/Vectors.lean ====
section
/-! SUPPORT. The test vectors of the ciphers hold: the known answers of the cipher test slots (R90) and of the self-tests of the
crypto units (R467). -/

namespace Sys2Proof.Machine

/-- The known answers of a cipher test slot hold. -/
@[simp] theorem katHolds_true : katHolds = true := by decide +kernel

/-- The vectors of the service cipher, the hash unit, the public-key engine and the radio cores hold. -/
theorem vectorsHold_cipher : vectorsHold 0 = true := by decide +kernel

theorem vectorsHold_hash : vectorsHold 1 = true := by decide +kernel

theorem vectorsHold_publicKey : vectorsHold 2 = true := by decide +kernel

theorem vectorsHold_radio : vectorsHold 3 = true := by decide +kernel

/-- The vectors of every unit hold. -/
@[simp] theorem vectorsHold_true (u : Nat) : vectorsHold u = true := by
  match u with
  | 0 => exact vectorsHold_cipher
  | 1 => exact vectorsHold_hash
  | 2 => exact vectorsHold_publicKey
  | n + 3 =>
    have h : vectorsHold (n + 3) = vectorsHold 3 := by
      unfold vectorsHold
      rfl
    rw [h]
    exact vectorsHold_radio

end Sys2Proof.Machine
end

