-- ==== Sys2Proof/Machine/Package.lean ====
section
/-! DEFINITION. Packages, balls, signals and the states of the pins in each phase (20 R698 to R706, R710, 21 R725). -/

namespace Sys2Proof.Machine

/-! ### Packages and ball names (R698, R699) -/

/-- A package: body in tenths of a millimetre, columns, rows, reserved balls. -/
structure Package where
  bodyX : Nat
  bodyY : Nat
  columns : Nat
  rows : Nat
  reserved : Nat := 2
  deriving DecidableEq, Repr

/-- The package of a tile count. -/
def packageOf (tiles : Nat) : Package :=
  if tiles = 2 then { bodyX := 470, bodyY := 280, columns := 45, rows := 26 }
  else if tiles = 4 then { bodyX := 490, bodyY := 490, columns := 47, rows := 47 }
  else { bodyX := 710, bodyY := 710, columns := 69, rows := 69 }

/-- Every ball of a package. -/
def Package.balls (p : Package) : Nat := p.columns * p.rows

/-- The row letters, 19 of them (R19). -/
def rowLetters : List Char := ['A', 'B', 'C', 'D', 'E', 'F', 'G', 'H', 'J', 'K', 'L', 'M', 'N', 'P', 'T', 'U', 'V', 'W', 'Y']

/-- The letters of a row index: A to Y, AA to AY, BA to BY, CA to CY. -/
def rowName (i : Nat) : List Char :=
  let c := rowLetters.getD (i % 19) 'A'
  if i < 19 then [c] else [rowLetters.getD (i / 19 - 1) 'A', c]

/-- A ball: its row index from 0 and its column from 1. -/
structure Ball where
  row : Nat
  column : Nat
  deriving DecidableEq, Repr

/-! ### Fields (R700 to R702) -/

/-- Origin of a tile's field: row index and column. -/
def tileOrigin (tiles t : Nat) : Nat × Nat :=
  let at_ : List (Nat × Nat) :=
    if tiles = 2 then [(0, 1), (0, 25)]
    else if tiles = 4 then [(0, 1), (0, 25), (22, 25), (22, 1)]
    else [(0, 1), (0, 25), (0, 49), (22, 49), (44, 49), (44, 25), (44, 1), (22, 1)]
  at_.getD t (0, 1)

/-- Origin of the host field. -/
def hostOrigin (tiles : Nat) : Nat × Nat :=
  if tiles = 2 then (22, 13) else if tiles = 4 then (43, 13) else (65, 25)

/-- A group of signals of a tile field (R701). -/
inductive SignalGroup where
  | dram | nand (channel : Nat) | line (lane : Nat) | radio (lane : Nat) | zeroCrossing
  deriving DecidableEq, Repr

/-- A group's first field row, first field column and columns. -/
def SignalGroup.place : SignalGroup → Nat × Nat × Nat
  | .dram => (0, 0, 19)
  | .nand c => (4 + c, 0, 21)
  | .line l => (7 + l, 0, 13)
  | .radio n => (12 + n / 2, 8 * (n % 2), 8)
  | .zeroCrossing => (17, 0, 3)

/-- How many signals a group has. -/
def SignalGroup.size : SignalGroup → Nat
  | .dram => 57
  | .nand _ => 21
  | .line _ => 13
  | .radio _ => 8
  | .zeroCrossing => 3

/-- The groups of a tile field. -/
def tileGroups : List SignalGroup :=
  [.dram, .nand 0, .nand 1] ++ (List.range 4).map .line ++ (List.range 8).map .radio ++ [.zeroCrossing]

/-- The field rows that are ground in every column. -/
def groundRows : List Nat := [3, 6, 11, 16]

/-- The ball of signal `n` of a group of tile `t`, counted in table order. -/
def tileBall (tiles t : Nat) (g : SignalGroup) (n : Nat) : Ball :=
  let (r0, c0) := tileOrigin tiles t
  let (r, c, w) := g.place
  { row := r0 + r + n / w, column := c0 + c + n % w }

/-- The ball of host signal `n`; 82 and 83 are the reserved balls (R702). -/
def hostBall (tiles n : Nat) : Ball :=
  let (r0, c0) := hostOrigin tiles
  { row := r0 + n / 21, column := c0 + n % 21 }

/-! ### Signals (R703, R705) -/

/-- Direction of a signal, seen from the part. -/
inductive Direction where
  | input | output | both | none_
  deriving DecidableEq, Repr

/-- A pull resistor of 50 kΩ. -/
inductive Pull where
  | none_ | up | down
  deriving DecidableEq, Repr

/-- Consecutive signals of one kind: how many, their direction and pull. -/
structure SignalRun where
  count : Nat
  dir : Direction
  pull : Pull := .none_
  deriving DecidableEq, Repr

/-- The signals of a group, in ball order. -/
def SignalGroup.signals : SignalGroup → List SignalRun
  | .dram => [⟨36, .both, .none_⟩, ⟨4, .both, .none_⟩, ⟨4, .output, .none_⟩, ⟨2, .output, .none_⟩, ⟨9, .output, .none_⟩,
      ⟨1, .output, .down⟩, ⟨1, .none_, .none_⟩]
  | .nand _ => [⟨10, .both, .none_⟩, ⟨2, .output, .none_⟩, ⟨3, .output, .none_⟩, ⟨1, .output, .down⟩, ⟨1, .input, .up⟩,
      ⟨4, .output, .up⟩]
  | .line _ => [⟨2, .output, .none_⟩, ⟨2, .input, .none_⟩, ⟨2, .output, .none_⟩, ⟨2, .input, .none_⟩, ⟨2, .output, .none_⟩,
      ⟨2, .input, .none_⟩, ⟨1, .output, .down⟩]
  | .radio _ => [⟨4, .output, .none_⟩, ⟨1, .output, .down⟩, ⟨2, .input, .none_⟩, ⟨1, .input, .up⟩]
  | .zeroCrossing => [⟨3, .input, .down⟩]

/-- One external PHY's control: reset, MDC, MDIO, interrupt. -/
def phySignals : List SignalRun := [⟨2, .output, .none_⟩, ⟨1, .both, .up⟩, ⟨1, .input, .up⟩]

/-- The signals of the host field, in ball order: PCIe, Ethernet, reset and reference, mirror link, pair lines, time, tamper,
power, test access port, thermal alarm. -/
def hostSignals : List SignalRun :=
  [⟨8, .output, .none_⟩, ⟨8, .input, .none_⟩, ⟨2, .input, .none_⟩, ⟨1, .input, .up⟩, ⟨1, .output, .none_⟩, ⟨1, .input, .down⟩,
   ⟨2, .output, .none_⟩, ⟨2, .input, .none_⟩, ⟨2, .output, .none_⟩, ⟨2, .input, .none_⟩, ⟨2, .input, .none_⟩] ++
  phySignals ++ phySignals ++
  [⟨1, .input, .down⟩, ⟨1, .input, .none_⟩, ⟨1, .input, .none_⟩, ⟨8, .output, .none_⟩, ⟨8, .input, .none_⟩, ⟨2, .input, .none_⟩,
   ⟨1, .input, .down⟩, ⟨1, .input, .down⟩, ⟨1, .output, .none_⟩, ⟨2, .output, .down⟩, ⟨4, .output, .down⟩, ⟨1, .input, .down⟩,
   ⟨4, .input, .down⟩, ⟨1, .input, .up⟩, ⟨1, .input, .down⟩, ⟨1, .input, .down⟩, ⟨2, .input, .up⟩, ⟨1, .output, .none_⟩,
   ⟨1, .input, .down⟩, ⟨1, .output, .none_⟩]

/-- The signals of runs. -/
def signalCount (l : List SignalRun) : Nat := (l.map SignalRun.count).sum

/-- The signal balls of a part. -/
def signalBalls (tiles : Nat) : Nat := tiles * (tileGroups.map SignalGroup.size).sum + signalCount hostSignals

/-- The supply and ground balls of a part: every ball that is no signal and not reserved. -/
def supplyBalls (tiles : Nat) : Nat := (packageOf tiles).balls - signalBalls tiles - (packageOf tiles).reserved

/-! ### Supply and ground balls (R725) -/

/-- A rail, or VSS, by its number in R747: 0 VSS, 1 VDD_CORE, 2 VDD_SRAM, 3 VDD_AON, 4 VDD_PLL, 5 VDD_IO, 6 VDDA_LINE, 7 VDD_DDR, 8
VDDQ_DDR, 9 VCCQ_NAND, 10 VDD_SERDES, 11 VDDH_SERDES. -/
abbrev RailNumber := Nat

/-- The rail of a ball of a tile field that is no signal, by field row and column. -/
def fieldRail (r c : Nat) : RailNumber :=
  if groundRows.contains r then 0
  else if r < 3 then 8
  else if r ≤ 10 then (if c % 2 = 0 then 6 else 0)
  else if r ≤ 15 then 5
  else if r = 17 then (if c ≤ 5 then 4 else if c ≤ 8 then 3 else 9)
  else if r = 18 then (if c ≤ 10 then 7 else 9)
  else 2

/-- A field ball of a tile is a signal (R701). -/
def fieldSignal (r c : Nat) : Bool :=
  tileGroups.any fun g =>
    let (r0, c0, w) := g.place
    decide (r0 ≤ r ∧ c0 ≤ c ∧ c < c0 + w ∧ (r - r0) * w + (c - c0) < g.size)

/-- The rail of a ball outside every field: VSS where row plus column is even. -/
def outerRail (tiles row column : Nat) : RailNumber :=
  let (r0, c0) := hostOrigin tiles
  if (row + column) % 2 = 0 then 0
  else if r0 ≤ row ∧ row < r0 + 4 then (if column < c0 then 10 else 11)
  else 1

/-- What a ball is. -/
inductive BallUse where
  | tileSignal (tile : Nat) | hostSignal | reserved | supply (rail : RailNumber)
  deriving DecidableEq, Repr

/-- What the ball at a row index and column of a part is. -/
def ballUse (tiles row column : Nat) : BallUse :=
  let (h0, k0) := hostOrigin tiles
  match (List.range tiles).find? fun t => decide ((tileOrigin tiles t).1 ≤ row ∧ row < (tileOrigin tiles t).1 + 20 ∧
      (tileOrigin tiles t).2 ≤ column ∧ column < (tileOrigin tiles t).2 + 21) with
  | some t =>
    let r := row - (tileOrigin tiles t).1
    let c := column - (tileOrigin tiles t).2
    if fieldSignal r c then .tileSignal t else .supply (fieldRail r c)
  | none =>
    if h0 ≤ row ∧ row < h0 + 4 ∧ k0 ≤ column ∧ column < k0 + 21 then
      (if 82 ≤ (row - h0) * 21 + (column - k0) then .reserved else .hostSignal)
    else .supply (outerRail tiles row column)

/-! ### Pin states (R710) -/

/-- A pin group of R710. -/
inductive PinGroup where
  | dram | nand (tile : Nat) | lineTx (tile lane channel : Nat) | drven | radio | zeroCrossing (tile : Nat) | pcie | ethernet (port : Nat) | mirror | pairLines
  | timeOut | tdo | therm
  deriving DecidableEq, Repr

/-- What a pin group does: not driven, held at its inactive levels, an idle transmitter, or at work as its own rules say;
`selfRefresh` holds DRAM, `bias` line pins with a bias alone, `notReady` a mirror link that sends NOT_READY, `inactive` a time
output at its inactive level. -/
inductive PinMode where
  | highZ | held | idle | atWork | selfRefresh | training | notReady | inactive | ignored
  deriving DecidableEq, Repr

/-- The phase of R710: 0 SYS_RESET_N low, 1 to 7 the step in progress, 8 ready or held without keys, 9 pilot light. A halted unit and
ROM recovery stand at their step (R619, R625, R626). -/
def State.pinPhase (s : State) : Nat :=
  let n := s.boot.phase
  if n = 0 then 0
  else if 2 ≤ s.power.pilot then 9
  else if n ≤ 8 then min n 7
  else if n = 10 then min s.boot.haltStep 7
  else if n = 11 then 4
  else 8

/-- The host interfaces are released: with them up, or held without keys after a tamper event; in ROM recovery Ethernet 0 and PCIe alone
(R619, R623, R626, R636). -/
def State.hostPins (s : State) (port : Nat) : Bool :=
  (s.hostUp && (decide (s.boot.phase ≠ 11) || decide (port ≠ 1))) || decide (s.boot.phase = 12)

/-- The state of a pin group; the transmit pins of a lane that is not on, or of a coupling channel out of service, stand at high impedance
(R277, R622). -/
def State.pinMode (s : State) (g : PinGroup) : PinMode :=
  let p := s.pinPhase
  match g with
  | .dram => if p < 3 then .highZ else if p = 9 then .selfRefresh else .atWork
  | .nand t => if p < (if t = 0 then 4 else 5) then (if p = 0 then .highZ else .held) else if p = 9 then .held else .atWork
  | .lineTx t l c => if p = 8 ∧ (s.lane t l).on = true ∧ (s.port t l c).out = false then .atWork else .highZ
  | .drven => if p = 8 then .atWork else .held
  | .radio => if p = 7 ∨ p = 8 then .atWork else .held
  | .zeroCrossing t => if p < 7 then .ignored else if p = 9 ∧ t ≠ 0 then .ignored else .atWork
  | .pcie => if p < 2 ∨ p = 9 then .idle else if s.hostPins 2 then .atWork else .training
  | .ethernet port => if (if p = 9 then decide (port = s.obj 0xB001 2) else s.hostPins port) then .atWork else .idle
  | .mirror => if p < 2 then .idle else if p = 8 then .atWork else .notReady
  | .pairLines => if p = 8 then .atWork else .held
  | .timeOut => if p < 5 then .highZ else if p < 8 then .inactive else .atWork
  | .tdo => .highZ
  | .therm => if p < 8 then .highZ else .atWork

end Sys2Proof.Machine
end

