-- ==== Sys2Proof/WellFormed.lean ====
section
/-! DEFINITION. The check of a command's operands: each fits the field its message carries it in, and an event of a tile,
a pipeline, a lane or a slot names one the part has (R1, R25, R52, R588, R595). -/

namespace Sys2Proof.WellFormed

/-- A tile of the largest part (R1, R8); a part of fewer tiles has no such event. -/
def tileOk (n : Nat) : Bool := decide (n < 8)

/-- A pipeline of a tile (R52). -/
def pipeOk (n : Nat) : Bool := decide (n < 8)

/-- A lane or partition of a tile: four line lanes or eight radio lanes (R25). -/
def laneOk (n : Nat) : Bool := decide (n < 8)

/-- A line lane of a tile, and a coupling channel of a lane, or 3 for the three combined (R9, R25, R250). -/
def lineLaneOk (n : Nat) : Bool := decide (n < 4)
def channelOk (n : Nat) : Bool := decide (n < 4)

/-- A slot of a heat (R52). -/
def slotOk (n : Nat) : Bool := decide (n < 375)

/-- A field of one byte. -/
def byteOk (n : Nat) : Bool := decide (n < 256)

/-- A field of two bytes. -/
def halfOk (n : Nat) : Bool := decide (n < 65536)

/-- A field of four bytes. -/
def wordOk (n : Nat) : Bool := decide (n < 4294967296)

/-- A field of at most eight bytes. -/
def longOk (n : Nat) : Bool := decide (n < 18446744073709551616)

/-- A run of numbers that fields carry. -/
def listOk (l : List Nat) : Bool := l.all longOk

/-- A run of octets: no value of the dictionary is longer than 1,048,576 (R579). -/
def octetsOk (b : Octets) : Bool := decide (b.length ≤ 1048576)

/-- The envelope of a sealed request: the header's fields and a tag of 16 bytes (R588, R589, R595). -/
def reqOk (r : Req) : Bool := wordOk r.session && wordOk r.msgSeq && wordOk r.tag && decide (r.mac.length = 16)

end Sys2Proof.WellFormed

namespace Sys2Proof

open WellFormed

/-- A command whose operands fit their fields. -/
def Instr.wellFormed : Instr → Bool
  | .heatBoundary t => longOk t
  | .ringSlotTransfer src dst _ => tileOk src && tileOk dst
  | .ringTransferReceived src dst _ => tileOk src && tileOk dst
  | .ringCreditTimeout link direction => longOk link && longOk direction
  | .ringRetrainDone link _ => longOk link
  | .ringRetrainRetry link => longOk link
  | .clockMonitorMeasure tile domain mean => tileOk tile && longOk domain && longOk mean
  | .refclkLoss => true
  | .clockMonitorClear tile domain => tileOk tile && longOk domain
  | .inboundSlot tile pipe k => tileOk tile && pipeOk pipe && slotOk k
  | .outboundSlot tile pipe k => tileOk tile && pipeOk pipe && slotOk k
  | .readoutSlot tile pipe k => tileOk tile && pipeOk pipe && slotOk k
  | .querySlot tile pipe k => tileOk tile && pipeOk pipe && slotOk k
  | .snapshotSlot tile pipe k => tileOk tile && pipeOk pipe && slotOk k
  | .pacerSlot tile pipe _ item => tileOk tile && pipeOk pipe && longOk item
  | .cipherKatSlot tile pipe _ => tileOk tile && pipeOk pipe
  | .marchStep tile _ => tileOk tile
  | .quarantineOnEcc tile => tileOk tile
  | .hotRecordRebuild meter => wordOk meter
  | .returnedRequestRequeue meter => wordOk meter
  | .pipelineFault tile pipe => tileOk tile && pipeOk pipe
  | .pipelineRestore tile pipe => tileOk tile && pipeOk pipe
  | .pipelineRelease r => reqOk r
  | .diagnosisRequest r => reqOk r
  | .diagnosisDone tiles _ _ _ _ => longOk tiles
  | .functionDisabled f => longOk f
  | .eventRateInterval code tile sub => longOk code && longOk tile && longOk sub
  | .commitBuild r => reqOk r
  | .commitCheck r => reqOk r
  | .internalBuild trigger tile => longOk trigger && longOk tile
  | .buildDone => true
  | .loaderCheckReport tile _ claim => tileOk tile && longOk claim
  | .sheetSwap => true
  | .oldSheetRelease => true
  | .compileTimeout => true
  | .buildRetry => true
  | .queueOpen tile q producer words => tileOk tile && longOk q && longOk producer && longOk words
  | .queueOpenGrant tile q => tileOk tile && longOk q
  | .queueWrite tile q ticket word tag => tileOk tile && longOk q && longOk ticket && longOk word && longOk tag
  | .queuePacketTimeout tile q => tileOk tile && longOk q
  | .forwardPacket tile q => tileOk tile && longOk q
  | .forwarderRetry tile q => tileOk tile && longOk q
  | .bankWakeDone tile bank => tileOk tile && longOk bank
  | .secureWipeDone tile => tileOk tile
  | .mergeEntryTimeout tile address => tileOk tile && longOk address
  | .flipMaskArm r cls value => reqOk r && byteOk cls && longOk value
  | .flipMaskDisarm r cls => reqOk r && byteOk cls
  | .eccTestWrite r => reqOk r
  | .eccTestRead r => reqOk r
  | .scratchScrub tile => tileOk tile
  | .dramScrub tile => tileOk tile
  | .placementPass => true
  | .fenceOpen meter => wordOk meter
  | .fenceInboundMark meter => wordOk meter
  | .fenceFreeze meter => wordOk meter
  | .fenceCopyDone meter => wordOk meter
  | .fenceCommit meter => wordOk meter
  | .fenceAbandon meter => wordOk meter
  | .pathMoveCommit meter => wordOk meter
  | .unroutedResolve tile => tileOk tile
  | .unroutedTimeout tile => tileOk tile
  | .lineFrameReceived tile lane channel fc blocks rx erased => tileOk tile && lineLaneOk lane && channelOk channel && octetsOk fc && octetsOk blocks && longOk rx && longOk erased
  | .joinRequest tile lane channel meter kind => tileOk tile && lineLaneOk lane && channelOk channel && wordOk meter && byteOk kind
  | .toneMapResponse tile lane tag image => tileOk tile && lineLaneOk lane && longOk tag && octetsOk image
  | .soundRequest tile lane tag channel symbols => tileOk tile && lineLaneOk lane && longOk tag && channelOk channel && longOk symbols
  | .lineReceiptReceived tile lane fc => tileOk tile && lineLaneOk lane && octetsOk fc
  | .responseWindowExpiry tile lane => tileOk tile && lineLaneOk lane
  | .lineSend tile lane => tileOk tile && lineLaneOk lane
  | .windowCycleOpen tile lane => tileOk tile && lineLaneOk lane
  | .claimToneHeard tile lane window => tileOk tile && lineLaneOk lane && longOk window
  | .contentionSlot tile lane n _ => tileOk tile && lineLaneOk lane && longOk n
  | .lineTransmitEnd tile lane => tileOk tile && lineLaneOk lane
  | .blockHoldExpiry tile lane tag => tileOk tile && lineLaneOk lane && longOk tag
  | .lineTagExpiry tile lane tag => tileOk tile && lineLaneOk lane && longOk tag
  | .beaconPlan tile lane => tileOk tile && lineLaneOk lane
  | .notchSetApply => true
  | .toneMapExpiry tile lane tag channel => tileOk tile && lineLaneOk lane && longOk tag && channelOk channel
  | .zcEdge tile input t => tileOk tile && longOk input && longOk t
  | .referenceCrossing tile => tileOk tile
  | .linePilotTest tile lane channel _ _ ma _ => tileOk tile && lineLaneOk lane && channelOk channel && longOk ma
  | .lineBiasFault tile lane channel mv => tileOk tile && lineLaneOk lane && channelOk channel && longOk mv
  | .linePortRetest tile lane channel _ => tileOk tile && lineLaneOk lane && channelOk channel
  | .lineCalibrationRequest r channel => reqOk r && byteOk channel
  | .calibrationStep tile lane magnitude _ => tileOk tile && lineLaneOk lane && longOk magnitude
  | .calibrationTimeout tile lane => tileOk tile && lineLaneOk lane
  | .superframeStart tile lane => tileOk tile && laneOk lane
  | .spanReply tile lane k => tileOk tile && laneOk lane && longOk k
  | .broadcastSpan tile lane k => tileOk tile && laneOk lane && longOk k
  | .radioFrameReceived tile lane psdu sfd => tileOk tile && laneOk lane && octetsOk psdu && longOk sfd
  | .radioJoin tile lane meter => tileOk tile && laneOk lane && wordOk meter
  | .downlinkStore tile lane => tileOk tile && laneOk lane
  | .downlinkExpiry tile lane => tileOk tile && laneOk lane
  | .linkKeyRoll r => reqOk r
  | .linkKeySwitch tile lane => tileOk tile && laneOk lane
  | .linkKeyOldDestroy tile lane => tileOk tile && laneOk lane
  | .transceiverFault tile lane op => tileOk tile && laneOk lane && longOk op
  | .radioTxDone tile lane _ => tileOk tile && laneOk lane
  | .associationExpiry tile lane meter => tileOk tile && laneOk lane && wordOk meter
  | .enrol r meter incarnation epoch ruleSet interval limit _ => reqOk r && wordOk meter && longOk incarnation && longOk epoch && longOk ruleSet && longOk interval && longOk limit
  | .newIncarnation r meter incarnation epoch => reqOk r && wordOk meter && longOk incarnation && longOk epoch
  | .newKeyEpoch r meter epoch => reqOk r && wordOk meter && longOk epoch
  | .retire r meter => reqOk r && wordOk meter
  | .retirementComplete meter => wordOk meter
  | .keyEpochApply meter => wordOk meter
  | .freezeStart meter => wordOk meter
  | .freezeWrite meter => wordOk meter
  | .freezeEnd meter => wordOk meter
  | .disconnect r meter executeAt => reqOk r && wordOk meter && longOk executeAt
  | .reconnect r meter executeAt armOnly => reqOk r && wordOk meter && longOk executeAt && longOk armOnly
  | .setTime r meter seconds ns mode => reqOk r && wordOk meter && longOk seconds && longOk ns && longOk mode
  | .snapshot id cycle tags => longOk id && longOk cycle && listOk tags
  | .readNow r meter set => reqOk r && wordOk meter && longOk set
  | .keyEpoch r meter epoch => reqOk r && wordOk meter && longOk epoch
  | .feederTag r meter tag => reqOk r && wordOk meter && longOk tag
  | .tariffActivate r meter version effective => reqOk r && wordOk meter && longOk version && longOk effective
  | .firmwareActivate r meter image effective => reqOk r && wordOk meter && longOk image && longOk effective
  | .laneJoin r meter link epoch span phase logP sfn => reqOk r && wordOk meter && octetsOk link && longOk epoch && longOk span && longOk phase && longOk logP && longOk sfn
  | .setReporting r meter interval => reqOk r && wordOk meter && longOk interval
  | .creditState r meter credit state => reqOk r && wordOk meter && longOk credit && longOk state
  | .commandReseal id => longOk id
  | .commandExpired id => longOk id
  | .meterSilent meter => wordOk meter
  | .tunnelUplink port datagram => byteOk port && octetsOk datagram
  | .tunnelKeepalive port datagram => byteOk port && octetsOk datagram
  | .tunnelDownlink port datagram => byteOk port && octetsOk datagram
  | .relaySilent relay => longOk relay
  | .tunnelStageMove port => byteOk port
  | .relayUplinkSend => true
  | .relayKeepaliveSend => true
  | .billingFold tile => tileOk tile
  | .slotMapRewrite structure_ => longOk structure_
  | .tariffSwitch structure_ t => longOk structure_ && longOk t
  | .calendarActivate r structure_ effective => reqOk r && longOk structure_ && longOk effective
  | .calendarApply structure_ => longOk structure_
  | .demandIntervalEnd structure_ t => longOk structure_ && longOk t
  | .coldStoreDrain tile pipe => tileOk tile && pipeOk pipe
  | .periodClose structure_ t => longOk structure_ && longOk t
  | .periodCloseRequest r structure_ instant => reqOk r && longOk structure_ && longOk instant
  | .creditThreshold tile pipe => tileOk tile && pipeOk pipe
  | .meterEvent tile pipe => tileOk tile && pipeOk pipe
  | .prepayEnable r meter opening => reqOk r && wordOk meter && longOk opening
  | .prepayDisable r meter => reqOk r && wordOk meter
  | .topUp r meter amount id => reqOk r && wordOk meter && longOk amount && longOk id
  | .friendlyWindowEnd meter => wordOk meter
  | .reconnectRetry meter => wordOk meter
  | .meterReadout r meter kind cls arg count => reqOk r && wordOk meter && byteOk kind && byteOk cls && longOk arg && longOk count
  | .bulkReadout r structure_ kind cls => reqOk r && longOk structure_ && byteOk kind && byteOk cls
  | .readoutSigned tile => tileOk tile
  | .snapshotOpen => true
  | .snapshotRequest r tag => reqOk r && longOk tag
  | .snapshotClose feeder => longOk feeder
  | .indicatorClear r meter => reqOk r && wordOk meter
  | .membershipChange r meter sub value => reqOk r && wordOk meter && byteOk sub && longOk value
  | .feederRunningPower feeder => longOk feeder
  | .keyDestroy r slot => reqOk r && longOk slot
  | .keyExport r kind wrap target incarnation epoch => reqOk r && byteOk kind && longOk wrap && longOk target && longOk incarnation && longOk epoch
  | .keyImport r target wrap header blob => reqOk r && longOk target && longOk wrap && octetsOk header && octetsOk blob
  | .keyGenerationRaise r sub value => reqOk r && byteOk sub && longOk value
  | .setOwnerLock r params tag => reqOk r && octetsOk params && octetsOk tag
  | .clearOwnerLock r params tag => reqOk r && octetsOk params && octetsOk tag
  | .enterService r params tag => reqOk r && octetsOk params && octetsOk tag
  | .leaveService r params tag => reqOk r && octetsOk params && octetsOk tag
  | .rearmTimeStep r params tag => reqOk r && octetsOk params && octetsOk tag
  | .enterVoid r params tag => reqOk r && octetsOk params && octetsOk tag
  | .cryptoKat tile unit_ _ vector => tileOk tile && longOk unit_ && longOk vector
  | .cryptoRetest tile unit_ _ => tileOk tile && longOk unit_
  | .formatRequest r tile => reqOk r && longOk tile
  | .ringLogWrite tile => tileOk tile
  | .segmentSeal tile => tileOk tile
  | .segmentLate tile => tileOk tile
  | .slcSegmentFold tile => tileOk tile
  | .historyExpiry tile => tileOk tile
  | .garbageCollection tile _ => tileOk tile
  | .checkpointPage tile => tileOk tile
  | .storageRestore tile lost ms => tileOk tile && listOk lost && longOk ms
  | .historyPurge r before => reqOk r && longOk before
  | .blockRetire tile block pool reason => tileOk tile && longOk block && byteOk pool && longOk reason
  | .ptpSync port message => byteOk port && octetsOk message
  | .ptpFollowUp port message => byteOk port && octetsOk message
  | .ptpDelayResp port message => byteOk port && octetsOk message
  | .ptpPdelayReq port message turnaround => byteOk port && octetsOk message && longOk turnaround
  | .ptpPdelayResp port message => byteOk port && octetsOk message
  | .ptpAnnounce port message => byteOk port && octetsOk message
  | .ptpSyncTransmit port => byteOk port
  | .ptpUnsupportedMessage port message => byteOk port && octetsOk message
  | .hostTimeSet r seconds ns => reqOk r && longOk seconds && longOk ns
  | .timeStep => true
  | .sourceTimeout => true
  | .stepArmExpiry => true
  | .slaveAlignment tile _ => tileOk tile
  | .rateUpdate => true
  | .timeSourceChange => true
  | .timeOutputArm r output => reqOk r && longOk output
  | .timeOutputPulse output => longOk output
  | .timeInCapture => true
  | .hello seq ack unit_ tiles _ state measurement check => wordOk seq && wordOk ack && longOk unit_ && longOk tiles && longOk state && octetsOk measurement && longOk check
  | .heartbeat seq ack state flags heat => wordOk seq && wordOk ack && longOk state && longOk flags && longOk heat
  | .digest seq ack bin xor_ count => wordOk seq && wordOk ack && longOk bin && longOk xor_ && longOk count
  | .resign seq ack reason checks at_ => wordOk seq && wordOk ack && longOk reason && longOk checks && longOk at_
  | .take seq ack at_ => wordOk seq && wordOk ack && longOk at_
  | .handoverPlan seq ack instant kind => wordOk seq && wordOk ack && longOk instant && byteOk kind
  | .mgmt seq ack at_ kind args data => wordOk seq && wordOk ack && longOk at_ && byteOk kind && listOk args && octetsOk data
  | .tunnel seq ack port datagram => wordOk seq && wordOk ack && byteOk port && octetsOk datagram
  | .timeMessage seq ack t1 t2 t3 t4 stepAt _ => wordOk seq && wordOk ack && longOk t1 && longOk t2 && longOk t3 && longOk t4 && longOk stepAt
  | .syncData seq ack kind key data => wordOk seq && wordOk ack && byteOk kind && longOk key && octetsOk data
  | .logRequest seq ack bin => wordOk seq && wordOk ack && longOk bin
  | .logData seq ack bin entries => wordOk seq && wordOk ack && longOk bin && listOk entries
  | .repairRequest seq ack meters => wordOk seq && wordOk ack && listOk meters
  | .repairData seq ack meter record => wordOk seq && wordOk ack && wordOk meter && octetsOk record
  | .fenceFlag seq ack meter _ => wordOk seq && wordOk ack && wordOk meter
  | .mirrorRepeat => true
  | .batonCodeDecoded _ => true
  | .batonDead => true
  | .mirrorHeartbeatTimeout => true
  | .pairStartWait => true
  | .resignation => true
  | .batonTake => true
  | .syncFinalPause => true
  | .syncRelease => true
  | .syncRestart => true
  | .digestBinClose bin => longOk bin
  | .revert => true
  | .plannedHandover r => reqOk r
  | .releaseHeld r => reqOk r
  | .resynchronise r => reqOk r
  | .mgmtAckTimeout => true
  | .identify transport => byteOk transport
  | .openSession transport peer role nonce expected => byteOk transport && octetsOk peer && longOk role && octetsOk nonce && longOk expected
  | .readObject r index sub meter _ => reqOk r && halfOk index && byteOk sub && wordOk meter
  | .readSegment r index sub meter offset _ => reqOk r && halfOk index && byteOk sub && wordOk meter && wordOk offset
  | .writeSegment r index sub meter offset _ data => reqOk r && halfOk index && byteOk sub && wordOk meter && wordOk offset && octetsOk data
  | .readWhole r index meter _ => reqOk r && halfOk index && wordOk meter
  | .nop r => reqOk r
  | .objectWrite r index sub meter data => reqOk r && halfOk index && byteOk sub && wordOk meter && octetsOk data
  | .closeSession r => reqOk r
  | .sessionIdleTimeout session => wordOk session
  | .halfOpenTimeout session => wordOk session
  | .udxRequestTimeout session tag => wordOk session && longOk tag
  | .captureDiscard session => wordOk session
  | .mailboxDoorbell channel _ baseIn baseOut entries vector producer consumer _ => byteOk channel && longOk baseIn && longOk baseOut && longOk entries && longOk vector && longOk producer && longOk consumer
  | .mailboxReset => true
  | .pcieLinkDown => true
  | .outRingReplyDiscard channel => byteOk channel
  | .configurationReset r => reqOk r
  | .arpRequest port address => byteOk port && octetsOk address
  | .neighbourDiscovery port address => byteOk port && octetsOk address
  | .icmpEcho port _ address payload => byteOk port && octetsOk address && octetsOk payload
  | .sysResetRelease straps => longOk straps
  | .sysResetAssert => true
  | .fuseLoadDone tile _ => tileOk tile
  | .scratchpadClearDone tile => tileOk tile
  | .dramInitStepDone tile _ => tileOk tile
  | .secureBootDone first second imageDigest version => longOk first && longOk second && octetsOk imageDigest && longOk version
  | .tileEnumerationDone tile word found => tileOk tile && longOk word && longOk found
  | .sheetLoadDone _ => true
  | .lanePowerUpDone tile => tileOk tile
  | .ready => true
  | .bringUpStepTimeout => true
  | .restartRequest r => reqOk r
  | .enterKeyed r blob header => reqOk r && octetsOk blob && octetsOk header
  | .enterField r => reqOk r
  | .tamperEvent input => longOk input
  | .tamperCleared => true
  | .dramRequestTimeout tile address _ => tileOk tile && longOk address
  | .dramRetrainDone tile => tileOk tile
  | .nandOperationTimeout tile channel block page pool op => tileOk tile && byteOk channel && longOk block && longOk page && byteOk pool && longOk op
  | .nandDieRemoved tile channel die _ => tileOk tile && byteOk channel && longOk die
  | .watchdogTimeout tile core => tileOk tile && longOk core
  | .coreHoldEnd tile core => tileOk tile && longOk core
  | .tileHeartbeat src dst => tileOk src && tileOk dst
  | .tileHeartbeatTimeout tile => tileOk tile
  | .tileRecoveryDelayExpiry tile => tileOk tile
  | .tileRecoveryDone tile _ => tileOk tile
  | .primaryTileUnheard tile => tileOk tile
  | .eventRecord => true
  | .eventPageWrite => true
  | .eventLogClear r expected => reqOk r && longOk expected
  | .eventLogEraseDone => true
  | .counterLatch late => listOk late
  | .counterSnapshotNow r => reqOk r
  | .partitionCounterFault tile core => tileOk tile && longOk core
  | .stagingOpen r length target => reqOk r && longOk length && longOk target
  | .imageBlock r offset window => reqOk r && wordOk offset && octetsOk window
  | .stagingVerify r => reqOk r
  | .verificationDone _ => true
  | .stagingAbort r => reqOk r
  | .activate r imageId => reqOk r && longOk imageId
  | .activationResume _ => true
  | .probationEnd => true
  | .pairUpdateLimit => true
  | .campaignStart r imageId => reqOk r && longOk imageId
  | .campaignRound imageId => longOk imageId
  | .campaignActivate r imageId effective => reqOk r && longOk imageId && longOk effective
  | .campaignCancel r imageId => reqOk r && longOk imageId
  | .campaignLimit imageId => longOk imageId
  | .readbackCompare _ pads => longOk pads
  | .polarityTry lane => laneOk lane
  | .phyStatusPoll port _ => byteOk port
  | .idcode => true
  | .samplePreload preload => octetsOk preload
  | .extest => true
  | .clampPins => true
  | .highz => true
  | .haltcode => true
  | .bypass opcode => longOk opcode
  | .powerFailWarning => true
  | .powerFailClear => true
  | .holdupChange _ => true
  | .supplyOutOfRange rail tile mv => longOk rail && longOk tile && longOk mv
  | .supplyRestored rail tile mv => longOk rail && longOk tile && longOk mv
  | .pilotLightEnter r => reqOk r
  | .pilotLightEntryDone => true
  | .pilotLightWake r => reqOk r
  | .wakeAt => true
  | .wakeOnLineFrames => true
  | .wakeOnPerst => true
  | .wakeDone => true
  | .junctionSensorRead tile _ _ _ _ => tileOk tile
  | .thermalRecovery => true
  | .powerEstimate => true
  | .lineLaneStartingTimeout tile lane => tileOk tile && lineLaneOk lane
  | .ptpDelayReqTransmit port => byteOk port
  | .ptpAnnounceReceiptTimeout => true
  | .pcieConfigurationRequest => true
  | .serdesLossOfSignal lane => laneOk lane
  | .serdesBlockLock lane => laneOk lane

end Sys2Proof
end

