-- ==== Sys2Proof/Tests/Slice0.lean ====
section
/-! SUPPORT. Tests: each check of WellFormed refuses a term, the ciphers and digests give the published answers, and for
each statement with hypotheses one theorem shows, clause by clause, a state and operands that meet them together. -/

namespace Sys2Proof

set_option maxRecDepth 4000
set_option Elab.async false

open Machine

/-! Ill-formed commands, one for each check. -/

theorem test_illformed_tile : (Instr.marchStep 8 true).wellFormed = false := by decide
theorem test_illformed_pipe : (Instr.pacerSlot 0 8 true 0).wellFormed = false := by decide
theorem test_illformed_slot : (Instr.inboundSlot 0 0 375).wellFormed = false := by decide
theorem test_illformed_lane : (Instr.joinRequest 0 8 0 0 0).wellFormed = false := by decide
theorem test_illformed_byte : (Instr.joinRequest 0 0 256 0 0).wellFormed = false := by decide
theorem test_illformed_word : (Instr.joinRequest 0 0 0 4294967296 0).wellFormed = false := by decide
theorem test_illformed_half : WellFormed.halfOk 65536 = false := by decide
theorem test_illformed_long : (Instr.heatBoundary 18446744073709551616).wellFormed = false := by decide
theorem test_illformed_list : WellFormed.listOk [0, 18446744073709551616] = false := by decide
theorem test_illformed_octets : WellFormed.octetsOk (List.replicate 1048577 0) = false := by
  unfold WellFormed.octetsOk; rw [List.length_replicate]; decide
theorem test_illformed_mac : (Instr.nop { session := 1, msgSeq := 1, tag := 1, mac := [] }).wellFormed = false := by decide
theorem test_illformed_session :
    (Instr.nop { session := 4294967296, msgSeq := 1, tag := 1, mac := List.replicate 16 0 }).wellFormed = false := by decide
theorem test_wellformed : (Instr.inboundSlot 3 7 374).wellFormed = true := by decide
theorem test_no_word_spells_a_command : decodeTableWord 32 0x1234 = none := rfl

/-! Published answers: FIPS 197 appendix C.1, FIPS 180-4 ("abc"), RFC 4493 example 1, GCM test case 1. -/

theorem test_aes : aesBlock (be 16 0x000102030405060708090A0B0C0D0E0F) (be 16 0x00112233445566778899AABBCCDDEEFF) =
    be 16 0x69C4E0D86A7B0430D8CDB78070B4C55A := by decide +kernel
theorem test_sha256 : sha256 (be 3 0x616263) =
    be 32 0xBA7816BF8F01CFEA414140DE5DAE2223B00361A396177A9CB410FF61F20015AD := by decide +kernel
theorem test_sha384 : sha384 (be 3 0x616263) = be 48
    0xCB00753F45A35E8BB5A03D699AC65007272C32AB0EDED1631A8B605A43FF5BED8086072BA1E7CC2358BAECA134C825A7 := by decide +kernel
theorem test_cmac : cmac (be 16 0x2B7E151628AED2A6ABF7158809CF4F3C) [] = be 16 0xBB1D6929E95937287FA37D129B756746 := by
  decide +kernel
theorem test_gcm : gcmTag (be 16 0) (be 12 0) [] [] = be 16 0x58E2FCCEFA7E3061367F1D57A4E7455A := by decide +kernel

/-! The package's worked example and the signal counts of the parts (20 R698 to R703). -/

theorem test_ball_of_a_radio_pin : tileBall 8 5 (.radio 7) 6 = { row := 59, column := 39 } := by decide
theorem test_row_name : rowName 59 = ['C', 'C'] := by decide
theorem test_signal_balls : [2, 4, 8].map signalBalls = [518, 954, 1826] := by decide

/-! States the witnesses share. -/

/-- A session of the owner on Ethernet port 0, open. -/
def sess : Session := { id := 1, role := 2, transport := 0, keySlot := 768, halfOpen := false }

/-- A unit that is ready at a heat boundary, its links up, its history restored, a sheet in force, one session open on an addressed port. -/
def unit : State := { State.reset with
  boot := { phase := 9, restored := true, lifeCycle := 2 }
  compiler := { sheet := some {} }
  elapsed := 5000000000
  heat := { boundaryAt := 5000000000, links := (List.range 8).map fun n => (n + 1, { state := 3 }) }
  dict := { sessions := [sess], objs := [(0x101001, .num 1), (0x101401, .oct [10, 0, 0, 1])] } }

/-- The request of a host that knows the key. -/
def rq (s : State) (a : Ask) : Req :=
  { session := 1, msgSeq := 1, tag := 7, mac := hostTag (s.keyMaterial (tileSlotKey 0 768)) 5 1 1 (a.body 7) }

/-- The session as that request leaves it. -/
def sx (s : State) : Session := { sess with inTop := 1, inMask := 1, lastAt := s.elapsed, lastSeconds := s.tbSeconds }

/-- The write of a sub-index by that host. -/
def rw_ (s : State) (index sub meter : Nat) (data : Octets) : Req := rq s (writeAsk index sub meter data)

/-- A packet in a queue, whole. -/
def withPk (s : State) (tile q : Nat) (pk : List (Word × Byte)) : State :=
  let n : BitVec 32 := BitVec.ofNat 32 pk.length
  s.setQueue tile q { words := pk, waiting := 1, writePos := n, completePos := n, openPos := n }

/-- A packet of a descriptor and octets. -/
def pkt (head : Nat) (b : Octets) : List (Word × Byte) := packetOf (BitVec.ofNat 64 head) b

theorem test_witness_FrontOfQueue :
    ∃ (s : State) (c : Instr) (rest : List Instr), s.pending = c :: rest :=
  ⟨{ unit with pending := [.refclkLoss] }, .refclkLoss, [], rfl⟩
theorem test_witness_IdleStep : ∃ s : State, s.pending = [] := ⟨unit, rfl⟩
theorem test_witness_StepKeepsInv : ∃ s t : State, s.Inv ∧ step s = .next t :=
  ⟨unit, unit.advance 8, by unfold State.Inv; decide, rfl⟩
theorem test_witness_IdentificationRegister : ∃ n : Nat, n = 2 ∨ n = 4 ∨ n = 8 := ⟨8, by decide⟩

namespace WitnessR

def mt (n : Nat) : Meter := { number := n, home := 1, group := 7, record := 9 }
def um : State := { unit with meters := [mt 5] }
def ra (op ix sub m : Nat) (d : Octets) : Ask := { op := op, index := ix, sub := sub, meter := m, data := d }

theorem test_witness_IdentityAnswer :
    ∃ (s : State) (p : Nat), s.portOpen p = true ∧ s.hasRoom p :=
  ⟨unit, 0, by unfold State.hasRoom; decide +kernel⟩

theorem test_witness_MeterNumberField :
    (∃ (c : Instr) (s : State) (r : Req) (x : Session) (a : Ask) (m : Nat), c.asked = some (r, a) ∧ Heard s r a x ∧
      s.hasRoom x.transport ∧ meterScoped a.index = true ∧ a.meter = 0 ∧ s.meter? 0 = none ∧ m ≠ 0 ∧ (s.taken r
      a).checkAsk x { a with meter := m } = none) ∧
    (∃ (c : Instr) (s : State) (r : Req) (x : Session) (a : Ask) (m : Nat), c.asked = some (r, a) ∧ Heard s r a x ∧
      s.hasRoom x.transport ∧ meterScoped a.index = true ∧ a.meter ≠ 0 ∧ s.meter? a.meter = none ∧ (a.index ≠ 0xC000 ∨
      (a.op ≠ 2 ∧ a.op ≠ 4)) ∧ m ≠ 0 ∧ (s.taken r a).checkAsk x { a with meter := m } = none) ∧
    (∃ (c : Instr) (s : State) (r : Req) (x : Session) (a : Ask) (m : Nat), c.asked = some (r, a) ∧ Heard s r a x ∧
      a.index = 0xC000 ∧ (a.op = 2 ∨ a.op = 4) ∧ a.meter ≠ 0 ∧ s.meter? a.meter = none ∧ m ≠ 0 ∧ (s.taken r
      a).checkAsk x { a with meter := m } = none) ∧
    (∃ (c : Instr) (s : State) (r : Req) (x : Session) (a : Ask), c.asked = some (r, a) ∧ Heard s r a x ∧ s.hasRoom
      x.transport ∧ meterScoped a.index = false ∧ a.meter ≠ 0 ∧ (s.taken r a).checkAsk x { a with meter := 0 } = none) :=
  ⟨⟨.objectWrite (rq um (writeAsk 0xC000 2 0 (be 2 1))) 0xC000 2 0 (be 2 1), um, rq um (writeAsk 0xC000 2 0 (be 2 1)),
    sx um, writeAsk 0xC000 2 0 (be 2 1), 5, by unfold Heard; unfold State.hasRoom; decide +kernel⟩,
   ⟨.readObject (rq um (ra 1 0xC000 2 7 [])) 0xC000 2 7 false, um, rq um (ra 1 0xC000 2 7 []), sx um, ra 1 0xC000 2 7
     [], 5, by unfold Heard; unfold State.hasRoom; decide +kernel⟩,
   ⟨.objectWrite (rq um (writeAsk 0xC000 2 7 (be 2 1))) 0xC000 2 7 (be 2 1), um, rq um (writeAsk 0xC000 2 7 (be 2 1)),
     sx um, writeAsk 0xC000 2 7 (be 2 1), 5, by unfold Heard; decide +kernel⟩,
   ⟨.readObject (rq um (ra 1 0x1000 1 7 [])) 0x1000 1 7 false, um, rq um (ra 1 0x1000 1 7 []), sx um, ra 1 0x1000 1 7
     [], by unfold Heard; unfold State.hasRoom; decide +kernel⟩⟩

end WitnessR

namespace WitnessA

def pu : State := { unit with fabric := { unit.fabric with roots := [(15, pacerKey)] } }

theorem test_witness_PipelineTests :
    (∃ (s : State) (tile pipe item : Nat), s.testRuns tile pipe = true ∧ s.root 15 = pacerKey ∧ (s.pipe tile
      pipe).record = pacerRecord ∧ s.firstBad tile (pacerWords pipe) = none) ∧
    (∃ (s : State) (tile pipe item i : Nat) (good : Bool), s.testRuns tile pipe = true ∧ (if good then (s.pacerReading
      tile pipe).1.differs pacerAnswer else some item) = some i) ∧
    (∃ (s : State) (tile pipe : Nat), s.testRuns tile pipe = true ∧ s.katPipe tile pipe = true) ∧
    (∃ (s : State) (tile pipe : Nat), s.testRuns tile pipe = true ∧ s.katPipe tile pipe = true) ∧
    (∃ (s : State) (tile : Nat) (good : Bool), s.testRuns tile 0 = true ∧ s.marchDue tile = true) ∧
    (∃ (s : State) (tile pipe : Nat), tile < s.nTiles ∧ s.onBoundary = true ∧ s.faultDue tile pipe = true ∧ (s.pipe
      tile pipe).state = 0) ∧
    (∃ (s : State) (tile pipe : Nat), tile < s.nTiles ∧ (s.pipe tile pipe).mayReturn = true) :=
  ⟨⟨pu, 3, 7, 2, by decide +kernel, by decide +kernel, rfl, by decide +kernel⟩,
   ⟨unit, 3, 7, 2, 2, false, by decide +kernel⟩,
   ⟨unit, 3, 0, by decide +kernel⟩,
   ⟨unit, 3, 0, by decide +kernel⟩,
   ⟨unit, 3, false, by decide +kernel⟩,
   ⟨let s := unit.setPipe 3 7 {failed := true}; { s with heat := { s.heat with count := 1 } }, 3, 7,
     by decide +kernel⟩,
   ⟨unit.setPipe 3 7 {state := 1, passes := 1000}, 3, 7, by decide +kernel⟩⟩

end WitnessA

namespace WitnessB

def ringUp : State := (((unit.setLink 1 { state := 3 }).setLink 2 { state := 3 }).setLink 3 { state := 3 }).setLink 4 { state := 3 }
def xfer (n : Nat) : State := { ringUp with heat := { ringUp.heat with transfers := [{ src := 0, dst := 3, queue := 0x07, words := pkt 5 [1], failures := n }] } }

theorem test_witness_RingTransfers :
    (∃ (s : State) (src dst : Nat) (inbound : Bool) (pk : List (Word × Byte)), src < s.nTiles ∧ dst < s.nTiles ∧ src ≠
      dst ∧ s.slotLeft src dst inbound = true ∧ s.routeUp (s.slotRoute src dst inbound) = true ∧ (Tab.getD
      s.recorder.health dst {}).state = 0 ∧ s.reads src ((if inbound then 0x78 else 0x80) + dst)
      Producer.ringRouter.code pk) ∧
    (∃ (s : State) (src dst : Nat) (x : Transfer) (r : List Transfer), s.awake = true ∧ takeTransfer src dst
      s.heat.transfers = some (x, r) ∧ queueKey src x.staging ≠ queueKey dst x.queue ∧ (x.queue ≤ 0x60 ∨
      s.portDisabled (field (packetHead x.words) 63 56) = false) ∧ s.takes dst x.queue .ringRouter x.words.length) ∧
    (∃ (s : State) (src dst : Nat) (x : Transfer) (r : List Transfer), s.awake = true ∧ takeTransfer src dst
      s.heat.transfers = some (x, r) ∧ x.failures = 0) ∧
    (∃ (s : State) (src dst : Nat) (x : Transfer) (r : List Transfer), s.awake = true ∧ takeTransfer src dst
      s.heat.transfers = some (x, r) ∧ x.failures ≠ 0) ∧
    (∃ (s : State) (link direction : Nat), s.awake = true ∧ (s.link link).state = 3) ∧
    (∃ (s : State) (link : Nat) (good : Bool), s.awake = true ∧ (s.link link).state = 2) ∧
    (∃ (s : State) (link : Nat), s.awake = true ∧ (s.link link).state = 1 ∧ s.due (s.link link).retrainAt 1000000 =
      true) :=
  ⟨⟨withPk ringUp 0 0x83 (pkt 0 [1]), 0, 3, false, pkt 0 [1], by unfold State.reads; decide +kernel⟩,
   ⟨xfer 0, 0, 3, { src := 0, dst := 3, queue := 0x07, words := pkt 5 [1] }, [],
     by unfold State.takes; decide +kernel⟩,
   ⟨xfer 0, 0, 3, { src := 0, dst := 3, queue := 0x07, words := pkt 5 [1] }, [], by decide +kernel⟩,
   ⟨xfer 1, 0, 3, { src := 0, dst := 3, queue := 0x07, words := pkt 5 [1], failures := 1 }, [], by decide +kernel⟩,
   ⟨ringUp, 4, 0, by decide +kernel⟩,
   ⟨unit.setLink 4 {state := 2}, 4, true, by decide +kernel⟩,
   ⟨unit.setLink 4 {state := 1}, 4, by decide +kernel⟩⟩

theorem test_witness_ClockMonitors :
    (∃ (s : State) (tile domain mean : Nat), s.clockRuns tile domain = true ∧ inRange domain mean = true ∧ (s.monitor
      tile domain).fault = false) ∧
    (∃ (s : State) (tile domain mean : Nat), s.clockRuns tile domain = true ∧ inRange domain mean = false) ∧
    (∃ (s : State) (tile domain mean : Nat), s.clockRuns tile domain = true ∧ inRange domain mean = true ∧ (s.monitor
      tile domain).fault = true ∧ (s.monitor tile domain).inRangeSince = none) ∧
    (∃ (s : State) (tile mean : Nat), s.heat.refclkLost = true ∧ s.heat.refclkSince = none ∧ inRange refclkDomain mean
      = true) ∧
    (∃ (s : State) (tile : Nat), s.onBoundary = true ∧ s.refclkCalm = true) ∧
    (∃ (s : State) (tile domain : Nat), domain ≠ refclkDomain ∧ s.onBoundary = true ∧ s.monitorCalm tile domain =
      true) ∧
    (∃ (s : State) (tile pipe k : Nat), ((s.monitor tile 0).fault = true ∨ (s.monitor tile 2).fault = true ∨
      s.heat.refclkLost = true)) :=
  ⟨⟨unit, 3, 7, 9950, by decide +kernel⟩,
   ⟨unit, 0, 9, 9949, by decide +kernel⟩,
   ⟨{ unit with heat := { unit.heat with monitors := [(3 * 16, { fault := true })] } }, 3, 0, 9850,
     by decide +kernel⟩,
   ⟨{ unit with heat := { unit.heat with refclkLost := true } }, 3, 9950, by decide +kernel⟩,
   ⟨{ unit with heat := { unit.heat with refclkLost := true, refclkSince := some 0 } }, 3, by decide +kernel⟩,
   ⟨{ unit with heat := { unit.heat with monitors := [(3 * 16, { fault := true, inRangeSince := some 0 })] } }, 3, 0,
     by decide +kernel⟩,
   ⟨{ unit with heat := { unit.heat with refclkLost := true } }, 3, 7, 374, by decide +kernel⟩⟩

end WitnessB

namespace WitnessC

def qWait (w : Waiter) : State := unit.setQueue 3 0x31 { waiters := [w] }
def qOpen : State := unit.setQueue 3 0x31 { openBy := some (.pipeline, 2), generation := 4 }
def fr5 : Octets := be 4 0x10000000 ++ be 4 5 ++ List.replicate 24 0
def routed : State := (withPk unit 3 0x58 (pkt 0 fr5)).setRoute 3 5 { home := 3, group := 7 }

theorem test_witness_QueueWriters :
    (∃ (s : State) (tile q producer words : Nat) (p : Producer), s.awake = true ∧ producerOf producer = some p ∧ tile
      < s.nTiles ∧ q < 256 ∧ isProducer q p = true ∧ words ≤ packetLimit q ∧ (s.queue tile q).openBy = none ∧ (s.queue
      tile q).waiters = [] ∧ (s.queue tile q).fits (s.capacity tile q) words = true) ∧
    (∃ (s : State) (tile q producer words : Nat) (p : Producer), s.awake = true ∧ producerOf producer = some p ∧ tile
      < s.nTiles ∧ q < 256 ∧ isProducer q p = true ∧ words ≤ packetLimit q ∧ ((s.queue tile q).openBy.isSome = true ∨
      (s.queue tile q).waiters ≠ [])) ∧
    (∃ (s : State) (tile q : Nat) (w : Waiter) (r : List Waiter), s.awake = true ∧ (s.queue tile q).openBy = none ∧
      (s.queue tile q).waiters = w :: r ∧ (w.packet = [] ∨ w.producer.keeps = true) ∧ w.words ≤ packetLimit q ∧
      (s.queue tile q).fits (s.capacity tile q) w.words = true) ∧
    (∃ (s : State) (tile q : Nat) (w : Waiter), s.awake = true ∧ (s.queue tile q).openBy = none ∧ (s.queue tile
      q).waiters = [w] ∧ w.packet ≠ [] ∧ w.producer.keeps = false ∧ (s.queue tile q).fits (s.capacity tile q)
      w.packet.length = true ∧ s.barredWord tile q w.producer w.packet.length = none) ∧
    (∃ (s : State) (tile q ticket word tag reserved : Nat) (p : Producer), s.awake = true ∧ (s.queue tile q).openBy =
      some (p, reserved) ∧ ticket = (s.queue tile q).generation.toNat ∧ ((s.queue tile q).writePos - (s.queue tile
      q).openPos).toNat < reserved ∧ (s.writeAccess tile q p).1 = true) ∧
    (∃ (s : State) (tile q ticket word tag : Nat), s.awake = true ∧ (s.queue tile q).openBy = none) ∧
    (∃ (s : State) (tile q : Nat), s.awake = true ∧ (s.queue tile q).openBy.isSome = true ∧ (s.queue tile q).openedAt
      + s.packetTimeout < s.elapsed) ∧
    (∃ (s : State) (tile q : Nat) (pk : List (Word × Byte)) (r : Route), s.awake = true ∧ tile < s.nTiles ∧
      forwarderSource q = true ∧ 0x30 ≤ q ∧ s.pair.state = 0 ∧ s.tunnel.relayMode = false ∧ s.reads tile q
      Producer.forwarder.code pk ∧ s.holdsLeft tile (packetMeter pk) = false ∧ s.route? tile (packetMeter pk) = some r
      ∧ r.state = 0 ∧ r.home = tile ∧ r.group ≠ q ∧ r.group < 256 ∧ s.takes tile r.group .forwarder pk.length) ∧
    (∃ (s : State) (tile q : Nat) (pk : List (Word × Byte)) (r : Route), s.awake = true ∧ s.queues.retry.contains
      (queueKey tile q) = true ∧ 0x30 ≤ q ∧ q < 256 ∧ q ≠ 0xA0 ∧ s.tunnel.relayMode = false ∧ s.reads tile q
      Producer.forwarder.code pk ∧ s.holdsLeft tile (packetMeter pk) = false ∧ s.route? tile (packetMeter pk) = some r
      ∧ r.state = 0 ∧ r.home = tile ∧ r.group ≠ q ∧ r.group < 256 ∧ s.takes tile r.group .forwarder pk.length) :=
  ⟨⟨unit, 3, 0x30, 0, 64, .pipeline, by decide +kernel⟩,
   ⟨qOpen, 3, 0x31, 0, 64, .pipeline, by decide +kernel⟩,
   ⟨qWait { producer := .pipeline, words := 64 }, 3, 0x31, { producer := .pipeline, words := 64 }, [],
     by decide +kernel⟩,
   ⟨qWait { producer := .pipeline, words := 2, packet := pkt 5 [1] }, 3, 0x31,
     { producer := .pipeline, words := 2, packet := pkt 5 [1] }, by decide +kernel⟩,
   ⟨qOpen, 3, 0x31, 4, 9, 71, 2, .pipeline, by decide +kernel⟩,
   ⟨unit, 3, 0x31, 4, 9, 71, by decide +kernel⟩,
   ⟨qOpen, 3, 0x31, by decide +kernel⟩,
   ⟨routed, 3, 0x58, pkt 0 fr5, { home := 3, group := 7 }, by unfold State.takes; unfold State.reads; decide +kernel⟩,
   ⟨{ routed with queues := { routed.queues with retry := [queueKey 3 0x58] } }, 3, 0x58, pkt 0 fr5,
     { home := 3, group := 7 }, by unfold State.takes; unfold State.reads; decide +kernel⟩⟩

end WitnessC

namespace WitnessD

def bk : State := unit.setBank 3 0 {power := 3}
def bkw : State := { bk with heat := { bk.heat with count := 40 } }
def wp : State := { unit with mem := { unit.mem with wiping := [(3, (2, 4000000))] } }
def mg : State := { unit with mem := { unit.mem with merge := [(3, [{ address := 64, mask := 1, at_ := 0 }, { address := 32, mask := 1, at_ := 0 }])] } }
def em : State := { unit with fabric := { unit.fabric with eccSeen := [(0, 1, 2), (3, 0x100090, 5)] }, meters := [{ number := 5, home := 3, record := 9 }] }
def er : State := { unit with meters := [{ number := 5, home := 3, record := 9, eccQuarantine := true }] }
def epk : List (Word × Byte) := packetOfWords [BitVec.ofNat 64 (5 * 2 ^ 32 + 3 * 2 ^ 8 + 7), 1]
def eq : State := let s := withPk em 3 0x3A epk; { s with fabric := { s.fabric with eventBodies := [(1, be 4 0x100090)] } }
def sm : State := ((unit.setObj 0x6820 1 3).setObj 0x6820 3 63)
def dm : State := ((unit.setObj 0x6821 1 3).setObj 0x6821 2 63)
def em2 : State := (((unit.setObj 0x6822 1 3).setObj 0x6822 2 1).setObj 0x6822 3 63).setVal 0x6822 4 (.oct (List.replicate 32 7))

theorem test_witness_MemoryUpkeep :
    (∃ (s : State) (tile bank : Nat), s.onBoundary = true ∧ (s.bank tile bank).power = 3 ∧ (s.bank tile bank).wakeHeat
      + (s.bank tile bank).wakeHeats ≤ s.heat.count) ∧
    (∃ (s : State) (tile cause start : Nat), Tab.find? s.mem.wiping tile = some (cause, start)) ∧
    (∃ (s : State) (tile address : Nat) (e : MergeEntry), (s.mergeOf tile).find? (fun e => e.address == address) =
      some e ∧ s.due e.at_ 2000 = true ∧ s.dramHeld tile = false) ∧
    (∃ (s : State) (tile : Nat), s.awake = true) ∧
    (∃ (s : State) (tile : Nat), s.awake = true ∧ s.dramHeld tile = false) ∧
    (∃ (s : State) (tile pipe : Nat) (pk : List (Word × Byte)), s.awake = true ∧ pipe < 8 ∧ (∀ p < 8, p ≠ pipe →
      (s.queue tile (0x38 + p)).waiting = 0) ∧ s.reads tile (0x38 + pipe) Producer.management.code pk ∧ field
      (packetHead pk) 15 8 = 3 ∧ regionOf (fieldAt (s.eventBody pk) 0 4) = 0) ∧
    (∃ (s : State) (tile : Nat) (e : Nat × Nat × Nat), s.awake = true ∧ (∀ p < 8, (s.queue tile (0x38 + p)).waiting =
      0) ∧ s.fabric.eccSeen.find? (fun e => e.1 == tile) = some e ∧ regionOf e.2.1 = 0) ∧
    (∃ (s : State) (meter : Nat) (x : Meter), s.awake = true ∧ s.meter? meter = some x ∧ x.eccQuarantine = true) :=
  ⟨⟨bkw, 3, 0, by decide +kernel⟩,
   ⟨wp, 3, 2, 4000000, by decide +kernel⟩,
   ⟨mg, 3, 32, { address := 32, mask := 1, at_ := 0 }, by decide +kernel⟩,
   ⟨unit, 3, by decide +kernel⟩,
   ⟨unit, 3, by decide +kernel⟩,
   ⟨eq, 3, 2, epk, by unfold State.reads; decide +kernel⟩,
   ⟨em, 3, (3, 0x100090, 5), by decide +kernel⟩,
   ⟨er, 5, { number := 5, home := 3, record := 9, eccQuarantine := true }, by decide +kernel⟩⟩

theorem test_witness_EccTestFacility :
    (∃ (s : State) (r : Req) (x : Session) (cls value : Nat), cls ≠ 1 ∧ value % 256 ≠ 0 ∧ Writes s r 0x6820 5 0 (be 1
      value) x ∧ s.maskNames s.scratchMask false = true ∧ s.mayArm s.scratchMask false = true) ∧
    (∃ (s : State) (r : Req) (x : Session) (value : Nat), value % 256 ≠ 0 ∧ Writes s r 0x6821 4 0 (be 1 value) x ∧
      s.maskNames (s.dramMask (value % 256)) true = true ∧ s.mayArm (s.dramMask (value % 256)) true = true) ∧
    (∃ (s : State) (r : Req) (x : Session) (cls : Nat), cls ≠ 1 ∧ Writes s r 0x6820 5 0 (be 1 0) x) ∧
    (∃ (s : State) (r : Req) (x : Session), Writes s r 0x6821 4 0 (be 1 0) x) ∧
    (∃ (s : State) (r : Req) (x : Session), Writes s r 0x6822 5 0 (be 1 1) x ∧ s.testNames = true ∧ s.testAccess.1 =
      true) ∧
    (∃ (s : State) (r : Req) (x : Session), Writes s r 0x6822 5 0 (be 1 2) x ∧ s.testNames = true ∧ s.testAccess.1 =
      true) :=
  ⟨⟨sm, rw_ sm 0x6820 5 0 (be 1 1), sx sm, 0, 1, by unfold Writes; unfold Asks; decide +kernel⟩,
   ⟨dm, rw_ dm 0x6821 4 0 (be 1 2), sx dm, 2, by unfold Writes; unfold Asks; decide +kernel⟩,
   ⟨sm, rw_ sm 0x6820 5 0 (be 1 0), sx sm, 0, by unfold Writes; unfold Asks; decide +kernel⟩,
   ⟨sm, rw_ sm 0x6821 4 0 (be 1 0), sx sm, by unfold Writes; unfold Asks; decide +kernel⟩,
   ⟨em2, rw_ em2 0x6822 5 0 (be 1 1), sx em2, by unfold Writes; unfold Asks; decide +kernel⟩,
   ⟨em2, rw_ em2 0x6822 5 0 (be 1 2), sx em2, by unfold Writes; unfold Asks; decide +kernel⟩⟩

theorem test_witness_EccTestStoreBytes :
    ∃ (s : State) (r : Req) (x : Session), s.Inv ∧ Writes s r 0x6822 5 0 (be 1 1) x ∧ s.testNames = true ∧
      s.testAccess.1 = true :=
  ⟨em2, rw_ em2 0x6822 5 0 (be 1 1), sx em2, by unfold Writes; unfold State.Inv; unfold Asks; decide +kernel⟩

end WitnessD

namespace WitnessE

def iu : State := { unit with compiler := { sheet := some { inputDigest := [1] } } }
def b1 : Build := { kind := 0, trigger := 1 }
def bu : State := { unit with compiler := { unit.compiler with run := some b1 } }
def b2 : Build := { kind := 0, trigger := 1, inputs := [(0x2104 * 256 + 1, .num 4294967295)] }
def bu2 : State := { unit with compiler := { unit.compiler with run := some b2 } }
def bk : KeySlot := { use := 1, type := 3, material := be 32 7 }
/-- An internal build whose image the part's own key 3 has signed. -/
def b4 (l : List Nat) : Build :=
  { kind := 2, trigger := 2, phase := 2, reports := l, digest := sha256 [], signature := ecdsaSign 7 (sha256 [])
    ring := unit.ringTable 0, claims := unit.claimCounts 0 }
def bu4 (l : List Nat) : State := { unit with
  compiler := { unit.compiler with run := some (b4 l) }, keys := { unit.keys with slots := [(slotKey 3, bk)] } }
theorem loads2 : (bu4 [0, 1]).loaderHolds (b4 [0, 1]) 3 = true := by
  unfold State.loaderHolds
  rw [show bankCountsHold (b4 [0, 1]).claims 3 = true from bankCountsHold_claimCounts unit 0 3 (by decide),
    show (sha256 (b4 [0, 1]).image == (b4 [0, 1]).digest && ecdsaVerify curveP256 ((bu4 [0, 1]).publicKey 3) (b4 [0, 1]).digest (b4 [0, 1]).signature) =
      true by decide +kernel,
    show (bu4 [0, 1]).ringCountsHold (b4 [0, 1]).ring (b4 [0, 1]).claims = true by decide +kernel,
    show (bu4 [0, 1]).rootsHold (b4 [0, 1]) = true by decide +kernel]
  rfl
theorem loads3 : (bu4 [0, 1, 2]).loaderHolds (b4 [0, 1, 2]) 3 = true := by
  unfold State.loaderHolds
  rw [show bankCountsHold (b4 [0, 1, 2]).claims 3 = true from bankCountsHold_claimCounts unit 0 3 (by decide),
    show (sha256 (b4 [0, 1, 2]).image == (b4 [0, 1, 2]).digest && ecdsaVerify curveP256 ((bu4 [0, 1, 2]).publicKey 3) (b4 [0, 1, 2]).digest (b4 [0, 1, 2]).signature) =
      true by decide +kernel,
    show (bu4 [0, 1, 2]).ringCountsHold (b4 [0, 1, 2]).ring (b4 [0, 1, 2]).claims = true by decide +kernel,
    show (bu4 [0, 1, 2]).rootsHold (b4 [0, 1, 2]) = true by decide +kernel]
  rfl
def bu1 : State := { unit with compiler := { unit.compiler with run := some b1 }, elapsed := 50000000000 }
def br : State := { unit with compiler := { unit.compiler with retry := [(3, 2, 0)] } }
def b5 : Build := { kind := 2, trigger := 2, phase := 3, digest := [5] }
def bu5 : State := { unit with compiler := { unit.compiler with run := some b5 } }
def bo : State := { unit with compiler := { unit.compiler with oldHeld := true }, heat := { unit.heat with count := 1 } }
def mp : Meter := { number := 5, place := { paths := [(0, [1], 4999999999)] } }
def ps : State := { unit with meters := [mp], line := { unit.line with lanes := [(0, { on := true, state := 2 })] } }

theorem test_witness_HeatSheetBuilds :
    (∃ (s : State) (r : Req) (x : Session), Writes s r 0x2100 1 0 (be 1 1) x ∧ s.pair.plan = none ∧
      s.update.activating = false ∧ s.compiler.run = none) ∧
    (∃ (s : State) (r : Req) (x : Session), Writes s r 0x2100 1 0 (be 1 2) x ∧ s.pair.plan = none ∧
      s.update.activating = false ∧ s.compiler.run = none) ∧
    (∃ (s : State) (trigger tile : Nat), s.partRuns = true ∧ s.compiler.run = none ∧ s.triggerHolds trigger = true) ∧
    (∃ (s : State) (b : Build) (d : Nat), s.awake = true ∧ s.compiler.run = some b ∧ b.phase = 1 ∧ s.buildVerdict
      b.from s.offPipes = (0, d)) ∧
    (∃ (s : State) (b : Build) (reason d : Nat), s.awake = true ∧ s.compiler.run = some b ∧ b.phase = 1 ∧ b.kind = 0 ∧
      b.combined = false ∧ s.buildVerdict b.from s.offPipes = (reason, d) ∧ reason ≠ 0) ∧
    (∃ (s : State) (tile claim : Nat) (b : Build), s.compiler.run = some b ∧ b.phase = 2 ∧ b.kind = 2 ∧ b.combined =
      false ∧ tile < s.nTiles ∧ s.managed tile = true ∧ s.loaderHolds b tile = true ∧ (∀ u < s.nTiles, u ≠ tile →
      b.reports.contains u = true)) ∧
    (∃ (s : State) (tile other claim : Nat) (b : Build), s.compiler.run = some b ∧ b.phase = 2 ∧ tile < s.nTiles ∧
      s.managed tile = true ∧ s.loaderHolds b tile = true ∧ other < s.nTiles ∧ other ≠ tile ∧ b.reports.contains other
      = false) ∧
    (∃ (s : State) (tile claim : Nat) (b : Build), s.compiler.run = some b ∧ b.phase = 2 ∧ tile < s.nTiles ∧ s.managed
      tile = true ∧ b.combined = false) ∧
    (∃ (s : State) (b : Build), s.compiler.run = some b ∧ b.phase < 3 ∧ s.due b.startedAt (s.obj 0x2102 1 * 1000000) =
      true ∧ b.kind ≠ 2 ∧ b.combined = false) ∧
    (∃ (s : State) (trigger tile at_ : Nat) (rest : List (Nat × Nat × Nat)), s.awake = true ∧ s.compiler.retry =
      (trigger, tile, at_) :: rest ∧ s.compiler.run = none ∧ s.due at_ 1000000000 = true) :=
  ⟨⟨unit, rw_ unit 0x2100 1 0 (be 1 1), sx unit, by unfold Writes; unfold Asks; decide +kernel⟩,
   ⟨unit, rw_ unit 0x2100 1 0 (be 1 2), sx unit, by unfold Writes; unfold Asks; decide +kernel⟩,
   ⟨{ unit with compiler := { sheet := some { off := [2] } } }, 2, 3, by decide +kernel⟩,
   ⟨bu, b1, 0, by decide +kernel⟩,
   ⟨bu2, b2, 3, 25165906, by decide +kernel⟩,
   ⟨bu4 [0, 1, 2], 3, 0, b4 [0, 1, 2], rfl, rfl, rfl, rfl, by decide, by decide +kernel, loads3, by decide +kernel⟩,
   ⟨bu4 [0, 1], 3, 2, 0, b4 [0, 1], rfl, rfl, by decide, by decide +kernel, loads2, by decide, by decide, rfl⟩,
   ⟨bu4 [0, 1], 3, 9, b4 [0, 1], rfl, rfl, by decide, by decide +kernel, rfl⟩,
   ⟨bu1, b1, by decide +kernel⟩,
   ⟨br, 3, 2, 0, [], by decide +kernel⟩⟩

theorem test_witness_SheetSwapAndPass :
    (∃ (s : State) (b : Build), s.onBoundary = true ∧ s.swapDue = some b) ∧
    (∃ s : State, s.onBoundary = true ∧ s.compiler.oldHeld = true ∧ s.compiler.swapHeat < s.heat.count) ∧
    (∃ s : State, s.passIsDue = true) :=
  ⟨⟨bu5, b5, by decide +kernel⟩,
   ⟨bo, by decide +kernel⟩,
   ⟨ps, by decide +kernel⟩⟩

end WitnessE

namespace WitnessF

def m5 : Meter := { number := 5, home := 3, group := 7, record := 9 }
def f5 : Fence := { id := 1, meter := 5, kind := 1, openHeat := 10, home := 3, group := 6, record := 11 }
def fu (f : Fence) (heat : Nat) : State := { unit with meters := [m5], heat := { unit.heat with count := heat }, place := { unit.place with fences := [f] } }
def fp : State := { unit with meters := [m5], heat := { unit.heat with count := 10 }, place := { unit.place with planned := [f5] } }
def f53 : Fence := { f5 with kind := 3, group := 7, record := 9, path := some (0, 0, 0) }
def fr5 : Octets := be 4 0x10000000 ++ be 4 5 ++ List.replicate 24 0
def un : State := { (withPk unit 3 0xA1 (pkt 0 fr5)) with queues := { (withPk unit 3 0xA1 (pkt 0 fr5)).queues with unroutedAt := [(0, 0), (3, 0)] } }
def unp : State := { un with meters := [{ m5 with place := { parked := true } }] }
def unl : State := { un with meters := [m5] }

theorem test_witness_FencedMoves :
    (∃ (s : State) (meter : Nat) (x : Meter) (f : Fence), s.onBoundary = true ∧ s.meter? meter = some x ∧
      s.place.planned.find? (fun g => g.meter == meter) = some f ∧ f.openHeat ≤ s.heat.count ∧ s.fenceOf meter = none
      ∧ x.freezeStep ≤ 1 ∧ s.mapAllows f = true ∧ s.targetFree f = true ∧ (s.place.fences.countP fun g =>
      match s.meter? g.meter with | some y => y.home == x.home | none => false) < s.obj 0x2300 4) ∧
    (∃ (s : State) (meter : Nat) (x : Meter) (f : Fence), s.onBoundary = true ∧ s.meter? meter = some x ∧ s.fenceOf
      meter = some f ∧ f.kind ≤ 2 ∧ f.step = 0 ∧ f.openHeat < s.heat.count) ∧
    (∃ (s : State) (meter : Nat) (f : Fence), s.onBoundary = true ∧ s.fenceOf meter = some f ∧ f.step = 1 ∧ f.openHeat
      + 2 ≤ s.heat.count ∧ s.marksReached f = true) ∧
    (∃ (s : State) (meter : Nat) (x : Meter) (f : Fence), s.awake = true ∧ s.meter? meter = some x ∧ s.fenceOf meter =
      some f ∧ f.step = 2 ∧ s.copyRoute x f = true) ∧
    (∃ (s : State) (meter : Nat) (x : Meter) (f : Fence), s.meter? meter = some x ∧ s.fenceOf meter = some f ∧
      s.onBoundary = true ∧ s.mayCommit x f = true ∧ x.place.heldWrites = [] ∧ x.retiring = false) ∧
    (∃ (s : State) (meter reason : Nat) (x : Meter) (f : Fence), s.onBoundary = true ∧ s.meter? meter = some x ∧
      s.fenceOf meter = some f ∧ s.abandonReason f = some reason ∧ x.place.heldWrites = [] ∧ x.retiring = false) ∧
    (∃ (s : State) (meter : Nat) (x : Meter) (f : Fence), s.meter? meter = some x ∧ s.fenceOf meter = some f ∧
      s.onBoundary = true ∧ s.mayCommitPath x f = true ∧ x.place.heldWrites = [] ∧ x.retiring = false) ∧
    (∃ (s : State) (tile : Nat) (pk : List (Word × Byte)), s.awake = true ∧ s.reads tile 0xA1 Producer.management.code
      pk ∧ s.directory (packetMeter pk) = none) ∧
    (∃ (s : State) (tile : Nat) (pk : List (Word × Byte)) (d : Route), s.awake = true ∧ s.reads tile 0xA1
      Producer.management.code pk ∧ s.directory (packetMeter pk) = some d ∧ d.state ≠ 0 ∧ ((s.route? tile (packetMeter
      pk)).isSome = true ∨ (s.routesOf tile).length < 65536)) ∧
    (∃ (s : State) (tile : Nat) (pk : List (Word × Byte)) (d : Route), s.awake = true ∧ s.reads tile 0xA1
      Producer.management.code pk ∧ s.directory (packetMeter pk) = some d ∧ d.state = 0 ∧ d.home = tile ∧ ((s.route?
      tile (packetMeter pk)).isSome = true ∨ (s.routesOf tile).length < 65536) ∧ d.group < 0xA0 ∧ s.takes tile d.group
      .management pk.length) ∧
    (∃ (s : State) (tile : Nat) (e : Nat × Nat), s.awake = true ∧ s.queues.unroutedAt.find? (fun e => e.1 == tile) =
      some e ∧ s.due e.2 10000000 = true) :=
  ⟨⟨fp, 5, m5, f5, by decide +kernel⟩,
   ⟨fu f5 11, 5, m5, f5, by decide +kernel⟩,
   ⟨fu { f5 with step := 1 } 12, 5, { f5 with step := 1 }, by decide +kernel⟩,
   ⟨fu { f5 with step := 2 } 12, 5, m5, { f5 with step := 2 }, by decide +kernel⟩,
   ⟨fu { f5 with step := 3, freezeHeat := 12 } 13, 5, m5, { f5 with step := 3, freezeHeat := 12 }, by decide +kernel⟩,
   ⟨fu f5 100011, 5, 0, m5, f5, by decide +kernel⟩,
   ⟨{ fu f53 11 with line := { unit.line with lanes := [(0, { on := true, state := 2 })] } }, 5, m5, f53,
     by decide +kernel⟩,
   ⟨un, 3, pkt 0 fr5, by unfold State.reads; decide +kernel⟩,
   ⟨unp, 3, pkt 0 fr5, { home := 3, group := 7, state := 2 }, by unfold State.reads; decide +kernel⟩,
   ⟨unl, 3, pkt 0 fr5, { home := 3, group := 7 }, by unfold State.takes; unfold State.reads; decide +kernel⟩,
   ⟨un, 3, (3, 0), by decide +kernel⟩⟩

end WitnessF

namespace WitnessG

def rk : State := { unit with fabric := { unit.fabric with roots := [(1, List.replicate 16 3)] } }
def hot5 (top mask : Nat) : List Word := [BitVec.ofNat 64 (5 * 2 ^ 32 + 2 ^ 16), BitVec.ofNat 64 (top * 2 ^ 32 + 60),
  BitVec.ofNat 64 mask, 0, 0, 0, 0, 0, 65536, 65536, 65536, 65536, 0, 0, 0, 0]
def mt (top mask : Nat) : Meter := { number := 5, home := 3, group := 7, record := 9, hot := hot5 top mask }
def rdg : Octets := be 4 100 ++ be 2 0 ++ be 1 15 ++ be 1 0 ++ be 8 1 ++ be 8 2 ++ be 8 8191 ++ be 8 9192 ++ be 4 7 ++
  be 4 0
/-- A meter's frame of type 1 (R322, R433). -/
def fr (seq : Nat) (key : Octets) : Octets :=
  let h := be 1 17 ++ be 1 0 ++ be 2 1 ++ be 4 5 ++ be 2 0 ++ be 4 seq ++ be 1 48 ++ be 1 0
  let c := gcmText key (frIv h) rdg
  h ++ c ++ (gcmTag key (frIv h) h c).take 12
def hd : Nat := 1 * 2 ^ 50 + 76 * 2 ^ 40
def key1 : Octets := meterKey (List.replicate 16 3) 5 1 0
def inb (seq : Nat) (key : Octets) (top mask : Nat) : State := withPk { rk with meters := [mt top mask] } 3 7 (pkt hd (fr seq key))
def cmdReq : Request := { busy := true, meter := 5, code := 5, params := [15] }
def mServed : Meter := { ((mt 0 0).setWord 3 (2 ^ 51)).setWord 5 (2 ^ 32) with record := 9 }
def ou (m : Meter) : State :=
  let s : State := withPk { rk with meters := [m] } 3 0x0F (pkt (((1 * 2 ^ 24 + 3 * 65536 + 2) * 2 ^ 32) + 5) [])
  { s with queues := { s.queues with requests := [(requestKey 3 2, cmdReq)] } }
def qu : State := withPk { rk with meters := [mt 0 0] } 3 0x1F (pkt 5 [])
def snp : List (Word × Byte) := packetOfWords [BitVec.ofNat 64 (2 ^ 60 + 4095 * 2 ^ 48 + 255 * 2 ^ 40), 0]

theorem test_witness_InboundWithoutBooking :
    (∃ (s : State) (tile pipe k : Nat), s.slotOpen 0 tile pipe k = true ∧ (s.queue tile pipe).head? = none) ∧
    (∃ (s : State) (tile pipe k : Nat) (pk : List (Word × Byte)), s.slotOpen 0 tile pipe k = true ∧ (s.queue tile
      pipe).head? = some pk ∧ s.indexed tile pipe (frMeter (packetBytes pk)) = none ∧ headerOk (packetBytes pk) (field
      (packetHead pk) 47 40) = true ∧ s.firstBad tile (s.packetWords tile pipe pk.length ++ probeWords pipe (frMeter
      (packetBytes pk))) = none) ∧
    (∃ (s : State) (tile pipe k : Nat) (pk : List (Word × Byte)) (x : Meter), Arrives s tile pipe k pk x ∧ ¬ Authentic
      s pk x) ∧
    (∃ (s : State) (tile pipe k : Nat) (pk : List (Word × Byte)) (x : Meter), Arrives s tile pipe k pk x ∧ Authentic s
      pk x ∧ payloadOk (frType (packetBytes pk)) (frPlain (s.frameKey pk x) (packetBytes pk)) = true ∧ classifySeq
      (frSequence (packetBytes pk)) x.seqTop x.seqMask = .stale) ∧
    (∃ (s : State) (tile pipe k : Nat) (pk : List (Word × Byte)) (x : Meter), Arrives s tile pipe k pk x ∧ Authentic s
      pk x ∧ payloadOk (frType (packetBytes pk)) (frPlain (s.frameKey pk x) (packetBytes pk)) = true ∧ classifySeq
      (frSequence (packetBytes pk)) x.seqTop x.seqMask = .duplicate ∧ frType (packetBytes pk) ≠ 6) :=
  ⟨⟨unit, 3, 7, 374 - 14, by decide +kernel⟩,
   ⟨{ inb 1 key1 0 0 with meters := [] }, 3, 7, 9, pkt hd (fr 1 key1),
     by rw [firstBad_clean ({ inb 1 key1 0 0 with meters := [] }) 3 _ rfl rfl]; decide +kernel⟩,
   ⟨inb 1 [] 0 0, 3, 7, 9, pkt hd (fr 1 []), mt 0 0,
     by unfold Arrives; unfold Authentic; unfold State.frameKey; rw [firstBad_clean (inb 1 [] 0 0) 3 _ rfl rfl]; decide +kernel⟩,
   ⟨inb 1 key1 65 0, 3, 7, 9, pkt hd (fr 1 key1), mt 65 0,
     by unfold Arrives; unfold Authentic; unfold State.frameKey; rw [firstBad_clean (inb 1 key1 65 0) 3 _ rfl rfl]; decide +kernel⟩,
   ⟨inb 1 key1 64 (2 ^ 63), 3, 7, 9, pkt hd (fr 1 key1), mt 64 (2 ^ 63),
     by unfold Arrives; unfold Authentic; unfold State.frameKey; rw [firstBad_clean (inb 1 key1 64 (2 ^ 63)) 3 _ rfl rfl]; decide +kernel⟩⟩

theorem test_witness_ReadingBooked :
    ∃ (s : State) (tile pipe k : Nat) (pk : List (Word × Byte)) (x : Meter), Arrives s tile pipe k pk x ∧ Authentic s
      pk x ∧ frType (packetBytes pk) = 1 ∧ x.seqTop < frSequence (packetBytes pk) ∧ (∀ e ∈ s.rulesFailed (packetHead
      pk) x (packetBytes pk) (readingReport (frPlain (s.frameKey pk x) (packetBytes pk))) true, bitAt e.1 26 = true) :=
  ⟨inb 1 key1 0 0, 3, 7, 9, pkt hd (fr 1 key1), mt 0 0,
    by unfold Arrives; unfold Authentic; unfold State.frameKey; rw [firstBad_clean (inb 1 key1 0 0) 3 _ rfl rfl]; decide +kernel⟩

theorem test_witness_RequestSlots :
    (∃ (s : State) (tile pipe k rt n : Nat) (pk : List (Word × Byte)) (x : Meter) (r : Request), Performs s 1 tile
      pipe k (0x08 + pipe) pk x ∧ pk.length = 1 ∧ s.requestOf (packetHead pk / 4294967296) = some (rt, n, r) ∧
      x.served = true ∧ r.port = none ∧ r.origin = 0 ∧ x.nextOutSeq ≠ 0 ∧ s.hotOn x) ∧
    (∃ (s : State) (tile pipe k : Nat) (pk : List (Word × Byte)) (x : Meter), Performs s 3 tile pipe k (0x18 + pipe)
      pk x ∧ s.takes tile (0x40 + pipe) .pipeline 17) ∧
    (∃ (s : State) (tile pipe k : Nat) (pk : List (Word × Byte)), s.slotOpen 4 tile pipe k = true ∧ (s.queue tile
      (0x20 + pipe)).head? = some pk ∧ pk.length = 2 ∧ field (recordNat (pk.map (·.1))) 127 124 = 1 ∧ s.firstBad tile
      (s.snapshotWords tile pipe pk) = none) :=
  ⟨⟨ou mServed, 3, 7, 12, 3, 2, pkt (((1 * 2 ^ 24 + 3 * 65536 + 2) * 2 ^ 32) + 5) [], mServed, cmdReq,
    by unfold Performs; unfold State.hotOn; rw [firstBad_clean (ou mServed) 3 _ rfl rfl]; decide +kernel⟩,
   ⟨qu, 3, 7, 14, pkt 5 [], mt 0 0,
     by unfold Performs; unfold State.takes; rw [firstBad_clean (qu) 3 _ rfl rfl]; decide +kernel⟩,
   ⟨withPk unit 3 0x27 snp, 3, 7, 29, snp, by decide +kernel⟩⟩

end WitnessG

namespace WitnessH

def ln (x : LineLane) : State := unit.setLane 3 2 x
def fcM (kind map len : Nat) : Octets := makeFc kind 2 0 0 5 0 map len 0 7
def tg : LineTag := { meter := 9, heardAt := 3 }
def rl : State := ln { on := true, state := 2, tags := [(5, tg)] }
def blk : Octets := let d := List.replicate 133 0#8; d ++ be 2 (crc16 d)
def lf : LineFrame := { kind := 1, cls := 2, dst := 5, phase := 1, payload := List.replicate 40 0 }
def ls : LineSend := { frame := lf, cw := 8, seq := 7 }
def bp : State := (ln { on := true }).setMains 3 { number := 4 }
def zm : State := unit.setMains 3 { last := 100, inputs := [{}, {}, { state := 1, last := 100 }] }
def prt (x : LinePort) : State := { ln { on := true } with line := { (ln { on := true }).line with ports := [((3 * 4 + 2) * 3 + 1, x)] } }
def cl (x : Calibration) : State :=
  ln { on := true, state := 2, window := true, quiet := true, openedAt := 5000000000, calibration := some x }

theorem test_witness_LineReceiving :
    (∃ (s : State) (tile lane channel rx : Nat) (fc blocks : Octets) (g : LineTag), tile < s.nTiles ∧ lane < 4 ∧
      channel < 3 ∧ 2 ≤ (s.lane tile lane).state ∧ s.healthOf tile = 0 ∧ s.blanked tile lane rx = false ∧ fcOk fc =
      true ∧ fcField fc 127 124 = 3 ∧ fcField fc 103 88 = 0 ∧ Tab.find? (s.lane tile lane).tags (fcField fc 119 104) =
      some g) ∧
    (∃ (s : State) (tile lane channel rx : Nat) (fc blocks : Octets), tile < s.nTiles ∧ lane < 4 ∧ channel < 3 ∧ 2 ≤
      (s.lane tile lane).state ∧ s.healthOf tile = 0 ∧ s.blanked tile lane rx = false ∧ fcOk fc = true ∧ fcField fc
      127 124 = 1 ∧ fcField fc 103 88 = 0 ∧ s.givenMap tile lane fc = none ∧ s.lineSends tile lane = true ∧ s.lineBusy
      tile lane = false ∧ s.drives tile lane (s.receiver tile lane channel) ≠ 0) ∧
    (∃ (s : State) (tile lane channel rx n count : Nat) (fc blocks im : Octets) (h : BlockHold), tile < s.nTiles ∧
      lane < 4 ∧ channel < 3 ∧ 2 ≤ (s.lane tile lane).state ∧ s.healthOf tile = 0 ∧ s.blanked tile lane rx = false ∧
      fcOk fc = true ∧ fcField fc 127 124 = 1 ∧ fcField fc 103 88 = 0 ∧ s.givenMap tile lane fc = some im ∧ h =
      s.holdOf tile lane channel fc rx ∧ n = blockBytes (if fcField fc 87 80 = 0 then 0 else mapRateCode im) ∧ count =
      divUp h.length n ∧ h.done = false ∧ (h.deliver n count s.elapsed (fcField fc 120 120 == 1) blocks).1.whole count
      = true ∧ s.heat.laneDone.contains (portCode 0 tile lane * 4 + channel) = false) ∧
    (∃ (s : State) (tile lane channel meter kind g : Nat),
      s.isStandby = false ∧ tile < s.nTiles ∧ lane < 4 ∧ 2 ≤ (s.lane tile lane).state ∧ (s.lane tile lane).tagOf meter = none ∧ (s.lane tile lane).tags.length < 8191 ∧ 1 ≤ g ∧ g ≤ (s.lane tile lane).tags.length + 1 ∧ g ≤ 0x1FFF ∧ Tab.has (s.lane tile lane).tags g = false) ∧
    (∃ (s : State) (tile lane tag : Nat) (image : Octets), 2 ≤ (s.lane tile lane).state ∧ Tab.has (s.lane tile
      lane).tags tag = true ∧ image.length = 296) ∧
    (∃ (s : State) (tile lane tag channel symbols : Nat), s.isStandby = false ∧ 2 ≤ (s.lane tile lane).state) ∧
    (∃ (s : State) (tile lane tag channel : Nat) (m : ToneMap), Tab.find? (s.lane tile lane).maps (tag * 4 + channel)
      = some m ∧ s.due m.at_ (s.obj 0x3006 2 * 1000000000) = true ∧ s.isStandby = false) ∧
    (∃ (s : State) (tile lane tag : Nat) (g : LineTag), Tab.find? (s.lane tile lane).tags tag = some g ∧ s.due
      g.heardAt 86400000000000 = true ∧ s.isStandby = false) :=
  ⟨⟨ln { state := 2, tags := [(5, tg)] }, 3, 2, 1, 77, fcM 3 0 0, [], tg, by decide +kernel⟩,
   ⟨ln { on := true, state := 2, tags := [(5, tg)] }, 3, 2, 1, 77, fcM 1 9 100, [], by decide +kernel⟩,
   ⟨rl, 3, 2, 1, 77, 133, 1, fcM 1 0 60, blk, [], rl.holdOf 3 2 1 (fcM 1 0 60) 77, by decide +kernel⟩,
   ⟨ln { on := true, state := 2, tags := [(1, tg)] }, 3, 2, 1, 10, 0, 2, by decide +kernel⟩,
   ⟨ln { state := 2, tags := [(5, tg)] }, 3, 2, 5, List.replicate 296 1, by decide +kernel⟩,
   ⟨ln { state := 2 }, 3, 2, 5, 1, 9, by decide +kernel⟩,
   ⟨{ ln { maps := [(21, { at_ := 0 })] } with elapsed := 5000000000000000 }, 3, 2, 5, 1, { at_ := 0 },
     by decide +kernel⟩,
   ⟨{ ln { tags := [(5, tg)], maps := [(21, {})] } with elapsed := 86400000000003 }, 3, 2, 5, tg, by decide +kernel⟩⟩

def bpk : List (Word × Byte) := pkt 0 (be 4 0x10000000 ++ be 4 4294967295 ++ List.replicate 24 0)
def bc : State := let s := withPk unit 3 0x66 bpk; s.setLane 3 2 { on := true }
def bf : LineFrame := { kind := 1, cls := 2, dst := 0xFFFF, phase := 3, payload := be 4 0x10000000 ++ be 4 4294967295 ++ List.replicate 24 0, queued := true }

theorem test_witness_LineAccess :
    (∃ (s : State) (tile lane : Nat) (f : LineFrame) (l : List LineFrame), s.lineSends tile lane = true ∧ (s.lane tile
      lane).sending = none ∧ (s.lane tile lane).own = f :: l ∧ f.queued = false) ∧
    (∃ (s : State) (tile lane : Nat) (pk : List (Word × Byte)) (f : LineFrame), s.lineSends tile lane = true ∧ (s.lane
      tile lane).sending = none ∧ (s.lane tile lane).own = [] ∧ s.reads tile (0x64 + lane) Producer.lineLane.code pk ∧
      s.txFrame tile lane pk = some f) ∧
    (∃ (s : State) (tile lane : Nat), lane < 4 ∧ s.cycleMayOpen tile lane = true) ∧
    (∃ (s : State) (tile lane window : Nat), (s.lane tile lane).window = true ∧ (s.lane tile lane).heard = none ∧
      window < 4 ∧ (s.lane tile lane).claimed = none ∧ (s.lane tile lane).contends = none) ∧
    (∃ (s : State) (tile lane window : Nat) (e : LineSend), (s.lane tile lane).window = true ∧ (s.lane tile
      lane).heard = none ∧ (s.lane tile lane).claimed = none ∧ (s.lane tile lane).sending = some e ∧ (e.step = 1 ∨
      e.step = 3) ∧ window < e.frame.cls ∧ e.frame.cls < 4) ∧
    (∃ (s : State) (tile lane : Nat) (e : LineSend), s.lineSends tile lane = true ∧ s.lineBusy tile lane = false ∧
      (s.lane tile lane).window = true ∧ s.laneWaits tile lane = false ∧ (s.lane tile lane).claimed ≠ some 0 ∧ (s.lane
      tile lane).sending = some e ∧ (e.step = 1 ∨ e.step = 3) ∧ e.bc < cwMax e.frame.cls ∧ s.drives tile lane
      e.frame.phase ≠ 0) ∧
    (∃ (s : State) (tile lane n : Nat) (e : LineSend), s.lineSends tile lane = true ∧ s.lineBusy tile lane = false ∧
      (s.lane tile lane).window = true ∧ s.laneWaits tile lane = false ∧ (s.lane tile lane).claimed ≠ some 0 ∧ (s.lane
      tile lane).sending = some e ∧ (e.step = 1 ∨ e.step = 3) ∧ n < e.bc ∧ n < cwMax e.frame.cls) ∧
    (∃ (s : State) (tile lane : Nat) (e : LineSend), (s.lane tile lane).transmitting = true ∧ (s.lane tile
      lane).beaconOnLine = false ∧ (s.lane tile lane).sending = some e ∧ e.step = 4 ∧ e.frame.solicits = true) ∧
    (∃ (s : State) (tile lane : Nat) (e : LineSend), (s.lane tile lane).sending = some e ∧ e.step = 5 ∧ s.due
      e.endedAt 158720 = true ∧ e.tries + 1 < s.obj 0x3006 1) ∧
    (∃ (s : State) (tile lane : Nat) (fc : Octets) (e : LineSend), 2 ≤ (s.lane tile lane).state ∧ (s.lane tile
      lane).sending = some e ∧ e.step = 5 ∧ fcOk fc = true ∧ fcField fc 127 124 = 2 ∧ fcField fc 119 104 = e.frame.dst
      ∧ fcField fc 103 88 = 0 ∧ fcField fc 31 24 = e.seq ∧ fcField fc 63 63 = 0 ∧ fcField fc 39 32 = 0) ∧
    (∃ (s : State) (tile lane : Nat), (s.lane tile lane).on = true ∧ s.lineSends tile lane = true ∧ (s.mains
      tile).number % 2 = 0 ∧ (s.mains tile).last + s.obj 0x3007 1 * 1000 ≤ s.tbNs ∧ (s.lane tile lane).beacon = none ∧
      (s.lane tile lane).planned ≠ some (s.mains tile).number) ∧
    (∃ (s : State) (p at_ : Nat) (tb : Octets), s.line.newNotch = some (p, tb, at_) ∧ s.notchDue = true) ∧
    (∃ (s : State) (tile lane : Nat), (s.lane tile lane).starting = true ∧ s.due (s.lane tile lane).startAt 1000000000
      = true ∧ (s.mains tile).state ≠ 0) :=
  ⟨⟨ln { on := true, own := [lf] }, 3, 2, lf, [], by decide +kernel⟩,
   ⟨bc, 3, 2, bpk, bf, by unfold State.reads; decide +kernel⟩,
   ⟨ln { }, 3, 2, by decide +kernel⟩,
   ⟨ln { window := true }, 3, 2, 1, by decide +kernel⟩,
   ⟨ln { on := true, window := true, sending := some { ls with step := 3, bc := 4 } }, 3, 2, 1,
     { ls with step := 3, bc := 4 }, by decide +kernel⟩,
   ⟨ln { on := true, window := true, sending := some { ls with step := 3, bc := 4 } }, 3, 2,
     { ls with step := 3, bc := 4 }, by decide +kernel⟩,
   ⟨ln { on := true, window := true, sending := some { ls with step := 3, bc := 4 } }, 3, 2, 1,
     { ls with step := 3, bc := 4 }, by decide +kernel⟩,
   ⟨ln { on := true, transmitting := true, sending := some { ls with step := 4 } }, 3, 2, { ls with step := 4 },
     by decide +kernel⟩,
   ⟨ln { on := true, sending := some { ls with step := 5 } }, 3, 2, { ls with step := 5 }, by decide +kernel⟩,
   ⟨ln { on := true, state := 2, sending := some { ls with step := 5 } }, 3, 2, fcM 2 0 0, { ls with step := 5 },
     by decide +kernel⟩,
   ⟨{ bp with clock := { bp.clock with tb := 3000000000 * 2 ^ 32 } }, 3, 2, by decide +kernel⟩,
   ⟨{ unit with line := { unit.line with newNotch := some (2, [1], 0), lanes := [(1, { maps := [(21, {})] })] } }, 2,
     0, [1], by decide +kernel⟩,
   ⟨ln { on := true, starting := true }, 3, 2, by decide +kernel⟩⟩

theorem test_witness_LineHealth :
    (∃ (s : State) (tile input tz : Nat), tile < s.nTiles ∧ input < 3 ∧ s.power.pilot < 2 ∧ (s.mains
      tile).inputs.length = 3 ∧ ((s.mains tile).inputs.getD input {}).state = 1 ∧ ((s.mains tile).inputs.getD input
      {}).reversed = false ∧ ((s.mains tile).inputs.getD input {}).accepted = none ∧ s.objI 0x3010 (tile * 3 + input +
      1) = 0 ∧ gap (tz / 8 * 8) (((s.mains tile).inputs.getD input {}).last + (s.mains tile).period) ≤ s.obj 0x3011 1
      * 1000) ∧
    (∃ (s : State) (tile : Nat), tile < s.nTiles) ∧
    (∃ (s : State) (tile lane channel ma : Nat) (correlation : Int), tile < s.nTiles ∧ s.lineBusy tile lane = false ∧
      channel < 3 ∧ lane < 4 ∧ (s.port tile lane channel).out = false ∧ ((s.port tile lane channel).checked = false ∨
      s.due (s.port tile lane channel).pilotAt (s.obj 0x3021 1 * 1000000) = true) ∧ correlation.natAbs < 5) ∧
    (∃ (s : State) (tile lane channel ma : Nat) (correlation : Int) (limit : Bool), tile < s.nTiles ∧ s.lineBusy tile
      lane = false ∧ channel < 3 ∧ lane < 4 ∧ (s.port tile lane channel).out = false ∧ ((s.port tile lane
      channel).checked = false ∨ s.due (s.port tile lane channel).pilotAt (s.obj 0x3021 1 * 1000000) = true) ∧ 5 ≤
      correlation) ∧
    (∃ (s : State) (tile lane channel mv : Nat), tile < s.nTiles ∧ lane < 4 ∧ channel < 3 ∧ mv < 150 ∧ (s.port tile
      lane channel).out = false) ∧
    (∃ (s : State) (tile lane channel : Nat), (s.port tile lane channel).out = true ∧ s.due (s.port tile lane
      channel).retestAt 1000000000 = true) ∧
    (∃ (s : State) (r : Req) (x : Session) (channel : Nat), Writes s r 0x3022 1 0 (be 1 channel) x ∧ 1 ≤ channel % 256
      ∧ channel % 256 ≤ 12 * s.nTiles ∧ channel % 256 ≤ 96 ∧ (s.lane ((channel % 256 - 1) / 12) ((channel % 256 - 1) %
      12 / 3)).calibration = none ∧ ((s.lane ((channel % 256 - 1) / 12) ((channel % 256 - 1) % 12 / 3)).state = 2 ∨
      (s.lane ((channel % 256 - 1) / 12) ((channel % 256 - 1) % 12 / 3)).state = 3)) ∧
    (∃ (s : State) (tile lane magnitude : Nat) (phase : Int) (c : Calibration), (s.lane tile lane).calibration = some
      c ∧ s.stepMayGo tile lane c = true ∧ c.step < 15) ∧
    (∃ (s : State) (tile lane magnitude : Nat) (phase : Int) (c : Calibration), (s.lane tile lane).calibration = some
      c ∧ s.stepMayGo tile lane c = true ∧ c.step = 15) ∧
    (∃ (s : State) (tile lane : Nat) (c : Calibration), (s.lane tile lane).calibration = some c ∧ s.due c.startedAt
      10000000000 = true) :=
  ⟨⟨zm, 3, 2, 20000100, by decide +kernel⟩,
   ⟨zm, 3, by decide +kernel⟩,
   ⟨prt {}, 3, 2, 1, 9, -4, by decide +kernel⟩,
   ⟨prt {}, 3, 2, 1, 9, 5, true, by decide +kernel⟩,
   ⟨prt {}, 3, 2, 1, 149, by decide +kernel⟩,
   ⟨prt { bits := 36, passes := 9 }, 3, 2, 1, by decide +kernel⟩,
   ⟨unit.setLane 3 3 { state := 2 }, rw_ (unit.setLane 3 3 { state := 2 }) 0x3022 1 0 (be 1 48), sx unit, 48,
     by unfold Writes; unfold Asks; decide +kernel⟩,
   ⟨cl { channel := 43, startedAt := 0 }, 3, 2, 7, -7, { channel := 43, startedAt := 0 }, by decide +kernel⟩,
   ⟨cl { channel := 43, startedAt := 0, step := 15 }, 3, 2, 7, -7, { channel := 43, startedAt := 0, step := 15 },
     by decide +kernel⟩,
   ⟨{ cl { channel := 43, startedAt := 0 } with elapsed := 10000000000 }, 3, 2, { channel := 43, startedAt := 0 },
     by decide +kernel⟩⟩

end WitnessH

namespace WitnessI

def ra (x : RadioLane) : State := let s := unit.setRadio 3 5 x; { s with clock := { s.clock with tb := 10240000000 * 2 ^ 32 }, keys := { s.keys with slots := [(tileSlotKey 3 10, { material := List.replicate 16 9 })] } }
def dl : Downlink := { meter := 5, body := [1, 2] }
def rl : RadioLane := { on := true, keySlot := some 10, sfn := some 10, spans := 4, contention := 1, spanSlots := 2, startTb := 10240000000 - 20000000, dataTime := 8000000, lanternSlots := 1, assocs := [(5, { state := 1, cells := some { span := 1, phase := 0, logP := 0 } })], store := [dl] }
def rl2 : RadioLane := { rl with startTb := 10240000000 - 20000000 - 8650000 }
def rl3 : RadioLane := { rl with broadcast := 1, store := [{ dl with meter := 4294967295 }] }
def lk : Octets := List.replicate 16 9
def rr : RadioLane := { on := true, keySlot := some 10, assocs := [(5, { state := 1, counter := 3 })] }
def rk : State := let s := ra rr; { s with keys := { s.keys with slots := [(tileSlotKey 3 10, { material := List.replicate 16 8 }), (tileSlotKey 3 11, { material := lk })] } }
def ps (key : Octets) : Octets := radioPsdu key (radioHeader 1 false rk.dataLevel 1 5 0 4) (radioNonce 5 0 4 rk.dataLevel) [1,
  2, 3] rk.dataLevel
def jm : Meter := { number := 5, place := { paths := [(portCode 1 3 5 * 4, [1], 0)] } }
def dlp : List (Word × Byte) := pkt 0 (be 4 0x10000000 ++ be 4 5 ++ List.replicate 24 0)
def rol : State := let s := ra { on := true, keySlot := some 10, newKeySlot := some 12, switchSfn := 10 }; { s with radio := { s.radio with rolling := some 1 } }
def old : State := let s := ra { on := true, oldKeySlot := some 10, switchSfn := 0 }; { s with clock := { s.clock with tb := 64 * 1024000000 * 2 ^ 32 }, keys := { s.keys with slots := [(tileSlotKey 3 10, {}), (tileSlotKey 3 11, {})] } }

theorem test_witness_RadioSuperframe :
    (∃ (s : State) (tile lane : Nat), tile < s.nTiles ∧ lane < 8 ∧ (s.radioLane tile lane).on = true ∧ (s.radioLane
      tile lane).sfn ≠ some (s.sfnNow tile lane) ∧ s.superframeStart tile lane (s.sfnNow tile lane) ≤ s.tbNs ∧
      (s.radioLane tile lane).resumeTb ≤ s.superframeStart tile lane (s.sfnNow tile lane)) ∧
    (∃ (s : State) (tile lane op : Nat), (s.radioLane tile lane).on = true) ∧
    (∃ (s : State) (tile lane : Nat), (s.radioLane tile lane).transmitting ≠ 0) ∧
    (∃ (s : State) (tile lane k n : Nat) (d : Downlink), (s.radioLane tile lane).sfn = some n ∧ (s.radioLane tile
      lane).broadcast ≤ k ∧ (s.radioLane tile lane).nextSpan ≤ k ∧ k < (s.radioLane tile lane).spans ∧ (s.radioLane
      tile lane).channel ≠ 255 ∧ s.spanStart (s.radioLane tile lane) k + (s.radioLane tile lane).dataTime + s.replyNs
      ≤ s.tbNs + s.obj 0x3808 1 * 1000 ∧ s.tbNs ≤ s.spanStart (s.radioLane tile lane) k + (s.radioLane tile
      lane).dataTime + s.replyNs ∧ s.radioSends tile lane = true ∧ (s.radioLane tile lane).reply k n
      s.tunnel.relayMode = some d ∧ d.kind ≠ 0 ∧ s.overDwell tile lane (18 + ((s.radioLane tile lane).bodyOf d
      n).1.length + micLen (if d.kind = 3 ∨ (Tab.getD (s.radioLane tile lane).assocs d.meter {}).state = 0 then 0 else
      s.dataLevel)) (s.spanStart (s.radioLane tile lane) k + (s.radioLane tile lane).dataTime + s.replyNs) = false) ∧
    (∃ (s : State) (tile lane k : Nat) (d : Downlink), k < (s.radioLane tile lane).broadcast ∧ (s.radioLane tile
      lane).nextSpan ≤ k ∧ (s.radioLane tile lane).sfn.isSome = true ∧ (s.radioLane tile lane).channel ≠ 255 ∧
      s.radioSends tile lane = true ∧ s.spanStart (s.radioLane tile lane) k ≤ s.tbNs + s.obj 0x3808 1 * 1000 ∧
      (s.radioLane tile lane).store.find? (fun d => d.meter == 4294967295) = some d ∧ s.overDwell tile lane (18 +
      d.body.length + micLen s.dataLevel) (s.spanStart (s.radioLane tile lane) k) = false) :=
  ⟨⟨ra { on := true }, 3, 5, by decide +kernel⟩,
   ⟨ra { on := true }, 3, 5, 1, by decide +kernel⟩,
   ⟨ra { transmitting := 1 }, 3, 5, by decide +kernel⟩,
   ⟨ra rl2, 3, 5, 2, 10, dl, by decide +kernel⟩,
   ⟨ra rl3, 3, 5, 0, { dl with meter := 4294967295 }, by decide +kernel⟩⟩

def rro : State := ra rr

theorem test_witness_RadioFrames :
    (∃ (s : State) (tile lane sfd : Nat) (psdu b : Octets) (a : Assoc), tile < s.nTiles ∧ lane < 8 ∧ (s.radioLane tile
      lane).on = true ∧ s.healthOf tile = 0 ∧ (s.radioLane tile lane).transmitting = 0 ∧ 18 + micLen (fieldAt psdu 0 1
      % 8) ≤ psdu.length ∧ fieldAt psdu (psdu.length - 4) 4 = crc32 (psdu.take (psdu.length - 4)) ∧ fieldAt psdu 0 1 /
      16 = 1 ∧ fieldAt psdu 6 4 = 0 ∧ Tab.find? (s.radioLane tile lane).assocs (fieldAt psdu 2 4) = some a ∧ a.state ≠
      0 ∧ fieldAt psdu 0 1 % 8 = s.dataLevel ∧ s.dataLevel ≠ 0 ∧ a.counter < fieldAt psdu 10 4 ∧ s.openOnLane tile
      (s.radioLane tile lane) psdu = some b ∧ s.heat.laneDone.contains (portCode 1 tile lane * 4) = false) ∧
    (∃ (s : State) (tile lane sfd : Nat) (psdu : Octets) (a : Assoc), tile < s.nTiles ∧ lane < 8 ∧ (s.radioLane tile
      lane).on = true ∧ s.healthOf tile = 0 ∧ (s.radioLane tile lane).transmitting = 0 ∧ 18 + micLen (fieldAt psdu 0 1
      % 8) ≤ psdu.length ∧ fieldAt psdu (psdu.length - 4) 4 = crc32 (psdu.take (psdu.length - 4)) ∧ fieldAt psdu 0 1 /
      16 = 1 ∧ fieldAt psdu 6 4 = 0 ∧ Tab.find? (s.radioLane tile lane).assocs (fieldAt psdu 2 4) = some a ∧ a.state ≠
      0 ∧ fieldAt psdu 0 1 % 8 = s.dataLevel ∧ s.dataLevel ≠ 0 ∧ a.counter < fieldAt psdu 10 4 ∧ s.openOnLane tile
      (s.radioLane tile lane) psdu = none) ∧
    (∃ (s : State) (tile lane meter : Nat) (y : Meter), s.meter? meter = some y ∧ (s.radioLane tile lane).on = true ∧
      y.heardOnLane tile lane = true ∧ s.joinLimit tile lane y = 0) ∧
    (∃ (s : State) (tile lane meter : Nat) (a : Assoc), s.awake = true ∧ Tab.find? (s.radioLane tile lane).assocs
      meter = some a ∧ s.due a.heardAt 86400000000000 = true) ∧
    (∃ (s : State) (tile lane : Nat) (pk : List (Word × Byte)), lane < 8 ∧ ((s.fillStore tile lane).radioLane tile
      lane).store.length < 512 ∧ s.reads tile (0x70 + lane) Producer.radioLane.code pk ∧ frType (packetBytes pk) ≠ 6) ∧
    (∃ (s : State) (tile lane : Nat), s.awake = true) ∧
    (∃ (s : State) (r : Req) (x : Session), Writes s r 0x380C 2 0 (be 1 1) x ∧ s.radio.rolling = none) ∧
    (∃ (s : State) (r : Req) (x : Session) (tile lane n : Nat) (y : RadioLane), Writes s r 0x380C 2 0 (be 1 1) x ∧
      s.radio.rolling = none ∧ s.radio.lanes = [(tile * 8 + lane, y)] ∧ tile < s.nTiles ∧ lane < 8 ∧ y.on = true ∧
      s.freeTileSlots tile = some n) ∧
    (∃ (s : State) (tile lane e n : Nat), s.awake = true ∧ s.radio.rolling = some e ∧ (s.radioLane tile
      lane).newKeySlot = some n ∧ (s.radioLane tile lane).switchSfn ≤ s.sfnNow tile lane) ∧
    (∃ (s : State) (tile lane n : Nat), s.awake = true ∧ (s.radioLane tile lane).oldKeySlot = some n ∧ (s.radioLane
      tile lane).switchSfn + 64 ≤ s.sfnNow tile lane) :=
  ⟨⟨rk, 3, 5, 10240000000, ps lk, [1, 2, 3], { state := 1, counter := 3 }, by decide +kernel⟩,
   ⟨rk, 3, 5, 10240000000, ps (List.replicate 16 1), { state := 1, counter := 3 }, by decide +kernel⟩,
   ⟨{ ra { on := true, spans := 40, contention := 4, spanSlots := 2 } with meters := [jm] }, 3, 5, 5, jm,
     by decide +kernel⟩,
   ⟨{ ra { rl with assocs := [(5, {})] } with elapsed := 86400000000000 }, 3, 5, 5, {}, by decide +kernel⟩,
   ⟨withPk (ra rr) 3 0x75 dlp, 3, 5, dlp, by unfold State.reads; decide +kernel⟩,
   ⟨unit, 3, 5, by decide +kernel⟩,
   ⟨unit, rw_ unit 0x380C 2 0 (be 1 1), sx unit, by unfold Writes; unfold Asks; decide +kernel⟩,
   ⟨rro, rw_ rro 0x380C 2 0 (be 1 1), sx rro, 3, 5, 768, rr, by unfold Writes; unfold Asks; decide +kernel⟩,
   ⟨rol, 3, 5, 1, 12, by decide +kernel⟩,
   ⟨old, 3, 5, 10, by decide +kernel⟩⟩

end WitnessI

namespace WitnessJ

def mu (m : Meter) : State := { unit with meters := [{ number := 4 }, m, { number := 6 }] }
def w0 (inc epoch : Nat) : Word := BitVec.ofNat 64 (5 * 2 ^ 32 + inc * 65536 + epoch)
def srv : Word := BitVec.ofNat 64 (2 ^ 51)
def m5 : Meter := { number := 5, home := 3, group := 7, record := 9, hot := [w0 1 1, 0, 0, srv, 0, 0, 0, 0, 0, 0, 0, 0, 0, 0, 0, 0] }
def mr : Meter := { m5 with retiring := true, finalFolded := true, unindexed := true }
def me : Meter := { m5 with epochChange := some (2, 9, true) }
def hu (m : Meter) : State := { mu m with heat := { unit.heat with count := 1 } }
def mh : Meter := { m5 with held := [{ kind := 0, words := pkt 5 [] }] }

theorem test_witness_MeterLife :
    (∃ (s : State) (r : Req) (x : Session) (m inc epoch ruleSet interval limit g rec_ : Nat) (forerunner : Bool),
      Writes s r 0xC000 1 m (be 1 1) x ∧ m ≠ 0 ∧ m < 4294967295 ∧ inc < 65536 ∧ epoch < 65536 ∧ s.meter? m = none ∧
      s.tunnel.relayMode = false ∧ s.chooseGroup s.emptiestTile (s.feederOf { number := m }) (s.lossGroup
      { number := m }) none = some (g, rec_)) ∧
    (∃ (s : State) (r : Req) (x : Session) (m inc epoch : Nat) (y : Meter), Writes s r 0xC000 1 m (be 1 2) x ∧
      s.fenceOf m = none ∧ s.meter? m = some y ∧ y.retiring = false ∧ y.incarnation < inc) ∧
    (∃ (s : State) (r : Req) (x : Session) (m epoch n : Nat) (y : Meter), Writes s r 0xC000 1 m (be 1 3) x ∧ s.fenceOf
      m = none ∧ s.meter? m = some y ∧ y.retiring = false ∧ y.epoch < epoch ∧ y.epochChange = none ∧ y.served = true ∧
      s.newRequest y.home = some n ∧ (s.holdsRequests y 0 = true ∨ s.takes y.home (requestQueue 0 y.group) .management
      1)) ∧
    (∃ (s : State) (r : Req) (x : Session) (m : Nat) (y : Meter), Writes s r 0xC000 1 m (be 1 4) x ∧ s.fenceOf m =
      none ∧ s.meter? m = some y ∧ y.retiring = false) ∧
    (∃ (s : State) (m : Nat) (y : Meter), s.onBoundary = true ∧ s.meter? m = some y ∧ y.retiring = true ∧
      y.finalFolded = true ∧ y.unindexed = true) ∧
    (∃ (s : State) (m e i : Nat) (y : Meter), s.onBoundary = true ∧ s.meter? m = some y ∧ y.epochChange = some (e, i,
      true) ∧ s.fenceOf m = none ∧ y.freezeStep ≤ 1) :=
  ⟨⟨unit, rw_ unit 0xC000 1 5 (be 1 1), sx unit, 5, 1, 1, 0, 900, 0, 0, 0, false,
    by unfold Writes; unfold Asks; decide +kernel⟩,
   ⟨mu m5, rw_ (mu m5) 0xC000 1 5 (be 1 2), sx unit, 5, 2, 0, m5, by unfold Writes; unfold Asks; decide +kernel⟩,
   ⟨mu m5, rw_ (mu m5) 0xC000 1 5 (be 1 3), sx unit, 5, 2, 0, m5,
     by unfold Writes; unfold State.takes; unfold Asks; decide +kernel⟩,
   ⟨mu m5, rw_ (mu m5) 0xC000 1 5 (be 1 4), sx unit, 5, m5, by unfold Writes; unfold Asks; decide +kernel⟩,
   ⟨mu mr, 5, mr, by decide +kernel⟩,
   ⟨mu me, 5, 2, 9, me, by decide +kernel⟩⟩

theorem test_witness_FreezesAndSilence :
    (∃ (s : State) (m : Nat) (y : Meter), s.onBoundary = true ∧ s.meter? m = some y ∧ y.freezeStep = 1 ∧ s.fenceOf m =
      none) ∧
    (∃ (s : State) (m w : Nat) (v : Word) (y : Meter), s.meter? m = some y ∧ y.freezeStep = 2 ∧ y.incarnationChange =
      none ∧ y.freezeWords = [(w, v)] ∧ w < 16 ∧ s.hotOn y) ∧
    (∃ (s : State) (m : Nat) (y : Meter), s.onBoundary = true ∧ s.meter? m = some y ∧ y.freezeStep = 3 ∧ y.freezeHeat
      < s.heat.count) ∧
    (∃ (s : State) (m : Nat) (y : Meter) (h : HeldRequest), s.onBoundary = true ∧ s.meter? m = some y ∧ y.held = [h] ∧
      s.fenceOf m = none ∧ s.quarantined y = false ∧ s.takes y.home (requestQueue h.kind y.group) .management
      h.words.length) ∧
    (∃ (s : State) (m : Nat) (y : Meter), s.awake = true ∧ s.meter? m = some y ∧ y.silent = false ∧ s.due y.heardAt (3
      * y.reportInterval * 1000000000) = true) :=
  ⟨⟨mu { m5 with freezeStep := 1 }, 5, { m5 with freezeStep := 1 }, by decide +kernel⟩,
   ⟨mu { m5 with freezeStep := 2, freezeWords := [(14, 77)] }, 5, 14, 77,
     { m5 with freezeStep := 2, freezeWords := [(14, 77)] }, by unfold State.hotOn; decide +kernel⟩,
   ⟨hu { m5 with freezeStep := 3, freezeWords := [(14, 77)] }, 5,
     { m5 with freezeStep := 3, freezeWords := [(14, 77)] }, by decide +kernel⟩,
   ⟨mu mh, 5, mh, { kind := 0, words := pkt 5 [] }, by unfold State.takes; decide +kernel⟩,
   ⟨{ mu m5 with elapsed := 2700000000000 }, 5, m5, by decide +kernel⟩⟩

end WitnessJ

namespace WitnessK

def mu (m : Meter) : State := { unit with meters := [{ number := 4 }, m, { number := 6 }] }
def w0 (inc epoch : Nat) : Word := BitVec.ofNat 64 (5 * 2 ^ 32 + inc * 65536 + epoch)
def srv : Word := BitVec.ofNat 64 (2 ^ 51)
def m5 : Meter := { number := 5, home := 3, group := 7, record := 9, hot := [w0 1 1, 0, 0, srv, 0, 0, 0, 0, 0, 0, 0, 0, 0, 0, 0, 0] }
def rk : Req := rw_ (mu m5) 0xC040 3 5 (be 1 1)
def rq5 (st : Nat) : Request := { busy := true, meter := 5, code := 5, state := st, sealings := 1 }
def ru (m : Meter) (r : Request) (el : Nat) : State := { mu m with elapsed := el, queues := { unit.queues with requests := [(requestKey 3 2, r)] } }
def rid : Nat := 2 ^ 24 + 3 * 65536 + 2
def te (s : State) : State := s.setVal 0x4010 1 (.oct (be 4 0xFFFFFFFF ++ List.replicate 28 0xFF))
def pre : Word := BitVec.ofNat 64 (2 ^ 13)
def p5 : Meter := m5.setWord 4 (2 ^ 13)
def p3 : Meter := { (m5.setWord 4 (2 ^ 13)).setWord 6 (3 * 2 ^ 61) with prepay := { heldUntil := some 0 } }
def p4 : Meter := { ((m5.setWord 4 (2 ^ 13)).setWord 6 (5 * 2 ^ 61)).setWord 7 5 with prepay := { reconnectAt := some 0 } }

theorem test_witness_MeterCommands :
    ∃ (s : State) (c : Instr) (r : Req) (m code n : Nat) (params : Octets) (x : Session) (y : Meter), c.submitted =
      some (r, m, code, params) ∧ Writes s r 0xC040 3 m (be 1 1) x ∧ s.meter? m = some y ∧ y.served = true ∧
      s.newRequest y.home = some n ∧ (s.holdsRequests y 0 = true ∨ s.takes y.home (requestQueue 0 y.group) .management
      1) :=
  ⟨mu m5, .disconnect rk 5 9, rk, 5, 1, 0, be 4 9, sx unit, m5,
    by unfold Writes; unfold State.takes; unfold Asks; decide +kernel⟩

theorem test_witness_CommandRetryAndExpiry :
    (∃ (s : State) (id tile n : Nat) (r : Request) (y : Meter), s.awake = true ∧ s.requestOf id = some (tile, n, r) ∧
      s.meter? r.meter = some y ∧ r.state = 1 ∧ y.served = true ∧ (s.pair.state = 0 ∨ s.pair.baton = true) ∧ s.due
      r.lastAt (s.retryInterval y * 1000000000) = true ∧ s.expiryDue r = false ∧ s.takes y.home (requestQueue 0
      y.group) .management 1 ∧ s.holdsRequests y 0 = false ∧ s.requestWaits y id = false) ∧
    (∃ (s : State) (id tile n : Nat) (r : Request), s.awake = true ∧ s.requestOf id = some (tile, n, r) ∧ r.state = 1
      ∧ s.expiryDue r = true) :=
  ⟨⟨ru m5 { rq5 1 with lastAt := 700000000000, firstAt := 700000000000 } 1600000000000, rid, 3, 2,
    { rq5 1 with lastAt := 700000000000, firstAt := 700000000000 }, m5, by unfold State.takes; decide +kernel⟩,
   ⟨ru m5 (rq5 1) 90000000000000, rid, 3, 2, rq5 1, by decide +kernel⟩⟩

theorem test_witness_Prepayment :
    (∃ (s : State) (r : Req) (x : Session) (m opening : Nat) (y : Meter), Writes s r 0xC060 7 m (be 1 1) x ∧ s.fenceOf
      m = none ∧ s.meter? m = some y ∧ y.isPrepay = false ∧ entryLow (s.structEntry y.slotMap) ≠ 0 ∧ s.hotOn y) ∧
    (∃ (s : State) (r : Req) (x : Session) (m : Nat) (y : Meter), Writes s r 0xC060 7 m (be 1 0) x ∧ s.fenceOf m =
      none ∧ s.meter? m = some y ∧ y.isPrepay = true) ∧
    (∃ (s : State) (r : Req) (x : Session) (m amount id : Nat) (y : Meter), Writes s r 0xC060 6 m (be 1 1) x ∧
      s.fenceOf m = none ∧ s.meter? m = some y ∧ amount ≠ 0 ∧ y.isPrepay = true ∧ y.billing.lastTopUpId < id ∧
      y.prepay.topUpNew.getD y.topUpTotal + amount ≤ 2 ^ 63 - 1) ∧
    (∃ (s : State) (m e n : Nat) (y : Meter), s.meter? m = some y ∧ y.prepay.heldUntil = some e ∧ e ≤ s.tbSeconds ∧
      y.isPrepay = true ∧ y.prepayState = 3 ∧ y.prepay.refusedForGood = false ∧ y.prepay.disconnectId = 0 ∧ y.served =
      true ∧ s.friendlyHold y = none ∧ s.newRequest y.home = some n ∧ (s.holdsRequests y 0 = true ∨ s.takes y.home
      (requestQueue 0 y.group) .management 1)) ∧
    (∃ (s : State) (m at_ n : Nat) (y : Meter), s.awake = true ∧ s.meter? m = some y ∧ y.prepay.reconnectAt = some at_
      ∧ at_ ≤ s.elapsed ∧ 0 < y.creditNow ∧ y.prepayState = 5 ∧ y.isPrepay = true ∧ y.prepay.reconnectId = 0 ∧
      y.served = true ∧ s.newRequest y.home = some n ∧ (s.holdsRequests y 0 = true ∨ s.takes y.home (requestQueue 0
      y.group) .management 1)) :=
  ⟨⟨te (mu m5), rw_ (mu m5) 0xC060 7 5 (be 1 1), sx unit, 5, 100, m5,
    by unfold Writes; unfold Asks; unfold State.hotOn; decide +kernel⟩,
   ⟨mu p5, rw_ (mu p5) 0xC060 7 5 (be 1 0), sx unit, 5, p5, by unfold Writes; unfold Asks; decide +kernel⟩,
   ⟨mu p5, rw_ (mu p5) 0xC060 6 5 (be 1 1), sx unit, 5, 100, 1, p5, by unfold Writes; unfold Asks; decide +kernel⟩,
   ⟨mu p3, 5, 0, 0, p3, by unfold State.takes; decide +kernel⟩,
   ⟨mu p4, 5, 0, 0, p4, by unfold State.takes; decide +kernel⟩⟩

end WitnessK

namespace WitnessL

def hp : State := unit.setPipe 3 7 { state := 2 }
def sv : State := { unit with boot := { unit.boot with lifeCycle := 3 } }
def dg : State := { unit with fabric := { unit.fabric with diagnosis := some { startedAt := 0 } }, heat := { unit.heat with halts := [(1, 1)] } }
def db : State := { unit with fabric := { unit.fabric with disabling := [(portCode 1 3 5, 0)], limiters := [(limiterKey 0xE304 3 0, { since := 0 })] }, heat := { unit.heat with count := 100000 } }
/-- A calendar of one season and one day type: tariff 0 from midnight, 1 from 00:05; no close but at minute 0 of day 1. -/
def cal : Octets :=
  let c := be 2 1 ++ be 1 2 ++ be 1 1 ++ be 1 1 ++ be 1 0 ++ be 1 1 ++ be 1 1 ++ be 2 0 ++ be 2 110 ++ be 4 0 ++ List.replicate 32 1 ++
    (be 1 1 ++ be 1 1 ++ List.replicate 8 0) ++ (be 1 0 ++ be 2 0 ++ be 2 0 ++ be 1 2 ++ be 2 0 ++ be 1 0 ++ be 2 5 ++ be 1 1 ++ List.replicate 30 0) ++ (be 4 0 ++ be 2 0)
  c ++ be 4 (crc32 c)
def st2 (x : Structure) (sec : Nat) : State := let s := (unit.setStructure 9 x).setVal 0x4010 10 (.oct (be 1 2 ++
  be 1 15 ++ be 1 0 ++ be 1 128 ++ be 4 5 ++
  List.replicate 24 0)); { s with clock := { s.clock with tb := sec * 1000000000 * 2 ^ 32 } }
def fd : State := { unit with heat := { unit.heat with foldDue := [1, 3] } }
def cs : State := withPk unit 3 0x37 (packetOfWords [1, 2, 3, 4])
def srv : Word := BitVec.ofNat 64 (2 ^ 51)
def w0 (inc epoch : Nat) : Word := BitVec.ofNat 64 (5 * 2 ^ 32 + inc * 65536 + epoch)
def m5 : Meter := { number := 5, home := 3, group := 7, record := 9, hot := [w0 1 1, 0, 0, srv, 0, 0, 0, 0, 0, 0, 0, 0, 0, 0, 0, 0] }
def p5 (st em : Nat) : Meter := (m5.setWord 4 (2 ^ 13)).setWord 6 (st * 2 ^ 61 + em * 8)
def ev (d : Nat) (m : Meter) : State := let s := withPk unit 3 0x3F (packetOfWords [BitVec.ofNat 64 d,
  1]); { s with meters := [m], fabric := { s.fabric with eventBodies := [(1, be 4 0 ++ be 2 1)] } }
def fe : State := let s := (unit.setDomain 0x4810 1 (be 1 128 ++
  List.replicate 31 0)).setObj 0x4800 1 1; { s with clock := { s.clock with state := 2 } }
def sn : Snapshot := { id := 3, feeder := 1, cycle := 9, target := 0, generation := 0 }
def so (x : Snapshot) : State := { fe with loss := { fe.loss with openSnapshots := [x] }, clock := { fe.clock with tb := 900 * 1000000000 * 2 ^ 32 } }
def mu (m : Meter) : State := { unit with meters := [{ number := 4 }, m, { number := 6 }] }

def ro : Readout := { id := 3, meter := 5, kind := 1, cls := 7, phase := 1, text := List.replicate 100 1, chain := List.replicate 16 0 }
def rs : State := let s := withPk (mu m5) 3 0x17 (pkt (3 * 2 ^ 32 + 5) []); { s with billing := { s.billing with readouts := [ro] }, compiler := { sheet := some { rootMap := [(4, 39)] } }, fabric := { s.fabric with roots := [(4, List.replicate 16 7)] } }
def r2 : Readout := { ro with phase := 2, done_ := 100 }
def rd : State := { mu m5 with billing := { unit.billing with readouts := [r2] } }
def fm : State := let s := (unit.setVal 0x6001 1 (.oct [1])); { s with boot := { s.boot with lifeCycle := 3 } }
def fs : TileStore := { formatted := true, good := 10880, zone := 1000, slc := 1000, tlc := 8000 }
def rec (i : Nat) : RingRecord := { words := [], meter := 5, time := i, seq := i, hour := 7 }
def fl (x : TileStore) : State := let s := ((unit.setFlash 3 x).setVal 0x6001 1 (.oct [1])).setObj 0x6005 4 0; { s with clock := { s.clock with tb := (9 * 3600) * 1000000000 * 2 ^ 32 } }
def rl : State := fl { fs with ring := (List.range 513).map rec }
def rs3 : State := fl { fs with hour := 9, ring := [rec 2, rec 1] }
def rs1 : State := fl { fs with hour := 9, ring := [rec 2] }
def rs4 : State := fl { fs with hour := 8, ring := [rec 2, rec 1] }
def seg : Segment := { id := 4, tile := 3, hour := 7, tlc := false, records := [rec 1] }
def sg : State := let s := fl fs; { s with store := { s.store with segments := [seg] }, elapsed := 10000000000000000 }
def sgA : State := (sg.readSegment seg fun _ => true).gcAhead 3 true
def sgV : Bool :=
  ((sgA.writePages 3 true 3 65536 (recordPages seg.id (sgA.flash 3).nextLogical seg.records)).2.verifyPages 3 true seg.id).1
def gb : State := fl { fs with slc := 1, blocks := [(5, { tlc := false, refresh := true })] }
def rt : State := let s := fl fs; { s with boot := { s.boot with restoringTiles := [3], restored := false } }

theorem test_witness_HeatBoundary :
    ∃ (s : State) (t : Nat), s.heatEnds t = true ∧ s.boot.phase = 9 ∧ s.boot.change = none ∧ s.boot.restart = none ∧
      s.pair.deferred = [] ∧ s.pair.mgmt = [] :=
  ⟨{ unit with heat := { unit.heat with boundaryAt := 5000000000 } }, 5000010050, by decide +kernel⟩

theorem test_witness_PipelineUpkeep :
    (∃ (s : State) (r : Req) (x : Session), Writes s r 0x2013 1 0 (be 1 1) x) ∧
    (∃ (s : State) (r : Req) (x : Session), Writes s r 0x2018 1 0 (be 1 1) x ∧
      (s.isStandby = true ∨ s.boot.lifeCycle = 3) ∧ s.fabric.diagnosis = none) ∧
    (∃ (s : State) (tiles : Nat) (ring pacer cipher march : Bool), s.fabric.diagnosis.isSome = true ∧ s.pair.state ≠
      6) ∧
    (∃ (s : State) (f : Nat), Tab.has s.fabric.disabling f = true ∧ (∀ x ∈ s.meters, x.served = true → x.port = f →
      256 ≤ f) ∧ (f < 128 → ∀ q ∈ laneReceive f, (s.queue (portTile f) q).unread = [] ∧ (s.queue (portTile f)
      q).openBy = none)) ∧
    (∃ (s : State) (code tile sub : Nat) (l : Limiter), Tab.find? s.fabric.limiters (limiterKey code tile sub) = some
      l ∧ l.since + s.obj 0x2014 1 ≤ s.heat.count ∧ l.suppressed = 0) :=
  ⟨⟨hp, rw_ hp 0x2013 1 0 (be 1 1), sx unit, by unfold Writes; unfold Asks; decide +kernel⟩,
   ⟨sv, rw_ sv 0x2018 1 0 (be 1 1), sx unit, by unfold Writes; unfold Asks; decide +kernel⟩,
   ⟨dg, 15, true, false, true, true, by decide +kernel⟩,
   ⟨db, portCode 1 3 5, by decide +kernel⟩,
   ⟨db, 0xE304, 3, 0, { since := 0 }, by decide +kernel⟩⟩

theorem test_witness_TariffsAndPeriods :
    (∃ (s : State) (n t : Nat), s.onBoundary = true ∧ (s.structure n).inForce = true ∧ t ≤ s.tbSeconds ∧ (s.structure
      n).lastSwitch < t ∧ (s.structure n).appliedAt < t ∧ switchesAt (s.structure n).image t = true) ∧
    (∃ (s : State) (n : Nat), s.onBoundary = true ∧ s.slotMapDue n = true) ∧
    (∃ (s : State) (n t : Nat), s.onBoundary = true ∧ s.demandEndsAt n t = true ∧ t ≤ s.tbSeconds ∧ (s.structure
      n).lastDemandEnd < t) ∧
    (∃ (s : State) (n t : Nat), s.onBoundary = true ∧ s.closeDue n t = true) ∧
    (∃ (s : State) (r : Req) (x : Session) (n t : Nat), Writes s r 0x4130 3 0 (be 1 1) x ∧ n ≤ 254 ∧ (s.structure
      n).lastClose < t) ∧
    (∃ (s : State) (r : Req) (x : Session) (n e : Nat), Writes s r 0x4120 6 0 (be 1 1) x ∧ (s.structure n).heldImage ≠
      [] ∧ calendarOk (s.structure n).heldImage (entryTariffs (s.structEntry n)) = true ∧ (s.structure n).lastClose <
      e ∧ s.tbSeconds + 60 ≤ e) ∧
    (∃ (s : State) (n : Nat), s.onBoundary = true ∧ (s.structure n).pending = true ∧ (s.structure n).pendingAt ≤
      s.tbSeconds) :=
  ⟨⟨st2 { inForce := true, image := cal } 300, 9, 300, by decide +kernel⟩,
   ⟨st2 { inForce := true, image := cal } 300, 9, by decide +kernel⟩,
   ⟨st2 { inForce := true, image := cal } 900, 9, 900, by decide +kernel⟩,
   ⟨st2 { inForce := true, image := cal, closeRequests := [77] } 900, 9, 77, by decide +kernel⟩,
   ⟨st2 { inForce := true, image := cal } 300, rw_ unit 0x4130 3 0 (be 1 1), { sx unit with lastSeconds := 300 }, 9,
     10, by unfold Writes; unfold Asks; decide +kernel⟩,
   ⟨st2 { inForce := true, heldImage := cal } 300, rw_ unit 0x4120 6 0 (be 1 1), { sx unit with lastSeconds := 300 },
     9, 361, by unfold Writes; unfold Asks; decide +kernel⟩,
   ⟨st2 { pending := true, pendingAt := 300, pendingImage := cal } 300, 9, by decide +kernel⟩⟩

theorem test_witness_FoldsAndDescriptors :
    (∃ (s : State) (tile : Nat), tile ∈ s.heat.foldDue ∧ s.stepDue = none ∧ s.dramHeld tile = false) ∧
    (∃ (s : State) (tile pipe : Nat) (pk : List (Word × Byte)), s.reads tile (0x30 + pipe) Producer.dma.code pk ∧
      s.dramHeld tile = false) ∧
    (∃ (s : State) (tile pipe d : Nat) (b : Octets) (y : Meter), s.eventHead tile pipe 2 = some (d, b) ∧ d % 8 = 1 ∧
      s.meter? (d / 4294967296) = some y ∧ y.isPrepay = true ∧ y.prepayState = 0 ∧ s.hotOn y) ∧
    (∃ (s : State) (tile pipe d : Nat) (b : Octets) (y : Meter), s.eventHead tile pipe 2 = some (d, b) ∧ d % 8 = 2 ∧
      s.meter? (d / 4294967296) = some y ∧ y.isPrepay = true ∧ y.prepayState ≤ 1 ∧ y.emergencyAvailable = true ∧
      s.hotOn y) ∧
    (∃ (s : State) (tile pipe d : Nat) (b : Octets) (y : Meter), s.eventHead tile pipe 1 = some (d, b) ∧ (fieldAt b 4
      2 = 1 ∨ fieldAt b 4 2 = 2) ∧ s.meter? (field d 63 32) = some y ∧ s.hotOn y) :=
  ⟨⟨fd, 3, by decide +kernel⟩,
   ⟨cs, 3, 7, packetOfWords [1, 2, 3, 4], by unfold State.reads; decide +kernel⟩,
   ⟨ev (5 * 2 ^ 32 + 2 * 256 + 1) (p5 0 0), 3, 7, 5 * 2 ^ 32 + 2 * 256 + 1, be 4 0 ++ be 2 1, p5 0 0,
     by unfold State.hotOn; decide +kernel⟩,
   ⟨ev (5 * 2 ^ 32 + 2 * 256 + 2) (p5 1 1), 3, 7, 5 * 2 ^ 32 + 2 * 256 + 2, be 4 0 ++ be 2 1, p5 1 1,
     by unfold State.hotOn; decide +kernel⟩,
   ⟨ev (5 * 2 ^ 32 + 256) m5, 3, 7, 5 * 2 ^ 32 + 256, be 4 0 ++ be 2 1, m5, by unfold State.hotOn; decide +kernel⟩⟩

theorem test_witness_LossEngine :
    (∃ (s : State) (id cycle : Nat) (tags : List Nat), s.obj 0x2401 1 ≤ toSigned 32 (wrapSub 32 cycle s.line.cycle)) ∧
    (∃ (s : State) (f : Nat), s.lossRuns = true ∧ s.onBoundary = true ∧ s.obj 0x4800 1 ≠ 0 ∧ s.clock.state ≠ 0 ∧
      s.tbSeconds % max 1 (s.obj 0x4801 1) = 0 ∧ f ∈ s.enabledFeeders ∧ (s.feeder f).lastDue ≠ s.tbSeconds ∧
      s.openSnapshot f = none) ∧
    (∃ (s : State) (r : Req) (x : Session) (f : Nat), Writes s r 0x4802 2 0 (be 1 1) x ∧ f ≠ 0 ∧ f ≤ 8192 ∧ f ∈
      s.enabledFeeders ∧ s.openSnapshot f = none) ∧
    (∃ (s a : State) (f : Nat) (x : Snapshot), a = s.drainLoss.pushSwaps ∧ a.openSnapshot f = some x ∧ x.closing =
      false ∧ s.onBoundary = true ∧ (a.allReplied x = true ∨ x.target + s.obj 0x2401 2 * 1000000000 ≤ s.tbNs)) ∧
    (∃ (s a : State) (f : Nat) (x : Snapshot), a = s.drainLoss.pushSwaps ∧ a.openSnapshot f = some x ∧ x.closing =
      true ∧ x.awaited ≤ (a.loss.returned.countP fun e => e.1 == x.id && e.2.1 == f)) ∧
    (∃ (s : State) (f : Nat), s.lossRuns = true ∧ 1000000000 ≤ s.elapsed - (s.feeder f).wordsAt) ∧
    (∃ (s : State) (r : Req) (x : Session) (m : Nat) (y : Meter), Writes s r 0xC070 8 m (be 1 1) x ∧ s.fenceOf m =
      none ∧ s.meter? m = some y ∧ s.hotOn y) ∧
    (∃ (s : State) (r : Req) (x : Session) (m v : Nat) (y : Meter), Writes s r 0xC070 1 m (be 2 v) x ∧ s.fenceOf m =
      none ∧ s.meter? m = some y ∧ v ≤ 8192) ∧
    (∃ (s : State) (r : Req) (x : Session) (m v : Nat) (y : Meter), Writes s r 0xC070 2 m (be 1 v) x ∧ s.fenceOf m =
      none ∧ s.meter? m = some y ∧ v ≤ 4) :=
  ⟨⟨unit, 7, 500, [1], by decide +kernel⟩,
   ⟨{ fe.setFeeder 1 { lastDue := 7 } with clock := { fe.clock with state := 2, tb := 900 * 1000000000 * 2 ^ 32 } },
     1, by decide +kernel⟩,
   ⟨fe, rw_ fe 0x4802 2 0 (be 1 1), sx unit, 1, by unfold Writes; unfold Asks; decide +kernel⟩,
   ⟨so sn, (so sn).drainLoss.pushSwaps, 1, sn, rfl, by decide +kernel⟩,
   ⟨so { sn with closing := true }, (so { sn with closing := true }).drainLoss.pushSwaps, 1,
     { sn with closing := true }, rfl, by decide +kernel⟩,
   ⟨fe, 1, by decide +kernel⟩,
   ⟨mu m5, rw_ unit 0xC070 8 5 (be 1 1), sx unit, 5, m5,
     by unfold Writes; unfold Asks; unfold State.hotOn; decide +kernel⟩,
   ⟨mu m5, rw_ unit 0xC070 1 5 (be 2 8192), sx unit, 5, 8192, m5, by unfold Writes; unfold Asks; decide +kernel⟩,
   ⟨mu m5, rw_ unit 0xC070 2 5 (be 1 4), sx unit, 5, 4, m5, by unfold Writes; unfold Asks; decide +kernel⟩⟩

theorem test_witness_Readouts :
    (∃ (s : State) (r : Req) (x : Session) (m kind cls arg count : Nat) (y : Meter), Writes s r 0xC051 5 m (be 1 1) x
      ∧ s.meter? m = some y ∧ s.readoutRefusal y kind cls arg count = none ∧ (∀ q ∈ s.billing.readouts, q.id <
      s.billing.nextReadout) ∧ (kind ≤ 2 ∨ (s.mem.errors = [] ∧ s.billing.readouts = []))) ∧
    (∃ (s : State) (r : Req) (x : Session) (n kind cls : Nat) (y : Meter), Writes s r 0x4142 4 0 (be 1 1) x ∧ y ∈
      s.meters ∧ y.retiring = false ∧ (n = 0xFF ∨ y.slotMap = n) ∧ s.readoutRefusal y kind cls (if kind = 2 then
      ((s.periodsHeld y.number).getLast?.map (·.periodIndex)).getD 0 else 0) 96 = none ∧ (∀ q ∈ s.billing.readouts,
      q.id < s.billing.nextReadout) ∧ (kind ≤ 2 ∨ (s.mem.errors = [] ∧ s.billing.readouts = [] ∧ s.meters = [y]))) ∧
    (∃ (s : State) (tile pipe k : Nat) (pk : List (Word × Byte)) (x : Meter) (q : Readout) (key : Octets), Performs s
      2 tile pipe k (0x10 + pipe) pk x ∧ s.billing.readouts.find? (fun q => decide (q.id = packetHead pk / 4294967296)
      && q.phase == 1) = some q ∧ s.readoutRoot q.cls = some key ∧ q.mode = 1 ∧ q.done_ + 64 < q.text.length) ∧
    (∃ (s : State) (tile : Nat) (q : Readout), s.awake = true ∧ (s.billing.readouts.find? fun q => q.phase == 2 &&
      (match s.meter? q.meter with | some x => x.home == tile | none => tile == 0)) = some q ∧ (s.kat tile 1).faulted
      = false ∧ (s.kat tile 2).faulted = false) :=
  ⟨⟨mu m5, rw_ unit 0xC051 5 5 (be 1 1), sx unit, 5, 1, 7, 0, 0, m5, by unfold Writes; unfold Asks; decide +kernel⟩,
   ⟨mu m5, rw_ unit 0x4142 4 0 (be 1 1), sx unit, 0xFF, 1, 7, m5, by unfold Writes; unfold Asks; decide +kernel⟩,
   ⟨rs, 3, 7, 13, pkt (3 * 2 ^ 32 + 5) [], m5, ro, List.replicate 16 7,
     by unfold Performs; rw [firstBad_clean (rs) 3 _ rfl rfl]; decide +kernel⟩,
   ⟨rd, 3, r2, by decide +kernel⟩⟩

theorem test_witness_FlashTranslation :
    (∃ (s : State) (r : Req) (x : Session) (tile : Nat), Writes s r 0x600A 1 0 (be 1 tile) x ∧ tile < s.nTiles ∧
      s.boot.lifeCycle ≠ 2 ∧ s.boot.lifeCycle ≠ 4 ∧ s.nandUsable = true ∧ s.zoneLargeEnough tile (s.goodBlocks tile)
      (s.obj 0x6004 4) = true) ∧
    (∃ (s : State) (tile : Nat) (rs : List RingRecord) (e : RingRecord), s.nandWrites tile = true ∧ 512 ≤ ((s.flash
      tile).ring.countP fun r => !r.logged) ∧ rs = ((s.flash tile).ring.filter fun r => !r.logged).take 512 ∧
      rs.getLast? = some e ∧ ((s.flash tile).write false s.elapsed (recordPages (ringLogOwner e.hour) (s.flash
      tile).nextLogical rs)).2 = []) ∧
    (∃ (s a : State) (tile h : Nat) (rs : List RingRecord), a = s.hourTurn tile ∧ tile < s.nTiles ∧ a.hourToSeal tile
      = some h ∧ a.nandWrites tile = true ∧ rs = ((a.flash tile).ring.filter fun r => r.hour == h && !r.saved).take
      1048576 ∧ (∀ r ∈ rs, a.recordTier2 r = false) ∧ (((a.gcAhead tile false).flash tile).write false s.elapsed
      (recordPages s.store.nextSegment ((a.gcAhead tile false).flash tile).nextLogical (rs.mergeSort
      RingRecord.before))).2 = []) ∧
    (∃ (s : State) (tile h : Nat), s.awake = true ∧ s.hourToSeal tile = some h ∧ (h + 1) * 3600 + 600 < s.tbSeconds ∧
      (s.flash tile).lateHour ≠ some h) ∧
    (∃ (s a : State) (tile : Nat) (g : Segment) (v : Bool), a = (s.readSegment g fun _ => true).gcAhead tile true ∧
      s.slcSegment tile = some g ∧ s.nandWrites tile = true ∧ s.due g.sealedAt (s.obj 0x6004 1 * 1000000000) = true ∧
      ((a.flash tile).write true s.elapsed (recordPages g.id (a.flash tile).nextLogical g.records)).2 = [] ∧ v =
      ((a.writePages tile true 3 65536 (recordPages g.id (a.flash tile).nextLogical g.records)).2.verifyPages tile
      true g.id).1) ∧
    (∃ (s : State) (tile : Nat), s.awake = true) ∧
    (∃ (s : State) (tile k : Nat) (tlc : Bool) (b : Block), s.gcBlock tile tlc = some (k, b) ∧ s.nandWrites tile =
      true ∧ s.gcRuns tile tlc = true) ∧
    (∃ (s : State) (tile : Nat), tile < s.nTiles ∧ (s.flash tile).formatted = true ∧ s.partRuns = true ∧
      s.checkpointDue tile = true) ∧
    (∃ (s : State) (tile ms : Nat) (lost : List Nat), tile ∈ s.boot.restoringTiles) ∧
    (∃ (s : State) (r : Req) (x : Session) (before : Nat), Writes s r 0x6009 2 0 (be 1 1) x) ∧
    (∃ (s : State) (tile block pool reason : Nat), tile < s.nTiles ∧ (s.flash tile).formatted = true ∧ (s.flash
      tile).retired.contains block = false) :=
  ⟨⟨fm, rw_ unit 0x600A 1 0 (be 1 3), sx unit, 3, by unfold Writes; unfold Asks; decide +kernel⟩,
   ⟨rl, 3, (List.range 512).map rec, rec 511, by decide +kernel⟩,
   ⟨rs1, rs1.hourTurn 3, 3, 7, [rec 2], rfl, by rw [List.mergeSort_singleton]; decide +kernel⟩,
   ⟨rs3, 3, 7, by decide +kernel⟩,
   ⟨sg, sgA, 3, seg, sgV, rfl, by decide +kernel, by decide +kernel, by decide +kernel, by decide +kernel, rfl⟩,
   ⟨unit, 3, by decide +kernel⟩,
   ⟨gb, 3, 5, false, { tlc := false, refresh := true }, by decide +kernel⟩,
   ⟨{ fl fs with meters := [m5] }, 3, by decide +kernel⟩,
   ⟨rt, 3, 20, [], by decide +kernel⟩,
   ⟨sg, rw_ unit 0x6009 2 0 (be 1 1), { sx unit with lastAt := 10000000000000000, lastSeconds := 32400 }, 28799,
     by unfold Writes; unfold Asks; decide +kernel⟩,
   ⟨fl fs, 3, 77, 1, 2, by decide +kernel⟩⟩

end WitnessL

namespace WitnessM

def ks (l : List (Nat × KeySlot)) (s : State) : State := { s with keys := { s.keys with slots := l.foldl (fun t e => Tab.set t (slotKey e.1) e.2) s.keys.slots } }
def kw : KeySlot := { use := 2, type := 2, material := List.replicate 32 1, label := 9 }
def kd : KeySlot := { use := 3, type := 2, material := List.replicate 32 2, label := 9 }
def su (l : List (Nat × KeySlot)) : State := ks l unit
def hdr : Octets := be 4 0 ++ be 1 1 ++ be 1 0 ++ be 2 0 ++ be 4 0 ++ be 4 0
def blob : Octets := wrapKey (List.replicate 32 1) hdr (List.replicate 16 5)
def kf (p : Nat) : State := { unit with keys := { unit.keys with kats := [(3 * 16 + 4, { faulted := true, passes := p })] } }
def tk (lc : Nat) (arm : Nat) : State := let s := su [(6, kd)]; { s with boot := { s.boot with lifeCycle := lc }, clock := { s.clock with armed := arm } }
def tt (n lc arm : Nat) : Octets := (tk lc arm).tokenTag n []
def ukey : Octets := [1]
/-- A relay table of one relay at index 1, number 77; tunnel key root in slot 12; tunnel port 2 enabled. -/
def tu (relay : Bool) (r : Relay) : State :=
  let s := ((su [(12, kd)]).setDomain 0x3C03 1 (List.replicate 32 0 ++ be 4 77 ++ be 1 1 ++ List.replicate 27 0)).setObj 0x3C00 3 1
  { s with tunnel := { s.tunnel with relayMode := relay, relays := [(1, r)] } }
def dgm (kind relay seq : Nat) (key : Octets) : Octets :=
  let rec_ : Octets := be 1 1 ++ be 1 (3 * 32 + 5 * 4 + 2) ++ be 1 192 ++ be 1 76 ++ be 4 3 ++ be 4 9 ++ be 2 0xFFFF ++ be 2 0 ++ List.replicate 80 7
  let body := if kind = 2 then [] else rec_
  let d : Octets := be 2 0x544E ++ be 1 1 ++ be 1 kind ++ be 4 relay ++ be 4 seq ++ be 8 0 ++ be 1 (if kind = 2 then 0 else 1) ++ be 1 0 ++ be 2 (40 + body.length) ++ be 8 0 ++ body
  d ++ (cmac key d).take 8
def tkey : Octets := (su [(12, kd)]).derivedTunnelKey 77
def recs (d : Octets) : List (Octets × Octets) := (dgParse d).getD []
def tr : State := { tu true { state := 1 } with keys := { (su []).keys with slots := [(20, { use := 0, type := 1, origin := 1, material := List.replicate 16 3 })] } }
def fpk : List (Word × Byte) := pkt 0 (be 4 0x10000000 ++ be 4 5 ++ List.replicate 24 0)
def ru : State := let s := tu true {}; { s with tunnel := { s.tunnel with uplink := [List.replicate 24 1] } }

def ht : State := { unit with clock := { unit.clock with source := 3 } }
def ck (c : ClockState) : State := { unit with clock := c }
def ri : State := ck { tb := 2000000 * 2 ^ 32, armed := 0, fresh := true, state := 1, offset := 5 }
def ta : State := (((unit.setObj 0x7033 1 3).setObj 0x7033 2 7).setObj 0x7033 3 2000).setObj 0x7033 4 1000
def pm (type seq two flagsB : Nat) (src : Octets) (body : Octets) : Octets :=
  be 1 type ++ be 1 2 ++ be 2 (34 + body.length) ++ be 1 (unit.ptpDomain) ++ be 1 0 ++ be 1 two ++ be 1 flagsB ++ be 8 65536 ++ be 4 0 ++ src ++ be 2 seq ++ be 1 0 ++ be 1 0 ++ body
def par : Octets := List.replicate 10 5
def pk_ (c : ClockState) : State := ck { c with parent := par, tb := 1000 * 2 ^ 32, state := 2 }
def pp (c : ClockState) : State := (pk_ c).setObj 0x7021 2 1
def pe : PtpPending := { kind := 2, seq := 9, t1 := 4 }
def pmp (type seq two : Nat) (body : Octets) : Octets := let m := pm type seq two 0 par body; m.take 4 ++
  [BitVec.ofNat 8 (pp {}).ptpDomain] ++ m.drop 5
def an : Octets := pm 11 9 0 0 par (List.replicate 13 0 ++ be 1 1 ++ List.replicate 20 0)

theorem test_witness_KeyStore :
    (∃ (s : State) (r : Req) (x : Session) (n : Nat), Writes s r 0x5003 2 0 (be 1 1) x ∧ n ≤ 1023 ∧ s.slotBusy n =
      false) ∧
    (∃ (s : State) (r : Req) (x : Session) (kind wrap target inc epoch : Nat) (kek hdr k : Octets), Writes s r 0x5031
      6 0 (be 1 1) x ∧ x.lasts ∧ kind ≤ 2 ∧ (kind = 1 → target ≤ 14) ∧ (s.boot.lifeCycle = 1 ∨ s.boot.lifeCycle = 2) ∧
      (Tab.getD s.keys.kats 0 {}).faulted = false ∧ s.wrapSlot wrap = some kek ∧ s.exportKey kind target inc epoch =
      some (hdr, k)) ∧
    (∃ (s : State) (r : Req) (x : Session) (target wrap : Nat) (hdr blob kek k : Octets), Writes s r 0x5030 5 0 (be 1
      1) x ∧ x.lasts ∧ 64 ≤ target ∧ target ≤ 1023 ∧ s.keySlot target = none ∧ (Tab.getD s.keys.kats 0 {}).faulted =
      false ∧ s.gated 0 = false ∧ 1 ≤ fieldAt hdr 4 1 ∧ fieldAt hdr 4 1 ≤ 3 ∧ fieldAt hdr 5 1 ≤ 3 ∧ s.wrapSlot wrap =
      some kek ∧ unwrapKey kek (slice hdr 0 16) (slice blob 0 (if fieldAt hdr 4 1 = 1 then 24 else 40)) = some k) ∧
    (∃ (s : State) (r : Req) (x : Session) (sub v : Nat), Writes s r 0x5010 sub 0 (be 2 v) x ∧ sub ≤ 23 ∧ s.pendNum
      0x5010 sub < v) ∧
    (∃ (s : State) (r : Req) (x : Session) (sub v : Nat), Writes s r 0x5010 sub 0 (be 2 v) x ∧ 23 < sub ∧ s.pendNum
      0x5010 sub < v) ∧
    (∃ (s : State) (tile u vector : Nat), s.awake = true ∧ tile < s.nTiles ∧ u < 16 ∧ (s.kat tile u).faulted = false) ∧
    (∃ (s : State) (tile u vector : Nat), s.awake = true ∧ tile < s.nTiles ∧ u < 16 ∧ (s.kat tile u).faulted = false) ∧
    (∃ (s : State) (tile u : Nat), (s.kat tile u).faulted = true ∧ s.due (s.kat tile u).lastAt 100000000 = true) ∧
    (∃ (s : State) (tile u : Nat), (s.kat tile u).faulted = true ∧ s.due (s.kat tile u).lastAt 100000000 = true ∧
      (s.kat tile u).passes < 2) ∧
    (∃ (s : State) (tile u : Nat), (s.kat tile u).faulted = true ∧ s.due (s.kat tile u).lastAt 100000000 = true ∧ 2 ≤
      (s.kat tile u).passes) :=
  ⟨⟨su [(1023, kw)], rw_ unit 0x5003 2 0 (be 1 1), sx unit, 1023, by unfold Writes; unfold Asks; decide +kernel⟩,
   ⟨su [(8, kw), (16, kd)], rw_ unit 0x5031 6 0 (be 1 1), sx unit, 0, 8, 5, 1, 2, List.replicate 32 1, be 4 0x4D54524B
     ++ be 1 1 ++ be 1 0 ++ be 2 2 ++ be 4 5 ++ be 2 1 ++ be 2 2, meterKey (List.replicate 32 2) 5 1 2,
     by unfold Writes; unfold Session.lasts; unfold Asks; decide +kernel⟩,
   ⟨su [(8, kw)], rw_ unit 0x5030 5 0 (be 1 1), sx unit, 64, 8, hdr, blob, List.replicate 32 1, List.replicate 16 5,
     by unfold Writes; unfold Session.lasts; unfold Asks; decide +kernel⟩,
   ⟨unit, rw_ unit 0x5010 23 0 (be 2 2), sx unit, 23, 2, by unfold Writes; unfold Asks; decide +kernel⟩,
   ⟨unit, rw_ unit 0x5010 24 0 (be 2 2), sx unit, 24, 2, by unfold Writes; unfold Asks; decide +kernel⟩,
   ⟨unit, 3, 4, 7, by decide +kernel⟩,
   ⟨unit, 3, 4, 7, by decide +kernel⟩,
   ⟨kf 0, 3, 4, by decide +kernel⟩,
   ⟨kf 0, 3, 4, by decide +kernel⟩,
   ⟨kf 2, 3, 4, by decide +kernel⟩⟩

theorem test_witness_OwnerTokens :
    (∃ (s : State) (r : Req) (x : Session) (params tag : Octets), Writes s r 0x5040 5 0 (be 1 1) x ∧ (∀ b ∈ params, b
      = 0) ∧ s.tokenValid 1 params tag = true) ∧
    (∃ (s : State) (r : Req) (x : Session) (params tag : Octets), Writes s r 0x5040 5 0 (be 1 1) x ∧ (∀ b ∈ params, b
      = 0) ∧ s.tokenValid 2 params tag = true) ∧
    (∃ (s : State) (r : Req) (x : Session) (params tag : Octets), Writes s r 0x5040 5 0 (be 1 1) x ∧ (∀ b ∈ params, b
      = 0) ∧ s.tokenValid 3 params tag = true ∧ s.mayEnterService = true) ∧
    (∃ (s : State) (r : Req) (x : Session) (params tag : Octets), Writes s r 0x5040 5 0 (be 1 1) x ∧ (∀ b ∈ params, b
      = 0) ∧ s.tokenValid 4 params tag = true ∧ s.mayLeaveService = true) ∧
    (∃ (s : State) (r : Req) (x : Session) (params tag : Octets), Writes s r 0x5040 5 0 (be 1 1) x ∧ (∀ b ∈ params, b
      = 0) ∧ s.tokenValid 5 params tag = true ∧ s.clock.armed = 0) ∧
    (∃ (s : State) (r : Req) (x : Session) (params tag : Octets), Writes s r 0x5040 5 0 (be 1 1) x ∧ (∀ b ∈ params, b
      = 0) ∧ s.tokenValid 6 params tag = true ∧ s.mayEnterVoid = true) :=
  ⟨⟨tk 2 1, rw_ unit 0x5040 5 0 (be 1 1), sx unit, [], tt 1 2 1, by unfold Writes; unfold Asks; decide +kernel,
    by decide +kernel, by unfold State.tokenValid; exact (Bool.and_eq_true _ _).mpr ⟨by decide +kernel,
    beq_self_eq_true _⟩⟩,
   ⟨tk 2 1, rw_ unit 0x5040 5 0 (be 1 1), sx unit, [], tt 2 2 1, by unfold Writes; unfold Asks; decide +kernel,
     by decide +kernel, by unfold State.tokenValid; exact (Bool.and_eq_true _ _).mpr ⟨by decide +kernel,
     beq_self_eq_true _⟩⟩,
   ⟨tk 2 1, rw_ unit 0x5040 5 0 (be 1 1), sx unit, [], tt 3 2 1, by unfold Writes; unfold Asks; decide +kernel,
     by decide +kernel, by unfold State.tokenValid; exact (Bool.and_eq_true _ _).mpr ⟨by decide +kernel,
     beq_self_eq_true _⟩, by decide +kernel⟩,
   ⟨tk 3 1, rw_ unit 0x5040 5 0 (be 1 1), sx unit, [], tt 4 3 1, by unfold Writes; unfold Asks; decide +kernel,
     by decide +kernel, by unfold State.tokenValid; exact (Bool.and_eq_true _ _).mpr ⟨by decide +kernel,
     beq_self_eq_true _⟩, by decide +kernel⟩,
   ⟨tk 2 0, rw_ unit 0x5040 5 0 (be 1 1), sx unit, [], tt 5 2 0, by unfold Writes; unfold Asks; decide +kernel,
     by decide +kernel, by unfold State.tokenValid; exact (Bool.and_eq_true _ _).mpr ⟨by decide +kernel,
     beq_self_eq_true _⟩, by decide +kernel⟩,
   ⟨tk 2 1, rw_ unit 0x5040 5 0 (be 1 1), sx unit, [], tt 6 2 1, by unfold Writes; unfold Asks; decide +kernel,
     by decide +kernel, by unfold State.tokenValid; exact (Bool.and_eq_true _ _).mpr ⟨by decide +kernel,
     beq_self_eq_true _⟩, by decide +kernel⟩⟩

theorem test_witness_Tunnels :
    (∃ (s : State) (port i : Nat) (d : Octets) (rs : List (Octets × Octets)), s.power.pilot < 2 ∧ s.tunnelOpen port =
      true ∧ (s.pair.state = 0 ∨ s.pair.baton = true) ∧ s.checkDatagram d 0 = .ok (i, rs) ∧ (Tab.getD s.tunnel.buffers
      port []).length + rs.length ≤ 16384) ∧
    (∃ (s : State) (port c : Nat) (d : Octets), s.power.pilot < 2 ∧ s.tunnelOpen port = true ∧ (s.pair.state = 0 ∨
      s.pair.baton = true) ∧ s.checkDatagram d 0 = .error c) ∧
    (∃ (s : State) (port i : Nat) (d : Octets) (rs : List (Octets × Octets)), s.power.pilot < 2 ∧ s.tunnelOpen port =
      true ∧ s.checkDatagram d 2 = .ok (i, rs)) ∧
    (∃ (s : State) (port i : Nat) (d : Octets) (rs : List (Octets × Octets)), s.power.pilot < 2 ∧ s.tunnel.relayMode =
      true ∧ s.tunnelOpen port = true ∧ s.checkDatagram d 1 = .ok (i, rs)) ∧
    (∃ (s : State) (i : Nat), s.awake = true ∧ (Tab.getD s.tunnel.relays i {}).state = 1 ∧ s.due (Tab.getD
      s.tunnel.relays i {}).heardAt (3 * s.obj 0x3C02 1 * 1000000) = true) ∧
    (∃ (s : State) (port : Nat) (pk : List (Word × Byte)) (rest : List (List (Word × Byte))), port < 3 ∧ s.partRuns =
      true ∧ Tab.getD s.tunnel.buffers port [] = pk :: rest ∧ s.directory (packetMeter pk) = none ∧ s.takes 0 0xA1
      .forwarder pk.length) ∧
    (∃ (s : State), s.awake = true ∧ s.tunnel.relayMode = true ∧ s.tunnel.uplink ≠ [] ∧ s.tunnelKeyed = true ∧ (s.due
      s.tunnel.uplinkAt 1000000 = true ∨ 12 ≤ s.tunnel.uplink.length)) ∧
    (∃ (s : State), s.awake = true ∧ s.tunnel.relayMode = true ∧ s.tunnelKeyed = true ∧ s.due s.tunnel.lastUplinkAt
      (s.obj 0x3C02 1 * 1000000) = true) :=
  ⟨⟨tu false { state := 1 }, 2, 1, dgm 0 77 9 tkey, recs (dgm 0 77 9 tkey), by decide +kernel⟩,
   ⟨tu false { state := 1 }, 2, 2, dgm 0 78 9 tkey, by decide +kernel⟩,
   ⟨tu false { state := 1 }, 2, 1, dgm 2 77 9 tkey, [], by decide +kernel⟩,
   ⟨tr, 2, 0, dgm 1 77 9 (List.replicate 16 3), recs (dgm 1 77 9 (List.replicate 16 3)), by decide +kernel⟩,
   ⟨{ tu false { state := 1 } with elapsed := 50000000000000 }, 1, by decide +kernel⟩,
   ⟨{ unit with tunnel := { unit.tunnel with buffers := [(2, [fpk])] } }, 2, fpk, [],
     by unfold State.takes; decide +kernel⟩,
   ⟨ru, by decide +kernel⟩,
   ⟨{ ru with elapsed := 50000000000000 }, by decide +kernel⟩⟩

theorem test_witness_Timebase :
    (∃ (s : State) (r : Req) (x : Session) (sec ns : Nat), Writes s r 0x7020 3 0 (be 1 1) x ∧ ns ≤ 999999999 ∧
      s.clock.source = 3) ∧
    (∃ (s : State) (d : Int), s.stepDue = some d) ∧
    (∃ (s : State), (s.clock.state = 1 ∨ s.clock.state = 2) ∧ s.due s.clock.sampleAt (s.obj 0x7005 4 * 1000000000) =
      true) ∧
    (∃ (s : State) (e : Nat), s.clock.armUntil = some e ∧ s.clock.armed = 1 ∧ e ≤ s.elapsed) ∧
    (∃ (s : State) (tile : Nat) (e : Int), s.alignsNow tile = true) ∧
    (∃ (s a : State), s.tbMs ≠ s.clock.servoMs ∧ s.stepDue = none ∧ a =
      ({ s with clock := { s.clock with servoMs := s.tbMs } } : State).rampStep) ∧
    (∃ (s : State) (code sec : Nat), s.clock.newSource = some (code, sec) ∧ sec ≤ s.tbSeconds) ∧
    (∃ (s : State) (r : Req) (x : Session) (n : Nat), n < 4 ∧ Writes s r (0x7030 + n) 6 0 (be 1 1) x ∧ s.armRefused
      (s.outRecord n) = false) ∧
    (∃ (s : State) (n : Nat) (e : Int), n < 4 ∧ s.nextPulse (s.timeOut n) = some e ∧ e ≤ (s.tbNs : Int) ∧
      s.clock.state ≠ 0) ∧
    (∃ (s : State), s.boot.phase = 9) :=
  ⟨⟨ht, rw_ unit 0x7020 3 0 (be 1 1), sx unit, 7, 999999999, by unfold Writes; unfold Asks; decide +kernel⟩,
   ⟨ck { step := some (-500, 0), tb := 1000 * 2 ^ 32 }, -500, by decide +kernel⟩,
   ⟨{ ck { state := 2 } with elapsed := 5000000000000 }, by decide +kernel⟩,
   ⟨ck { armUntil := some 5000000000, armed := 1 }, 5000000000, by decide +kernel⟩,
   ⟨unit, 3, -9, by decide +kernel⟩,
   ⟨ri, ({ ri with clock := { ri.clock with servoMs := ri.tbMs } } : State).rampStep, by decide +kernel,
     by decide +kernel, rfl⟩,
   ⟨ck { newSource := some (3, 0) }, 3, 0, by decide +kernel⟩,
   ⟨ta, rw_ unit 0x7033 6 0 (be 1 1), sx unit, 3, by unfold Writes; unfold Asks; decide +kernel⟩,
   ⟨ck
     { tb := 1000 * 2 ^ 32, state := 2, outs := [(3, { mode := 2, start := 1000, period := 2000, width := 1000, status := 1 })] },
     3, 1000, by decide +kernel⟩,
   ⟨ck { tb := 1001 * 2 ^ 32 }, by decide +kernel⟩⟩

theorem test_witness_PtpSlave :
    (∃ (s : State) (port : Nat) (m : Octets), s.ptpTakes port m = true ∧ s.clock.parent = ptpSource m ∧ ptpTwoStep m =
      true ∧ syncIntervalOk m = true) ∧
    (∃ (s : State) (port : Nat) (m : Octets), s.ptpTakes port m = true ∧ s.clock.parent = ptpSource m ∧ ptpTwoStep m =
      false ∧ syncIntervalOk m = true) ∧
    (∃ (s : State) (port : Nat) (m : Octets) (e : PtpPending), s.ptpTakes port m = true ∧ s.clock.parent = ptpSource m
      ∧ (s.clock.pending.find? fun e => e.kind == 0 && e.seq == ptpSeq m) = some e) ∧
    (∃ (s : State) (port : Nat) (m : Octets) (e : PtpPending), s.ptpTakes port m = true ∧ s.ptpPower = false ∧
      s.clock.parent = ptpSource m ∧ slice m 44 10 = ptpPortIdentity ∧ (s.clock.pending.find? fun e => e.kind == 1 &&
      e.seq == ptpSeq m) = some e) ∧
    (∃ (s : State) (port : Nat) (m : Octets) (e : PtpPending), s.ptpTakes port m = true ∧ s.ptpPower = true ∧ slice m
      44 10 = ptpPortIdentity ∧ (s.clock.pending.find? fun e => e.kind == 2 && e.seq == ptpSeq m) = some e ∧ ptpType m
      = 0xA) ∧
    (∃ (s : State) (port : Nat) (m : Octets) (e : PtpPending), s.ptpTakes port m = true ∧ s.ptpPower = true ∧ slice m
      44 10 = ptpPortIdentity ∧ (s.clock.pending.find? fun e => e.kind == 2 && e.seq == ptpSeq m) = some e ∧ ptpType m
      ≠ 0xA ∧ ptpTwoStep m = false) ∧
    (∃ (s : State) (port : Nat) (m : Octets) (e : PtpPending), s.ptpTakes port m = true ∧ s.ptpPower = true ∧ slice m
      44 10 = ptpPortIdentity ∧ (s.clock.pending.find? fun e => e.kind == 2 && e.seq == ptpSeq m) = some e ∧ ptpType m
      ≠ 0xA ∧ ptpTwoStep m = true) ∧
    (∃ (s : State) (port : Nat) (m : Octets), s.ptpTakes port m = true ∧ s.clock.parent ≠ ptpSource m ∧ (s.obj 0x7021
      3 ≠ 0 ∨ rankLess s.ownRank (announceRank m) = false) ∧ (s.clock.parent = [] ∨ rankLess (announceRank m)
      s.clock.parentPriority = true)) ∧
    (∃ (s : State), s.clock.parent ≠ [] ∧ s.due s.clock.announceAt (3 * intervalNs s.clock.announceInterval) = true) :=
  ⟨⟨pk_ {}, 0, pm 0 9 2 0 par (List.replicate 10 0), by decide +kernel⟩,
   ⟨pk_ {}, 0, pm 0 9 0 0 par (be 6 1 ++ be 4 7), by decide +kernel⟩,
   ⟨pk_ { pending := [{ kind := 0, seq := 9, t1 := 4, t2 := 6 }] }, 0, pm 8 9 0 0 par (be 6 1 ++ be 4 7),
     { kind := 0, seq := 9, t1 := 4, t2 := 6 }, by decide +kernel⟩,
   ⟨pk_ { pending := [{ kind := 1, seq := 9, t1 := 4 }] }, 0, pm 9 9 0 0 par (be 6 1 ++ be 4 7 ++ ptpPortIdentity),
     { kind := 1, seq := 9, t1 := 4 }, by decide +kernel, by decide +kernel, by decide +kernel,
     by first | decide +kernel | rfl, by decide +kernel⟩,
   ⟨pp { pending := [pe] }, 0, pmp 0xA 9 0 (be 6 1 ++ be 4 7 ++ ptpPortIdentity), pe, by decide +kernel,
     by decide +kernel, by first | decide +kernel | rfl, by decide +kernel, by decide +kernel⟩,
   ⟨pp { pending := [pe] }, 0, pmp 3 9 0 (be 6 1 ++ be 4 7 ++ ptpPortIdentity), pe, by decide +kernel,
     by decide +kernel, by first | decide +kernel | rfl, by decide +kernel, by decide +kernel, by decide +kernel⟩,
   ⟨pp { pending := [pe] }, 0, pmp 3 9 2 (be 6 1 ++ be 4 7 ++ ptpPortIdentity), pe, by decide +kernel,
     by decide +kernel, by first | decide +kernel | rfl, by decide +kernel, by decide +kernel, by decide +kernel⟩,
   ⟨ck { state := 2 }, 0, an, by decide +kernel⟩,
   ⟨{ pk_ {} with elapsed := 5000000000000 }, by decide +kernel⟩⟩

theorem test_witness_PtpMessages :
    (∃ (s : State) (port n : Nat) (m : Octets), s.ptpTakes port m = true ∧ s.ptpPower = true ∧ s.ptpSends port = true) ∧
    (∃ (s : State) (port : Nat), s.clock.portState = 6 ∧ s.ptpSends port = true ∧ s.due s.clock.syncAt 1000000000 =
      true) ∧
    (∃ (s : State) (port : Nat), s.ptpSends port = true ∧ s.due s.clock.requestAt 1000000000 = true ∧ (s.ptpPower =
      true ∨ s.clock.parent ≠ [])) ∧
    (∃ (s : State) (port : Nat) (m : Octets), s.ptpTakes port m = true ∧ (ptpType m = 0xC ∨ ptpType m = 0xD ∨
      ptpUnicast m = true)) :=
  ⟨⟨pp {}, 0, 77, pmp 2 9 0 (List.replicate 20 0), by decide +kernel⟩,
   ⟨pk_ { portState := 6 }, 0, by decide +kernel⟩,
   ⟨pk_ {}, 0, by decide +kernel⟩,
   ⟨pk_ {}, 0, pm 0xC 9 0 0 par [], by decide +kernel⟩⟩

end WitnessM

namespace WitnessN

def pa (p : PairState) : State := { unit with pair := { p with linkUp := true, recvSeq := 4 } }
def m5 : Meter := { number := 5, home := 3, group := 7, record := 9, hot := [BitVec.ofNat 64 (5 * 2 ^ 32 + 2 ^ 16), 0, 0, 0, 0, 0, 0, 0, 0, 0, 0, 0, 0, 0, 0, 0] }
def el : PairState := { state := 2, baton := true, heartbeatHeat := 1, peerState := 4, peerFlags := 64 }
def md : Octets := be 8 (5 * 2 ^ 32 + 9) ++ List.replicate 112 0 ++ (List.range 64).flatMap (fun i => be 8 i)
def tp (p : PairState) (c : ClockState) : State := { pa p with clock := { c with source := 4, tb := 10 ^ 9 * 2 ^ 32 } }
def tb1 (p : PairState) : State := { pa p with clock := { unit.clock with tb := 10 ^ 12 * 2 ^ 32 } }
def kd : KeySlot := { use := 3, type := 2, material := List.replicate 32 2, label := 9 }
def tu2 : State :=
  let s := (pa { state := 4 }).setDomain 0x3C03 1 (List.replicate 32 0 ++ be 4 77 ++ be 1 1 ++ List.replicate 27 0) |>.setObj 0x3C00 3 1
  { s with tunnel := { s.tunnel with relays := [(1, { state := 1 })] }, keys := { s.keys with slots := [(slotKey 12, kd)] } }
def dgm (kind relay seq : Nat) (key : Octets) : Octets :=
  let rec_ : Octets := be 1 1 ++ be 1 (3 * 32 + 5 * 4 + 2) ++ be 1 192 ++ be 1 76 ++ be 4 3 ++ be 4 9 ++ be 2 0xFFFF ++ be 2 0 ++ List.replicate 80 7
  let d : Octets := be 2 0x544E ++ be 1 1 ++ be 1 kind ++ be 4 relay ++ be 4 seq ++ be 8 0 ++ be 1 1 ++ be 1 0 ++ be 2 (40 + rec_.length) ++ be 8 0 ++ rec_
  d ++ (cmac key d).take 8

theorem test_witness_PairRoles :
    (∃ (s : State) (seq ack u tiles state check : Nat) (p : Bool) (m : Octets), s.hears seq) ∧
    (∃ (s : State) (seq ack state flags heat : Nat), s.hears seq) ∧
    (∃ (s : State), s.pair.state = 1 ∧ s.pair.batonIn ≠ 2 ∧ s.due (max s.pair.startedAt s.pair.heardAt) (s.obj 0x8002
      3 * 1000000) = true) ∧
    (∃ (s : State) (holding : Bool), s.pair.state ≠ 0 ∧ s.partRuns = true) ∧
    (∃ (s : State), s.pair.state = 4 ∧ s.pair.baton = false ∧ s.partRuns = true ∧ s.pair.batonIn = 2 ∧ s.pair.takeAt =
      none) ∧
    (∃ (s : State) (e : Nat),
      s.isStandby = true ∧ s.partRuns = true ∧ s.pair.batonIn ≠ 0 ∧ s.pair.heartbeatLost = some e) ∧
    (∃ (s : State), s.awake = true ∧ 1 < s.pair.state ∧ s.pair.heartbeatLost = none ∧ s.pair.heartbeatHeat + s.obj
      0x9020 6 ≤ s.heat.count) ∧
    (∃ (s : State) (reason : Nat), s.onBoundary = true ∧ s.takeDue = some reason) ∧
    (∃ (s : State), s.onBoundary = true ∧ s.pair.state ≠ 0 ∧ s.pair.baton = true ∧ s.pair.failures.contains 13 = true) ∧
    (∃ (s : State) (n : Nat), s.onBoundary = true ∧ s.pair.state ≠ 0 ∧ s.pair.baton = true ∧ n ∈ s.pair.failures ∧ n <
      8 ∧ s.pair.failures.contains 13 = false ∧ s.planDue = false ∧ s.peerEligible = true) ∧
    (∃ (s : State) (seq ack reason checks at_ : Nat), s.hears seq ∧ s.isStandby = true) ∧
    (∃ (s : State) (seq ack at_ : Nat), s.hears seq) ∧
    (∃ (s : State) (seq ack p kind : Nat), s.hears seq ∧ s.pair.state = 2 ∧ s.planRefused = false) ∧
    (∃ (s : State) (seq ack p kind : Nat), s.hears seq ∧ s.pair.state ≠ 2 ∧ kind ≠ 255) ∧
    (∃ (s : State) (e : Nat), s.pair.diagnosedAt = some e ∧ s.pair.preferred = true ∧ s.pairEligible = true ∧ s.obj
      0x8002 1 = 1 ∧ s.pair.plan = none ∧ s.heartbeatCurrent = true ∧ s.due (max e s.pair.standbyAt) (s.obj 0x8002 2 *
      1000000000) = true) ∧
    (∃ (s : State) (r : Req) (x : Session), Writes s r 0x8006 1 0 (be 1 1) x ∧ s.pair.state = 2 ∧ s.planRefused =
      false) ∧
    (∃ (s : State) (r : Req) (x : Session), Writes s r 0x8006 1 0 (be 1 2) x) :=
  ⟨⟨pa { state := 1 }, 5, 0, 9, 4, 3, 0, true, [], by unfold State.hears; decide +kernel⟩,
   ⟨pa { state := 4 }, 5, 0, 2, 64, 9, by unfold State.hears; decide +kernel⟩,
   ⟨{ pa { state := 1 } with elapsed := 500000000000 }, by decide +kernel⟩,
   ⟨pa { state := 4 }, true, by decide +kernel⟩,
   ⟨pa { state := 4, batonIn := 2 }, by decide +kernel⟩,
   ⟨pa { state := 4, batonIn := 2, heartbeatLost := some 7 }, 7, by decide +kernel⟩,
   ⟨{ pa { state := 4, heartbeatHeat := 1 } with heat := { unit.heat with count := 1000000 } }, by decide +kernel⟩,
   ⟨pa { state := 4, takeAt := some (0, 1), quarantine := true, paused := true }, 1, by decide +kernel⟩,
   ⟨pa { state := 2, baton := true, failures := [13] }, by decide +kernel⟩,
   ⟨pa { el with failures := [7] }, 7, by decide +kernel⟩,
   ⟨pa { state := 4 }, 5, 0, 3, 8, 77, by unfold State.hears; decide +kernel⟩,
   ⟨pa { state := 2, baton := true }, 5, 0, 77, by unfold State.hears; decide +kernel⟩,
   ⟨pa el, 5, 0, 77, 1, by unfold State.hears; decide +kernel⟩,
   ⟨pa { state := 4 }, 5, 0, 77, 1, by unfold State.hears; decide +kernel⟩,
   ⟨{ (pa { state := 4, diagnosedAt := some 0, preferred := true, heartbeatHeat := 1 }).setObj 0x8002 1 1 with elapsed := 10 ^ 18 },
     0, by decide +kernel⟩,
   ⟨pa el, rw_ unit 0x8006 1 0 (be 1 1), sx unit, by unfold Writes; unfold Asks; decide +kernel⟩,
   ⟨pa { state := 4, held := true, resigned := [1] }, rw_ unit 0x8006 1 0 (be 1 2), sx unit,
     by unfold Writes; unfold Asks; decide +kernel⟩⟩

theorem test_witness_PairSync :
    (∃ (s : State) (seq ack key : Nat) (data : Octets) (x : Meter), s.hears seq ∧ s.pair.state = 3 ∧ s.meter? key =
      some x) ∧
    (∃ (s : State) (seq ack key : Nat) (data : Octets), s.hears seq ∧ s.pair.state = 3) ∧
    (∃ (s : State), s.pauseDue = true) ∧
    (∃ (s : State), s.releaseDue = true ∧ s.pair.state = 3) ∧
    (∃ (s : State), s.releaseDue = true ∧ s.pair.state ≠ 3) ∧
    (∃ (s : State) (e : Nat), s.pair.sync.restartAt = some e ∧ e ≤ s.elapsed ∧ s.pair.state = 5 ∧ s.pair.mismatch =
      false) ∧
    (∃ (s : State) (r : Req) (x : Session), Writes s r 0x8006 1 0 (be 1 3) x ∧
      s.isStandby = true ∧ s.pair.mismatch = false ∧ s.pair.state ≠ 6) ∧
    (∃ (s : State) (seq ack at_ kind : Nat) (args : List Nat) (data : Octets), s.hears seq ∧
      s.isStandby = true ∧ kind ≠ 17 ∧ kind ≠ 23 ∧ kind ≠ 26) ∧
    (∃ (s : State), s.mirrorUp = true ∧ s.pair.state = 2 ∧ (∃ m ∈ s.pair.unacked, m.kind = 7 ∧ s.due m.sentAt 1000000
      = true)) ∧
    (∃ (s : State) (m : MirrorMessage), s.mirrorUp = true ∧ m ∈ s.pair.unacked ∧ s.due m.sentAt 2000 = true) ∧
    (∃ (s : State) (seq ack t1 t2 t3 t4 stepAt : Nat) (step : Int), s.hears seq ∧
      s.isStandby = true ∧ s.clock.source = 4 ∧ ((((t2 : Int) - t1) + ((t3 : Int) - t4)) / 2).natAbs ≤ 1000) ∧
    (∃ (s : State) (seq ack t1 t2 t3 t4 : Nat) (step : Int), s.hears seq ∧
      s.isStandby = true ∧ s.clock.source = 4 ∧ 1000 < ((((t2 : Int) - t1) + ((t3 : Int) - t4)) / 2).natAbs ∧ s.clock.step = none ∧ s.pair.state = 4 ∧ s.pair.mismatch = false) ∧
    (∃ (s : State) (seq ack port i : Nat) (d : Octets) (rs : List (Octets × Octets)), s.hears seq ∧
      s.isStandby = true ∧ s.tunnelOpen port = true ∧ s.checkDatagram d 0 = .ok (i, rs) ∧ (Tab.getD s.tunnel.buffers
      port []).length + rs.length ≤ 16384) ∧
    (∃ (s : State) (tiles : Nat) (ring pacer cipher march : Bool), s.fabric.diagnosis.isSome = true ∧ s.pair.state = 6
      ∧ s.pair.mismatch = false) :=
  ⟨⟨{ pa { state := 3 } with meters := [{ number := 4 }, m5] }, 5, 0, 5, md, m5,
    by unfold State.hears; decide +kernel⟩,
   ⟨pa { state := 3 }, 5, 0, 1, be 8 99, by unfold State.hears; decide +kernel⟩,
   ⟨pa { state := 2, baton := true, sync := { phase := 2 } }, by decide +kernel⟩,
   ⟨pa { state := 3, sync := { phase := 4 }, preferred := false }, by decide +kernel⟩,
   ⟨pa { state := 2, baton := true, sync := { phase := 4 } }, by decide +kernel⟩,
   ⟨pa { state := 5, sync := { restartAt := some 0 } }, 0, by decide +kernel⟩,
   ⟨pa { state := 4 }, rw_ unit 0x8006 1 0 (be 1 3), sx unit, by unfold Writes; unfold Asks; decide +kernel⟩,
   ⟨pa { state := 4 }, 5, 0, 77, 9, [1], [2], by unfold State.hears; decide +kernel⟩,
   ⟨pa { state := 2, baton := true, unacked := [{ seq := 3, kind := 7 }] }, by decide +kernel⟩,
   ⟨pa { state := 2, baton := true, unacked := [{ seq := 3, kind := 7 }, { seq := 4, kind := 9, body := [1] }] },
     { seq := 4, kind := 9, body := [1] }, by decide +kernel⟩,
   ⟨tp { state := 4 } {}, 5, 0, 1000, 2500, 2500, 2000, 0, 0, by unfold State.hears; decide +kernel⟩,
   ⟨tp { state := 4 } {}, 5, 0, 1000, 3500, 4500, 2000, 0, by unfold State.hears; decide +kernel⟩,
   ⟨tu2, 5, 0, 2, 1, dgm 0 77 9 (tu2.derivedTunnelKey 77), (dgParse (dgm 0 77 9 (tu2.derivedTunnelKey 77))).getD [],
     by unfold State.hears; decide +kernel⟩,
   ⟨{ pa { state := 6 } with fabric := { unit.fabric with diagnosis := some { startedAt := 0 } } }, 15, true, true,
     true, true, by decide +kernel⟩⟩

theorem test_witness_DigestsAndRepair :
    (∃ (s : State) (seq ack bin x n : Nat), s.hears seq ∧ (s.pair.state ≠ 4 ∨ (s.pair.bins.countP fun e => e.2.closed)
      < 256)) ∧
    (∃ (s : State) (bin : Nat), s.pair.state ≠ 0 ∧ (Tab.getD s.pair.bins bin {}).closed = false ∧ bin + 1 + s.obj
      0x8004 1 ≤ s.tbMs ∧ (s.pair.bins.countP fun e => e.2.closed) < 256) ∧
    (∃ (s : State) (seq ack bin : Nat), s.hears seq) ∧
    (∃ (s : State) (seq ack bin : Nat) (es : List Nat), s.hears seq ∧ s.pair.state = 4) ∧
    (∃ (s : State) (seq ack m : Nat) (ms : List Nat) (x : Meter), s.hears seq ∧ m ∈ ms ∧ s.meter? m = some x ∧
      s.barred x.home Producer.dma.code (x.hotWords.map (·.2)) = none ∧ (∀ w ∈ x.hotWords, s.unwritten x.home w.2 =
      false) ∧ s.mem.errors = []) ∧
    (∃ (s : State) (seq ack m : Nat) (o : Octets) (x : Meter), s.hears seq ∧ s.meter? m = some x ∧ m ∈
      s.pair.repairing) ∧
    (∃ (s : State) (seq ack m : Nat), s.hears seq) ∧
    (∃ (s : State) (seq ack m : Nat), s.hears seq) :=
  ⟨⟨pa { state := 4 }, 5, 0, 9, 8, 7, by unfold State.hears; decide +kernel⟩,
   ⟨tb1 { state := 4 }, 9, by decide +kernel⟩,
   ⟨pa { state := 4 }, 5, 0, 9, by unfold State.hears; decide +kernel⟩,
   ⟨pa { state := 4, bins := [(9, { closed := true })] }, 5, 0, 9, [5, 7, 6, 8],
     by unfold State.hears; decide +kernel⟩,
   ⟨{ pa { state := 2, baton := true } with meters := [m5] }, 5, 0, 5, [4, 5], m5,
     by unfold State.hears; decide +kernel⟩,
   ⟨{ pa { state := 4, repairing := [5] } with meters := [m5] }, 5, 0, 5, md, m5,
     by unfold State.hears; decide +kernel⟩,
   ⟨pa { state := 4 }, 5, 0, 5, by unfold State.hears; decide +kernel⟩,
   ⟨pa { state := 4, flagged := [(5, 1, none)] }, 5, 0, 5, by unfold State.hears; decide +kernel⟩⟩

end WitnessN

namespace WitnessO

def ra (i sub m : Nat) (op : Nat) (f : Bool) (off : Nat) (d : Octets) : Ask := { op := op, flags := 128 * bit01 f, index := i, sub := sub, meter := m, offset := off, data := d }
def m5 : Meter := { number := 5, home := 3, group := 7, record := 9, hot := [BitVec.ofNat 64 (5 * 2 ^ 32 + 2 ^ 16), 0, 0, 0, 0, 0, 0, 0, 0, 0, 0, 0, 0, 0, 0, 0] }
def mu : State := { unit with meters := [m5] }
def wd : ObjRow := (findRow 0x2400 1).getD (objRow 1 1 1 (.u 1) .ro 0 0 none none false false false)
def wp : ObjRow := (findRow 0x4142 1).getD (objRow 1 1 1 (.u 1) .ro 0 0 none none false false false)
def wl : ObjRow := (findRow 0x1022 2).getD (objRow 1 1 1 (.u 1) .ro 0 0 none none false false false)
def wi : ObjRow := (findRow 0x3001 16).getD (objRow 1 1 1 (.u 1) .ro 0 0 none none false false false)
def su : State := { unit with dict := { unit.dict with lastSession := 1 }, keys := { unit.keys with slots := [(slotKey 10, {})] } }
def cr : Req := { session := 1, msgSeq := 1, tag := 7, mac := hostTag (unit.keyMaterial (tileSlotKey 0 768)) 7 1 1 [] }
def so (x : Session) (e : Nat) : State := { unit with dict := { unit.dict with sessions := [x] }, elapsed := e }
def q1 : SessionRequest := { tag := 7, body := (ra 0x1000 5 0 1 false 0 []).body 7, final := false, answered := false }
def c1 : Capture := { index := 0x2400, sub := 1, meter := 0, generation := 0 }
def mb : State := { unit with dict := { unit.dict with mailboxState := 1 } }
def hr : State := { mb with dict := { mb.dict with channels := [{}, { heldReplies := [([1], 0)] }] } }
def cf : State := { unit.setObj 0x1022 2 9 with boot := { unit.boot with lifeCycle := 3 } }

def et : State := (unit.setObj 0x1010 2 1).setVal 0x1012 2 (.oct (List.replicate 16 9)) |>.setVal 0x1014 2 (.oct [1,
  2, 3, 4])

theorem test_witness_Requests :
    (∃ (s : State) (r : Req) (x : Session), Asks s r { op := 6 } x ∧ s.hasRoom x.transport) ∧
    (∃ (s : State) (r : Req) (x : Session) (index sub m : Nat) (f : Bool) (a : Ask), a =
      { op := 1, flags := 128 * bit01 f, index := index, sub := sub, meter := m } ∧ Asks s r a x ∧ s.hasRoom
      x.transport ∧ (needsQuery index = false ∨ sub = 0)) ∧
    (∃ (s : State) (r : Req) (x : Session) (index sub m : Nat) (f : Bool) (a : Ask), a =
      { op := 1, flags := 128 * bit01 f, index := index, sub := sub, meter := m } ∧ Asks s r a x ∧ needsQuery index =
      true ∧ sub ≠ 0 ∧ ((s.taken r a).enqueue m 2 (requestPacket (s.dict.lastQuery % 4294967295 + 1) m)).1 = true) ∧
    (∃ (s : State) (r : Req) (x : Session) (index m : Nat) (f : Bool) (a : Ask), a =
      { op := 5, flags := 128 * bit01 f, index := index, meter := m } ∧ Asks s r a x ∧ s.hasRoom x.transport ∧
      needsQuery index = false) ∧
    (∃ (s : State) (r : Req) (x : Session) (index sub m : Nat) (f : Bool) (a : Ask) (w : ObjRow) (v : Val), a =
      { op := 3, flags := 128 * bit01 f, index := index, sub := sub, meter := m } ∧ Asks s r a x ∧ x.lasts ∧ findRow
      index sub = some w ∧ w.ty = .domain ∧ (s.taken r a).valueOf x w index sub m f = some v ∧ v.octets.length ≤
      1048576) ∧
    (∃ (s : State) (r : Req) (x : Session) (index sub m off : Nat) (data : Octets) (a : Ask) (w : ObjRow), a =
      { op := 4, index := index, sub := sub, meter := m, offset := off, data := data } ∧ Asks s r a x ∧ x.lasts ∧
      findRow index sub = some w ∧ w.ty = .domain ∧ data.length ≤ segmentLimit x.transport ∧ off + data.length ≤
      1048576 ∧ s.standbyRefuses index sub = false) ∧
    (∃ (s : State) (r : Req) (x : Session) (index sub m : Nat) (data : Octets) (w : ObjRow), Asks s r (writeAsk index
      sub m data) x ∧ x.lasts ∧ s.standbyRefuses index sub = false ∧ fillsParameter index sub = true ∧ findRow index
      sub = some w ∧ w.ty ≠ .domain) ∧
    (∃ (s : State) (r : Req) (x : Session) (index sub m : Nat) (data : Octets) (w : ObjRow), Writes s r index sub m
      data x ∧ findRow index sub = some w ∧ w.ty ≠ .domain ∧ submits index sub = false ∧ w.action = false ∧
      s.outsideRange index sub (w.ty.parse data).nat = false ∧ s.writeRefused index sub (w.ty.parse data).nat = false
      ∧ (w.access = .rwc → s.dict.committed = false)) :=
  ⟨⟨unit, rq unit { op := 6 }, sx unit, by unfold Asks; unfold State.hasRoom; decide +kernel⟩,
   ⟨unit, rq unit (ra 0x1000 5 0 1 false 0 []), sx unit, 0x1000, 5, 0, false, ra 0x1000 5 0 1 false 0 [],
     by unfold Asks; unfold State.hasRoom; decide +kernel⟩,
   ⟨mu, rq unit (ra 0xC010 1 5 1 false 0 []), sx unit, 0xC010, 1, 5, false, ra 0xC010 1 5 1 false 0 [],
     by unfold Asks; decide +kernel⟩,
   ⟨unit, rq unit (ra 0x1000 0 0 5 false 0 []), sx unit, 0x1000, 0, false, ra 0x1000 0 0 5 false 0 [],
     by unfold Asks; unfold State.hasRoom; decide +kernel⟩,
   ⟨unit, rq unit (ra 0x2400 1 0 3 false 0 []), sx unit, 0x2400, 1, 0, false, ra 0x2400 1 0 3 false 0 [], wd,
     ((unit.taken (rq unit (ra 0x2400 1 0 3 false 0 [])) (ra 0x2400 1 0 3 false 0 [])).valueOf (sx unit) wd 0x2400 1 0
     false).getD (.oct []), by unfold Asks; unfold Session.lasts; decide +kernel⟩,
   ⟨unit, rq unit (ra 0x2400 1 0 4 false 9 [1]), sx unit, 0x2400, 1, 0, 9, [1], ra 0x2400 1 0 4 false 9 [1], wd,
     by unfold Asks; unfold Session.lasts; decide +kernel⟩,
   ⟨unit, rw_ unit 0x4142 1 0 (be 1 3), sx unit, 0x4142, 1, 0, be 1 3, wp,
     by unfold Asks; unfold Session.lasts; decide +kernel⟩,
   ⟨unit, rw_ unit 0x1022 2 0 (be 4 700), sx unit, 0x1022, 2, 0, be 4 700, wl,
     by unfold Writes; unfold Asks; decide +kernel⟩⟩

theorem test_witness_Sessions :
    (∃ (s : State) (p : Nat), s.portOpen p = true ∧ s.hasRoom p) ∧
    (∃ (s : State) (p role expected n : Nat) (peer nonce : Octets), s.portOpen p = true ∧ role ≤ 3 ∧ nonce.length = 16
      ∧ s.openRefusal role expected = none ∧ s.freeTileSlots 0 = some n ∧ s.gated 0 = false ∧ s.session?
      (s.dict.lastSession % 4294967295 + 1) = none) ∧
    (∃ (s : State) (r : Req) (x : Session), s.sessionOpen r.session = true ∧ ((s.heardFrom r.session).admitMessage r 7
      []).session = some x) ∧
    (∃ (s : State) (id : Nat) (x : Session), s.session? id = some x ∧ x.halfOpen = false ∧ s.due x.lastAt (s.obj
      0x1022 2 * 1000000000) = true) ∧
    (∃ (s : State) (id : Nat) (x : Session), s.session? id = some x ∧ x.halfOpen = true ∧ s.due x.openedAt 1000000000
      = true) ∧
    (∃ (s : State) (id tag : Nat) (x : Session) (q : SessionRequest), s.session? id = some x ∧ s.hasRoom x.transport ∧
      x.requests.find? (fun q => q.tag == tag) = some q ∧ q.final = false ∧ q.answered = false ∧ s.due q.at_ (s.obj
      0x1021 1 * 1000000) = true) ∧
    (∃ (s : State) (id : Nat) (x : Session) (c : Capture), s.session? id = some x ∧ x.capture = some c ∧ s.due
      c.readAt 10000000000 = true) :=
  ⟨⟨unit, 0, by unfold State.hasRoom; decide +kernel⟩,
   ⟨su, 0, 2, 0, 768, [], List.replicate 16 1, by decide +kernel⟩,
   ⟨unit, cr, sx unit, by decide +kernel⟩,
   ⟨so sess (10 ^ 15), 1, sess, by decide +kernel⟩,
   ⟨so { sess with halfOpen := true } (10 ^ 15), 1, { sess with halfOpen := true }, by decide +kernel⟩,
   ⟨so { sess with requests := [q1] } (10 ^ 15), 1, 7, { sess with requests := [q1] }, q1,
     by unfold State.hasRoom; decide +kernel⟩,
   ⟨so { sess with capture := some c1 } (10 ^ 15), 1, { sess with capture := some c1 }, c1, by decide +kernel⟩⟩

theorem test_witness_MailboxAndNetwork :
    (∃ (s : State) (c bi bo n v p q : Nat), c ≤ 1 ∧ s.dict.mailboxState ≠ 0 ∧ mailboxCheck bi bo n true = 0) ∧
    (∃ (s : State) (c bi bo n v p q : Nat) (dma : Bool), c ≤ 1 ∧ s.dict.mailboxState ≠ 0 ∧ mailboxCheck bi bo n dma ≠
      0) ∧
    (∃ (s : State) (c e : Nat) (b : Octets) (rest : List (Octets × Nat)), c < 2 ∧ (s.channel c).heldReplies = (b, e)
      :: rest ∧ s.due e 1000000000 = true) ∧
    (∃ (s : State) (r : Req) (x : Session), Writes s r 0x1030 1 0 (be 1 1) x ∧ (s.boot.lifeCycle = 0 ∨
      s.boot.lifeCycle = 1 ∨ s.boot.lifeCycle = 3)) ∧
    (∃ (s : State) (p : Nat) (b : Octets), s.ethernetUp p = true ∧ s.answersFor p false b = true) ∧
    (∃ (s : State) (p : Nat) (b : Octets), s.ethernetUp p = true ∧ s.answersFor p true b = true) ∧
    (∃ (s : State) (p : Nat) (v6 : Bool) (b d : Octets), s.ethernetUp p = true ∧ s.answersFor p v6 b = true ∧ (if v6
      then 66 else 46) + d.length ≤ 1518) :=
  ⟨⟨mb, 1, 4096, 8192, 64, 3, 7, 9, by decide +kernel⟩,
   ⟨mb, 1, 4097, 8192, 63, 3, 7, 9, true, by decide +kernel⟩,
   ⟨hr, 1, 0, [1], [], by decide +kernel⟩,
   ⟨cf, rw_ unit 0x1030 1 0 (be 1 1), sx unit, by unfold Writes; unfold Asks; decide +kernel⟩,
   ⟨et, 1, [1, 2, 3, 4], by decide +kernel⟩,
   ⟨et, 1, List.replicate 16 9, by decide +kernel⟩,
   ⟨et, 1, true, List.replicate 16 9, [7, 7], by decide +kernel⟩⟩

end WitnessO

namespace WitnessP

def bo (b : BootState) : State := { State.reset with boot := b, elapsed := 9000000000 }
def rv : State := let s := bo { phase := 4, rollback := 3 }; { s with update := { s.update with confirmed := false, startCount := 3, slots := [(1, { digest := [5], security := 7 })] } }
def enw : Nat := 2 ^ 32 - 1
def en (d : List Nat) : State := bo { phase := 5, stepDone := d, enumeration := d.map fun i => (i, enw) }
def mk : State := { unit with boot := { unit.boot with lifeCycle := 0 }, keys := { unit.keys with slots := [(slotKey 14, { use := 2, type := 2, material := List.replicate 32 1 })] } }
def kd : State := { unit with boot := { unit.boot with lifeCycle := 1 } }
def ta (p : Nat) : State := (unit.setObj 0x1050 1 31).setObj 0x1050 3 p
def tc (p : Nat) : State := { unit with boot := { unit.boot with phase := p, tamperActive := [(2, 0)] }, elapsed := 10 ^ 15 }
def fl (x : TileStore) : State := (unit.setFlash 3 x).setObj 0x6005 4 0
def fs : TileStore := { formatted := true, good := 10880, zone := 1000, slc := 1000, tlc := 8000 }
def of_ (l : List Offer) : State := { unit with recorder := { unit.recorder with offered := l } }
def rec_ (i : Nat) : EventRecord := { seq := i, operating := 0, cycle := 0, tile := 0, code := 1, severity := 1, flags := 0, seconds := 0, commit := 0 }
def lg (n p : Nat) : State := { unit with recorder := { unit.recorder with log := (List.range n).map rec_, paged := p }, elapsed := 10 ^ 15 }
def er : State := { unit with recorder := { unit.recorder with erasing := some (1, 2, 3, 4) } }
def lt : State := { unit with heat := { unit.heat with boundaryAt := unit.elapsed }, clock := { unit.clock with tb := 7000000 * 2 ^ 32 }, recorder := { unit.recorder with counters := [(5, 3, false)] } }

theorem test_witness_BringUp :
    (∃ (s : State) (straps : Nat), s.boot.phase = 0) ∧
    (∃ (s : State) (tile : Nat), s.boot.phase = 1 ∧ tile < s.nTiles) ∧
    (∃ (s : State) (tile : Nat), s.boot.phase = 1 ∧ tile < s.nTiles) ∧
    (∃ (s : State) (tile : Nat), s.boot.phase = 2 ∧ tile < s.nTiles) ∧
    (∃ (s : State) (tile : Nat), s.boot.phase = 3 ∧ tile < s.nTiles ∧ tile ∉ s.boot.stepDone) ∧
    (∃ (s : State) (tile : Nat), s.boot.phase = 3 ∧ tile < s.nTiles ∧ tile ∉ s.boot.stepDone) ∧
    (∃ (s u : State) (second version : Nat) (d : Octets), u = s.revertBoot ∧ s.boot.phase = 4 ∧ s.tamperHolds = false
      ∧ s.power.warning = false ∧ s.boot.rollback ≤ u.slotSecurity u.update.first version) ∧
    (∃ (s : State) (d : Octets) (version : Nat), s.boot.phase = 4 ∧ s.tamperHolds = false ∧ s.power.warning = false) ∧
    (∃ (s : State) (d : Octets) (version : Nat), s.boot.phase = 4 ∧ s.tamperHolds = false ∧ s.power.warning = false) ∧
    (∃ (s : State) (tile word found w : Nat), s.boot.phase = 5 ∧ tile < s.nTiles ∧ tile ∉ s.boot.stepDone ∧ w =
      putField (putField (word % 4294967296) 17 12 0) 11 0 (Config.columnsRepaired tile).toNat) ∧
    (∃ (s : State), s.boot.phase = 6 ∧ s.power.warning = false) ∧
    (∃ (s : State), s.boot.phase = 6) ∧
    (∃ (s : State) (tile : Nat), s.boot.phase = 7 ∧ tile < s.nTiles) ∧
    (∃ (s : State), s.boot.phase = 8 ∧ s.power.warning = false) ∧
    (∃ (s : State), 1 ≤ s.boot.phase ∧ s.boot.phase ≤ 7 ∧ s.due s.boot.stepAt (2 * s.stepMax s.boot.phase * 1000000) =
      true) :=
  ⟨⟨State.reset, 13, by decide +kernel⟩,
   ⟨bo { phase := 1, stepDone := [0, 1, 2] }, 3, by decide +kernel⟩,
   ⟨bo { phase := 1, stepDone := [0, 1] }, 3, by decide +kernel⟩,
   ⟨bo { phase := 2, stepDone := [0, 1, 2] }, 3, by decide +kernel⟩,
   ⟨bo { phase := 3, stepDone := [0, 1, 2] }, 3, by decide +kernel⟩,
   ⟨bo { phase := 3, stepDone := [0, 2] }, 3, by decide +kernel⟩,
   ⟨bo { phase := 4, rollback := 3 }, (bo { phase := 4, rollback := 3 }).revertBoot, 0, 4, [1], by decide +kernel⟩,
   ⟨bo { phase := 4 }, [1], 4, by decide +kernel⟩,
   ⟨bo { phase := 4 }, [1], 4, by decide +kernel⟩,
   ⟨en [0, 1, 2], 3, enw, 4, putField (putField (enw % 4294967296) 17 12 0) 11 0 (Config.columnsRepaired 3).toNat,
     by decide +kernel, by decide +kernel, by decide +kernel, rfl⟩,
   ⟨bo { phase := 6 }, by decide +kernel⟩,
   ⟨bo { phase := 6 }, by decide +kernel⟩,
   ⟨bo { phase := 7, stepDone := [0, 1, 2] }, 3, by decide +kernel⟩,
   ⟨bo { phase := 8 }, by decide +kernel⟩,
   ⟨bo { phase := 6 }, by decide +kernel⟩⟩

theorem test_witness_LifeCycleAndTamper :
    (∃ (s : State) (r : Req) (x : Session), Writes s r 0x1044 1 0 (be 1 1) x ∧ s.leaveRefused = false) ∧
    (∃ (s : State) (r : Req) (x : Session) (blob kek seed : Octets), Writes s r 0x1041 6 0 (be 1 1) x ∧ s.leaveRefused
      = false ∧ s.boot.lifeCycle = 0 ∧ s.wrapSlot 14 = some kek ∧ unwrapKey kek seedHeader (slice blob 0 40) = some
      seed) ∧
    (∃ (s : State) (r : Req) (x : Session), Writes s r 0x1041 6 0 (be 1 1) x ∧ s.leaveRefused = false ∧
      s.boot.lifeCycle = 1) ∧
    (∃ (s : State) (input : Nat), s.tamperSenses input = true ∧ 9 ≤ s.boot.phase) ∧
    (∃ (s : State), s.boot.tamperActive ≠ [] ∧ s.due s.boot.tamperAt (s.obj 0x1050 4 * 1000000) = true) :=
  ⟨⟨unit, rw_ unit 0x1044 1 0 (be 1 1), sx unit, by unfold Writes; unfold Asks; decide +kernel⟩,
   ⟨mk, rw_ unit 0x1041 6 0 (be 1 1), sx unit, wrapKey (List.replicate 32 1) seedHeader (List.replicate 32 5),
     List.replicate 32 1, List.replicate 32 5, by unfold Writes; unfold Asks; decide +kernel⟩,
   ⟨kd, rw_ unit 0x1041 6 0 (be 1 1), sx unit, by unfold Writes; unfold Asks; decide +kernel⟩,
   ⟨ta 0, 3, by decide +kernel⟩,
   ⟨tc 9, by decide +kernel⟩⟩

theorem test_witness_Recovery :
    (∃ (s : State) (tile a : Nat) (w : Bool), s.awake = true ∧ tile < s.nTiles ∧ 4 ≤ s.boot.phase ∧ Tab.has
      s.recorder.dramRetrain tile = false) ∧
    (∃ (s : State) (tile : Nat), Tab.has s.recorder.dramRetrain tile = true) ∧
    (∃ (s : State) (tile ch block page pool : Nat), s.awake = true ∧ tile < s.nTiles ∧ block < nandBlocks ∧ (s.flash
      tile).diesGone.contains (block / Config.nandBlocksPerDie) = false ∧ (s.flash tile).rereads.contains (pageNumber
      block page) = false) ∧
    (∃ (s : State) (tile ch block page pool op : Nat), s.awake = true ∧ tile < s.nTiles ∧ block < nandBlocks ∧
      (s.flash tile).diesGone.contains (block / Config.nandBlocksPerDie) = false ∧ 1 ≤ op ∧ (s.flash tile).formatted =
      true ∧ (s.flash tile).retired.contains block = false) ∧
    (∃ (s : State) (tile ch die : Nat) (stuck : Bool), s.awake = true ∧ tile < s.nTiles ∧ die < Config.nandDies ∧
      (s.flash tile).diesGone.contains die = false ∧ 3 ≤ ((s.flash tile).timeouts.filter fun e => e.1 == die && decide
      (s.elapsed < e.2 + 3600000000000)).length) ∧
    (∃ (s : State) (tile core k : Nat) (x : Core), tile < s.nTiles ∧ core < 4 ∧ 4 ≤ s.boot.phase ∧ k = tile * 4 + core
      ∧ (s.awake = true ∨ tile = 0 ∧ core = 0) ∧ x = Tab.getD s.recorder.cores k {} ∧ x.heldUntil = none) ∧
    (∃ (s : State) (tile core e : Nat), (Tab.getD s.recorder.cores (tile * 4 + core) {}).heldUntil = some e ∧ e ≤
      s.elapsed) ∧
    (∃ (s : State) (src : Nat), s.partRuns = true ∧ 0 < src ∧ src < s.nTiles ∧ s.arcUp src 0 = true) ∧
    (∃ (s : State) (dst : Nat), s.partRuns = true ∧ 0 < dst ∧ dst < s.nTiles ∧ s.arcUp 0 dst = true) ∧
    (∃ (s : State) (tile : Nat), s.partRuns = true ∧ 0 < tile ∧ tile < s.nTiles ∧ (s.health tile).state = 0 ∧ s.due
      (s.health tile).heardAt (s.obj 0x9020 5 * 1000) = true) ∧
    (∃ (s : State) (tile : Nat), s.partRuns = true ∧ tile < s.nTiles ∧ (s.health tile).state = 1 ∧ s.power.warning =
      false ∧ s.due (s.health tile).lostAt (s.obj 0x9020 7 * 1000000) = true) ∧
    (∃ (s : State) (tile : Nat), s.partRuns = true ∧ (s.health tile).state = 2 ∧ s.onBoundary = true) ∧
    (∃ (s : State) (tile : Nat), s.partRuns = true ∧ (s.health tile).state = 2) ∧
    (∃ (s : State) (tile : Nat), s.partRuns = true ∧ 0 < tile ∧ tile < s.nTiles ∧ (s.health tile).unheardAt = none ∧
      s.due (s.health tile).primaryAt (s.obj 0x9020 5 * 1000) = true) :=
  ⟨⟨unit, 3, 64, true, by decide +kernel⟩,
   ⟨{ unit with recorder := { unit.recorder with dramRetrain := [(3, 0)], dramWrites := [(3, 64, 0, false), (2, 64, 0, false)] } },
     3, by decide +kernel⟩,
   ⟨fl fs, 3, 1, 77, 2, 1, by decide +kernel⟩,
   ⟨fl fs, 3, 1, 77, 2, 1, 2, by decide +kernel⟩,
   ⟨fl { fs with timeouts := [(7, 1), (7, 2), (7, 3)] }, 3, 1, 7, true, by decide +kernel⟩,
   ⟨unit, 3, 3, 15, {}, by decide +kernel⟩,
   ⟨{ unit with recorder := { unit.recorder with cores := [(15, { heldUntil := some 0 })] } }, 3, 3, 0,
     by decide +kernel⟩,
   ⟨unit.setHealth 3 { state := 1, lostAt := 5000000000 }, 3, by decide +kernel⟩,
   ⟨unit.setHealth 3 { unheardAt := some 7 }, 3, by decide +kernel⟩,
   ⟨{ unit with elapsed := 10 ^ 15 }, 3, by decide +kernel⟩,
   ⟨{ (withPk (unit.setHealth 3 { state := 1 }) 3 5 (pkt 1 [2])) with elapsed := 10 ^ 15 }, 3, by decide +kernel⟩,
   ⟨unit.setHealth 3 { state := 2 }, 3, by decide +kernel⟩,
   ⟨unit.setHealth 3 { state := 2 }, 3, by decide +kernel⟩,
   ⟨{ unit with elapsed := 10 ^ 15 }, 3, by decide +kernel⟩⟩

theorem test_witness_EventsAndCounters :
    (∃ (s : State) (o : Offer) (rest : List Offer), s.recorder.offered = o :: rest ∧ s.coresRun = true ∧ s.power.pilot
      < 2 ∧ (s.health o.tile).unheardAt = none ∧ s.recorder.erasing = none ∧ (s.obj 0x9004 1 ≤ eventSeverity o.code ∨
      o.code = 0xE908) ∧ s.recorder.log.length + 1 < logSlots) ∧
    (∃ (s : State) (o : Offer) (rest : List Offer), s.recorder.offered = o :: rest ∧ s.coresRun = true ∧ 2 ≤
      s.power.pilot ∧ s.power.held.length < 1024) ∧
    (∃ (s : State), s.coresRun = true ∧ s.awake = true ∧ 512 ≤ s.recorder.log.length - s.recorder.paged) ∧
    (∃ (s : State), s.coresRun = true ∧ s.awake = true ∧ s.recorder.paged < s.recorder.log.length ∧
      s.recorder.log.length - s.recorder.paged < 512 ∧ s.due s.recorder.pageAt 1000000000 = true) ∧
    (∃ (s : State) (r : Req) (x : Session), Writes s r 0x9002 2 0 (be 1 1) x ∧ s.recorder.erasing = none) ∧
    (∃ (s : State) (g n d q : Nat), s.recorder.erasing = some (g, n, d, q) ∧ s.recorder.heldEvents = [] ∧
      s.recorder.log.length + 1 < logSlots) ∧
    (∃ (s : State) (late : List Nat), s.partRuns = true ∧ s.heat.boundaryAt = s.elapsed ∧ (s.recorder.latchMs < s.tbMs
      ∨ s.recorder.snapshotAsked = true)) ∧
    (∃ (s : State) (r : Req) (x : Session), Writes s r 0x9101 1 0 (be 1 1) x ∧ 100000 < 1000000 - s.tbNs % 1000000) ∧
    (∃ (s : State) (tile core : Nat), tile < s.nTiles ∧ core < 4 ∧ s.obj 0x9110 1 = 0) :=
  ⟨⟨of_ [{ code := 0xE883, tile := 0, data := [1] }, { code := 5, tile := 1 }],
    { code := 0xE883, tile := 0, data := [1] }, [{ code := 5, tile := 1 }], by decide +kernel⟩,
   ⟨{ of_ [{ code := 0xE883, tile := 0 }] with power := { unit.power with pilot := 2 } },
     { code := 0xE883, tile := 0 }, [], by decide +kernel⟩,
   ⟨lg 520 8, by decide +kernel⟩,
   ⟨lg 20 8, by decide +kernel⟩,
   ⟨lg 20 8, rw_ unit 0x9002 2 0 (be 1 1), { sx unit with lastAt := 10 ^ 15 },
     by unfold Writes; unfold Asks; decide +kernel⟩,
   ⟨er, 1, 2, 3, 4, by decide +kernel⟩,
   ⟨lt, [3], by decide +kernel⟩,
   ⟨unit, rw_ unit 0x9101 1 0 (be 1 1), sx unit, by unfold Writes; unfold Asks; decide +kernel⟩,
   ⟨unit, 3, 3, by decide +kernel⟩⟩

end WitnessP

namespace WitnessQ

def fu (u : UpdateState) : State := { unit with update := u, power := { unit.power with holdup := true } }
def ac : State := fu { state := 3, staged := some ({ digest := [5] }, 1), stagedId := 6, area := [(0, [1])] }
def fwHead : Octets := be 2 0x5550 ++ be 1 1 ++ be 1 1 ++ be 4 6 ++ be 4 20 ++ be 2 0 ++ be 2 0 ++ be 12 9 ++ be 36 0
def fwText : Octets := List.replicate 20 3
def fk : KeySlot := { use := 3, type := 2, material := List.replicate 32 2, label := 9 }
def fwKeys : State := { fu { state := 2, target := 1, length := 100 } with keys := { unit.keys with slots := [(slotKey 5, fk)] } }
def fwC : Octets := let k := fwKeys.keyMaterial 5; let b := gcmText k (be 12 9) fwText; fwHead ++ b ++
  gcmTag k (be 12 9) fwHead b
def fwU : UpdateState := { fwKeys.update with area := [(0, fwC)] }
def fwS : State := { fwKeys with update := fwU, keys := { fwKeys.keys with tickets := [fwU.ticket] } }
def ap : State := { ac with pair := { ac.pair with state := 2, peerImage := 6, baton := true, heartbeatHeat := 1, peerState := 4, peerFlags := 64, linkUp := true } }
def rs : State := fu { state := 4, activation := some { step := 1 }, activating := true, staged := some ({ digest := [5] }, 1) }
def mi : MeterImage := { imageId := 6, bytes := List.replicate 100 1 }
def cp (c : List Campaign) : State := { fu { meterImages := [(1, mi)], campaigns := c } with elapsed := 10 ^ 17 }
def c1 : Campaign := { imageId := 6, slot := 1, startedAt := 0, todo := [(1, 0), (2, 0)] }
def pw (p : PowerState) : State := { unit with power := { p with holdup := true } }
def pl (p : PowerState) : State := (pw p).setObj 0x1010 1 3 |>.setObj 0xB001 2 0

theorem test_witness_FirmwareUpdate :
    (∃ (s : State) (r : Req) (x : Session) (len target : Nat), Writes s r 0xA001 2 0 (be 1 1) x ∧ s.mayStage x target
      = true ∧ target ≤ 4 ∧ 80 ≤ len ∧ len ≤ containerMax target ∧ s.update.state ≠ 1 ∧ s.update.state ≠ 2 ∧
      s.update.state ≠ 4 ∧ (s.inRom = true → target = 0) ∧ (target = 0 → s.obj 0xA025 1 ≠ 1 ∨ s.inRom = true) ∧
      (target ≠ 0 → s.slotInUse (target - 1) = false)) ∧
    (∃ (s : State) (r : Req) (x : Session) (off : Nat) (w : Octets), Writes s r 0xA010 3 0 (be 1 1) x ∧ s.mayStage x
      s.update.target = true ∧ s.update.state = 1 ∧ s.obj 0x6005 1 ≠ 1 ∧ off % 4096 = 0 ∧ off < s.update.length) ∧
    (∃ (s : State) (r : Req) (x : Session), Writes s r 0xA001 3 0 (be 1 1) x ∧ s.mayStage x s.update.target = true ∧
      s.update.state = 1 ∧ s.update.missing = none ∧ (s.inRom = true ∨ s.keys.tickets.countP (fun t => t.tile == 0) <
      4)) ∧
    (∃ (s : State) (r : Req) (x : Session), Writes s r 0xA001 4 0 (be 1 1) x ∧ s.mayStage x s.update.target = true ∧
      (s.update.state = 1 ∨ s.update.state = 2)) ∧
    (∃ (s : State) (v : Bool) (n : Nat), s.update.state = 2 ∧ s.inRom = false ∧ s.verifyCode v = some n) ∧
    (∃ (s : State) (v : Bool), s.update.state = 2 ∧ s.inRom = false ∧ s.verifyCode v = none) ∧
    (∃ (s : State) (r : Req) (x : Session) (id : Nat), Writes s r 0xA021 2 0 (be 1 1) x ∧ s.activateRefusal id = none
      ∧ s.pair.state ≠ 2) ∧
    (∃ (s : State) (r : Req) (x : Session) (id : Nat), Writes s r 0xA021 2 0 (be 1 1) x ∧ s.activateRefusal id = none
      ∧ s.pair.state = 2) ∧
    (∃ (s : State) (a : Activation), s.update.activation = some a ∧ a.step = 1) ∧
    (∃ (s : State) (a : Activation), s.update.activation = some a ∧ a.step = 1) ∧
    (∃ (s : State), s.partRuns = true ∧ s.update.confirmed = false ∧ s.due (max s.boot.readyAt s.update.resumedAt)
      (s.obj 0xA023 1 * 1000000000) = true ∧ s.quietSince (s.elapsed - s.obj 0xA023 1 * 1000000000) = true) ∧
    (∃ (s : State) (u : PairUpdate), s.update.pairUpdate = some u ∧ u.step = 2 ∧ s.due u.startedAt (s.obj 0xA027 1 *
      1000000000) = true) :=
  ⟨⟨fu {}, rw_ unit 0xA001 2 0 (be 1 1), sx unit, 100, 0, by unfold Writes; unfold Asks; decide +kernel⟩,
   ⟨fu { state := 1, length := 9000 }, rw_ unit 0xA010 3 0 (be 1 1), sx unit, 8192, List.replicate 4096 3,
     by unfold Writes; unfold Asks; decide +kernel⟩,
   ⟨fu { state := 1, length := 80, area := [(0, [1])] }, rw_ unit 0xA001 3 0 (be 1 1), sx unit,
     by unfold Writes; unfold Asks; decide +kernel⟩,
   ⟨fu { state := 2, length := 80, area := [(0, [1])] }, rw_ unit 0xA001 4 0 (be 1 1), sx unit,
     by unfold Writes; unfold Asks; decide +kernel⟩,
   ⟨fu { state := 2, length := 80, area := [(0, [1])] }, false, 1, by decide +kernel⟩,
   ⟨fwS, false, by decide +kernel⟩,
   ⟨ac, rw_ ac 0xA021 2 0 (be 1 1), sx ac, 6, by unfold Writes; unfold Asks; decide +kernel⟩,
   ⟨ap, rw_ ac 0xA021 2 0 (be 1 1), sx ac, 6, by unfold Writes; unfold Asks; decide +kernel⟩,
   ⟨rs, { step := 1 }, by decide +kernel⟩,
   ⟨rs, { step := 1 }, by decide +kernel⟩,
   ⟨{ fu { confirmed := false, slots := [(0, { digest := [5], imageId := 9 })] } with elapsed := 10 ^ 15 },
     by decide +kernel⟩,
   ⟨{ fu { pairUpdate := some { step := 2, imageId := 6 } } with elapsed := 10 ^ 15 }, { step := 2, imageId := 6 },
     by decide +kernel⟩⟩

theorem test_witness_Campaigns :
    (∃ (s : State) (r : Req) (x : Session) (id slot : Nat) (i : MeterImage), Writes s r 0xA040 2 0 (be 1 1) x ∧ id ≠ 0
      ∧ List.find? (fun e : Nat × MeterImage => e.2.imageId == id) s.update.meterImages = some (slot, i) ∧ (∀ c ∈
      s.update.campaigns, c.imageId ≠ id) ∧ (s.meters.countP fun x => x.firmware.target != 0) ≤ 65536) ∧
    (∃ (s : State) (id n : Nat) (rest : List (Nat × Nat)) (c : Campaign), s.update.campaigns.find? (fun c => c.imageId
      == id) = some c ∧ s.partRuns = true ∧ s.isStandby = false ∧ c.endedAt = none ∧ c.todo = (n, 0) :: rest ∧ s.due
      s.lastBlockAt (divUp 1000000000 (s.obj 0xA041 1)) = true) ∧
    (∃ (s : State) (id : Nat) (c : Campaign), s.update.campaigns.find? (fun c => c.imageId == id) = some c ∧
      s.partRuns = true ∧ s.isStandby = false ∧ c.endedAt = none ∧ c.todo = []) ∧
    (∃ (s : State) (r : Req) (x : Session) (id e : Nat) (c : Campaign), Writes s r 0xA040 4 0 (be 1 1) x ∧
      s.update.campaigns.find? (fun c => c.imageId == id) = some c ∧ s.tbSeconds + 60 ≤ e) ∧
    (∃ (s : State) (r : Req) (x : Session) (id : Nat), Writes s r 0xA040 5 0 (be 1 1) x ∧ (∃ c ∈ s.update.campaigns,
      c.imageId = id)) ∧
    (∃ (s : State) (id : Nat) (c : Campaign), s.update.campaigns.find? (fun c => c.imageId == id) = some c ∧ s.due
      c.startedAt (s.obj 0xA041 4 * 86400000000000) = true) :=
  ⟨⟨cp [], rw_ (cp []) 0xA040 2 0 (be 1 1), sx (cp []), 6, 1, mi, by unfold Writes; unfold Asks; decide +kernel⟩,
   ⟨cp [c1], 6, 1, [(2, 0)], c1, by decide +kernel⟩,
   ⟨cp [{ c1 with todo := [] }], 6, { c1 with todo := [] }, by decide +kernel⟩,
   ⟨cp [c1], rw_ (cp []) 0xA040 4 0 (be 1 1), sx (cp []), 6, 10 ^ 10, c1,
     by unfold Writes; unfold Asks; decide +kernel⟩,
   ⟨cp [c1], rw_ (cp []) 0xA040 5 0 (be 1 1), sx (cp []), 6, by unfold Writes; unfold Asks; decide +kernel⟩,
   ⟨cp [c1], 6, c1, by decide +kernel⟩⟩

theorem test_witness_PinsAndReceivers :
    (∃ (s : State) (b : Bool) (pads n : Nat), 1 ≤ s.boot.phase ∧ s.due s.pins.comparedAt 1000 = true ∧ n < 7 ∧ n <
      s.pins.agree.length ∧ n < s.pins.differ.length ∧ s.drivenLevel b n = bit01 (bitAt pads n)) ∧
    (∃ (s : State) (lane : Nat), s.serdesPowered lane = true ∧ (s.serdes lane).locked = false) ∧
    (∃ (s : State) (lane : Nat), s.serdesPowered lane = true ∧ (s.serdes lane).locked = false) ∧
    (∃ (s : State) (lane : Nat), lane < 6) ∧
    (∃ (s : State) (port : Nat), port < 2 ∧ s.hostUp = true ∧ s.obj 0x1010 (port + 1) = 3 ∧ s.due (Tab.getD
      s.pins.polledAt port 0) 100000000 = true) ∧
    (∃ (s : State) (port : Nat), port < 2 ∧ s.hostUp = true ∧ s.obj 0x1010 (port + 1) = 3 ∧ s.due (Tab.getD
      s.pins.polledAt port 0) 100000000 = true) ∧
    (∃ (s : State), 2 ≤ s.boot.phase ∧ s.power.pilot < 2) ∧
    (∃ (s : State) (o : Nat), o % 256 ∉ [1, 2, 3, 4, 5, 16]) :=
  ⟨⟨unit, true, 0, 5, by decide +kernel⟩,
   ⟨unit, 3, by decide +kernel⟩,
   ⟨unit, 3, by decide +kernel⟩,
   ⟨unit, 3, by decide +kernel⟩,
   ⟨unit, 1, by decide +kernel⟩,
   ⟨unit, 1, by decide +kernel⟩,
   ⟨unit, by decide +kernel⟩,
   ⟨unit, 0x106, by decide +kernel⟩⟩

theorem test_witness_PowerAndTemperature :
    (∃ (s : State), s.boot.phase = 9 ∧ s.power.warning = false ∧ s.power.pilot = 0) ∧
    (∃ (s : State), s.power.warning = true) ∧
    (∃ (s : State) (c : Bool), 1 ≤ s.boot.phase ∧ s.power.holdup ≠ c) ∧
    (∃ (s : State) (rail tile mv : Nat), 1 ≤ s.boot.phase ∧ s.takesRail rail tile = true ∧ railBad rail mv = true ∧
      Tab.has s.power.rails (rail * 8 + tile) = false) ∧
    (∃ (s : State) (rail tile mv e : Nat), Tab.find? s.power.rails (rail * 8 + tile) = some e ∧ railGood rail mv =
      true ∧ s.due e 100000000 = true) ∧
    (∃ (s : State) (tile : Nat) (a b c d : Int), s.boot.phase ≠ 0 ∧ tile < s.nTiles ∧ s.due (Tab.getD s.power.readAt
      tile 0) 1000000 = true) ∧
    (∃ (s : State) (tile since c : Nat), s.power.shutdown = some (tile, since) ∧ s.power.coolSince = some c ∧ s.due c
      10000000000 = true) ∧
    (∃ (s : State), s.coresRun = true ∧ s.awake = true ∧ s.due s.power.estimatedAt 1000000 = true) :=
  ⟨⟨pw {}, by decide +kernel⟩,
   ⟨pw { warning := true }, by decide +kernel⟩,
   ⟨unit, true, by decide +kernel⟩,
   ⟨unit, 9, 3, 0, by decide +kernel⟩,
   ⟨pw { rails := [(75, 1000)] }, 9, 3, 1200, 1000, by decide +kernel⟩,
   ⟨unit, 3, 250, 251, 252, 1300, by decide +kernel⟩,
   ⟨{ pw { shutdown := some (2, 9), coolSince := some 0 } with elapsed := 10 ^ 12 }, 2, 9, 0, by decide +kernel⟩,
   ⟨unit, by decide +kernel⟩⟩

theorem test_witness_PilotLight :
    (∃ (s : State) (r : Req) (x : Session), Writes s r 0xB000 1 0 (be 1 1) x ∧ s.power.pilot = 0 ∧ s.pilotRefusal = 0) ∧
    (∃ (s : State), s.power.pilot = 1 ∧ s.halted false = true ∧ s.onBoundary = true ∧ s.power.wakeNext = none) ∧
    (∃ (s : State) (c : Nat), s.power.pilot = 1 ∧ s.halted false = true ∧ s.onBoundary = true ∧ s.power.wakeNext =
      some c ∧ s.power.warning = false) ∧
    (∃ (s : State) (r : Req) (x : Session), Writes s r 0xB000 2 0 (be 1 1) x ∧ s.power.pilot = 2 ∧ s.power.warning =
      false) ∧
    (∃ (s : State), s.power.pilot = 2 ∧ s.power.warning = false ∧ s.obj 0xB002 1 ≠ 0 ∧ s.obj 0xB002 1 ≤ s.tbNs) ∧
    (∃ (s : State), s.power.pilot = 2 ∧ s.power.warning = false ∧ s.obj 0xB002 2 ≠ 0 ∧ s.obj 0xB002 2 ≤
      s.line.pilotHeld.length) ∧
    (∃ (s : State), s.power.pilot = 2 ∧ s.power.warning = false ∧ s.obj 0xB002 3 = 1) ∧
    (∃ (s : State), s.power.pilot = 3 ∧ s.power.warning = false) ∧
    (∃ (s : State), s.power.pilot = 3 ∧ s.power.warning = true) :=
  ⟨⟨pl {}, rw_ unit 0xB000 1 0 (be 1 1), sx unit, by unfold Writes; unfold Asks; decide +kernel⟩,
   ⟨{ pl { pilot := 1 } with heat := { unit.heat with halts := [(3, 0)] } }, by decide +kernel⟩,
   ⟨{ pl { pilot := 1, wakeNext := some 2 } with heat := { unit.heat with halts := [(3, 0)] } }, 2,
     by decide +kernel⟩,
   ⟨pl { pilot := 2 }, rw_ unit 0xB000 2 0 (be 1 1), sx unit, by unfold Writes; unfold Asks; decide +kernel⟩,
   ⟨{ (pl { pilot := 2 }).setObj 0xB002 1 4 with clock := { unit.clock with tb := 4294967296 * 5 } },
     by decide +kernel⟩,
   ⟨(let s := pl { pilot := 2 }; { s with line := { s.line with pilotHeld := List.replicate 3 default } }).setObj
     0xB002 2 3, by decide +kernel⟩,
   ⟨(pl { pilot := 2 }).setObj 0xB002 3 1, by decide +kernel⟩,
   ⟨pl { pilot := 3, wakeCause := 2, wakeAt := 1000 }, by decide +kernel⟩,
   ⟨pl { pilot := 3, warning := true }, by decide +kernel⟩⟩

end WitnessQ

end Sys2Proof
end

section
/-! SUPPORT. What leaves the part at a host transport, and what the operations of a UDX exchange leave of its sessions and of
its channels (R585 to R597). -/

namespace Sys2Proof.Machine

/-! ### Fields and facets
A frame lemma speaks of facets. These turn it into a field's equation between any two states, so that the kernel need not
unfold an operation to see that the field and the facet are one. -/

theorem out_of_facet {s t : State} (h : Facet.out.of t = Facet.out.of s) : t.out = s.out := h
theorem keys_of_facet {s t : State} (h : Facet.keys.of t = Facet.keys.of s) : t.keys = s.keys := h
theorem meters_of_facet {s t : State} (h : Facet.meters.of t = Facet.meters.of s) : t.meters = s.meters := h
theorem pair_of_facet {s t : State} (h : Facet.pair.of t = Facet.pair.of s) : t.pair = s.pair := h
theorem dict_of_facet {s t : State} (h : Facet.dict.of t = Facet.dict.of s) : t.dict = s.dict := h

/-! ### Outputs -/

/-- Octets sent stay sent, whatever else is sent after them. -/
theorem Sends.mono {s t u : State} {port : OutPort} {b : Octets} (h : Sends s t port b) (hu : t.out <+: u.out) :
    Sends s u port b := by
  obtain ⟨l, hl⟩ := hu
  have hmem : _ ∈ (t.out ++ l).drop s.out.length := List.drop_append ▸ List.mem_append_left _ h
  rwa [hl] at hmem

/-- What was sent since a state was sent since any other with the same outputs. -/
theorem Sends.of_out_eq {s s' t : State} {port : OutPort} {b : Octets} (h : Sends s' t port b) (hs : s'.out = s.out) :
    Sends s t port b := by
  unfold Sends at *
  rwa [← hs]

theorem sends_send (s : State) (port : OutPort) (b : Octets) : Sends s (s.send port b) port b := by
  simp [Sends, State.send]

theorem sends_sendOn (s : State) (port : OutPort) (b : Octets) : Sends s (s.sendOn port b) port b := by
  unfold State.sendOn
  split
  · exact sends_send s port b
  · exact sends_send s port b

theorem raiseVector_out_prefix (s : State) (v : Nat) : s.out <+: (s.raiseVector v).out := by
  unfold State.raiseVector
  split
  · exact List.prefix_rfl
  · exact List.prefix_append s.out _

/-- A ring with room that holds nothing back takes a message at once (R585). -/
theorem ringOut_of_room (s : State) (b : Octets) (h : s.hasRoom 2) : s.ringOut 0 b = s.putEntry 0 (s.channel 0) b := by
  obtain ⟨hroom, hheld⟩ := h rfl
  simp [State.ringOut, hroom, hheld]

theorem sends_putEntry (s : State) (c : Nat) (x : Channel) (b : Octets) :
    Sends s (s.putEntry c x b) (channelPort c) (ringEntry b) := by
  refine Sends.mono ?_ (raiseVector_out_prefix _ x.vector)
  exact (sends_send _ (channelPort c) (ringEntry b)).of_out_eq rfl

/-- A transport with room takes a message, in the octets it is there. -/
theorem sends_sendClear (s : State) (p : Nat) (b : Octets) (h : s.hasRoom p) :
    Sends s (s.sendClear p b) (.udx p) (onTransport p b) := by
  by_cases hp : p = 2
  · subst hp
    have hring : s.sendClear 2 b = s.putEntry 0 (s.channel 0) b := ringOut_of_room s b h
    exact hring ▸ sends_putEntry s 0 (s.channel 0) b
  · simpa [State.sendClear, onTransport, hp] using sends_sendOn s (.udx p) b

theorem sends_sendUdx (s : State) (x : Session) (b : Octets) (h : s.hasRoom x.transport) :
    Sends s (s.sendUdx x b) (.udx x.transport) (onTransport x.transport b) :=
  sends_sendClear s x.transport b h

/-! ### Sessions and channels -/

@[simp] theorem setObj_sessions (s : State) (i j n : Nat) : (s.setObj i j n).dict.sessions = s.dict.sessions := rfl
@[simp] theorem setObj_channels (s : State) (i j n : Nat) : (s.setObj i j n).dict.channels = s.dict.channels := rfl

@[simp] theorem keepReply_channels (s : State) (id : Nat) (q : SessionRequest) :
    (s.keepReply id q).dict.channels = s.dict.channels := by
  unfold State.keepReply
  split <;> rfl

@[simp] theorem offerLimited_dict (s : State) (code tile sub : Nat) (data : List Nat) :
    (s.offerLimited code tile sub data).dict = s.dict :=
  dict_of_facet (by simp)

@[simp] theorem setShed_sessions (s : State) : s.setShed.dict.sessions = s.dict.sessions := by
  simp only [State.setShed]
  split
  · rfl
  · simp only [offerLimited_dict, setObj_sessions]

@[simp] theorem setShed_channels (s : State) : s.setShed.dict.channels = s.dict.channels := by
  simp only [State.setShed]
  split
  · rfl
  · simp only [offerLimited_dict, setObj_channels]

theorem raiseVector_sessions (s : State) (v : Nat) : (s.raiseVector v).dict.sessions = s.dict.sessions := by
  unfold State.raiseVector
  split <;> rfl

theorem ringOut_sessions (s : State) (c : Nat) (b : Octets) : (s.ringOut c b).dict.sessions = s.dict.sessions := by
  unfold State.ringOut
  dsimp only
  split
  · exact raiseVector_sessions _ _
  · rfl

theorem sendClear_sessions (s : State) (p : Nat) (b : Octets) : (s.sendClear p b).dict.sessions = s.dict.sessions := by
  unfold State.sendClear
  split
  · exact ringOut_sessions s 0 b
  · exact congrArg DictState.sessions (dict_of_facet (by simp))

theorem session?_congr {s t : State} (h : t.dict.sessions = s.dict.sessions) (id : Nat) : t.session? id = s.session? id := by
  unfold State.session?
  rw [h]

theorem meter?_congr {s t : State} (h : t.meters = s.meters) (m : Nat) : t.meter? m = s.meter? m := by
  unfold State.meter?
  rw [h]

/-- A transport's room depends on the channels alone. -/
theorem State.hasRoom.congr {s t : State} {p : Nat} (hs : s.hasRoom p) (h : t.dict.channels = s.dict.channels) :
    t.hasRoom p := by
  unfold State.hasRoom State.channel at *
  rwa [h]

theorem session?_id {s : State} {id : Nat} {x : Session} (h : s.session? id = some x) : x.id = id := by
  simpa using List.find?_some h

/-- A session stored in the place of one with its number is found under it. -/
theorem session?_setSession (s : State) (x : Session) (h : (s.session? x.id).isSome = true) :
    (s.setSession x).session? x.id = some x := by
  unfold State.session? at h
  unfold State.session? State.setSession
  generalize s.dict.sessions = l at h
  induction l with
  | nil => simp at h
  | cons y r ih =>
    by_cases hy : y.id = x.id
    · simp [hy]
    · simpa [hy] using ih (by simpa [hy] using h)

end Sys2Proof.Machine

end

section
/-! SUPPORT. A request taken from a session and answered by a check of R602 (R589, R595 to R602). -/

namespace Sys2Proof.Machine

/-! ### A request taken -/

/-- A session whose message is admitted is stored in the place of the one held under its number and, where that was half open,
its opening is counted and reported (R589, R591). -/
theorem admitMessage_some {s : State} {r : Req} {kind : Nat} {body : Octets} {x : Session}
    (h : (s.admitMessage r kind body).session = some x) :
    ∃ y, s.session? x.id = some y ∧ (s.admitMessage r kind body).state =
      if y.halfOpen then ((s.setSession x).bump 0x1024 8).offer 0xE800 0 [y.id, y.role, y.transport] else s.setSession x := by
  generalize hm : s.admitMessage r kind body = m at h ⊢
  unfold State.admitMessage at hm
  split at hm
  · subst hm; simp at h
  next y hy =>
    have hid := session?_id hy
    split at hm
    · split at hm
      · subst hm; simp at h
      · subst hm; simp at h
      · split at hm
        · subst hm; simp at h
        · subst hm
          obtain rfl := Option.some.inj h
          exact ⟨y, hid ▸ hy, rfl⟩
    · subst hm; simp at h

/-- A message admitted leaves its session stored under its number, and every channel as it was. -/
theorem admitMessage_keeps {s : State} {r : Req} {kind : Nat} {body : Octets} {x : Session}
    (h : (s.admitMessage r kind body).session = some x) :
    (s.admitMessage r kind body).state.session? x.id = some x ∧
      (s.admitMessage r kind body).state.dict.channels = s.dict.channels := by
  obtain ⟨y, hy, hstate⟩ := admitMessage_some h
  have hstored := session?_setSession s x (by simp [hy])
  rw [hstate]
  split
  · exact ⟨(session?_congr rfl x.id).trans hstored, rfl⟩
  · exact ⟨hstored, rfl⟩

/-- The taking of a request changes its session, the dictionary's counts and what is recorded of it alone (R589). -/
theorem taken_facet (p : Facet) (s : State) (r : Req) (a : Ask) (hp : p ∉ ([.fabric, .dict, .recorder] : List Facet)) :
    p.of (s.taken r a) = p.of s := by
  simp at hp
  simp [hp, State.taken, State.admits]

theorem taken_meters (s : State) (r : Req) (a : Ask) : (s.taken r a).meters = s.meters :=
  meters_of_facet (taken_facet .meters s r a (by simp))

theorem taken_session? {s : State} {r : Req} {a : Ask} {x : Session} (h : (s.admits r a).session = some x) :
    (s.taken r a).session? x.id = some x :=
  (admitMessage_keeps h).1

theorem heardFrom_dict (s : State) (id : Nat) : (s.heardFrom id).dict = s.dict :=
  dict_of_facet (by simp)

theorem taken_channels {s : State} {r : Req} {a : Ask} {x : Session} (h : (s.admits r a).session = some x) :
    (s.taken r a).dict.channels = s.dict.channels :=
  (admitMessage_keeps h).2.trans (congrArg DictState.channels (heardFrom_dict s r.session))

/-- A request that is heard is served in the state in which it is taken. -/
theorem udxRequest_of_heard {s : State} {r : Req} {a : Ask} {x : Session} (h : Heard s r a x)
    (act : State → Session → Done) : udxRequest s r a act = (s.taken r a).serveAsk x a r.tag act := by
  obtain ⟨hopen, hlong, hadm, hrep⟩ := h
  unfold State.admits at hadm
  simp [udxRequest, hopen, hlong, hadm, hrep, State.taken, State.admits]

/-- Every READ, WRITE and their like is a request of its operation, served by rules of its own. -/
theorem exec_of_asked {c : Instr} {r : Req} {a : Ask} (h : c.asked = some (r, a)) (s : State) :
    (∃ act, exec c s = .next (udxRequest s r a act)) ∧ 1 ≤ a.op ∧ a.op ≤ 5 := by
  unfold Instr.asked at h
  split at h
  all_goals cases h
  all_goals exact ⟨⟨_, rfl⟩, by simp [writeAsk]⟩

/-! ### A request answered by a check -/

/-- A request that fails a check of R602: its reply is kept, unless it is BUSY or NOT_READY, and sent; its object's rules are
not reached. -/
theorem serveAsk_of_check {s : State} {x : Session} {a : Ask} {p : Reply} (h : s.checkAsk x a = some p) (tag : Nat)
    (act : State → Session → Done) : ∃ q, s.serveAsk x a tag act =
      (if p.status = Status.busy ∨ p.status = Status.notReady then s else s.keepReply x.id q).setShed.sendReply x.id a tag p := by
  simp only [State.serveAsk, h, if_true]
  exact ⟨_, rfl⟩

/-- What the sealing and the sending of a session's next message read of it is the same in two of its states (R589). -/
structure Session.SealsAs (y x : Session) : Prop where
  id : y.id = x.id
  transport : y.transport = x.transport
  keySlot : y.keySlot = x.keySlot
  outSeq : y.outSeq = x.outSeq

/-- A reply kept leaves what the sealing of the session's next message reads. -/
theorem keepReply_session? {s : State} {x : Session} (h : s.session? x.id = some x) (q : SessionRequest) :
    ∃ y, (s.keepReply x.id q).session? x.id = some y ∧ y.SealsAs x := by
  simp only [State.keepReply, h]
  exact ⟨_, session?_setSession s { x with requests := _ } (by simp [h]), rfl, rfl, rfl, rfl⟩

/-- A reply sent since a state was sent since any other with the same outputs and keys, from any session that seals alike. -/
theorem Replies.of_sealsAs {s u t : State} {x y : Session} {a : Ask} {tag : Nat} {p : Reply} (h : Replies u t y a tag p)
    (hy : y.SealsAs x) (hout : u.out = s.out) (hkeys : u.keys = s.keys) : Replies s t x a tag p := by
  obtain ⟨hid, htransport, hslot, hseq⟩ := hy
  unfold Replies State.keyMaterial at *
  rw [hid, htransport, hslot, hseq, hkeys] at h
  exact h.of_out_eq hout

theorem checkSequenceEnd_out (s : State) (id : Nat) : (s.checkSequenceEnd id).out = s.out :=
  out_of_facet (by simp)

/-- A reply is sealed and sent where its session is stored and its transport has room. -/
theorem replies_sendReply {s : State} {id : Nat} {y : Session} (hy : s.session? id = some y) (hroom : s.hasRoom y.transport)
    (a : Ask) (tag : Nat) (p : Reply) : Replies s (s.sendReply id a tag p) y a tag p := by
  simp only [State.sendReply, hy]
  generalize hb : sealUdx _ _ _ _ _ = b
  have hsent := sends_sendUdx (s.setSession { y with outSeq := y.outSeq + 1 }) y b (hroom.congr rfl)
  unfold Replies
  rw [hb]
  refine (hsent.of_out_eq rfl).mono ?_
  rw [checkSequenceEnd_out]
  split_ifs <;> exact List.prefix_rfl

/-- The level of shedding set before a reply is sent does not touch the reply (R607). -/
theorem replies_setShed_sendReply {s u : State} {x y : Session} (hy : u.session? x.id = some y) (hseal : y.SealsAs x)
    (hout : u.out = s.out) (hkeys : u.keys = s.keys) (hroom : u.hasRoom x.transport) (a : Ask) (tag : Nat) (p : Reply) :
    Replies s (u.setShed.sendReply x.id a tag p) x a tag p := by
  have hstored : u.setShed.session? x.id = some y := (session?_congr (setShed_sessions u) x.id).trans hy
  have hopen : u.setShed.hasRoom y.transport := (hseal.transport ▸ hroom).congr (setShed_channels u)
  exact (replies_sendReply hstored hopen a tag p).of_sealsAs hseal ((out_of_facet (by simp)).trans hout)
    ((keys_of_facet (by simp)).trans hkeys)

/-- A request that fails a check where its session is stored is answered with the check's reply. -/
theorem replies_serveAsk_of_check {s : State} {x : Session} {a : Ask} {p : Reply} (h : s.checkAsk x a = some p)
    (hx : s.session? x.id = some x) (hroom : s.hasRoom x.transport) (tag : Nat) (act : State → Session → Done) :
    Replies s (s.serveAsk x a tag act) x a tag p := by
  obtain ⟨q, hq⟩ := serveAsk_of_check h tag act
  rw [hq]
  split
  · exact replies_setShed_sendReply hx ⟨rfl, rfl, rfl, rfl⟩ rfl rfl hroom a tag p
  · obtain ⟨y, hy, hseal⟩ := keepReply_session? hx q
    exact replies_setShed_sendReply hy hseal (out_of_facet (by simp)) (keys_of_facet (by simp))
      (hroom.congr (keepReply_channels s x.id q)) a tag p

theorem serveAsk_of_check_meters {s : State} {x : Session} {a : Ask} {p : Reply} (h : s.checkAsk x a = some p) (tag : Nat)
    (act : State → Session → Done) : (s.serveAsk x a tag act).meters = s.meters := by
  obtain ⟨q, hq⟩ := serveAsk_of_check h tag act
  rw [hq]
  exact meters_of_facet (by split <;> simp)

/-- A read or write that is heard and fails a check of R602 is answered with the check's reply and changes no meter. -/
theorem exec_of_check {c : Instr} {s : State} {r : Req} {x : Session} {a : Ask} {p : Reply} (hc : c.asked = some (r, a))
    (hh : Heard s r a x) (hroom : s.hasRoom x.transport) (hp : (s.taken r a).checkAsk x a = some p) :
    ∃ t, exec c s = .next t ∧ Replies s t x a r.tag p ∧ t.meters = s.meters := by
  obtain ⟨⟨act, hexec⟩, -⟩ := exec_of_asked hc s
  refine ⟨_, hexec, ?_⟩
  rw [udxRequest_of_heard hh act]
  obtain ⟨-, -, hadm, -⟩ := hh
  have hreply := replies_serveAsk_of_check hp (taken_session? hadm) (hroom.congr (taken_channels hadm)) r.tag act
  exact ⟨hreply.of_sealsAs ⟨rfl, rfl, rfl, rfl⟩ (out_of_facet (taken_facet .out s r a (by simp)))
      (keys_of_facet (taken_facet .keys s r a (by simp))),
    (serveAsk_of_check_meters hp r.tag act).trans (taken_meters s r a)⟩

theorem taken_meter? (s : State) (r : Req) (a : Ask) (m : Nat) : (s.taken r a).meter? m = s.meter? m :=
  meter?_congr (taken_meters s r a) m

end Sys2Proof.Machine
end

section
/-! SUPPORT. What the checks of R602 make of a request's meter number (R580), and the statements of the dictionary protocol. -/

namespace Sys2Proof.Machine

/-- The operations that read: READ, READ_SEGMENT and READ_WHOLE (R595). -/
def Ask.reads (a : Ask) : Bool := a.op == 1 || a.op == 3 || a.op == 5

/-- A check that passes leaves the answer to the checks after it. -/
theorem ite_some_eq_none {α : Type} {c : Prop} [Decidable c] {p : α} {o : Option α} :
    (if c then some p else o) = none ↔ ¬ c ∧ o = none := by
  by_cases hc : c <;> simp [hc]

/-! The checks of R602 but those of the meter number do not look at it, outside the tile that a meter's home names. -/

theorem needRole_meter (a : Ask) (m : Nat) (reading : Bool) :
    needRole { a with meter := m } reading = needRole a reading := rfl
theorem shedRow_meter (a : Ask) (m : Nat) : shedRow { a with meter := m } = shedRow a := rfl
theorem shedClass_meter (role : Nat) (a : Ask) (m : Nat) (row : Option ObjRow) :
    shedClass role { a with meter := m } row = shedClass role a row := rfl
theorem checkValue_meter (s : State) (x : Session) (a : Ask) (m : Nat) (row : ObjRow) :
    s.checkValue x { a with meter := m } row = s.checkValue x a row := rfl

theorem tileAbsent_of_no_meter {s : State} {a : Ask} (hscope : meterScoped a.index = true) (h : s.meter? a.meter = none) :
    s.tileAbsent a = false := by
  simp [State.tileAbsent, State.tileNeeded, hscope, h]

theorem meterBars_of_no_meter {s : State} {m : Nat} (h : s.meter? m = none) (index sub : Nat) (reading : Bool) (data : Octets) :
    s.meterBars m index sub reading data = (decide (index ≠ 0xC000) || reading) := by
  simp [State.meterBars, h]

/-- Of a request with the number of no meter, whose other fields pass the checks of R602, the checks look at the number alone:
0 is REFUSED, any other NO_METER, unless 0xC000 is written (R580). -/
theorem checkAsk_of_no_meter {s : State} {x : Session} {a : Ask} {m : Nat} (hop : a.op ≠ 6)
    (hscope : meterScoped a.index = true) (hnone : s.meter? a.meter = none) (hm : m ≠ 0)
    (hpass : s.checkAsk x { a with meter := m } = none) :
    s.checkAsk x a = if a.meter = 0 then some (replyOf Status.refused)
      else if a.index ≠ 0xC000 ∨ a.reads = true then some (replyOf Status.noMeter) else none := by
  unfold State.checkAsk at hpass ⊢
  simp only [needRole_meter, shedRow_meter, shedClass_meter, checkValue_meter, tileAbsent_of_no_meter hscope hnone,
    meterBars_of_no_meter hnone, hscope, hm, hop, if_false, ite_some_eq_none] at hpass ⊢
  obtain ⟨hform, hobj, hrow, hrole, haccess, hbusy, hhalt, hpilot, hrestore, -, -, -, hvalue⟩ := hpass
  simp only [Bool.not_true, Bool.and_false, Bool.false_or] at hform ⊢
  rw [if_neg hform, if_neg hobj, if_neg hrow, if_neg hrole, if_neg haccess, if_neg hbusy, if_neg hhalt, if_neg hpilot,
    if_neg hrestore, hvalue]
  simp [Ask.reads]

/-- A meter number at an object of the unit is MALFORMED, before any other check (R580, R602). -/
theorem checkAsk_of_unit_object (s : State) (x : Session) {a : Ask} (hop : a.op ≠ 6) (hscope : meterScoped a.index = false)
    (hmeter : a.meter ≠ 0) : s.checkAsk x a = some (replyOf Status.malformed) := by
  simp [State.checkAsk, hop, hscope, hmeter]

/-- Settles O9, by what the checks of R602 make of the number of a request that passes them otherwise. -/
theorem meterNumberField : Obligations.MeterNumberField := by
  unfold Obligations.MeterNumberField
  refine ⟨?zero, ?notEnrolled, ?enrolment, ?unitObject⟩
  case zero =>
    intro c s r x a m hc hh hroom hscope hzero hnone hm hpass
    obtain ⟨-, -, hop⟩ := exec_of_asked hc s
    have hcheck := checkAsk_of_no_meter (by omega) hscope ((taken_meter? s r a _).trans (hzero ▸ hnone)) hm hpass
    exact exec_of_check hc hh hroom (hcheck.trans (if_pos hzero))
  case notEnrolled =>
    intro c s r x a m hc hh hroom hscope hmeter hnone hindex hm hpass
    obtain ⟨-, hop⟩ := exec_of_asked hc s
    have hcheck := checkAsk_of_no_meter (by omega) hscope ((taken_meter? s r a _).trans hnone) hm hpass
    have hbarred : a.index ≠ 0xC000 ∨ a.reads = true := by
      simp only [Ask.reads, Bool.or_eq_true, beq_iff_eq]
      omega
    exact exec_of_check hc hh hroom (hcheck.trans ((if_neg hmeter).trans (if_pos hbarred)))
  case enrolment =>
    intro c s r x a m hc hh hindex hwrite hmeter hnone hm hpass
    have hcheck := checkAsk_of_no_meter (by omega) (by rw [hindex]; decide) ((taken_meter? s r a _).trans hnone) hm hpass
    have hallowed : ¬ (a.index ≠ 0xC000 ∨ a.reads = true) := by
      simp only [Ask.reads, Bool.or_eq_true, beq_iff_eq]
      omega
    obtain ⟨hopen, hlong, hadm, hrep⟩ := hh
    exact ⟨hopen, hlong, hadm, hrep, hcheck.trans ((if_neg hmeter).trans (if_neg hallowed))⟩
  case unitObject =>
    intro c s r x a hc hh hroom hscope hmeter _
    obtain ⟨-, -, hop⟩ := exec_of_asked hc s
    exact exec_of_check hc hh hroom (checkAsk_of_unit_object _ x (by omega) hscope hmeter)

/-- Settles O8: an open port with room takes the answer at once, and what it sends is the fields of R590. -/
theorem identityAnswer : Obligations.IdentityAnswer := by
  unfold Obligations.IdentityAnswer
  intro s p hopen hroom
  have hheard : (s.heardOn p 5).dict = s.dict := dict_of_facet (by simp)
  refine ⟨(s.heardOn p 5).sendClear p (clearUdx 2 0 0 s.identityBody), ?_, ?_, ?_, ?_⟩
  · show execIdentify p s = _
    simp [execIdentify, okIf, hopen]
  · rw [sendClear_sessions, hheard]
  · exact pair_of_facet (by simp)
  · have hsent := sends_sendClear (s.heardOn p 5) p (clearUdx 2 0 0 s.identityBody)
      (hroom.congr (congrArg DictState.channels hheard))
    have hbody : s.identityBody = be 8 Config.unitId.toNat ++ be 1 s.nTiles ++ be 1 s.boot.lifeCycle ++ be 1 s.pair.state ++
        (be 2 Config.siliconStep.length ++ Config.siliconStep) := by
      simp [State.identityBody]
    rw [← hbody]
    exact hsent.of_out_eq (out_of_facet (by simp))

end Sys2Proof.Machine
end

section
/-! SUPPORT. The identification register and the port it is shifted out at (R716, R717), and its statement. -/

namespace Sys2Proof.Machine

theorem field_eq_div_mod (v hi lo : Nat) : field v hi lo = v / 2 ^ lo % 2 ^ (hi + 1 - lo) := by
  rw [field, Nat.shiftRight_eq_div_pow]

/-- The four fields of R717, for every count of tiles that leaves the part number its 16 bits. -/
theorem idcodeOf_fields {n : Nat} (hn : n < 0x3900) :
    field (idcodeOf n) 31 28 = 1 ∧ field (idcodeOf n) 27 12 = 0xC700 + n ∧ field (idcodeOf n) 11 1 = 0x5A3 ∧
      field (idcodeOf n) 0 0 = 1 := by
  simp only [field_eq_div_mod, idcodeOf]
  omega

theorem sends_tdo (s : State) (b : Octets) : Sends s (s.tdo b) (.pulse 40 0) b :=
  sends_send s (.pulse 40 0) b

theorem loadIr_out (s : State) (opcode mode : Nat) : (s.loadIr opcode mode).out = s.out :=
  out_of_facet (by simp)

/-- Settles O7: the fields by what `idcodeOf` adds up, the octets by what the test access port sends. -/
theorem identificationRegister : Obligations.IdentificationRegister := by
  unfold Obligations.IdentificationRegister
  refine ⟨rfl, rfl, rfl, ?fields, ?shiftedOut⟩
  case fields =>
    intro n hn
    exact idcodeOf_fields (by omega)
  case shiftedOut =>
    intro s
    have hexec : exec .idcode s = .next ((s.loadIr 1 0).tdo (be 4 (idcodeOf s.nTiles))) := rfl
    exact ⟨_, hexec, (sends_tdo (s.loadIr 1 0) _).of_out_eq (loadIr_out s 1 0)⟩

end Sys2Proof.Machine
end
